-- ==== Sys2Proof/Word.lean ====
section
/-! DEFINITION. The word types of the module and nothing else: bytes, 32-bit and 64-bit words. -/

namespace Sys2Proof

/-- One byte of memory (R8: multi-byte values are little-endian). -/
abbrev Byte := BitVec 8

/-- A 32-bit word. -/
abbrev Word32 := BitVec 32

/-- A 64-bit register or parameter word (R115, R92). -/
abbrev Word := BitVec 64

end Sys2Proof
end

