-- ==== Sys2Proof/Config.lean ====
section
/-! DEFINITION. What a particular module fixes (its part number and fused values) and the free values: constants with
no body that stand for every value the spec leaves open. -/

namespace Sys2Proof

/-- The three parts of R1, R2. -/
inductive PartKind where
  | f | c | s
  deriving DecidableEq, Repr, Inhabited

/-- What is fixed at manufacture: the part number (R2, R35, R118), the serial number (R118), and the fused ceiling and
sensitivity of the voltage table (R671, R686). Log entry 1 says which values State.reset names. -/
structure Part where
  kind    : PartKind
  serial  : Nat
  vfCodes : Nat
  vmax    : Nat
  sens    : Nat
  deriving DecidableEq, Repr, Inhabited

namespace Part

/-- Capacity-tier data per tower in GiB, Ct of R35. -/
def ct (p : Part) : Nat := match p.kind with | .f => 512 | .c => 256 | .s => 0
/-- Data per capacity bus in GiB (R35). -/
def busGib (p : Part) : Nat := match p.kind with | .f => 256 | .c => 128 | .s => 0
/-- Ports with lanes on each base die (R35). -/
def portsPerDie (p : Part) : Nat := match p.kind with | .f => 4 | .c => 4 | .s => 2
/-- Whether local port p of a base die has lanes: IM-RQ4-S keeps the upper two of each four (R2, R35 mask 0xCCCC). -/
def portPresent (p : Part) (port : Nat) : Bool := match p.kind with | .s => 2 ≤ port % 4 | _ => true
/-- Whether the capacity tier is present (R4). -/
def hasCapacity (p : Part) : Bool := match p.kind with | .s => false | _ => true
/-- CAP_DEV at reset (R34, R35). -/
def capDev (p : Part) : Nat :=
  0x04 + 0x40 * 2^8 + 0x04 * 2^16
    + (match p.kind with | .s => 0x40 | _ => 0x48) * 2^24
    + 0x300 * 2^32
    + (match p.kind with | .f => 0x800 | .c => 0x400 | .s => 0) * 2^44
    + (match p.kind with | .s => 8 | _ => 16) * 2^56
/-- The ASCII letter that ends the part number (R118). -/
def letter (p : Part) : Nat := match p.kind with | .f => 0x46 | .c => 0x43 | .s => 0x53
/-- Word w of CTL_ID (R118): "IM-RQ4-F" in ASCII, lowest byte first, padded with zero bytes. -/
def idWord (p : Part) (w : Nat) : Nat :=
  if w = 0 then 0x49 + 0x4D * 2^8 + 0x2D * 2^16 + 0x52 * 2^24 + 0x51 * 2^32 + 0x34 * 2^40 + 0x2D * 2^48 + p.letter * 2^56
  else 0

end Part

namespace Config

/-- FREE VALUE. One fresh value for each number: the step applies it to a counter it advances (State.freeCtr). Log entry 2. -/
opaque freeValue : Nat → Word

/-- FREE VALUE. The byte an undefined DRAM byte reads as, by the moment it became undefined and its address (R32, R701). -/
opaque freeByte : Nat → Nat → Byte

/-- FREE VALUE. Which monitors are ring oscillators (R669 states no numbers). Log entry 2. -/
opaque ringOsc : Nat → Bool

/-- FREE VALUE. What an ORDERED collective's floating sum becomes when its rounded value lies beyond the format (R586 states no
result): by the format's code, RND, and the two encodings. Log entry 20. -/
opaque collSum : Nat → Nat → Nat → Nat → Word

/-- FREE VALUE. The digest of the root-of-trust ROM, fused at manufacture (R136); the spec states no value. Log entry 2. -/
opaque romDigest : BitVec 384

/-- FREE VALUE. Iamet's public keys, as points of the curve, by number: 0 for images (R134), 1 for debug tokens (R703). The spec
states that their hashes are fused, and no value. Log entry 173. -/
opaque iametKey : Nat → Nat × Nat

/-- FREE VALUE. The MCTP endpoint UUID and the versions of Get MCTP Version Support, as words (R689 states none). Log entry 2. -/
opaque mctpIdentity : Nat → Nat

/-- The certificate chain of SPDM slot 0 (R695), uninterpreted: the spec states no bytes of it. -/
opaque certChain : List Byte

/-- A signature by the identity key over a transcript (R688, R695), uninterpreted. -/
opaque identitySign : List Byte → List Byte

end Config

end Sys2Proof
end

