-- ==== Sys2Proof/Syntax.lean ====
section
/-! DEFINITION. The commands and events of the module: one constructor per row of spec/opcode_table.json, with the operand
types they carry. -/

namespace Sys2Proof

/-- The two supply inputs (R39). -/
inductive SupplyInput where
  | main | backup
  deriving DecidableEq, Repr, Inhabited

/-- A command packet without its opcode, which its row's constructor names (R94): FLAGS, SEQ, LENGTH, TXN_ID and the
64-bit parameter words that follow the header. -/
structure Packet where
  flags  : Nat
  seq    : Nat
  length : Nat
  txn    : Nat
  params : List Word
  deriving DecidableEq, Repr, Inhabited

/-- A transport packet (R560): destination, source, tag, type, whether it is ordered and first of its stream, LIFE, HOPS, SEQ,
the operands OPA and OPB, and the payload. -/
structure FabPkt where
  dst     : Nat
  src     : Nat
  tag     : Nat
  typ     : Nat
  ord     : Bool
  first   : Bool
  life    : Nat
  hops    : Nat
  seq     : Nat
  opa     : Nat
  opb     : Nat
  payload : List Byte
  deriving DecidableEq, Repr, Inhabited

/-- Activity of one event kind (R636) in one island over a power window: the context it belongs to, if any; the kind; the
count; the island's voltage and its nominal voltage, in millivolts. -/
structure Activity where
  ctx   : Option Nat
  kind  : Nat
  count : Nat
  mv    : Nat
  nomMv : Nat
  deriving DecidableEq, Repr, Inhabited

/-- What the sensors give at a step of 100 µs (R634, R642, R646): the main draw and the modelled power F of the idle passes
running, in milliwatts, and the main current in milliamperes, as averages over the step; the modelled draw at one level more; the
engines, as 17 * tower + number, that are to run idle passes from here, their modelled power, and the ARRAY cycles of idle passes by
engine; PWR_SENSE_IN, the bus voltage in millivolts, PWR_TEMP and the inlet, outlet, host and stack temperatures of PWR_TEMP_AUX. -/
structure PowerSample where
  mainMw  : Nat
  fillMw  : Nat
  mainMa  : Nat
  upMw    : Nat
  fill    : List Nat
  newFill : Nat
  idle    : List (Nat × Nat)
  senseIn : Word
  busMv   : Nat
  temp    : Word
  tempAux : Nat
  deriving DecidableEq, Repr, Inhabited

/-- One image of a boot slot (R134): its type field, header fields, whether header and signature check, and its body. -/
structure BootImage where
  magic    : Nat
  typ      : Nat
  hdrLen   : Nat
  svn      : Nat
  version  : Nat
  loadAddr : Nat
  entry    : Nat
  bodyLen  : Nat
  digest   : List Byte
  sig      : List Byte
  reservedZero : Bool
  body     : List Byte
  deriving DecidableEq, Repr, Inhabited

/-- The commands and events of spec/opcode_table.json, one constructor a row, with the row's operands. -/
inductive Instr where
  /-- SOFT_START_RAMP (R42). An input's blade voltage at or above 38.0 V with the internal voltage below it begins a self-timed soft-start ramp at 2.5 V/ms. -/
  | softStartRamp (inp : SupplyInput) (mv : Nat)
  /-- SOFT_START_COMPLETE (R42). The internal voltage reaches the blade voltage, and the input may carry load current. -/
  | softStartComplete (inp : SupplyInput)
  /-- MGMT_START (R131). The internal bus passes 36.0 V and the auxiliary converter brings up the MGMT island on the fallback oscillator. -/
  | mgmtStart
  /-- INPUT_GOOD (R40). An input's 100 ms window at or above 41.0 V completes and the input becomes good. -/
  | inputGood (inp : SupplyInput)
  /-- INPUT_LOST (R40). An input stays below 38.0 V for 2 us or rises above 60.5 V and is lost. -/
  | inputLost (inp : SupplyInput) (mv : Nat)
  /-- UVLO_STOP (R41). The internal bus falls below 36.0 V and every island stops, losing all state. -/
  | uvloStop
  /-- MODULE_REMOVAL (R43). On removal the ideal-diode stages isolate the blades, and the bleeder discharges the capacitance when no input is good. -/
  | moduleRemoval
  /-- RAIL_GROUP_GOOD (R132). A rail group reports power-good, and the next group starts, or the module reset begins after step 5. -/
  | railGroupGood
  /-- RAIL_FAIL (R132). A rail group misses its bound, the rails are lowered and the module enters FAILED with cause RAIL. -/
  | railFail
  /-- RESET_PIN (R52). A low level of RESET_L lasting 2,000 MGMT cycles is recognised and begins or extends a module reset. -/
  | resetPin
  /-- MODULE_RESET_END (R77). The module reset ends once its minimum, the pin release, REF and temperature conditions all hold, and CC starts from the ROM. -/
  | moduleResetEnd (pinUs : Nat) (brakeLow : Bool) (geo : Nat) (dieC : Nat) (stackC : Nat) (bonds : List (Nat × Nat)) (links : List (Nat × Nat × Nat))
  /-- MEMORY_TRAINING_DONE (R138). Training ends on every stack and bus, failures are judged, and erasures are marked or FAILED with cause MEMORY is entered. -/
  | memoryTrainingDone (badStacks : List Nat) (badPackages : List Nat) (repaired : List Nat)
  /-- MEMORY_INIT_DONE (R137). Initialisation of both tiers ends, channel 0 is enabled, HOSTBOOT is copied, HC00 is released and HOST_CONFIG is entered. -/
  | memoryInitDone (badUnits : List Nat)
  /-- BRAKE_RECOGNISED (R54). A BRAKE_L low lasting 400 MGMT cycles enters the braked state and starts the stuck timer. -/
  | brakeRecognised
  /-- BRAKED_ASSERT (R54). The draw reaches 450 W or less under the brake and BRAKED_L asserts. -/
  | brakedAssert
  /-- BRAKE_RELEASE (R54). BRAKE_L has been high for 200,000 MGMT cycles, the brake releases and the governor ramps up. -/
  | brakeRelease
  /-- BRAKE_STUCK (R55). The stuck timer reaches 60 s, BRAKE_STUCK is set and a management alert is raised. -/
  | brakeStuck
  /-- BRAKE_STUCK_CLEAR (R55). A write of 1 to BRAKE_STUCK while it is set and the brake holds clears it and restarts the stuck timer. -/
  | brakeStuckClear
  /-- REF_LOSS (R50). REF is absent or outside 200 ppm for 200 MGMT cycles, the generators enter holdover and a REF_LOST device error is raised. -/
  | refLoss
  /-- THERMAL_TRIP (R58). A die reaches 125 C or a stack 115 C, power is removed from every island except MGMT and the module holds in POWER_HOLD. -/
  | thermalTrip (stack : Bool) (index : Nat) (tempC : Nat)
  /-- GENERATOR_LOCK (R66). An island generator locks to REF and its island leaves reset. -/
  | generatorLock (isl : Nat)
  /-- DROOP_DETECT (R70). An island's supply falls more than DROOP_MV below its set point and its generator begins stretching periods. -/
  | droopDetect (isl : Nat) (cycles : Nat)
  /-- DROOP_RECOVER (R70). The supply returns within DROOP_MV and the generator shortens the period back to nominal. -/
  | droopRecover (isl : Nat)
  /-- FREQ_GLIDE_COMPLETE (R67). A frequency glide reaches its new period and GLIDING clears. -/
  | freqGlideComplete (isl : Nat)
  /-- CMD_TAIL_DOORBELL (R90). A store to CTL_CH_CMD_PTR.TAIL from the permitted source advances the command ring's tail. -/
  | cmdTailDoorbell (ch : Nat) (src : Nat) (v : Nat)
  /-- RPL_HEAD_DOORBELL (R90). A store to CTL_CH_RPL_PTR.HEAD from the permitted source frees reply-ring slots. -/
  | rplHeadDoorbell (ch : Nat) (src : Nat) (v : Nat)
  /-- DIRECT_STORE_DROP (R90). Any other store to control space changes nothing and increments CTL_DIRECT_STORE_CNT. -/
  | directStoreDrop (addr : Nat) (src : Nat)
  /-- PACKET_DEQUEUE (R95). CC dequeues a complete command packet from a channel and checks its length, opcode, permission and sequence. -/
  | packetDequeue (ch : Nat)
  /-- RING_FAULT (R123). A ring access meets reserved or unpopulated space, and the channel rolls back, disables itself and records CTL_RING. -/
  | ringFault (ch : Nat)
  /-- TXN_TIMEOUT (R108). An open transaction sees no packet for 10 s, rolls back and sets TXN_TIMED_OUT. -/
  | txnTimeout (ch : Nat)
  /-- NOP (R98). No action. Replies OK. -/
  | nop (ch : Nat) (p : Packet)
  /-- BEGIN (R101). Opens a transaction on the channel and returns its TXN_ID and the begin stamp. -/
  | beginCmd (ch : Nat) (p : Packet)
  /-- COMMIT (R105). Checks the watch set, units, ranges, state and wear, then applies the shadow set atomically or rolls it back. -/
  | commitCmd (ch : Nat) (p : Packet)
  /-- COMMIT_DURABLE (R106). The record of a COMMIT's persistent entries becomes durable and the COMMIT replies. -/
  | commitDurable (ch : Nat) (ok : Bool)
  /-- ROLLBACK (R107). Discards the shadow set and closes the transaction. -/
  | rollback (ch : Nat) (p : Packet)
  /-- REG_READ (R100). Reads 1-64 consecutive registers with their change stamps. -/
  | regRead (ch : Nat) (p : Packet)
  /-- REG_WRITE (R100). Applies or stages 1-170 masked register triples in order, stopping at the first that fails. -/
  | regWrite (ch : Nat) (p : Packet)
  /-- RWP_WRITE_DURABLE (R112). An RWP write outside a transaction is written through, counts one wear and raises the commit stamp. -/
  | rwpWriteDurable (ch : Nat) (ok : Bool)
  /-- CHANNEL_RESET (R111). Stops another channel, rolls back its transaction, empties its rings and clears its illegal-sequence record. -/
  | channelReset (ch : Nat) (p : Packet)
  /-- PERS_INFO (R114). Returns the index, wear, stamp and value of a persistent register. -/
  | persInfo (ch : Nat) (p : Packet)
  /-- IDENTIFY (R716). Returns CTL_ID, CTL_SERIAL and CAP_DEV. -/
  | identify (ch : Nat) (p : Packet)
  /-- READY_STATUS (R130). Returns the boot status, MIN_SVN, running SVN and time since reset. -/
  | readyStatus (ch : Nat) (p : Packet)
  /-- READY_ADVANCE (R130). Ends HOST_CONFIG and enters READY when the expected state matches. -/
  | readyAdvance (ch : Nat) (p : Packet)
  /-- RESET_MODULE (R76). Command that begins a module reset with cause COMMAND. -/
  | resetModule (ch : Nat) (p : Packet)
  /-- RESET_TOWER (R79). Begins a tower reset: stops work, drains slots and writes back unpinned lines. -/
  | resetTower (ch : Nat) (p : Packet)
  /-- TOWER_WRITEBACK_DONE (R79). The tower's write-back completes, unpinned ways and L1s invalidate, and the tower's units become available. -/
  | towerWritebackDone (k : Nat)
  /-- TOWER_WRITEBACK_TIMEOUT (R79). The write-back bound passes, and the remaining dirty sectors are written poisoned and recorded. -/
  | towerWritebackTimeout (k : Nat) (lost : List Nat)
  /-- RESET_CONTEXT (R80). Begins a context reset: stops its queues, groups, beams, moves and lantern requests. -/
  | resetContext (ch : Nat) (p : Packet)
  /-- CONTEXT_RESET_DONE (R80). The context's in-flight writes have reached their homes, and the reply carries its final energy report. -/
  | contextResetDone (ctx : Nat) (pages : List Nat)
  /-- RESET_UNIT (R81). Resets one idle or fenced physical unit's internal state. -/
  | resetUnit (ch : Nat) (p : Packet)
  /-- UNIT_RESET_DONE (R81). A unit reset finishes after its fixed duration and the unit becomes available. -/
  | unitResetDone (idx : Nat)
  /-- CTX_OPEN (R473). Opens a context with its mirror-table root. -/
  | ctxOpen (ch : Nat) (p : Packet)
  /-- CTX_CLOSE (R474). Closes an idle context and drops its caches, advice and beam banks. -/
  | ctxClose (ch : Nat) (p : Packet)
  /-- QUEUE_CREATE (R518). Creates a work queue on its ring and doorbell and sets it RUNNING. -/
  | queueCreate (ch : Nat) (p : Packet)
  /-- QUEUE_DESTROY (R524). Frees a STOPPED queue with no started entries. -/
  | queueDestroy (ch : Nat) (p : Packet)
  /-- QUEUE_STOP (R524). Starts no further entry of the queue and waits for its started entries. -/
  | queueStop (ch : Nat) (p : Packet)
  /-- QUEUE_STOP_COMPLETE (R524). Every started entry has completed and signalled, and the queue reads STOPPED. -/
  | queueStopComplete (q : Nat)
  /-- QUEUE_START (R524). Restarts a STOPPED queue at the failed entry, or after its batch with SKIP. -/
  | queueStart (ch : Nat) (p : Packet)
  /-- QUEUE_STATUS (R524). Returns the queue's configuration, status, stop record and failed TAG. -/
  | queueStatus (ch : Nat) (p : Packet)
  /-- XLT_INVALIDATE (R484). Issues an ordered invalidation epoch over a range or a whole context. -/
  | xltInvalidate (ch : Nat) (p : Packet)
  /-- XLT_EPOCH_COMPLETE (R485). Every affected cache entry, walk and access has ended, and DONE advances to the epoch. -/
  | xltEpochComplete (ctx : Nat)
  /-- XLT_EPOCH_STATUS (R486). Reports whether an invalidation epoch has completed. -/
  | xltEpochStatus (ch : Nat) (p : Packet)
  /-- MEM_PREFETCH_MIGRATE (R489). Moves a range to a new physical destination, holding writes and rewriting the leaves' PPNs. -/
  | memPrefetchMigrate (ch : Nat) (p : Packet)
  /-- MIGRATE_COPY_DONE (R489). The migration copy and leaf rewrites finish, the invalidation completes, and the held writes are released. -/
  | migrateCopyDone (i : Nat)
  /-- MEM_PREFETCH_PUSH (R491). Copies a range from this context to a remote device. -/
  | memPrefetchPush (ch : Nat) (p : Packet)
  /-- MEM_PREFETCH_PULL (R491). Copies a range from a remote device into this context. -/
  | memPrefetchPull (ch : Nat) (p : Packet)
  /-- MEM_ADVISE_CLEAR (R493). Removes every advice kind from a range. -/
  | memAdviseClear (ch : Nat) (p : Packet)
  /-- MEM_ADVISE_PREFER_TIER (R493). Records a preferred window for a range, and migrates it when DEST_PA is nonzero. -/
  | memAdvisePreferTier (ch : Nat) (p : Packet)
  /-- MEM_ADVISE_READ_MOSTLY (R493). Places the range's runs in the tower caches' kept entries. -/
  | memAdviseReadMostly (ch : Nat) (p : Packet)
  /-- MEM_ADVISE_ACCESSED_BY (R493). Walks the range at once and installs its runs in the named towers' cluster caches. -/
  | memAdviseAccessedBy (ch : Nat) (p : Packet)
  /-- MEM_ADVISE_EVICT_FIRST (R493). Makes L2 lines filled through the range least recently used. -/
  | memAdviseEvictFirst (ch : Nat) (p : Packet)
  /-- L2_PREFETCH_RANGE (R379). Allocates and fetches a range's lines into their home slices. -/
  | l2PrefetchRange (ch : Nat) (p : Packet)
  /-- L2_FLUSH_RANGE (R379). Drains slots and writes back a range's dirty sectors, optionally invalidating. -/
  | l2FlushRange (ch : Nat) (p : Packet)
  /-- L2_INVAL_RANGE (R379). Invalidates a range's lines, with or without write-back. -/
  | l2InvalRange (ch : Nat) (p : Packet)
  /-- L2_RANGE_COMPLETE (R380). Every slice has acted on every line of the range, and the range command replies. -/
  | l2RangeComplete (idx : Nat)
  /-- L2_PIN (R384). Raises the named slices to WAYS pinned ways, writing back and clearing the new ways. -/
  | l2Pin (ch : Nat) (p : Packet)
  /-- L2_PIN_COMPLETE (R384). The new pinned ways finish clearing and the pinned windows grow. -/
  | l2PinComplete (k : Nat)
  /-- L2_UNPIN (R385). Lowers the named slices' pinned ways and returns them to caching. -/
  | l2Unpin (ch : Nat) (p : Packet)
  /-- MEM_ERASURE_MARK (R417). Marks a stack pin or an LP5X package as an erasure. -/
  | memErasureMark (ch : Nat) (p : Packet)
  /-- MEM_ERASURE_CLEAR (R417). Clears an erasure mark. -/
  | memErasureClear (ch : Nat) (p : Packet)
  /-- MARK_DURABLE (R415). A change to a mark record becomes durable and takes effect for later decodes. -/
  | markDurable (idx : Nat) (ok : Bool)
  /-- MEM_SCRUB_RANGE (R429). Scrubs every sector of a range at class 2. -/
  | memScrubRange (ch : Nat) (p : Packet)
  /-- MEM_SCRUB_RANGE_COMPLETE (R429). Every sector of the range has been scrubbed, and the command replies with its counts. -/
  | memScrubRangeComplete (idx : Nat) (errs : List (Nat × List (Nat × Nat)))
  /-- BEAM_LOAD (R256). Loads and checks a beam image into a sequencer bank. -/
  | beamLoad (ch : Nat) (p : Packet)
  /-- BEAM_START (R257). Starts a loaded beam, or resumes a paused one. -/
  | beamStart (ch : Nat) (p : Packet)
  /-- BEAM_STOP_PAUSE (R259). Pauses a beam at the next word boundary. -/
  | beamStopPause (ch : Nat) (p : Packet)
  /-- BEAM_STOP_ABORT (R259). Stops a beam issuing and aborts it once its issued work completes. -/
  | beamStopAbort (ch : Nat) (p : Packet)
  /-- BEAM_ABORT_COMPLETE (R259). The aborted beam's issued work and held signals are done, and it becomes IDLE with CAUSE ABORT. -/
  | beamAbortComplete (k : Nat) (cycles : Nat)
  /-- BEAM_STEP (R260). Issues COUNT words of a paused beam, then pauses it again. -/
  | beamStep (ch : Nat) (p : Packet)
  /-- SCALE_READ (R213). Returns up to 64 scale records of one die. -/
  | scaleRead (ch : Nat) (p : Packet)
  /-- SCALE_WRITE_WRITE (R214). Writes masked fields of a scale record. -/
  | scaleWriteWrite (ch : Nat) (p : Packet)
  /-- SCALE_WRITE_ADVANCE (R214). Advances a scale record under R211. -/
  | scaleWriteAdvance (ch : Nat) (p : Packet)
  /-- SCALE_WRITE_CLEAR (R214). Sets a scale record to its reset value. -/
  | scaleWriteClear (ch : Nat) (p : Packet)
  /-- TC_GROUP_HALT (R329). Halts a thread group at its next instruction boundary. -/
  | tcGroupHalt (ch : Nat) (p : Packet)
  /-- TC_GROUP_RESUME (R330). Resumes a halted group, or a faulted one with FORCE. -/
  | tcGroupResume (ch : Nat) (p : Packet)
  /-- TC_GROUP_STEP (R331). Issues one instruction of the subgroup holding a lane. -/
  | tcGroupStep (ch : Nat) (p : Packet)
  /-- TC_GROUP_READ (R332). Reads registers of one thread of a halted group. -/
  | tcGroupRead (ch : Nat) (p : Packet)
  /-- TC_GROUP_WRITE (R332). Writes registers of one thread of a halted group. -/
  | tcGroupWrite (ch : Nat) (p : Packet)
  /-- LNT_PROGRAM_LOAD (R460). Loads a scan program into a user slot of a lantern unit. -/
  | lntProgramLoad (ch : Nat) (p : Packet)
  /-- LNT_CANCEL (R461). Cancels a context's running and queued lantern requests on the named units. -/
  | lntCancel (ch : Nat) (p : Packet)
  /-- SYN_BIND (R516). Binds a range of synchronisation objects to a context with a type and an initial state. -/
  | synBind (ch : Nat) (p : Packet)
  /-- SYN_RELEASE (R517). Unbinds a range of objects and clears their state. -/
  | synRelease (ch : Nat) (p : Packet)
  /-- FAB_ID_SET (R569). Sets the module's global ID. -/
  | fabIdSet (ch : Nat) (p : Packet)
  /-- FAB_ROUTE_WRITE (R572). Writes routing entries owned by a tag into all four replicas. -/
  | fabRouteWrite (ch : Nat) (p : Packet)
  /-- FAB_TAG_ADD (R574). Installs a job tag as TRANSIT or MEMBER. -/
  | fabTagAdd (ch : Nat) (p : Packet)
  /-- FAB_TAG_REMOVE (R574). Removes a TRANSIT tag and walks its entries to unowned. -/
  | fabTagRemove (ch : Nat) (p : Packet)
  /-- PART_QUIESCE (R576). Starts a teardown of the member tag and moves the module to QUIESCING. -/
  | partQuiesce (ch : Nat) (p : Packet)
  /-- QUIESCE_DRAIN_DONE (R576). The teardown's drain ends, the tag is fenced and the module becomes FREE. -/
  | quiesceDrainDone
  /-- QUIESCE_DRAIN_TIMEOUT (R576). The drain exceeds DRAIN_MS, and the context is reset with FORCED set. -/
  | quiesceDrainTimeout
  /-- FLARE_PREPARE (R583). Starts flare phase one at the root module. -/
  | flarePrepare (ch : Nat) (p : Packet)
  /-- FLARE_COMMIT (R583). Sends flare phase two to the prepared members. -/
  | flareCommit (ch : Nat) (p : Packet)
  /-- FLARE_ABORT (R583). Aborts a prepared flare from the root. -/
  | flareAbort (ch : Nat) (p : Packet)
  /-- COLL_SETUP (R584). Configures or removes an in-network collective. -/
  | collSetup (ch : Nat) (p : Packet)
  /-- COLL_LAG_READ (R589). Reads and optionally clears a collective's lag counters. -/
  | collLagRead (ch : Nat) (p : Packet)
  /-- AGG_ATTACH (R592). Makes this module an aggregator of health reports for its children. -/
  | aggAttach (ch : Nat) (p : Packet)
  /-- AGG_DETACH (R592). Ends the aggregator role and detaches the children. -/
  | aggDetach (ch : Nat) (p : Packet)
  /-- ERR_RECORD_READ (R623). Returns held error records of a queue from a sequence number onward. -/
  | errRecordRead (ch : Nat) (p : Packet)
  /-- ERR_RECORD_ACK (R624). Frees held error records up to a sequence number, optionally clearing OVERFLOW. -/
  | errRecordAck (ch : Nat) (p : Packet)
  /-- ERR_INJECT_ARM (R625). Arms a unit to raise a test error of a class once. -/
  | errInjectArm (ch : Nat) (p : Packet)
  /-- ERR_INJECT_DISARM (R625). Removes every injection armed on a unit. -/
  | errInjectDisarm (ch : Nat) (p : Packet)
  /-- PWR_ENERGY_REPORT (R639). Returns a context's energy report, optionally starting a new interval. -/
  | pwrEnergyReport (ch : Nat) (p : Packet)
  /-- PWR_SUPPLY_STATUS (R666). Returns the supply-event registers and the power sensors. -/
  | pwrSupplyStatus (ch : Nat) (p : Packet)
  /-- AGE_REPLAN (R675). Re-plans the voltage-frequency tables of the named dies now. -/
  | ageReplan (ch : Nat) (p : Packet)
  /-- UNIT_FENCE (R680). Fences a unit at its next boundary. -/
  | unitFence (ch : Nat) (p : Packet)
  /-- UNIT_UNFENCE (R680). Cancels a pending fence or returns a fenced unit to service. -/
  | unitUnfence (ch : Nat) (p : Packet)
  /-- MARGIN_READ (R682). Returns the delay readings of up to 64 ageing monitors. -/
  | marginRead (ch : Nat) (p : Packet)
  /-- CTX_KEY_GENERATE (R700). Gives a context a fresh memory-encryption key. -/
  | ctxKeyGenerate (ch : Nat) (p : Packet)
  /-- CTX_KEY_CLEAR (R700). Removes a context's unused memory-encryption key. -/
  | ctxKeyClear (ch : Nat) (p : Packet)
  /-- DEBUG_UNLOCK_CTX_OPEN (R703). Opens context debug for an open context. -/
  | debugUnlockCtxOpen (ch : Nat) (p : Packet)
  /-- DEBUG_UNLOCK_CTX_CLOSE (R703). Closes context debug. -/
  | debugUnlockCtxClose (ch : Nat) (p : Packet)
  /-- DEBUG_UNLOCK_NONCE (R703). Returns a fresh nonce for a debug token. -/
  | debugUnlockNonce (ch : Nat) (p : Packet)
  /-- DEBUG_UNLOCK_TOKEN (R703). Verifies a signed token and opens device debug. -/
  | debugUnlockToken (ch : Nat) (p : Packet)
  /-- TRACE_CONFIG (R704). Configures, replaces or stops trace capture. -/
  | traceConfig (ch : Nat) (p : Packet)
  /-- TRACE_READ (R707). Returns captured trace records. -/
  | traceRead (ch : Nat) (p : Packet)
  /-- TRACE_RECORD_WRITE (R706). A source writes a trace record into the buffer, or drops it. -/
  | traceRecordWrite (source : Nat) (ctx : Nat) (w1 : Nat) (w2 : Nat) (w3 : Nat) (ok : Bool)
  /-- TRACE_COUNTER_SAMPLE (R705). Every SAMPLE_US the configured counters are sampled into trace records. -/
  | traceCounterSample (ok : Nat)
  /-- BEAM_WORD_ISSUE (R239). An eligible beam word, with its wait satisfied and no interlock, issues all its slots in one cycle. -/
  | beamWordIssue (k : Nat) (det : Nat) (ext : Nat) (badStore : Bool)
  /-- BEAM_WAIT_ANSWER (R249). A query answer returns from an object's home for a waiting word. -/
  | beamWaitAnswer (k : Nat) (cycles : Nat)
  /-- BEAM_WAIT_TIMEOUT (R249). A wait unsatisfied for 2^TIMEOUT_LOG2 cycles stops the beam with WAIT_TIMEOUT. -/
  | beamWaitTimeout (k : Nat) (cycles : Nat)
  /-- BEAM_FINISH (R258). A FINISHING beam's work and held signals are done, its lends end, DONE_OBJ is signalled and it becomes IDLE. -/
  | beamFinish (k : Nat) (cycles : Nat)
  /-- HELD_SIGNAL_MOVE (R244). A held beam signal moves to the outbound queue once the operations it covers are done. -/
  | heldSignalMove (k : Nat)
  /-- SIGNAL_SEND (R243). The outbound queue sends its head signal toward the object's home. -/
  | signalSend (k : Nat)
  /-- TILE_PASS_START (R144). A pass of a tile starts streaming activation rows through its weight block. -/
  | tilePassStart (k : Nat) (e : Nat) (busy : Nat) (waitW : Nat) (scaleBad : Bool)
  /-- PASS_END (R158). At the end of a pass the engine acts on any overflow, poison or residue mismatch. -/
  | passEnd (k : Nat) (e : Nat) (mismatch : Bool)
  /-- CHECK_POINT (R152). Every product of the tile has been added, and output overflow and split exponents are judged. -/
  | checkPoint (k : Nat) (e : Nat) (mismatch : Bool)
  /-- DRAIN_START (R152). The tile's output drain begins once the check point and the previous drain are done. -/
  | drainStart (k : Nat) (e : Nat) (badRow : Option Nat)
  /-- TILE_COMMIT (R153). The tile updates its scale record, releases its holds and signals. -/
  | tileCommit (k : Nat) (e : Nat)
  /-- HOLD_STALL_RESUME (R155). A write stalled at a hold proceeds when the hold is released. -/
  | holdStallResume (i : Nat) (cycles : Nat)
  /-- HOLD_TIMEOUT (R156). A write stalled at a hold for 2^HOLD_TIMEOUT_LOG2 cycles is abandoned with an error. -/
  | holdTimeout (i : Nat) (cycles : Nat)
  /-- VXE_PASS_STREAMED (R278). A chain's pass streams its last element in and its chain buffer frees. -/
  | vxePassStreamed (k : Nat) (x : Nat)
  /-- CHAIN_COMPLETE (R242). A chain completes, its output becomes readable and its scoreboard entry clears. -/
  | chainComplete (k : Nat) (x : Nat) (parity : Bool)
  /-- GROUP_PLACE (R305). The dispatcher places a launch's next group into a free resident slot with its initial state. -/
  | groupPlace (l : Nat) (k : Nat) (c : Nat) (g : Nat)
  /-- THREAD_LOAD (R303). A thread load through L1 or to its home. -/
  | threadLoad (k : Nat) (c : Nat) (g : Nat) (lane : Nat)
  /-- THREAD_LOAD_RETURN (R309). A load's data returns and its destination register becomes available. -/
  | threadLoadReturn (k : Nat) (c : Nat) (g : Nat) (lane : Nat) (rd : Nat)
  /-- THREAD_STORE (R394). A write-through thread store to its home. -/
  | threadStore (k : Nat) (c : Nat) (g : Nat) (lane : Nat)
  /-- THREAD_BRANCH (R310). A branch or JALR that may split an issue set into subgroups. -/
  | threadBranch (k : Nat) (c : Nat) (g : Nat) (lane : Nat)
  /-- THREAD_LR (R315). Load-reserved performed at the home in lane order. -/
  | threadLr (k : Nat) (c : Nat) (g : Nat) (lane : Nat)
  /-- THREAD_SC (R315). Store-conditional performed at the home in lane order. -/
  | threadSc (k : Nat) (c : Nat) (g : Nat) (lane : Nat)
  /-- THREAD_AMO (R315). Atomic memory operation performed at the home. -/
  | threadAmo (k : Nat) (c : Nat) (g : Nat) (lane : Nat) (retries : Nat)
  /-- THREAD_FENCE (R303). FENCE orders accesses at system scope. -/
  | threadFence (k : Nat) (c : Nat) (g : Nat) (lane : Nat)
  /-- THREAD_FENCE_I (R303). FENCE.I makes the thread's stores visible to its core's fetches. -/
  | threadFenceI (k : Nat) (c : Nat) (g : Nat) (lane : Nat)
  /-- THREAD_CSR_ACCESS (R303). Access to fflags, frm, fcsr, cycle, time or instret. -/
  | threadCsrAccess (k : Nat) (c : Nat) (g : Nat) (lane : Nat) (cycle : Nat)
  /-- THREAD_ECALL (R303). ECALL faults the thread. -/
  | threadEcall (k : Nat) (c : Nat) (g : Nat) (lane : Nat)
  /-- THREAD_EBREAK (R327). EBREAK halts the group for debug or faults it. -/
  | threadEbreak (k : Nat) (c : Nat) (g : Nat) (lane : Nat)
  /-- GCONV (R311). A subgroup waits at a convergence point and merges with its group's subgroups there. -/
  | gconv (k : Nat) (c : Nat) (g : Nat) (lane : Nat) (pack : List Nat)
  /-- GCONV_TIMEOUT (R311). A GCONV wait reaches 2^CONV_WAIT_LOG2 cycles and the subgroups at it issue. -/
  | gconvTimeout (k : Nat) (c : Nat) (g : Nat) (lane : Nat) (pack : List Nat)
  /-- GBAR (R322). A thread arrives at a group barrier and waits until its instance completes. -/
  | gbar (k : Nat) (c : Nat) (g : Nat) (lane : Nat)
  /-- BARRIER_STALL (R323). A barrier instance not completed within 2^BAR_TIMEOUT_LOG2 cycles faults the group. -/
  | barrierStall (k : Nat) (c : Nat) (g : Nat) (bar : Nat)
  /-- GSPIN (R324). Marks the thread SPINNING. -/
  | gspin (k : Nat) (c : Nat) (g : Nat) (lane : Nat)
  /-- GVOTE (R314). BALLOT, ANY or ALL over the issuing subgroup. -/
  | gvote (k : Nat) (c : Nat) (g : Nat) (lane : Nat)
  /-- GSHFL (R314). Shuffles rs1 between lanes of the subgroup. -/
  | gshfl (k : Nat) (c : Nat) (g : Nat) (lane : Nat)
  /-- GID (R314). Returns a selected identity value. -/
  | gid (k : Nat) (c : Nat) (g : Nat) (lane : Nat)
  /-- GEXIT (R306). Ends the thread. The last thread frees the slot, and the last group completes the launch. -/
  | gexit (k : Nat) (c : Nat) (g : Nat) (lane : Nat)
  /-- GFENCE (R314). Orders the thread's accesses as a scoped release and acquire. -/
  | gfence (k : Nat) (c : Nat) (g : Nat) (lane : Nat)
  /-- GLDAQ (R314). Scoped load-acquire. -/
  | gldaq (k : Nat) (c : Nat) (g : Nat) (lane : Nat)
  /-- GSTRL (R314). Scoped store-release. -/
  | gstrl (k : Nat) (c : Nat) (g : Nat) (lane : Nat)
  /-- GSIG (R314). Signals an object with ADD, SET or ARRIVE as a scoped release. -/
  | gsig (k : Nat) (c : Nat) (g : Nat) (lane : Nat)
  /-- GWAIT (R314). Waits until an object meets a condition. -/
  | gwait (k : Nat) (c : Nat) (g : Nat) (lane : Nat)
  /-- GWAIT_WAKE (R314). A waited object meets its condition, and the thread writes 0 and acquires. -/
  | gwaitWake (k : Nat) (c : Nat) (g : Nat) (lane : Nat)
  /-- GWAIT_TIMEOUT (R314). A GWAIT passes its timeout and writes 1 without acquiring. -/
  | gwaitTimeout (k : Nat) (c : Nat) (g : Nat) (lane : Nat)
  /-- MXISSUE (R320). Issues a tile through an engine's command port and returns the port status. -/
  | mxissue (k : Nat) (c : Nat) (g : Nat) (lane : Nat)
  /-- VXISSUE (R321). Sends a vector instruction to a lent engine and returns the port status. -/
  | vxissue (k : Nat) (c : Nat) (g : Nat) (lane : Nat)
  /-- FMMA (R319). Fragment multiply-accumulate of bfloat16 fragments into binary32. -/
  | fmma (k : Nat) (c : Nat) (g : Nat) (lane : Nat)
  /-- SIDE_PLANE_ACCESS (R342). A scratchpad bank serves one side-plane line access of a client in round-robin. -/
  | sidePlaneAccess (m : Nat) (idx : Nat) (singles : List Nat) (doubles : List Nat) (waits : Nat)
  /-- MOVE_DESC_START (R354). A queued mover descriptor starts and is checked. -/
  | moveDescStart (k : Nat) (m : Nat)
  /-- MOVE_DESC_COMPLETE (R355). All reads and writes of a descriptor are done, and it signals in queue order. -/
  | moveDescComplete (k : Nat) (m : Nat) (i : Nat)
  /-- MOVE_STOP (R356). A descriptor fails for good, the mover stops, and later descriptors are cancelled. -/
  | moveStop (k : Nat) (m : Nat)
  /-- MOVE_REQUEST_RETRY (R356). Recovery repeats an affected mover request. -/
  | moveRequestRetry (k : Nat) (m : Nat)
  /-- L2_READ (R369). A read arrives at its home slice and is served, merged or missed under its policy. -/
  | l2Read (k : Nat) (sl : Nat) (idx : Nat) (corr : Nat) (bad : List Nat) (tagBad : Bool)
  /-- L2_WRITE (R369). A write arrives at its home slice and merges or goes through under its policy. -/
  | l2Write (k : Nat) (sl : Nat) (idx : Nat)
  /-- L2_MISS_FILL (R374). A fill arrives and serves its merged requesters. -/
  | l2MissFill (k : Nat) (sl : Nat) (idx : Nat)
  /-- L2_REDUCE_WRITE (R387). A reduce write is applied at its home slice per its reduction-table entry. -/
  | l2ReduceWrite (k : Nat) (sl : Nat) (idx : Nat) (cycles : Nat)
  /-- RED_STALL_TIMEOUT (R390). A reduce write waits 2^RED_STALL_LOG2 cycles and is abandoned with an access fault. -/
  | redStallTimeout (k : Nat) (sl : Nat) (idx : Nat) (cycles : Nat)
  /-- HOST_RECALL_RESPONSE (R392). The host die answers a recall or invalidation and the waiting access proceeds. -/
  | hostRecallResponse (k : Nat) (sl : Nat) (idx : Nat) (off : Nat) (data : List Byte) (poison : Bool)
  /-- HOST_CACHE_READ (R392). A host read or read-for-ownership updates the slice directory. -/
  | hostCacheRead (pa : Nat) (own : Bool) (who : Nat)
  /-- HOST_WRITEBACK (R392). A host write-back of dirty bytes merges into the slice. -/
  | hostWriteback (pa : Nat) (data : List Byte) (poison : Bool) (keep : Bool)
  /-- MEM_CTL_READ (R412). A controller reads a sector, checks poison form, decodes and corrects or poisons it. -/
  | memCtlRead (pa : Nat) (err : List (Nat × Nat)) (ctx : Option Nat) (class0 : Bool) (ode : Nat)
  /-- MEM_CTL_WRITE (R408). A controller encrypts and encodes sectors and writes them, or read-modify-writes a partial sector. -/
  | memCtlWrite (pa : Nat) (rmw : Bool) (class0 : Bool)
  /-- MARK_PERIOD_END (R416). A marking period ends and the per-position counts restart. -/
  | markPeriodEnd (k : Nat) (u : Nat)
  /-- PATROL_SCRUB (R428). Patrol scrub reads the next sector and conditionally writes back a corrected one. -/
  | patrolScrub (k : Nat) (u : Nat) (err : List (Nat × Nat))
  /-- REQUEST_AGEING (R422). A class 2 or 3 request waits 2^AGE_LOG2 cycles and moves to class 1. -/
  | requestAgeing (k : Nat) (u : Nat) (n : Nat)
  /-- STACK_TEMP_READ (R424). Every 100 us a stack controller reads its temperature and sets throttling. -/
  | stackTempRead (k : Nat) (u : Nat) (tempC : Nat) (cycles : Nat)
  /-- BUS_TEMP_INDICATION (R426). A package's temperature indication throttles the bus to 50 percent or releases it. -/
  | busTempIndication (k : Nat) (u : Nat) (hot : Bool)
  /-- MEM_REFRESH (R427). A controller issues refresh under its standard. -/
  | memRefresh (k : Nat) (u : Nat)
  /-- MEM_LINK_RETRY (R609). A memory interface error repeats the access in place. -/
  | memLinkRetry (k : Nat) (u : Nat) (ch : Nat)
  /-- MEM_CHANNEL_RETRAIN (R609). A channel's repeats are exhausted and it retrains, resuming with a MEM_CHANNEL record. -/
  | memChannelRetrain (k : Nat) (u : Nat) (ch : Nat)
  /-- MEM_CHANNEL_DOWN (R609). A channel fails to retrain within its bound and goes down, poisoning its reads. -/
  | memChannelDown (k : Nat) (u : Nat) (ch : Nat)
  /-- LNT_DISPATCH (R448). The dispatcher checks a LANTERN entry and delivers it to each named unit with room. -/
  | lntDispatch (q : Nat) (n : Nat)
  /-- LNT_REQUEST_START (R448). A unit starts its next request and copies its queries. -/
  | lntRequestStart (n : Nat) (corr : Nat) (bad : List Nat)
  /-- LNT_RECORD_SCAN (R441). A unit runs the request's program once over a record behind its channels. -/
  | lntRecordScan (n : Nat)
  /-- LNT_REQUEST_COMPLETE (R448). A member writes its partial and signals. -/
  | lntRequestComplete (n : Nat)
  /-- LNT_MERGE (R459). A MERGE request combines partials and writes a merged or finished result. -/
  | lntMerge (n : Nat)
  /-- XLT_WALK (R480). A walker reads a mirror-table entry and continues, installs or faults. -/
  | xltWalk (k : Nat) (i : Nat)
  /-- SYN_OBJ_ADD (R511). An ADD arrives at an object's home and is applied or refused. -/
  | synObjAdd (idx : Nat)
  /-- SYN_OBJ_SET (R511). A SET arrives at an event's home. -/
  | synObjSet (idx : Nat)
  /-- SYN_OBJ_ARRIVE (R511). An ARRIVE arrives at a barrier's home and may advance its phase. -/
  | synObjArrive (idx : Nat)
  /-- SYN_WAIT_QUERY (R512). A wait query is answered at the object's home. -/
  | synWaitQuery (idx : Nat)
  /-- OBJ_WINDOW_LOAD (R514). A host load of an object's value word, an acquire at device scope. -/
  | objWindowLoad (obj : Nat) (off : Nat) (peer : Bool) (who : Nat)
  /-- OBJ_WINDOW_ADD (R514). A store to an object's ADD word. -/
  | objWindowAdd (obj : Nat) (v : Word) (peer : Bool)
  /-- OBJ_WINDOW_SET (R514). A store to an object's SET word. -/
  | objWindowSet (obj : Nat) (v : Word) (peer : Bool)
  /-- OBJ_WINDOW_ARRIVE (R514). A store to an object's ARRIVE word. -/
  | objWindowArrive (obj : Nat) (v : Word) (peer : Bool)
  /-- NOTIFY_ARM (R515). A store to offset 0x28 arms, replaces or disarms a notify. -/
  | notifyArm (obj : Nat) (v : Word) (peer : Bool)
  /-- QUEUE_ENTRY_TAKE (R519). The dispatcher takes the next submitted entry, or stops the queue on overrun. -/
  | queueEntryTake (q : Nat)
  /-- QUEUE_ENTRY_START (R521). An entry starts once taken, its predecessor, wait, unit and budget conditions hold. -/
  | queueEntryStart (q : Nat)
  /-- QUEUE_ENTRY_WAIT_TIMEOUT (R521). An entry's wait exceeds 2^QWAIT_TIMEOUT_LOG2 cycles and the entry fails. -/
  | queueEntryWaitTimeout (q : Nat)
  /-- QUEUE_ENTRY_COMPLETE (R522). An entry's work ends and its header signal is sent in entry order. -/
  | queueEntryComplete (q : Nat) (n : Nat)
  /-- ENTRY_HOLD_MAX (R647). An entry held for HOLD_MAX by the power budget starts regardless. -/
  | entryHoldMax (q : Nat)
  /-- BOND_FRAME_REPLAY (R536). A bond frame failing its CRC is replayed. -/
  | bondFrameReplay (k : Nat) (c : Nat) (times : Nat)
  /-- BOND_RETRAIN (R536). A bond channel retrains after 8 replays, and goes down if it cannot repair. -/
  | bondRetrain (k : Nat) (c : Nat)
  /-- UCIE_FLIT_REPLAY (R538). A UCIe flit failing its CRC is replayed. -/
  | ucieFlitReplay (l : Nat) (far : Bool) (times : Nat) (recent : Nat)
  /-- UCIE_RETRAIN (R539). A link retrains, repairs or degrades, or goes down. -/
  | ucieRetrain (l : Nat)
  /-- INTERRUPT_DELIVER (R545). The interrupt router sets a hart's pending identity bit. -/
  | interruptDeliver (idx : Nat)
  /-- SICLAIM_READ (R545). A read of SICLAIM returns and clears the lowest pending identity. -/
  | siclaimRead (hart : Nat) (who : Nat)
  /-- PCIE_INBOUND (R548). An inbound PCIe request is taken as an MSI, judged or served through an inbound window. -/
  | pcieInbound (q : Nat) (addr : Nat) (write : Bool) (len : Nat) (data : List Byte) (poison : Bool)
  /-- PCIE_OUTBOUND (R547). An access to an outbound window is sent as ECAM or memory space. -/
  | pcieOutbound (q : Nat) (off : Nat) (who : Nat) (write : Bool) (len : Nat) (data : List Byte) (done : Option (List Byte))
  /-- PCIE_AER (R546). An uncorrectable AER error is recorded in the device queue. -/
  | pcieAer (q : Nat)
  /-- PCIE_LINK_TRAIN (R555). A root port trains its link with the configured limits. -/
  | pcieLinkTrain (q : Nat) (speed : Nat) (width : Nat)
  /-- PORT_TRAIN (R557). A fabric port trains its link. -/
  | portTrain (port : Nat) (lanes : Nat) (ok : Bool)
  /-- PORT_TRAIN_RETRY (R557). A port not trained within 1 s reads DOWN and retries. -/
  | portTrainRetry (port : Nat)
  /-- PORT_DOWN (R557). A port leaves UP, discards its buffers and routes fail over. -/
  | portDown (port : Nat)
  /-- LINK_PACKET (R562). A LINK packet returns credits, link acknowledgements and the peer's ID. -/
  | linkPacket (port : Nat) (ack : Nat) (credits : List Nat) (peer : Nat)
  /-- LINK_REPLAY (R564). A receiver's request makes the sender resend from the expected LSEQ. -/
  | linkReplay (port : Nat) (lseq : Nat)
  /-- FAB_PACKET_FORWARD (R570). A received packet is routed by tag and table to an exit port, or dropped. -/
  | fabPacketForward (port : Nat) (lseq : Nat) (good : Bool) (units : Nat) (pkt : FabPkt)
  /-- ETH_FRAME_RECEIVE (R559). An Ethernet-mode port accepts or drops a received frame. -/
  | ethFrameReceive (port : Nat) (dest : Nat) (etherType : Nat) (len : Nat) (fcsOk : Bool) (units : Nat) (pkt : FabPkt)
  /-- PAUSE_FRAME (R559). An Annex 31B PAUSE frame is honoured. -/
  | pauseFrame (port : Nat) (quanta : Nat)
  /-- E2E_RESEND_TIMEOUT (R566). An unanswered message is resent after E2E_US, or fails after E2E_RETRIES. -/
  | e2eResendTimeout (ordered : Bool) (i : Nat)
  /-- STREAM_IDLE_FREE (R566). An ordered stream idle for 1 s is freed. -/
  | streamIdleFree (sender : Bool) (i : Nat)
  /-- FAB_WRITE (R567). A WRITE is translated, applied at its home and acknowledged. -/
  | fabWrite (i : Nat)
  /-- FAB_READ (R567). A READ is translated, served and answered with READ_RSP. -/
  | fabRead (i : Nat)
  /-- FAB_READ_RSP (R566). A READ_RSP completes an outstanding read. -/
  | fabReadRsp (i : Nat)
  /-- FAB_ACK (R566). An ACK completes, refuses or redirects an outstanding message. -/
  | fabAck (i : Nat)
  /-- FAB_SIGNAL (R567). A SIGNAL is applied to its object in the tag's context. -/
  | fabSignal (i : Nat)
  /-- FAB_COLL (R585). A child's contribution segment arrives at a collective. -/
  | fabColl (i : Nat)
  /-- FAB_COLL_RES (R585). A result segment arrives, is written and is forwarded to children. -/
  | fabCollRes (i : Nat)
  /-- FLARE_PREPARE_PKT (R579). A member receives PREPARE and joins, holds or refuses. -/
  | flarePreparePkt (i : Nat)
  /-- FLARE_ACK_PKT (R579). A child's ACK summary arrives at its parent. -/
  | flareAckPkt (i : Nat)
  /-- FLARE_HELD_PKT (R580). A HELD answer extends a child's deadline and is passed upward. -/
  | flareHeldPkt (i : Nat)
  /-- FLARE_COMMIT_PKT (R582). A member turns JOINING to MEMBER and forwards the commit. -/
  | flareCommitPkt (i : Nat)
  /-- FLARE_COMMIT_ACK_PKT (R582). A child's COMMIT_ACK summary arrives. -/
  | flareCommitAckPkt (i : Nat)
  /-- FLARE_ABORT_PKT (R582). A JOINING member returns to FREE and forwards the abort. -/
  | flareAbortPkt (i : Nat)
  /-- FLARE_DEADLINE (R579). A child's flare deadline passes and it is recorded unreached. -/
  | flareDeadline (id : Nat) (child : Nat)
  /-- JOIN_TIMEOUT (R582). A member JOINING for JOIN_MS without commit or abort returns to FREE. -/
  | joinTimeout
  /-- MGMT_COMMAND_PKT (R590). A management command packet is accepted into channel 62 or 63. -/
  | mgmtCommandPkt (i : Nat)
  /-- MGMT_REPLY_PKT (R590). A management reply arrives for a command sent. -/
  | mgmtReplyPkt (i : Nat)
  /-- MGMT_HEALTH_PKT (R591). An aggregator receives a child's health report. -/
  | mgmtHealthPkt (i : Nat)
  /-- MGMT_ATTACH_PKT (R592). A module starts reporting to the aggregator that sent ATTACH. -/
  | mgmtAttachPkt (i : Nat)
  /-- MGMT_DETACH_PKT (R592). A module stops reporting to its aggregator. -/
  | mgmtDetachPkt (i : Nat)
  /-- MGMT_AGG_PKT (R592). An upstream module receives an aggregator's summary. -/
  | mgmtAggPkt (i : Nat)
  /-- HEALTH_PERIOD (R591). Every PERIOD_MS an attached module sends its health report. -/
  | healthPeriod
  /-- AGG_PERIOD (R592). Every period the aggregator writes reports, marks lost children and sends upstream. -/
  | aggPeriod
  /-- COLL_STEP_START (R585). A collective's TRIG reaches the next step and the step begins. -/
  | collStepStart (n : Nat)
  /-- COLL_STEP_COMPLETE (R585). Every result segment is written, and DONE is signalled. -/
  | collStepComplete (n : Nat)
  /-- COLL_STEP_TIMEOUT (R588). A step not completed within TIMEOUT_MS fails. -/
  | collStepTimeout (n : Nat)
  /-- OP_RECOVERY_BOUND (R616). An operation recovery exceeds OP_LIMIT_US and escalates. -/
  | opRecoveryBound (idx : Nat)
  /-- CTX_RECOVERY_BOUND (R616). A context recovery exceeds CTX_LIMIT_MS and escalates to tower resets. -/
  | ctxRecoveryBound (ctx : Nat) (towers : List Nat)
  /-- DEVICE_RECOVERY_REPAIR (R617). No access is in flight on the failed link, routes are repaired and the device resumes. -/
  | deviceRecoveryRepair (ok : Bool)
  /-- DEVICE_QUIESCE_BOUND (R616). A device recovery exceeds DEV_QUIESCE_MS and resets or holds the module. -/
  | deviceQuiesceBound
  /-- CC_WATCHDOG (R607). CC serves nothing for 1 s while a packet waits, and the module resets. -/
  | ccWatchdog
  /-- POWER_WINDOW_END (R637). Every 1 ms the gain is calibrated and the window's energy is attributed. -/
  | powerWindowEnd (mainUj : Nat) (bkpUj : Nat) (acts : List Activity) (staticUj : Nat)
  /-- LEVEL_STEP (R642). Every 100 us each tower's level is set to the least of its limits. -/
  | levelStep (m : PowerSample)
  /-- THERMAL_LEVEL_STEP (R644). Every 1 ms a tower's thermal level falls or rises with die temperature. -/
  | thermalLevelStep (k : Nat) (hotC : Nat)
  /-- MAIN_LOSS_CONFIRM (R650). The main input is confirmed lost, the brake begins and entries stop starting. -/
  | mainLossConfirm (mv : Nat)
  /-- BACKUP_CONDUCT (R650). The backup stage conducts and ON_BACKUP reads 1. -/
  | backupConduct
  /-- ECLIPSE_BEGIN (R650). The draw reaches 450 W, eclipse mode begins and running work quiesces. -/
  | eclipseBegin (startMv : Nat) (minMv : Nat)
  /-- SAFE_POINTS_REACHED (R652). Every unit reaches its safe point, and caches drain toward hold. -/
  | safePointsReached
  /-- ECLIPSE_HOLD (R650). Memory is in self-refresh, dies in retention, and the module holds at 220 W or less. -/
  | eclipseHold
  /-- ECLIPSE_RETURN (R655). In hold with the main input good, the module starts its return to main power. -/
  | eclipseReturn
  /-- RETURN_COMPLETE (R655). Every unit resumes from its safe point, and the brake ends. -/
  | returnComplete
  /-- MONITOR_SAMPLE (R670). Every 100 us each ageing monitor samples its delay. -/
  | monitorSample (n : Nat) (ps : Nat)
  /-- POWERED_HOUR (R673). Powered time reaches a whole hour, and the count is saved every 24 hours. -/
  | poweredHour
  /-- REPLAN_DUE (R674). A due re-plan runs in READY, setting voltage codes, LMAX and marginal fences. -/
  | replanDue
  /-- FENCE_TAKES_EFFECT (R679). A pending fence takes effect at its unit's boundary, remapping the spare for an MXE. -/
  | fenceTakesEffect (k : Nat) (kind : Nat) (i : Nat)
  /-- CTL_ALERT_CLEAR (R692). A write of 1 clears an alert bit, which is set again if its condition holds. -/
  | ctlAlertClear (mask : Nat)
  /-- I3C_DYNAMIC_ADDRESS (R59). The I3C target accepts dynamic address assignment. -/
  | i3cDynamicAddress (addr : Nat)
  /-- MCTP_SET_ENDPOINT_ID (R689). Assigns the MCTP endpoint ID. -/
  | mctpSetEndpointId (eid : Nat)
  /-- MCTP_GET_ENDPOINT_ID (R689). Returns the endpoint ID. -/
  | mctpGetEndpointId
  /-- MCTP_GET_ENDPOINT_UUID (R689). Returns the endpoint UUID. -/
  | mctpGetEndpointUuid
  /-- MCTP_GET_VERSION_SUPPORT (R689). Returns MCTP version support. -/
  | mctpGetVersionSupport (typ : Nat)
  /-- MCTP_GET_MSG_TYPE_SUPPORT (R689). Returns the supported message types. -/
  | mctpGetMsgTypeSupport
  /-- MCTP_GET_VENDOR_MSG_SUPPORT (R689). Returns vendor-defined message support. -/
  | mctpGetVendorMsgSupport
  /-- VENDOR_MESSAGE (R691). A type 0x7F message carries a command packet to channel 60 or 61. -/
  | vendorMessage (channel : Nat) (packet : List Byte)
  /-- PLDM_GET_PDR_REPO_INFO (R693). Returns PDR repository information. -/
  | pldmGetPdrRepoInfo
  /-- PLDM_GET_PDR (R693). Returns a sensor PDR. -/
  | pldmGetPdr (n : Nat)
  /-- PLDM_GET_SENSOR_READING (R693). Returns a numeric sensor reading. -/
  | pldmGetSensorReading (n : Nat)
  /-- PLDM_GET_STATE_SENSOR_READINGS (R693). Returns state sensor readings. -/
  | pldmGetStateSensorReadings (n : Nat)
  /-- PLDM_SET_EVENT_RECEIVER (R693). Names the PLDM event receiver. -/
  | pldmSetEventReceiver (on : Bool)
  /-- PLDM_REQUEST_UPDATE (R694). Opens a firmware update. -/
  | pldmRequestUpdate
  /-- PLDM_UPDATE_COMPONENT (R694). Writes a component into the target slot. -/
  | pldmUpdateComponent (typ : Nat) (image : BootImage)
  /-- PLDM_VERIFY_COMPLETE (R694). Reports whether a written component verifies. -/
  | pldmVerifyComplete (typ : Nat)
  /-- PLDM_ACTIVATE_FIRMWARE (R694). Makes the fully updated target slot preferred. -/
  | pldmActivateFirmware
  /-- SPDM_GET_VERSION (R695). Returns the SPDM version. -/
  | spdmGetVersion
  /-- SPDM_GET_CAPABILITIES (R695). Returns the responder's capabilities. -/
  | spdmGetCapabilities
  /-- SPDM_NEGOTIATE_ALGORITHMS (R695). Negotiates P-384 and SHA-384. -/
  | spdmNegotiateAlgorithms (asym : Nat) (hash : Nat)
  /-- SPDM_GET_DIGESTS (R695). Returns certificate chain digests. -/
  | spdmGetDigests
  /-- SPDM_GET_CERTIFICATE (R695). Returns the slot 0 certificate chain. -/
  | spdmGetCertificate (slot : Nat) (off : Nat) (len : Nat)
  /-- SPDM_CHALLENGE (R695). Signs a challenge with the identity key. -/
  | spdmChallenge (slot : Nat) (nonce : List Byte)
  /-- SPDM_GET_MEASUREMENTS (R696). Returns the measurement indices, signed. -/
  | spdmGetMeasurements (index : Nat) (sign : Bool) (nonce : List Byte)
  /-- SPDM_UNSUPPORTED_REQUEST (R695). Session and encapsulated requests reply ERROR UnsupportedRequest. -/
  | spdmUnsupportedRequest (code : Nat)
  /-- TAP_RESET (R60). TRST_L low holds the TAP in Test-Logic-Reset. -/
  | tapReset
  /-- TAP_EXTEST (R708). Selects the boundary register and drives pins only in POWER_HOLD or FAILED. -/
  | tapExtest (cells : Nat) (pins : Nat)
  /-- TAP_IDCODE (R708). Selects the IDCODE register. -/
  | tapIdcode
  /-- TAP_SAMPLE_PRELOAD (R708). Samples or preloads the boundary register. -/
  | tapSamplePreload (cells : Nat) (pins : Nat)
  /-- TAP_CLAMP (R708). Selects bypass and clamps pins only in POWER_HOLD or FAILED. -/
  | tapClamp
  /-- TAP_HIGHZ (R708). Selects bypass and tri-states pins only in POWER_HOLD or FAILED. -/
  | tapHighz
  /-- TAP_DEBUG_ACCESS (R708). A 96-bit register access into control space under device debug. -/
  | tapDebugAccess (write : Bool) (addr : Nat) (value : Word)
  /-- TAP_BYPASS (R708). Any other instruction selects the bypass register. -/
  | tapBypass (op : Nat)
  /-- SOFT_START_ABORT (R42). The blade voltage falls below 36.0 V during a ramp, the soft-start stage stops and the internal voltage discharges. -/
  | softStartAbort (inp : SupplyInput) (mv : Nat)
  /-- INPUT_WINDOW_RESTART (R40). An input not yet good dips below 41.0 V, and its 100 ms good window restarts. -/
  | inputWindowRestart (inp : SupplyInput) (mv : Nat)
  /-- REF_OK_CHANGE (R50). REF passes into or out of the 100 ppm tolerance or becomes absent or present, REF_OK changes, and the 1 ms wait for leaving reset restarts or runs. -/
  | refOkChange (ok : Bool)
  /-- BRAKE_RELEASE_TIMER_RESTART (R54). BRAKE_L is sampled low while the module is braked, and the release timer restarts from 0. -/
  | brakeReleaseTimerRestart
  /-- SECURE_BOOT_COMPLETE (R135). The ROM finishes checking the image slots, accepts one and enters MEMORY_INIT, or enters FAILED with cause IMAGE. -/
  | secureBootComplete
  /-- THREAD_ALU_FP (R303). A thread executes an integer, multiply, divide, floating-point or JAL instruction, updating its registers, fflags and pc. -/
  | threadAluFp (k : Nat) (c : Nat) (g : Nat) (lane : Nat)
  /-- PACKET_LIFE_EXPIRED (R562). A packet held in a stalled buffer runs out its lifetime and is dropped and counted. -/
  | packetLifeExpired (port : Nat) (i : Nat)
  /-- PCIE_COMPLETION_TIMEOUT (R547). An outbound request that the link does not complete returns all ones on a read, drops the write and counts in UR_COUNT. -/
  | pcieCompletionTimeout (idx : Nat)
  /-- BEAM_LOAD_COMPLETE (R256). The image read and checks end, the bank becomes valid or invalid, LOADING clears and BEAM_LOAD replies. -/
  | beamLoadComplete (k : Nat)
  /-- TAG_REMOVE_WALK_DONE (R574). The walk of all four replicas for a removed tag ends, CLEARING clears, the slot frees and FAB_TAG_REMOVE or the teardown fence replies. -/
  | tagRemoveWalkDone (slot : Nat)
  /-- ROUTE_WRITE_DONE (R572). The last of the four routing-table replicas is written and FAB_ROUTE_WRITE replies. -/
  | routeWriteDone (ch : Nat)
  /-- L2_UNPIN_COMPLETE (R385). Every named slice has drained, shrunk its window and returned its ways to caching, PIN_BUSY clears and L2_UNPIN replies. -/
  | l2UnpinComplete (k : Nat)
  /-- LNT_PROGRAM_LOAD_DONE (R460). The program operations are written into the slot and LNT_PROGRAM_LOAD replies. -/
  | lntProgramLoadDone (n : Nat) (slot : Nat)
  /-- REPLAN_COMPLETE (R674). A re-plan's V-F and fence records become durable, LAST_H is set, BUSY clears and AGE_REPLAN replies. -/
  | replanComplete
  /-- FENCE_RECORD_DURABLE (R680). A fence or unfence change to the fence record becomes durable and UNIT_FENCE or UNIT_UNFENCE replies. -/
  | fenceRecordDurable (idx : Nat)
  /-- BOND_RETRAIN_DONE (R536). A retraining bond channel finishes its pad repair and resumes its waiting lines, or goes down. -/
  | bondRetrainDone (k : Nat) (c : Nat) (failing : Nat) (pads : Nat)
  /-- UCIE_RETRAIN_DONE (R539). A retraining UCIe link comes back, possibly DEGRADED, and releases waiting traffic, or is found down. -/
  | ucieRetrainDone (l : Nat) (up : Nat) (half : Nat) (spares : Nat)
  deriving DecidableEq, Repr, Inhabited

end Sys2Proof
end

