-- ==== Sys2Proof/Decode.lean ====
section
/-! DEFINITION. Decoding a table word. The rows of spec/opcode_table.json are commands and events of a block; none of them gives
bits, so no word spells a command. -/

namespace Sys2Proof

/-- The command that a word spells by the table's bits: the table gives no row any bits, so none. -/
def decodeTableWord (_nbits _w : Nat) : Option Instr := none

end Sys2Proof
end

