-- ==== Sys2Proof/Machine/Bits.lean ====
section
/-! DEFINITION. Bit fields, sign extension, byte order, saturation, and the sorted association list that holds every sparse
store of the model. -/

namespace Sys2Proof.Machine

/-- A bit field of a 64-bit register: lowest bit and width (R7). -/
structure Fld where
  lo : Nat
  w  : Nat
  deriving DecidableEq, Repr

/-- The bits [lo + w - 1 : lo] of a natural number. -/
def bitsOf (v lo w : Nat) : Nat := (v >>> lo) % 2 ^ w

/-- Read a field of a register (R7). -/
def Fld.get (f : Fld) (v : Word) : Nat := bitsOf v.toNat f.lo f.w

/-- A register with one field replaced; a value too wide for the field is cut to it. -/
def Fld.set (f : Fld) (v : Word) (x : Nat) : Word :=
  let m := (BitVec.ofNat 64 (2 ^ f.w - 1)) <<< f.lo
  (v &&& ~~~ m) ||| ((BitVec.ofNat 64 (x % 2 ^ f.w)) <<< f.lo)

/-- Bit n of a natural number. -/
def bit (v n : Nat) : Bool := v.testBit n

/-- A natural number from a Boolean, 1 for true. -/
def b2n (b : Bool) : Nat := if b then 1 else 0

/-- Two's complement value of a w-bit field (R7). -/
def sext (w v : Nat) : Int := let u := v % 2 ^ w; if u < 2 ^ (w - 1) then (u : Int) else (u : Int) - (2 ^ w : Nat)

/-- The w-bit two's complement pattern of an integer. -/
def ofInt (w : Nat) (i : Int) : Nat := (i % ((2 ^ w : Nat) : Int)).toNat

/-- Floor division rounded up. -/
def ceilDiv (a b : Nat) : Nat := (a + b - 1) / b

/-- Saturating addition below a ceiling (the counters of R179 and their like count in 48 bits and stop at 2^48 - 1). -/
def satAdd (a b ceil : Nat) : Nat := min (a + b) ceil

/-- Little-endian value of a byte list (R8). -/
def leNat : List Byte → Nat
  | [] => 0
  | b :: bs => b.toNat + 256 * leNat bs

/-- The n little-endian bytes of a value (R8). -/
def leBytes : Nat → Nat → List Byte
  | 0, _ => []
  | n + 1, v => BitVec.ofNat 8 v :: leBytes n (v / 256)

/-- Position of the highest set bit, counting from 0 (0 for 0). -/
def log2Floor (n : Nat) : Nat := Nat.log2 n

/-- The numbers lo, lo + 1, up to n of them. -/
def rangeFrom (lo n : Nat) : List Nat := (List.range n).map (lo + ·)

/-- Number of set bits below bit n. -/
def popCount (v n : Nat) : Nat := ((List.range n).filter v.testBit).length

/-- The lowest set bit below bit n, if any. -/
def lowestBit (v n : Nat) : Option Nat := (List.range n).find? v.testBit

/-- Set or clear bit n of a natural number. -/
def putBit (v n : Nat) (b : Bool) : Nat :=
  if b then (if v.testBit n then v else v + 2 ^ n) else (if v.testBit n then v - 2 ^ n else v)

/-! Sorted association lists: keys strictly rising. -/

/-- The value listed for a key. -/
def Assoc.get? {β : Type} : List (Nat × β) → Nat → Option β
  | [], _ => none
  | (k, v) :: l, a => if k = a then some v else Assoc.get? l a

/-- The list with one key set. -/
def Assoc.set {β : Type} : List (Nat × β) → Nat → β → List (Nat × β)
  | [], a, v => [(a, v)]
  | (k, w) :: l, a, v =>
    if a < k then (a, v) :: (k, w) :: l
    else if a = k then (a, v) :: l
    else (k, w) :: Assoc.set l a v

/-- The list with one key removed. -/
def Assoc.del {β : Type} (l : List (Nat × β)) (a : Nat) : List (Nat × β) := l.filter (fun e => e.1 ≠ a)

/-- The value listed for a key, or a default. -/
def Assoc.getD {β : Type} (l : List (Nat × β)) (a : Nat) (d : β) : β := (Assoc.get? l a).getD d

/-- Set a key, keeping no entry equal to its default. -/
def Assoc.put {β : Type} [DecidableEq β] (l : List (Nat × β)) (a : Nat) (v d : β) : List (Nat × β) :=
  if v = d then Assoc.del l a else Assoc.set l a v

/-- Change the value under a key (default d when the key is not listed). -/
def Assoc.modify {β : Type} (l : List (Nat × β)) (a : Nat) (d : β) (f : β → β) : List (Nat × β) :=
  Assoc.set l a (f (Assoc.getD l a d))

/-- Keys strictly rise. -/
def Assoc.sorted {β : Type} (l : List (Nat × β)) : Bool := decide (l.Pairwise (fun x y => x.1 < y.1))

/-- Keep the entries whose key satisfies a test. -/
def Assoc.keep {β : Type} (l : List (Nat × β)) (p : Nat → Bool) : List (Nat × β) := l.filter (fun e => p e.1)

end Sys2Proof.Machine
end

