-- ==== Sys2Proof/Machine/Regs.lean ====
section
/-! DEFINITION. The register map of control space (R115 and the register tables of every chapter): one address function a
register, one field constant a field, and one row a register in the table the control plane looks addresses up in. -/

namespace Sys2Proof.Machine

/-- Access codes of R11. -/
inductive Access where
  | ro | rw | rw1c | wo | rws | rwp
  deriving DecidableEq, Repr

/-- Register classes of R99. -/
inductive RegClass where
  | readOnly | immediate | staged | persistent
  deriving DecidableEq, Repr

/-- A field's place and access code (R7, R11). -/
structure RegField where
  fld : Fld
  acc : Access
  deriving DecidableEq, Repr

/-- A register of the map: its name, base address, the stride and count of each index, its class, its fields, and its
value after a module reset (R10) by part and indices. -/
structure RegRow where
  name   : String
  base   : Nat
  dims   : List (Nat × Nat)
  cls    : RegClass
  fields : List RegField
  reset  : Part → List Nat → Nat

/-- Base of control space (R29). -/
def ctlBase : Nat := 0x0E0000000000

/-! Reset values that depend on the part or the index. -/

/-- CTL_CH_CFG: TRANSPORT by channel (R87) and ENABLE 1 on channels 60 to 63 (R120). -/
def resetChCfg (n : Nat) : Nat := if n < 60 then 0 else if n < 62 then 1 + 4 else 2 + 4

/-- CTL_CH_PERMIT (R126). -/
def resetChPermit (n : Nat) : Nat := if n < 60 then 0x7FFF else if n < 62 then 0x3803 else 0x3C03

/-- Nominal frequency in whole MHz, rounded down, of a domain by its row in R65 (REF is 1). -/
def domainMhz (d : Nat) : Nat :=
  [0, 100, 200, 3200, 2000, 1000, 1800, 1800, 1500, 2000, 2000, 2200, 2500, 5000, 1333, 1250, 2000, 1600, 1660].getD d 0

/-- Number of island instances of a domain (R65, R86). -/
def domainInstances (d : Nat) : Nat :=
  [0, 1, 1, 8, 1, 2, 4, 4, 4, 4, 4, 4, 8, 8, 8, 4, 12, 4, 128].getD d 0

/-- Whether island j exists in the map and is present on the part (R65, R86). -/
def islandPresent (p : Part) (j : Nat) : Bool :=
  let d := j / 256 + 1
  let n := j % 256
  n < domainInstances d &&
    (if d = 14 then p.hasCapacity else if d = 18 then p.portPresent (n / 8) else true)

/-- CTL_CLK_ISLAND at reset: the frequency of R65, requested equal to present, 0 for an absent island (R83, R86). -/
def resetIsland (p : Part) (j : Nat) : Nat :=
  let f := if islandPresent p j then domainMhz (j / 256 + 1) else 0
  f + f * 2^16

/-- MEM_CTL_STATUS at reset (R435). -/
def resetMemCtlStatus (p : Part) (u : Nat) : Nat :=
  let en := u < 2 || p.hasCapacity
  b2n en + (if u < 2 then 0 else 2) + (if en then 0x64 * 2^24 else 0) + (if u < 2 then 0x60 else p.busGib) * 2^32

/-- MXE_STATUS at reset (R177). -/
def resetMxeStatus (e : Nat) : Nat := if e = 16 then 0 else (e % 4) * 2^4 + (e / 4) * 2^6 + 2^8

/-- CAP_LNT_UNIT (R467): local unit u of tower k. -/
def resetCapLntUnit (p : Part) (k u : Nat) : Nat :=
  (if u < 16 then 16 * k + u else 64 + 2 * k + (u - 16)) + (if u < 16 then 0 else 2^7)
    + (if u < 16 || p.hasCapacity then 0x100 * 2^8 else 0)

/-- LNT_STATUS (R468): STATE 6 when absent. -/
def resetLntStatus (p : Part) (u : Nat) : Nat := if u < 16 || p.hasCapacity then 0 else 6

/-- FAB_CFG (R596). -/
def resetFabCfg (p : Part) : Nat :=
  0xC8 + 0xFA * 2^16 + 0x64 * 2^24 + 0x8 * 2^40 + 0x7D0 * 2^44
    + (match p.kind with | .s => 0x2 * 2^56 + 0x6 * 2^60 | _ => 0x4 * 2^60)

/-- FAB_PORT_STATUS (R600): STATE 1 and FAILED 1, STATE 4 when absent. -/
def resetPortStatus (p : Part) (port : Nat) : Nat :=
  (if p.portPresent port then 1 else 4) + 2^3 + 0x3FFFFF * 2^16

/-- FAB_LINK_STATUS (R551, R550): end 2 is absent on T2 and T3. -/
def resetLinkStatus (k e : Nat) : Nat := if e = 2 && 2 ≤ k then 4 else 1

/-- PWR_CFG (R659), with the limits of a PWR_BOOT_LIMITS never written (R661). -/
def resetPwrCfg : Nat := 3800 + 2000 * 2^16 + 0x64 * 2^32 + 0x19 * 2^40

/-- The coefficients of R636 in picojoules. -/
def pwrCoefPj (k : Nat) : Nat := [16000, 4000, 20, 1200, 70, 250, 1800, 23000, 2, 1000, 2600].getD k 0

/-! Addresses. -/

namespace A

/-- CTL_ID word w (R118; offset R116). -/
def ctlId (w : Nat) : Nat := 0xe0000000000 + w * 0x8
/-- CTL_SERIAL (R118; offset R116). -/
def ctlSerial : Nat := 0xe0000000020
/-- CAP_DEV (R34; offset R116). -/
def capDev : Nat := 0xe0000000040
/-- CTL_COMMIT_STAMP (R119; offset R116). -/
def commitStamp : Nat := 0xe0000000048
/-- CTL_SHADOW_USE (R119; offset R116). -/
def shadowUse : Nat := 0xe0000000050
/-- CTL_DIRECT_STORE_CNT (R119; offset R116). -/
def directStoreCnt : Nat := 0xe0000000058
/-- CTL_SB_STATUS (R61; offset R116). -/
def sbStatus : Nat := 0xe0000000100
/-- CTL_RESET_CAUSE (R62; offset R116). -/
def resetCause : Nat := 0xe0000000108
/-- CTL_CH_CFG (R120; offset R117). -/
def chCfg (n : Nat) : Nat := 0xe0000010000 + n * 0x100
/-- CTL_CH_CMD_BASE (R121; offset R117). -/
def chCmdBase (n : Nat) : Nat := 0xe0000010008 + n * 0x100
/-- CTL_CH_CMD_PTR (R122; offset R117). -/
def chCmdPtr (n : Nat) : Nat := 0xe0000010010 + n * 0x100
/-- CTL_CH_RPL_BASE (R121; offset R117). -/
def chRplBase (n : Nat) : Nat := 0xe0000010018 + n * 0x100
/-- CTL_CH_RPL_PTR (R122; offset R117). -/
def chRplPtr (n : Nat) : Nat := 0xe0000010020 + n * 0x100
/-- CTL_CH_STATUS (R124; offset R117). -/
def chStatus (n : Nat) : Nat := 0xe0000010028 + n * 0x100
/-- CTL_CH_ILLEGAL (R125; offset R117). -/
def chIllegal (n : Nat) : Nat := 0xe0000010030 + n * 0x100
/-- CTL_CH_PERMIT (R126; offset R117). -/
def chPermit (n : Nat) : Nat := 0xe0000010038 + n * 0x100
/-- CTL_PERS_WEAR (R127; offset R115). -/
def persWear (x : Nat) : Nat := 0xe0000020000 + x * 0x8
/-- CTL_CLK_DROOP (R84; offset R115). -/
def clkDroop (d : Nat) : Nat := 0xe0000030000 + d * 0x8
/-- CTL_CLK_ISLAND (R83; offset R115). -/
def clkIsland (j : Nat) : Nat := 0xe0000040000 + j * 0x8
/-- CTL_CLK_STRETCH_CNT (R85; offset R115). -/
def clkStretchCnt (j : Nat) : Nat := 0xe0000050000 + j * 0x8
/-- CTL_BOOT_STATUS (R140; offset R139). -/
def bootStatus : Nat := 0xe0000000200
/-- CTL_BOOT_CFG (R141; offset R139). -/
def bootCfg : Nat := 0xe0000000208
/-- CTL_BOOT_SVN (R142; offset R139). -/
def bootSvn : Nat := 0xe0000000210
/-- CTL_MEASUREm word w (R139; offset R139). -/
def measure (m w : Nat) : Nat := 0xe0000000400 + m * 0x40 + w * 0x8
/-- CTL_ALERT (R711; offset R710). -/
def alert : Nat := 0xe0000000600
/-- CTL_DEBUG_STATUS (R711; offset R710). -/
def debugStatus : Nat := 0xe0000000700
/-- CTL_TRACE_STATUS (R712; offset R710). -/
def traceStatus : Nat := 0xe0000000800
/-- CTL_MCTP_STATUS (R712; offset R710). -/
def mctpStatus : Nat := 0xe0000000900
/-- CTL_CLUSTER_OWN (R713; offset R710). -/
def clusterOwn (m : Nat) : Nat := 0xe0000001000 + m * 0x8
/-- CTL_KEY_MAP (R714; offset R710). -/
def keyMap (r : Nat) : Nat := 0xe0000008000 + r * 0x8
/-- CAP_XLT (R496; offset R495). -/
def capXlt : Nat := 0xe0001000000
/-- XLT_CTX_ROOT (R497; offset R495). -/
def xltRoot (c : Nat) : Nat := 0xe0001001000 + c * 0x20
/-- XLT_CTX_EPOCH (R498; offset R495). -/
def xltEpoch (c : Nat) : Nat := 0xe0001001008 + c * 0x20
/-- XLT_CTX_FAULT (R499; offset R495). -/
def xltFault (c : Nat) : Nat := 0xe0001001010 + c * 0x20
/-- XLT_CTX_FAULT_VA (R499; offset R495). -/
def xltFaultVa (c : Nat) : Nat := 0xe0001001018 + c * 0x20
/-- XLT_CNT_CLR (R501; offset R495). -/
def xltCntClr (k : Nat) : Nat := 0xe0001004000 + k * 0x100
/-- XLT_CNT_LOOKUP (R500; offset R500). -/
def xltCntLookup (k : Nat) : Nat := 0xe0001004008 + k * 0x100
/-- XLT_CNT_MISS (R500; offset R500). -/
def xltCntMiss (k : Nat) : Nat := 0xe0001004010 + k * 0x100
/-- XLT_CNT_WALK (R500; offset R500). -/
def xltCntWalk (k : Nat) : Nat := 0xe0001004018 + k * 0x100
/-- XLT_CNT_REWALK (R500; offset R500). -/
def xltCntRewalk (k : Nat) : Nat := 0xe0001004020 + k * 0x100
/-- XLT_CNT_FAULT (R500; offset R500). -/
def xltCntFault (k : Nat) : Nat := 0xe0001004028 + k * 0x100
/-- XLT_CNT_INVAL (R500; offset R500). -/
def xltCntInval (k : Nat) : Nat := 0xe0001004030 + k * 0x100
/-- XLT_CNT_MIG_BYTES (R500; offset R500). -/
def xltCntMigBytes (k : Nat) : Nat := 0xe0001004038 + k * 0x100
/-- CAP_PWR (R658; offset R657). -/
def capPwr : Nat := 0xe0002000000
/-- PWR_CFG (R659; offset R657). -/
def pwrCfg : Nat := 0xe0002000100
/-- PWR_EC_CFG (R660; offset R657). -/
def pwrEcCfg : Nat := 0xe0002000108
/-- PWR_BOOT_LIMITS (R661; offset R657). -/
def pwrBootLimits : Nat := 0xe0002000110
/-- PWR_STATUS (R662; offset R657). -/
def pwrStatus : Nat := 0xe0002000200
/-- PWR_SENSE_IN (R663; offset R657). -/
def pwrSenseIn : Nat := 0xe0002000208
/-- PWR_SENSE_P (R663; offset R657). -/
def pwrSenseP : Nat := 0xe0002000210
/-- PWR_TEMP (R663; offset R657). -/
def pwrTemp : Nat := 0xe0002000218
/-- PWR_TEMP_AUX (R663; offset R657). -/
def pwrTempAux : Nat := 0xe0002000220
/-- PWR_MODEL (R664; offset R657). -/
def pwrModel : Nat := 0xe0002000228
/-- PWR_E_MAIN (R664; offset R657). -/
def pwrEMain : Nat := 0xe0002000230
/-- PWR_E_BKP (R664; offset R657). -/
def pwrEBkp : Nat := 0xe0002000238
/-- PWR_E_UNATTR (R664; offset R657). -/
def pwrEUnattr : Nat := 0xe0002000240
/-- PWR_SUPPLY (R665; offset R657). -/
def pwrSupply : Nat := 0xe0002000300
/-- PWR_SUPPLY_T (R665; offset R657). -/
def pwrSupplyT (i : Nat) : Nat := 0xe0002000308 + i * 0x8
/-- PWR_COEF (R664; offset R657). -/
def pwrCoef (k : Nat) : Nat := 0xe0002000400 + k * 0x8
/-- PWR_CNT_CLR (R668; offset R657). -/
def pwrCntClr : Nat := 0xe0002000500
/-- PWR_CNT_CAP_MS (R667; offset R667). -/
def pwrCntCapMs : Nat := 0xe0002000508
/-- PWR_CNT_THERM_MS (R667; offset R667). -/
def pwrCntThermMs : Nat := 0xe0002000510
/-- PWR_CNT_FILL_MJ (R667; offset R667). -/
def pwrCntFillMj : Nat := 0xe0002000518
/-- PWR_CNT_SLEW_MISS (R667; offset R667). -/
def pwrCntSlewMiss : Nat := 0xe0002000520
/-- PWR_CNT_ILIMIT (R667; offset R667). -/
def pwrCntIlimit : Nat := 0xe0002000528
/-- PWR_CNT_EC_HELD (R667; offset R667). -/
def pwrCntEcHeld : Nat := 0xe0002000530
/-- PWR_CNT_EC_FORCED (R667; offset R667). -/
def pwrCntEcForced : Nat := 0xe0002000538
/-- PWR_CNT_BRAKE (R667; offset R667). -/
def pwrCntBrake : Nat := 0xe0002000540
/-- PWR_CNT_ECLIPSE (R667; offset R667). -/
def pwrCntEclipse : Nat := 0xe0002000548
/-- PWR_AGE_CFG (R684; offset R683). -/
def ageCfg : Nat := 0xe0002000800
/-- PWR_AGE_STATUS word 0 (R685; offset R683). -/
def ageStatus0 : Nat := 0xe0002000808
/-- PWR_AGE_STATUS word 1 (R685; offset R683). -/
def ageStatus1 : Nat := 0xe0002000810
/-- PWR_VF word 0 (R686; offset R683). -/
def vf0 (d : Nat) : Nat := 0xe0002000900 + d * 0x20
/-- PWR_VF word 1 (R686; offset R683). -/
def vf1 (d : Nat) : Nat := 0xe0002000908 + d * 0x20
/-- PWR_VF word 2 (R686; offset R683). -/
def vf2 (d : Nat) : Nat := 0xe0002000910 + d * 0x20
/-- PWR_FENCE word 0 (R687; offset R683). -/
def fence0 (k : Nat) : Nat := 0xe0002000b00 + k * 0x20
/-- PWR_FENCE word 1 (R687; offset R683). -/
def fence1 (k : Nat) : Nat := 0xe0002000b08 + k * 0x20
/-- PWR_FENCE word 2 (R687; offset R683). -/
def fence2 (k : Nat) : Nat := 0xe0002000b10 + k * 0x20
/-- PWR_FENCE word 3 (R687; offset R683). -/
def fence3 (k : Nat) : Nat := 0xe0002000b18 + k * 0x20
/-- PWR_FENCE_LU (R687; offset R683). -/
def fenceLu (k : Nat) : Nat := 0xe0002000b80 + k * 0x8
/-- CAP_ERR (R628; offset R627). -/
def capErr : Nat := 0xe0003000000
/-- ERR_CFG (R628; offset R627). -/
def errCfg : Nat := 0xe0003000100
/-- ERR_DEV_STATE (R631; offset R627). -/
def errDevState : Nat := 0xe0003000108
/-- ERR_LAST_DEVICE word 0 (R631; offset R627). -/
def errLast0 : Nat := 0xe0003000110
/-- ERR_LAST_DEVICE word 1 (R631; offset R627). -/
def errLast1 : Nat := 0xe0003000118
/-- ERR_Q_CFG of queue 4 (R629; offset R627). -/
def errQCfgD : Nat := 0xe0003000200
/-- ERR_Q_STATUS of queue 4 (R629; offset R627). -/
def errQStatusD : Nat := 0xe0003000208
/-- ERR_Q_SEQ of queue 4 (R629; offset R627). -/
def errQSeqD : Nat := 0xe0003000210
/-- ERR_CNT_CLR of the device block (R633; offset R627). -/
def errCntClrD : Nat := 0xe0003000300
/-- ERR_CNT_RECORDS of the device block (R632; offset R627). -/
def errCntRecordsD : Nat := 0xe0003000308
/-- ERR_CNT_REPLAY of the device block (R632; offset R627). -/
def errCntReplayD : Nat := 0xe0003000310
/-- ERR_CNT_RETRY of the device block (R632; offset R627). -/
def errCntRetryD : Nat := 0xe0003000318
/-- ERR_CNT_ESCALATE of the device block (R632; offset R627). -/
def errCntEscalateD : Nat := 0xe0003000320
/-- ERR_CNT_POISON of the device block (R632; offset R627). -/
def errCntPoisonD : Nat := 0xe0003000328
/-- ERR_RECORD of queue 4 (R630; offset R627). -/
def errRecordD (s w : Nat) : Nat := 0xe0003010000 + s * 0x40 + w * 0x8
/-- ERR_Q_CFG of queue k (R629; offset R627). -/
def errQCfgT (k : Nat) : Nat := 0xe0018000100 + k * 0x10000000
/-- ERR_Q_STATUS of queue k (R629; offset R627). -/
def errQStatusT (k : Nat) : Nat := 0xe0018000108 + k * 0x10000000
/-- ERR_Q_SEQ of queue k (R629; offset R627). -/
def errQSeqT (k : Nat) : Nat := 0xe0018000110 + k * 0x10000000
/-- ERR_RECOVERY (R631; offset R627). -/
def errRecovery (k : Nat) : Nat := 0xe0018000118 + k * 0x10000000
/-- ERR_CNT_CLR of a tower block (R633; offset R627). -/
def errCntClrT (k : Nat) : Nat := 0xe0018000300 + k * 0x10000000
/-- ERR_CNT_RECORDS of a tower block (R632; offset R627). -/
def errCntRecordsT (k : Nat) : Nat := 0xe0018000308 + k * 0x10000000
/-- ERR_CNT_REPLAY of a tower block (R632; offset R627). -/
def errCntReplayT (k : Nat) : Nat := 0xe0018000310 + k * 0x10000000
/-- ERR_CNT_RETRY of a tower block (R632; offset R627). -/
def errCntRetryT (k : Nat) : Nat := 0xe0018000318 + k * 0x10000000
/-- ERR_CNT_ESCALATE of a tower block (R632; offset R627). -/
def errCntEscalateT (k : Nat) : Nat := 0xe0018000320 + k * 0x10000000
/-- ERR_CNT_POISON of a tower block (R632; offset R627). -/
def errCntPoisonT (k : Nat) : Nat := 0xe0018000328 + k * 0x10000000
/-- ERR_RECORD of queue k (R630; offset R627). -/
def errRecordT (k s w : Nat) : Nat := 0xe0018010000 + k * 0x10000000 + s * 0x40 + w * 0x8
/-- CAP_MEM_DEV (R432; offset R431). -/
def capMemDev : Nat := 0xe0004000000
/-- MEM_ILV_SPLIT (R432; offset R431). -/
def ilvSplit : Nat := 0xe0004000100
/-- CAP_MEM (R433; offset R431). -/
def capMem (k : Nat) : Nat := 0xe0013000000 + k * 0x10000000
/-- MEM_CFG (R434; offset R431). -/
def memCfg (k : Nat) : Nat := 0xe0013000100 + k * 0x10000000
/-- MEM_CTL_STATUS (R435; offset R431). -/
def memCtlStatus (k u : Nat) : Nat := 0xe0013001000 + k * 0x10000000 + u * 0x100
/-- MEM_ERASE_STAT (R436; offset R431). -/
def memEraseStat (k u : Nat) : Nat := 0xe0013001008 + k * 0x10000000 + u * 0x100
/-- MEM_CNT_CLR (R438; offset R431). -/
def memCntClr (k u : Nat) : Nat := 0xe0013001010 + k * 0x10000000 + u * 0x100
/-- MEM_CNT_RD (R437; offset R437). -/
def memCntRd (k u : Nat) : Nat := 0xe0013001018 + k * 0x10000000 + u * 0x100
/-- MEM_CNT_WR (R437; offset R437). -/
def memCntWr (k u : Nat) : Nat := 0xe0013001020 + k * 0x10000000 + u * 0x100
/-- MEM_CNT_RMW (R437; offset R437). -/
def memCntRmw (k u : Nat) : Nat := 0xe0013001028 + k * 0x10000000 + u * 0x100
/-- MEM_CNT_CORR (R437; offset R437). -/
def memCntCorr (k u : Nat) : Nat := 0xe0013001030 + k * 0x10000000 + u * 0x100
/-- MEM_CNT_UNCORR (R437; offset R437). -/
def memCntUncorr (k u : Nat) : Nat := 0xe0013001038 + k * 0x10000000 + u * 0x100
/-- MEM_CNT_POISON_RD (R437; offset R437). -/
def memCntPoisonRd (k u : Nat) : Nat := 0xe0013001040 + k * 0x10000000 + u * 0x100
/-- MEM_CNT_SCRUB (R437; offset R437). -/
def memCntScrub (k u : Nat) : Nat := 0xe0013001048 + k * 0x10000000 + u * 0x100
/-- MEM_CNT_ODE (R437; offset R437). -/
def memCntOde (k u : Nat) : Nat := 0xe0013001050 + k * 0x10000000 + u * 0x100
/-- MEM_CNT_CLASS0 (R437; offset R437). -/
def memCntClass0 (k u : Nat) : Nat := 0xe0013001058 + k * 0x10000000 + u * 0x100
/-- MEM_CNT_THROTTLE (R437; offset R437). -/
def memCntThrottle (k u : Nat) : Nat := 0xe0013001060 + k * 0x10000000 + u * 0x100
/-- MEM_CNT_AGED (R437; offset R437). -/
def memCntAged (k u : Nat) : Nat := 0xe0013001068 + k * 0x10000000 + u * 0x100
/-- MEM_ERASE_LIST (R436; offset R431). -/
def memEraseList (k u m : Nat) : Nat := 0xe0013002000 + k * 0x10000000 + u * 0x200 + m * 0x8
/-- CAP_MXE (R175; offset R174). -/
def capMxe (k : Nat) : Nat := 0xe0010000000 + k * 0x10000000
/-- MXE_DIE_CFG (R176; offset R174). -/
def mxeDieCfg (k : Nat) : Nat := 0xe0010000100 + k * 0x10000000
/-- MXE_STATUS (R177; offset R174). -/
def mxeStatus (k e : Nat) : Nat := 0xe0010001000 + k * 0x10000000 + e * 0x100
/-- MXE_PORT (R178; offset R174). -/
def mxePort (k e : Nat) : Nat := 0xe0010001008 + k * 0x10000000 + e * 0x100
/-- MXE_CNT_CLR (R180; offset R174). -/
def mxeCntClr (k e : Nat) : Nat := 0xe0010001010 + k * 0x10000000 + e * 0x100
/-- MXE_CNT_BUSY (R179; offset R179). -/
def mxeCntBusy (k e : Nat) : Nat := 0xe0010001020 + k * 0x10000000 + e * 0x100
/-- MXE_CNT_PROD (R179; offset R179). -/
def mxeCntProd (k e : Nat) : Nat := 0xe0010001028 + k * 0x10000000 + e * 0x100
/-- MXE_CNT_TILES (R179; offset R179). -/
def mxeCntTiles (k e : Nat) : Nat := 0xe0010001030 + k * 0x10000000 + e * 0x100
/-- MXE_CNT_REPLAY (R179; offset R179). -/
def mxeCntReplay (k e : Nat) : Nat := 0xe0010001038 + k * 0x10000000 + e * 0x100
/-- MXE_CNT_SQUASH (R179; offset R179). -/
def mxeCntSquash (k e : Nat) : Nat := 0xe0010001040 + k * 0x10000000 + e * 0x100
/-- MXE_CNT_SAT (R179; offset R179). -/
def mxeCntSat (k e : Nat) : Nat := 0xe0010001048 + k * 0x10000000 + e * 0x100
/-- MXE_CNT_WAIT_W (R179; offset R179). -/
def mxeCntWaitW (k e : Nat) : Nat := 0xe0010001050 + k * 0x10000000 + e * 0x100
/-- MXE_CNT_HOLD (R179; offset R179). -/
def mxeCntHold (k e : Nat) : Nat := 0xe0010001058 + k * 0x10000000 + e * 0x100
/-- MXE_CNT_IDLE (R179; offset R179). -/
def mxeCntIdle (k e : Nat) : Nat := 0xe0010001060 + k * 0x10000000 + e * 0x100
/-- MXE_BEAM_CFG (R264; offset R263). -/
def beamCfg (k : Nat) : Nat := 0xe0010100000 + k * 0x10000000
/-- MXE_BEAM_STATUS (R265; offset R263). -/
def beamStatus (k : Nat) : Nat := 0xe0010100008 + k * 0x10000000
/-- MXE_BEAM_WAIT (R266; offset R263). -/
def beamWait (k : Nat) : Nat := 0xe0010100010 + k * 0x10000000
/-- MXE_BEAM_LC (R267; offset R263). -/
def beamLc (k : Nat) : Nat := 0xe0010100018 + k * 0x10000000
/-- MXE_BEAM_MARK (R268; offset R263). -/
def beamMark (k : Nat) : Nat := 0xe0010100020 + k * 0x10000000
/-- MXE_BEAM_STOP (R268; offset R263). -/
def beamStop (k : Nat) : Nat := 0xe0010100028 + k * 0x10000000
/-- MXE_BEAM_STRETCH (R269; offset R263). -/
def beamStretch (k : Nat) : Nat := 0xe0010100030 + k * 0x10000000
/-- MXE_BEAM_CNT_CYCLES (R270; offset R263). -/
def mxeBeamCntCycles (k : Nat) : Nat := 0xe0010100040 + k * 0x10000000
/-- MXE_BEAM_CNT_WORDS (R270; offset R263). -/
def mxeBeamCntWords (k : Nat) : Nat := 0xe0010100048 + k * 0x10000000
/-- MXE_BEAM_CNT_WAIT (R270; offset R263). -/
def mxeBeamCntWait (k : Nat) : Nat := 0xe0010100050 + k * 0x10000000
/-- MXE_BEAM_CNT_SLIP_DET (R270; offset R263). -/
def mxeBeamCntSlipDet (k : Nat) : Nat := 0xe0010100058 + k * 0x10000000
/-- MXE_BEAM_CNT_SLIP_EXT (R270; offset R263). -/
def mxeBeamCntSlipExt (k : Nat) : Nat := 0xe0010100060 + k * 0x10000000
/-- MXE_BEAM_CNT_PAUSE (R270; offset R263). -/
def mxeBeamCntPause (k : Nat) : Nat := 0xe0010100068 + k * 0x10000000
/-- MXE_BEAM_CNT_SKIP (R270; offset R263). -/
def mxeBeamCntSkip (k : Nat) : Nat := 0xe0010100070 + k * 0x10000000
/-- MXE_BEAM_CNT_FINISH (R270; offset R263). -/
def mxeBeamCntFinish (k : Nat) : Nat := 0xe0010100078 + k * 0x10000000
/-- MXE_BEAM_BANK (R271; offset R263). -/
def beamBank (k b : Nat) : Nat := 0xe0010100100 + k * 0x10000000 + b * 0x8
/-- MXE_LEND (R272; offset R263). -/
def mxeLend (k j : Nat) : Nat := 0xe0010100200 + k * 0x10000000 + j * 0x8
/-- MXE_REMAP (R273; offset R263). -/
def mxeRemap (k e : Nat) : Nat := 0xe0010180000 + k * 0x10000000 + e * 0x8
/-- Scale record word 0 (R206; offset R205). -/
def scale0 (k r : Nat) : Nat := 0xe0010200000 + k * 0x10000000 + r * 0x20
/-- Scale record word 1 (R206; offset R205). -/
def scale1 (k r : Nat) : Nat := 0xe0010200008 + k * 0x10000000 + r * 0x20
/-- Scale record word 2 (R206; offset R205). -/
def scale2 (k r : Nat) : Nat := 0xe0010200010 + k * 0x10000000 + r * 0x20
/-- Scale record word 3 (R206; offset R205). -/
def scale3 (k r : Nat) : Nat := 0xe0010200018 + k * 0x10000000 + r * 0x20
/-- CAP_VXE (R299; offset R298). -/
def capVxe (k : Nat) : Nat := 0xe0011000000 + k * 0x10000000
/-- VXE_STATUS (R300; offset R298). -/
def vxeStatus (k x : Nat) : Nat := 0xe0011001000 + k * 0x10000000 + x * 0x100
/-- VXE_CNT_CLR (R302; offset R298). -/
def vxeCntClr (k x : Nat) : Nat := 0xe0011001010 + k * 0x10000000 + x * 0x100
/-- VXE_CNT_STREAM (R301; offset R301). -/
def vxeCntStream (k x : Nat) : Nat := 0xe0011001020 + k * 0x10000000 + x * 0x100
/-- VXE_CNT_ELEMS (R301; offset R301). -/
def vxeCntElems (k x : Nat) : Nat := 0xe0011001028 + k * 0x10000000 + x * 0x100
/-- VXE_CNT_CHAINS (R301; offset R301). -/
def vxeCntChains (k x : Nat) : Nat := 0xe0011001030 + k * 0x10000000 + x * 0x100
/-- VXE_CNT_OOR (R301; offset R301). -/
def vxeCntOor (k x : Nat) : Nat := 0xe0011001038 + k * 0x10000000 + x * 0x100
/-- VXE_CNT_HOLD (R301; offset R301). -/
def vxeCntHold (k x : Nat) : Nat := 0xe0011001040 + k * 0x10000000 + x * 0x100
/-- VXE_CNT_POISON (R301; offset R301). -/
def vxeCntPoison (k x : Nat) : Nat := 0xe0011001048 + k * 0x10000000 + x * 0x100
/-- VXE_CNT_SR (R301; offset R301). -/
def vxeCntSr (k x : Nat) : Nat := 0xe0011001050 + k * 0x10000000 + x * 0x100
/-- CAP_TC (R334; offset R333). -/
def capTc (k : Nat) : Nat := 0xe0012000000 + k * 0x10000000
/-- TC_DIE_CFG (R335; offset R333). -/
def tcDieCfg (k : Nat) : Nat := 0xe0012000100 + k * 0x10000000
/-- TC_STATUS (R336; offset R333). -/
def tcStatus (k c : Nat) : Nat := 0xe0012001000 + k * 0x10000000 + c * 0x200
/-- TC_CNT_CLR (R339; offset R333). -/
def tcCntClr (k c : Nat) : Nat := 0xe0012001008 + k * 0x10000000 + c * 0x200
/-- TC_CNT_ISSUE (R338; offset R338). -/
def tcCntIssue (k c : Nat) : Nat := 0xe0012001010 + k * 0x10000000 + c * 0x200
/-- TC_CNT_THREAD (R338; offset R338). -/
def tcCntThread (k c : Nat) : Nat := 0xe0012001018 + k * 0x10000000 + c * 0x200
/-- TC_CNT_DIVERGE (R338; offset R338). -/
def tcCntDiverge (k c : Nat) : Nat := 0xe0012001020 + k * 0x10000000 + c * 0x200
/-- TC_CNT_REPACK (R338; offset R338). -/
def tcCntRepack (k c : Nat) : Nat := 0xe0012001028 + k * 0x10000000 + c * 0x200
/-- TC_CNT_SPIN_SPLIT (R338; offset R338). -/
def tcCntSpinSplit (k c : Nat) : Nat := 0xe0012001030 + k * 0x10000000 + c * 0x200
/-- TC_CNT_FRAG (R338; offset R338). -/
def tcCntFrag (k c : Nat) : Nat := 0xe0012001038 + k * 0x10000000 + c * 0x200
/-- TC_CNT_CONV_TO (R338; offset R338). -/
def tcCntConvTo (k c : Nat) : Nat := 0xe0012001040 + k * 0x10000000 + c * 0x200
/-- TC_CNT_IDLE (R338; offset R338). -/
def tcCntIdle (k c : Nat) : Nat := 0xe0012001048 + k * 0x10000000 + c * 0x200
/-- TC_GROUP_STATE word 0 (R337; offset R333). -/
def tcGroup0 (k c g : Nat) : Nat := 0xe0012001100 + k * 0x10000000 + c * 0x200 + g * 0x20
/-- TC_GROUP_STATE word 1 (R337; offset R333). -/
def tcGroup1 (k c g : Nat) : Nat := 0xe0012001108 + k * 0x10000000 + c * 0x200 + g * 0x20
/-- TC_GROUP_STATE word 2 (R337; offset R333). -/
def tcGroup2 (k c g : Nat) : Nat := 0xe0012001110 + k * 0x10000000 + c * 0x200 + g * 0x20
/-- TC_GROUP_STATE word 3 (R337; offset R333). -/
def tcGroup3 (k c g : Nat) : Nat := 0xe0012001118 + k * 0x10000000 + c * 0x200 + g * 0x20
/-- CAP_SP (R360; offset R359). -/
def capSp (k : Nat) : Nat := 0xe0012100000 + k * 0x10000000
/-- TC_SP_CNT_CLR (R363; offset R359). -/
def tcSpCntClr (k j : Nat) : Nat := 0xe0012101000 + k * 0x10000000 + j * 0x100
/-- TC_SP_CNT_CORR (R362; offset R362). -/
def tcSpCntCorr (k j : Nat) : Nat := 0xe0012101008 + k * 0x10000000 + j * 0x100
/-- TC_SP_CNT_UNCORR (R362; offset R362). -/
def tcSpCntUncorr (k j : Nat) : Nat := 0xe0012101010 + k * 0x10000000 + j * 0x100
/-- TC_SP_CNT_AMO_RETRY (R362; offset R362). -/
def tcSpCntAmoRetry (k j : Nat) : Nat := 0xe0012101018 + k * 0x10000000 + j * 0x100
/-- TC_SP_CNT_SIDE_WAIT (R362; offset R362). -/
def tcSpCntSideWait (k j : Nat) : Nat := 0xe0012101020 + k * 0x10000000 + j * 0x100
/-- TC_TM_STATUS (R361; offset R359). -/
def tmStatus (k m : Nat) : Nat := 0xe0012110000 + k * 0x10000000 + m * 0x100
/-- TC_TM_PROGRESS (R361; offset R359). -/
def tmProgress (k m : Nat) : Nat := 0xe0012110008 + k * 0x10000000 + m * 0x100
/-- TC_TM_CNT_CLR (R363; offset R359). -/
def tcTmCntClr (k m : Nat) : Nat := 0xe0012110010 + k * 0x10000000 + m * 0x100
/-- TC_TM_CNT_BYTES_RD (R362; offset R362). -/
def tcTmCntBytesRd (k m : Nat) : Nat := 0xe0012110020 + k * 0x10000000 + m * 0x100
/-- TC_TM_CNT_BYTES_WR (R362; offset R362). -/
def tcTmCntBytesWr (k m : Nat) : Nat := 0xe0012110028 + k * 0x10000000 + m * 0x100
/-- TC_TM_CNT_DESC (R362; offset R362). -/
def tcTmCntDesc (k m : Nat) : Nat := 0xe0012110030 + k * 0x10000000 + m * 0x100
/-- TC_TM_CNT_HOLD (R362; offset R362). -/
def tcTmCntHold (k m : Nat) : Nat := 0xe0012110038 + k * 0x10000000 + m * 0x100
/-- TC_TM_CNT_OOR (R362; offset R362). -/
def tcTmCntOor (k m : Nat) : Nat := 0xe0012110040 + k * 0x10000000 + m * 0x100
/-- TC_TM_CNT_RETRY (R362; offset R362). -/
def tcTmCntRetry (k m : Nat) : Nat := 0xe0012110048 + k * 0x10000000 + m * 0x100
/-- TC_TM_CNT_POISON (R362; offset R362). -/
def tcTmCntPoison (k m : Nat) : Nat := 0xe0012110050 + k * 0x10000000 + m * 0x100
/-- CAP_L2 (R398; offset R397). -/
def capL2 (k : Nat) : Nat := 0xe0014000000 + k * 0x10000000
/-- L2_CFG (R399; offset R397). -/
def l2Cfg (k : Nat) : Nat := 0xe0014000100 + k * 0x10000000
/-- L2_SLICE_STATUS (R400; offset R397). -/
def l2SliceStatus (k s : Nat) : Nat := 0xe0014001000 + k * 0x10000000 + s * 0x100
/-- L2_CNT_CLR (R402; offset R397). -/
def l2CntClr (k s : Nat) : Nat := 0xe0014001008 + k * 0x10000000 + s * 0x100
/-- L2_CNT_HIT (R401; offset R401). -/
def l2CntHit (k s : Nat) : Nat := 0xe0014001010 + k * 0x10000000 + s * 0x100
/-- L2_CNT_MISS (R401; offset R401). -/
def l2CntMiss (k s : Nat) : Nat := 0xe0014001018 + k * 0x10000000 + s * 0x100
/-- L2_CNT_MERGE (R401; offset R401). -/
def l2CntMerge (k s : Nat) : Nat := 0xe0014001020 + k * 0x10000000 + s * 0x100
/-- L2_CNT_BYPASS (R401; offset R401). -/
def l2CntBypass (k s : Nat) : Nat := 0xe0014001028 + k * 0x10000000 + s * 0x100
/-- L2_CNT_WB (R401; offset R401). -/
def l2CntWb (k s : Nat) : Nat := 0xe0014001030 + k * 0x10000000 + s * 0x100
/-- L2_CNT_RMW (R401; offset R401). -/
def l2CntRmw (k s : Nat) : Nat := 0xe0014001038 + k * 0x10000000 + s * 0x100
/-- L2_CNT_RED (R401; offset R401). -/
def l2CntRed (k s : Nat) : Nat := 0xe0014001040 + k * 0x10000000 + s * 0x100
/-- L2_CNT_DRAIN (R401; offset R401). -/
def l2CntDrain (k s : Nat) : Nat := 0xe0014001048 + k * 0x10000000 + s * 0x100
/-- L2_CNT_RED_STALL (R401; offset R401). -/
def l2CntRedStall (k s : Nat) : Nat := 0xe0014001050 + k * 0x10000000 + s * 0x100
/-- L2_CNT_CORR (R401; offset R401). -/
def l2CntCorr (k s : Nat) : Nat := 0xe0014001058 + k * 0x10000000 + s * 0x100
/-- L2_CNT_UNCORR (R401; offset R401). -/
def l2CntUncorr (k s : Nat) : Nat := 0xe0014001060 + k * 0x10000000 + s * 0x100
/-- L2_CNT_DIR_RECALL (R401; offset R401). -/
def l2CntDirRecall (k s : Nat) : Nat := 0xe0014001068 + k * 0x10000000 + s * 0x100
/-- L2_CNT_DIR_BACKINV (R401; offset R401). -/
def l2CntDirBackinv (k s : Nat) : Nat := 0xe0014001070 + k * 0x10000000 + s * 0x100
/-- L2_RED_TABLE (R403; offset R397). -/
def l2RedTable (k c i : Nat) : Nat := 0xe0014200008 + k * 0x10000000 + c * 0x80 + i * 0x8
/-- CAP_LNT (R466; offset R465). -/
def capLnt (k : Nat) : Nat := 0xe0015000000 + k * 0x10000000
/-- CAP_LNT_UNIT (R467; offset R465). -/
def capLntUnit (k u : Nat) : Nat := 0xe0015000100 + k * 0x10000000 + u * 0x8
/-- LNT_STATUS (R468; offset R465). -/
def lntStatus (k u : Nat) : Nat := 0xe0015001000 + k * 0x10000000 + u * 0x100
/-- LNT_PROGRESS (R468; offset R465). -/
def lntProgress (k u : Nat) : Nat := 0xe0015001008 + k * 0x10000000 + u * 0x100
/-- LNT_CNT_CLR (R470; offset R465). -/
def lntCntClr (k u : Nat) : Nat := 0xe0015001010 + k * 0x10000000 + u * 0x100
/-- LNT_CNT_BYTES (R469; offset R469). -/
def lntCntBytes (k u : Nat) : Nat := 0xe0015001020 + k * 0x10000000 + u * 0x100
/-- LNT_CNT_RECORDS (R469; offset R469). -/
def lntCntRecords (k u : Nat) : Nat := 0xe0015001028 + k * 0x10000000 + u * 0x100
/-- LNT_CNT_REQS (R469; offset R469). -/
def lntCntReqs (k u : Nat) : Nat := 0xe0015001030 + k * 0x10000000 + u * 0x100
/-- LNT_CNT_PAUSE (R469; offset R469). -/
def lntCntPause (k u : Nat) : Nat := 0xe0015001038 + k * 0x10000000 + u * 0x100
/-- LNT_CNT_POISON (R469; offset R469). -/
def lntCntPoison (k u : Nat) : Nat := 0xe0015001040 + k * 0x10000000 + u * 0x100
/-- LNT_CNT_BUF_CORR (R469; offset R469). -/
def lntCntBufCorr (k u : Nat) : Nat := 0xe0015001048 + k * 0x10000000 + u * 0x100
/-- LNT_CNT_RESULT (R469; offset R469). -/
def lntCntResult (k u : Nat) : Nat := 0xe0015001050 + k * 0x10000000 + u * 0x100
/-- LNT_CNT_WAIT (R469; offset R469). -/
def lntCntWait (k u : Nat) : Nat := 0xe0015001058 + k * 0x10000000 + u * 0x100
/-- CAP_SYN (R527; offset R526). -/
def capSyn (k : Nat) : Nat := 0xe0016000000 + k * 0x10000000
/-- SYN_CFG (R527; offset R526). -/
def synCfg (k : Nat) : Nat := 0xe0016000100 + k * 0x10000000
/-- SYN_CNT_CLR (R531; offset R526). -/
def synCntClr (k : Nat) : Nat := 0xe0016001000 + k * 0x10000000
/-- SYN_CNT_OPS (R530; offset R530). -/
def synCntOps (k : Nat) : Nat := 0xe0016001008 + k * 0x10000000
/-- SYN_CNT_QUERY (R530; offset R530). -/
def synCntQuery (k : Nat) : Nat := 0xe0016001010 + k * 0x10000000
/-- SYN_CNT_REFUSED (R530; offset R530). -/
def synCntRefused (k : Nat) : Nat := 0xe0016001018 + k * 0x10000000
/-- SYN_CNT_NOTIFY (R530; offset R530). -/
def synCntNotify (k : Nat) : Nat := 0xe0016001020 + k * 0x10000000
/-- SYN_OBJ_STATE word 0 (R528; offset R526). -/
def synObj0 (k j : Nat) : Nat := 0xe0016100000 + k * 0x10000000 + j * 0x10
/-- SYN_OBJ_STATE word 1 (R528; offset R526). -/
def synObj1 (k j : Nat) : Nat := 0xe0016100008 + k * 0x10000000 + j * 0x10
/-- SYN_Q_CFG (R529; offset R526). -/
def synQCfg (k q : Nat) : Nat := 0xe0016200000 + k * 0x10000000 + q * 0x20
/-- SYN_Q_STATUS (R529; offset R526). -/
def synQStatus (k q : Nat) : Nat := 0xe0016200008 + k * 0x10000000 + q * 0x20
/-- SYN_Q_STOP (R529; offset R526). -/
def synQStop (k q : Nat) : Nat := 0xe0016200010 + k * 0x10000000 + q * 0x20
/-- CAP_FAB (R595; offset R594). -/
def capFab (k : Nat) : Nat := 0xe0017000000 + k * 0x10000000
/-- FAB_CFG (R596; offset R594). -/
def fabCfg : Nat := 0xe0017000100
/-- FAB_DEV_STATUS (R597; offset R594). -/
def fabDevStatus : Nat := 0xe0017000108
/-- FAB_MGMT_CFG (R597; offset R594). -/
def fabMgmtCfg : Nat := 0xe0017000110
/-- FAB_MGMT_STATUS (R597; offset R594). -/
def fabMgmtStatus : Nat := 0xe0017000118
/-- FAB_TAG (R598; offset R594). -/
def fabTag (s : Nat) : Nat := 0xe0017000200 + s * 0x8
/-- FAB_FLARE_STATUS word 0 (R599; offset R594). -/
def flareStatus0 : Nat := 0xe0017000800
/-- FAB_FLARE_STATUS word 1 (R599; offset R594). -/
def flareStatus1 : Nat := 0xe0017000808
/-- FAB_FLARE_UNREACHED (R599; offset R594). -/
def flareUnreached (i : Nat) : Nat := 0xe0017000900 + i * 0x8
/-- FAB_PORT_CFG (R600; offset R594). -/
def portCfg (k p : Nat) : Nat := 0xe0017001000 + k * 0x10000000 + p * 0x100
/-- FAB_PORT_STATUS (R600; offset R594). -/
def portStatus (k p : Nat) : Nat := 0xe0017001008 + k * 0x10000000 + p * 0x100
/-- FAB_PORT_CNT_CLR (R603; offset R594). -/
def portCntClr (k p : Nat) : Nat := 0xe0017001010 + k * 0x10000000 + p * 0x100
/-- FAB_PORT_CNT_TX_PKT (R601; offset R601). -/
def fabPortCntTxPkt (k p : Nat) : Nat := 0xe0017001018 + k * 0x10000000 + p * 0x100
/-- FAB_PORT_CNT_RX_PKT (R601; offset R601). -/
def fabPortCntRxPkt (k p : Nat) : Nat := 0xe0017001020 + k * 0x10000000 + p * 0x100
/-- FAB_PORT_CNT_TX_BYTES (R601; offset R601). -/
def fabPortCntTxBytes (k p : Nat) : Nat := 0xe0017001028 + k * 0x10000000 + p * 0x100
/-- FAB_PORT_CNT_RX_BYTES (R601; offset R601). -/
def fabPortCntRxBytes (k p : Nat) : Nat := 0xe0017001030 + k * 0x10000000 + p * 0x100
/-- FAB_PORT_CNT_REPLAY (R601; offset R601). -/
def fabPortCntReplay (k p : Nat) : Nat := 0xe0017001038 + k * 0x10000000 + p * 0x100
/-- FAB_PORT_CNT_TAGDROP (R601; offset R601). -/
def fabPortCntTagdrop (k p : Nat) : Nat := 0xe0017001040 + k * 0x10000000 + p * 0x100
/-- FAB_PORT_CNT_NOROUTE (R601; offset R601). -/
def fabPortCntNoroute (k p : Nat) : Nat := 0xe0017001048 + k * 0x10000000 + p * 0x100
/-- FAB_PORT_CNT_LIFEDROP (R601; offset R601). -/
def fabPortCntLifedrop (k p : Nat) : Nat := 0xe0017001050 + k * 0x10000000 + p * 0x100
/-- FAB_PORT_CNT_CRC (R601; offset R601). -/
def fabPortCntCrc (k p : Nat) : Nat := 0xe0017001058 + k * 0x10000000 + p * 0x100
/-- FAB_COLL_STATUS (R602; offset R594). -/
def collStatus (k c : Nat) : Nat := 0xe0017002000 + k * 0x10000000 + c * 0x8
/-- FAB_CNT_CLR (R603; offset R594). -/
def fabCntClr (k : Nat) : Nat := 0xe0017003000 + k * 0x10000000
/-- FAB_CNT_E2E_RETX (R601; offset R601). -/
def fabCntE2eRetx (k : Nat) : Nat := 0xe0017003008 + k * 0x10000000
/-- FAB_CNT_E2E_FAIL (R601; offset R601). -/
def fabCntE2eFail (k : Nat) : Nat := 0xe0017003010 + k * 0x10000000
/-- FAB_CNT_PEER_FULL (R601; offset R601). -/
def fabCntPeerFull (k : Nat) : Nat := 0xe0017003018 + k * 0x10000000
/-- FAB_CNT_LOCALDROP (R601; offset R601). -/
def fabCntLocaldrop (k : Nat) : Nat := 0xe0017003020 + k * 0x10000000
/-- FAB_LINK_STATUS (R551; offset R550). -/
def linkStatus (k e : Nat) : Nat := 0xe0017f00000 + k * 0x10000000 + e * 0x10
/-- FAB_LINK_CNT (R552; offset R550). -/
def linkCnt (k e : Nat) : Nat := 0xe0017f00008 + k * 0x10000000 + e * 0x10
/-- FAB_BOND_STATUS (R553; offset R550). -/
def bondStatus (k : Nat) : Nat := 0xe0017f01000 + k * 0x10000000
/-- FAB_BOND_CNT (R552; offset R550). -/
def bondCnt (k : Nat) : Nat := 0xe0017f01008 + k * 0x10000000
/-- CTL_HOST_STATUS (R554; offset R550). -/
def hostStatus : Nat := 0xe000f000000
/-- CTL_HC_ENTRY (R554; offset R550). -/
def hcEntry : Nat := 0xe000f000100
/-- CTL_HC_RELEASE (R554; offset R550). -/
def hcRelease : Nat := 0xe000f000108
/-- CTL_HC_RUNNING (R554; offset R550). -/
def hcRunning : Nat := 0xe000f000110
/-- CTL_D2D_STATUS (R551; offset R550). -/
def d2dStatus (x : Nat) : Nat := 0xe000f001000 + x * 0x10
/-- CTL_D2D_CNT (R552; offset R550). -/
def d2dCnt (x : Nat) : Nat := 0xe000f001008 + x * 0x10
/-- CTL_PE_CFG (R555; offset R550). -/
def peCfg (q : Nat) : Nat := 0xe000f010000 + q * 0x1000
/-- CTL_PE_STATUS (R555; offset R550). -/
def peStatus (q : Nat) : Nat := 0xe000f010008 + q * 0x1000
/-- CTL_PE_OUT_BASE (R555; offset R550). -/
def peOutBase (q : Nat) : Nat := 0xe000f010010 + q * 0x1000
/-- CTL_PE_MSI_BASE (R555; offset R550). -/
def peMsiBase (q : Nat) : Nat := 0xe000f010018 + q * 0x1000
/-- CTL_PE_INWIN (R556; offset R550). -/
def peInwin (q w : Nat) : Nat := 0xe000f010100 + q * 0x1000 + w * 0x8

end A

/-! Fields. -/

namespace F

-- CTL_ID word w (R118)
def ctlId_PART : Fld := ⟨0, 64⟩
-- CTL_SERIAL (R118)
def ctlSerial_SERIAL : Fld := ⟨0, 64⟩
-- CAP_DEV (R34)
def capDev_TOWERS : Fld := ⟨0, 8⟩
def capDev_MXE_LOGICAL : Fld := ⟨8, 8⟩
def capDev_MXE_SPARES : Fld := ⟨16, 8⟩
def capDev_LNT_PRESENT : Fld := ⟨24, 8⟩
def capDev_STACK_GIB : Fld := ⟨32, 12⟩
def capDev_CAPTIER_GIB : Fld := ⟨44, 12⟩
def capDev_FAB_PORTS : Fld := ⟨56, 8⟩
-- CTL_COMMIT_STAMP (R119)
def commitStamp_STAMP : Fld := ⟨0, 64⟩
-- CTL_SHADOW_USE (R119)
def shadowUse_ENTRIES : Fld := ⟨0, 15⟩
def shadowUse_OPEN_TXNS : Fld := ⟨16, 7⟩
-- CTL_DIRECT_STORE_CNT (R119)
def directStoreCnt_COUNT : Fld := ⟨0, 32⟩
-- CTL_SB_STATUS (R61)
def sbStatus_BRAKE_PIN : Fld := ⟨0, 1⟩
def sbStatus_BRAKED : Fld := ⟨1, 1⟩
def sbStatus_BRAKE_STUCK : Fld := ⟨2, 1⟩
def sbStatus_MAIN_GOOD : Fld := ⟨3, 1⟩
def sbStatus_BACKUP_GOOD : Fld := ⟨4, 1⟩
def sbStatus_ON_BACKUP : Fld := ⟨5, 1⟩
def sbStatus_REF_OK : Fld := ⟨6, 1⟩
def sbStatus_THERM_TRIPPED : Fld := ⟨7, 1⟩
def sbStatus_GEO : Fld := ⟨8, 4⟩
def sbStatus_BRAKE_COUNT : Fld := ⟨16, 16⟩
-- CTL_RESET_CAUSE (R62)
def resetCause_CAUSE : Fld := ⟨0, 4⟩
def resetCause_PIN_WIDTH_US : Fld := ⟨16, 16⟩
-- CTL_CH_CFG (R120)
def chCfg_TRANSPORT : Fld := ⟨0, 2⟩
def chCfg_ENABLE : Fld := ⟨2, 1⟩
def chCfg_INTR_EN : Fld := ⟨3, 1⟩
def chCfg_DOORBELL_SRC : Fld := ⟨4, 2⟩
def chCfg_VECTOR : Fld := ⟨32, 16⟩
-- CTL_CH_CMD_BASE (R121)
def chCmdBase_SIZE_LOG2 : Fld := ⟨0, 5⟩
def chCmdBase_BASE : Fld := ⟨12, 40⟩
-- CTL_CH_CMD_PTR (R122)
def chCmdPtr_TAIL : Fld := ⟨0, 17⟩
def chCmdPtr_HEAD : Fld := ⟨32, 17⟩
-- CTL_CH_RPL_BASE (R121)
def chRplBase_SIZE_LOG2 : Fld := ⟨0, 5⟩
def chRplBase_BASE : Fld := ⟨12, 40⟩
-- CTL_CH_RPL_PTR (R122)
def chRplPtr_HEAD : Fld := ⟨0, 17⟩
def chRplPtr_TAIL : Fld := ⟨32, 17⟩
-- CTL_CH_STATUS (R124)
def chStatus_TXN_OPEN : Fld := ⟨0, 1⟩
def chStatus_TXN_TIMED_OUT : Fld := ⟨1, 1⟩
def chStatus_STALLED_RPL : Fld := ⟨2, 1⟩
def chStatus_RING_FAULT : Fld := ⟨3, 1⟩
def chStatus_TXN_ID : Fld := ⟨16, 16⟩
def chStatus_STAGED : Fld := ⟨32, 11⟩
-- CTL_CH_ILLEGAL (R125)
def chIllegal_COUNT : Fld := ⟨0, 32⟩
def chIllegal_LAST_OPCODE : Fld := ⟨32, 16⟩
def chIllegal_LAST_REASON : Fld := ⟨48, 3⟩
-- CTL_CH_PERMIT (R126)
def chPermit_GROUPS : Fld := ⟨0, 16⟩
-- CTL_PERS_WEAR (R127)
def persWear_WEAR : Fld := ⟨0, 17⟩
def persWear_WORN : Fld := ⟨17, 1⟩
-- CTL_CLK_DROOP (R84)
def clkDroop_DROOP_MV : Fld := ⟨0, 8⟩
def clkDroop_MAX_STRETCH : Fld := ⟨8, 4⟩
-- CTL_CLK_ISLAND (R83)
def clkIsland_FREQ_MHZ : Fld := ⟨0, 16⟩
def clkIsland_FREQ_REQ_MHZ : Fld := ⟨16, 16⟩
def clkIsland_LOCKED : Fld := ⟨32, 1⟩
def clkIsland_HOLDOVER : Fld := ⟨33, 1⟩
def clkIsland_STRETCHING : Fld := ⟨34, 1⟩
def clkIsland_GLIDING : Fld := ⟨35, 1⟩
-- CTL_CLK_STRETCH_CNT (R85)
def clkStretchCnt_STRETCH_CYCLES : Fld := ⟨0, 48⟩
def clkStretchCnt_EVENTS : Fld := ⟨48, 16⟩
-- CTL_BOOT_STATUS (R140)
def bootStatus_STATE : Fld := ⟨0, 4⟩
def bootStatus_SLOT_USED : Fld := ⟨4, 1⟩
def bootStatus_SLOT_FALLBACK : Fld := ⟨5, 1⟩
def bootStatus_CFG_IGNORED : Fld := ⟨6, 1⟩
def bootStatus_ERASURE_AT_BOOT : Fld := ⟨7, 1⟩
def bootStatus_FAIL_CAUSE : Fld := ⟨8, 8⟩
def bootStatus_FAIL_UNIT : Fld := ⟨16, 8⟩
def bootStatus_STATE_MS : Fld := ⟨32, 32⟩
-- CTL_BOOT_CFG (R141)
def bootCfg_SPLIT_EN : Fld := ⟨0, 1⟩
def bootCfg_BOOT_DS : Fld := ⟨1, 8⟩
def bootCfg_BOOT_DC : Fld := ⟨9, 10⟩
def bootCfg_SLOT_PREF : Fld := ⟨19, 1⟩
-- CTL_BOOT_SVN (R142)
def bootSvn_MIN_SVN : Fld := ⟨0, 32⟩
-- CTL_MEASUREm word w (R139)
def measure_DIGEST : Fld := ⟨0, 64⟩
-- CTL_ALERT (R711)
def alert_ALERTS : Fld := ⟨0, 14⟩
-- CTL_DEBUG_STATUS (R711)
def debugStatus_DEVICE : Fld := ⟨0, 1⟩
def debugStatus_NONCE_HELD : Fld := ⟨1, 1⟩
def debugStatus_OPEN_CTX : Fld := ⟨16, 16⟩
def debugStatus_DENIED : Fld := ⟨32, 32⟩
-- CTL_TRACE_STATUS (R712)
def traceStatus_ACTIVE : Fld := ⟨0, 1⟩
def traceStatus_WRAPPED : Fld := ⟨1, 1⟩
def traceStatus_INDEX : Fld := ⟨2, 30⟩
def traceStatus_DROPPED : Fld := ⟨32, 32⟩
-- CTL_MCTP_STATUS (R712)
def mctpStatus_EID : Fld := ⟨0, 8⟩
def mctpStatus_DYN_ADDR : Fld := ⟨8, 7⟩
def mctpStatus_DISCARDS : Fld := ⟨16, 16⟩
def mctpStatus_EVT_RCVR : Fld := ⟨32, 1⟩
def mctpStatus_UPDATING : Fld := ⟨33, 1⟩
-- CTL_CLUSTER_OWN (R713)
def clusterOwn_CONTEXT : Fld := ⟨0, 8⟩
def clusterOwn_EXCL : Fld := ⟨8, 1⟩
-- CTL_KEY_MAP (R714)
def keyMap_CONTEXT0 : Fld := ⟨0, 8⟩
def keyMap_CONTEXT1 : Fld := ⟨16, 8⟩
def keyMap_CONTEXT2 : Fld := ⟨32, 8⟩
def keyMap_CONTEXT3 : Fld := ⟨48, 8⟩
def keyMap_CTX_KEY0 : Fld := ⟨8, 1⟩
def keyMap_CTX_KEY1 : Fld := ⟨24, 1⟩
def keyMap_CTX_KEY2 : Fld := ⟨40, 1⟩
def keyMap_CTX_KEY3 : Fld := ⟨56, 1⟩
-- CAP_XLT (R496)
def capXlt_VA_BITS : Fld := ⟨0, 8⟩
def capXlt_PA_BITS : Fld := ⟨8, 8⟩
def capXlt_CONTEXTS : Fld := ⟨16, 9⟩
def capXlt_CL_LOG2 : Fld := ⟨25, 4⟩
def capXlt_BASE_LOG2 : Fld := ⟨29, 4⟩
def capXlt_TOWER_LOG2 : Fld := ⟨33, 4⟩
def capXlt_WALKS : Fld := ⟨37, 7⟩
def capXlt_MIG_MAX : Fld := ⟨44, 3⟩
def capXlt_ADV_MAX : Fld := ⟨47, 7⟩
-- XLT_CTX_ROOT (R497)
def xltRoot_OPEN : Fld := ⟨0, 1⟩
def xltRoot_ROOT_LOG2 : Fld := ⟨1, 5⟩
def xltRoot_ROOT : Fld := ⟨12, 40⟩
def xltRoot_ADV_USED : Fld := ⟨56, 7⟩
-- XLT_CTX_EPOCH (R498)
def xltEpoch_ISSUED : Fld := ⟨0, 32⟩
def xltEpoch_DONE : Fld := ⟨32, 32⟩
-- XLT_CTX_FAULT (R499)
def xltFault_KIND : Fld := ⟨0, 3⟩
def xltFault_LEVEL : Fld := ⟨3, 2⟩
def xltFault_ACCESS : Fld := ⟨5, 3⟩
def xltFault_AGENT : Fld := ⟨8, 3⟩
def xltFault_COUNT : Fld := ⟨32, 32⟩
-- XLT_CTX_FAULT_VA (R499)
def xltFaultVa_VA : Fld := ⟨0, 57⟩
-- XLT_CNT_CLR (R501)
def xltCntClr_CLEAR : Fld := ⟨0, 1⟩
-- XLT_CNT_LOOKUP (R500)
-- XLT_CNT_MISS (R500)
-- XLT_CNT_WALK (R500)
-- XLT_CNT_REWALK (R500)
-- XLT_CNT_FAULT (R500)
-- XLT_CNT_INVAL (R500)
-- XLT_CNT_MIG_BYTES (R500)
-- CAP_PWR (R658)
def capPwr_CAP_MIN_W : Fld := ⟨0, 12⟩
def capPwr_CAP_MAX_W : Fld := ⟨12, 12⟩
def capPwr_LEVELS : Fld := ⟨24, 8⟩
def capPwr_HOLD_W : Fld := ⟨32, 8⟩
def capPwr_BRAKE_W : Fld := ⟨40, 9⟩
-- PWR_CFG (R659)
def pwrCfg_CAP_W : Fld := ⟨0, 12⟩
def pwrCfg_SLEW_WPS : Fld := ⟨16, 15⟩
def pwrCfg_THERM_C : Fld := ⟨32, 8⟩
def pwrCfg_SLEW_BAND : Fld := ⟨40, 8⟩
def pwrCfg_ECL_VECTOR : Fld := ⟨48, 16⟩
-- PWR_EC_CFG (R660)
def pwrEcCfg_W_NEED0 : Fld := ⟨0, 8⟩
def pwrEcCfg_HEAT_NEED0 : Fld := ⟨8, 4⟩
def pwrEcCfg_W_NEED1 : Fld := ⟨12, 8⟩
def pwrEcCfg_HEAT_NEED1 : Fld := ⟨20, 4⟩
def pwrEcCfg_W_NEED2 : Fld := ⟨24, 8⟩
def pwrEcCfg_HEAT_NEED2 : Fld := ⟨32, 4⟩
def pwrEcCfg_W_NEED3 : Fld := ⟨36, 8⟩
def pwrEcCfg_HEAT_NEED3 : Fld := ⟨44, 4⟩
def pwrEcCfg_HOLD_MAX : Fld := ⟨48, 16⟩
-- PWR_BOOT_LIMITS (R661)
def pwrBootLimits_BOOT_CAP_W : Fld := ⟨0, 12⟩
def pwrBootLimits_BOOT_SLEW_WPS : Fld := ⟨16, 15⟩
-- PWR_STATUS (R662)
def pwrStatus_L_CAP : Fld := ⟨0, 4⟩
def pwrStatus_L_TOWER : Fld := ⟨4, 16⟩
def pwrStatus_CAP_BIND : Fld := ⟨20, 1⟩
def pwrStatus_THERM_BIND : Fld := ⟨21, 1⟩
def pwrStatus_SLEW_BIND : Fld := ⟨22, 1⟩
def pwrStatus_FILL : Fld := ⟨23, 1⟩
def pwrStatus_ILIMIT : Fld := ⟨24, 1⟩
def pwrStatus_BRAKING : Fld := ⟨25, 1⟩
def pwrStatus_HELD : Fld := ⟨32, 16⟩
def pwrStatus_PREF_W : Fld := ⟨48, 16⟩
-- PWR_SENSE_IN (R663)
def pwrSenseIn_MAIN_MV : Fld := ⟨0, 16⟩
def pwrSenseIn_MAIN_CA : Fld := ⟨16, 16⟩
def pwrSenseIn_BKP_MV : Fld := ⟨32, 16⟩
def pwrSenseIn_BKP_CA : Fld := ⟨48, 16⟩
-- PWR_SENSE_P (R663)
def pwrSenseP_MAIN_W : Fld := ⟨0, 16⟩
def pwrSenseP_BKP_W : Fld := ⟨16, 16⟩
def pwrSenseP_BUS_MV : Fld := ⟨32, 16⟩
def pwrSenseP_FILL_W : Fld := ⟨48, 16⟩
-- PWR_TEMP (R663)
def pwrTemp_COMPUTE_C : Fld := ⟨0, 32⟩
def pwrTemp_BASE_C : Fld := ⟨32, 32⟩
-- PWR_TEMP_AUX (R663)
def pwrTempAux_HOST_C : Fld := ⟨0, 8⟩
def pwrTempAux_INLET_C : Fld := ⟨8, 8⟩
def pwrTempAux_OUTLET_C : Fld := ⟨16, 8⟩
def pwrTempAux_STACK_C : Fld := ⟨24, 8⟩
-- PWR_MODEL (R664)
def pwrModel_GAIN : Fld := ⟨0, 16⟩
def pwrModel_CLAMPED : Fld := ⟨16, 1⟩
def pwrModel_WINDOWS : Fld := ⟨32, 32⟩
-- PWR_E_MAIN (R664)
def pwrEMain_MJ : Fld := ⟨0, 64⟩
-- PWR_E_BKP (R664)
def pwrEBkp_MJ : Fld := ⟨0, 64⟩
-- PWR_E_UNATTR (R664)
def pwrEUnattr_MJ : Fld := ⟨0, 64⟩
-- PWR_SUPPLY (R665)
def pwrSupply_PHASE : Fld := ⟨0, 3⟩
def pwrSupply_EVENTS : Fld := ⟨16, 16⟩
def pwrSupply_BRIDGE_MJ : Fld := ⟨32, 16⟩
def pwrSupply_MIN_BUS_MV : Fld := ⟨48, 16⟩
-- PWR_SUPPLY_T (R665)
def pwrSupplyT_TIME_US : Fld := ⟨0, 48⟩
-- PWR_COEF (R664)
def pwrCoef_PJ : Fld := ⟨0, 32⟩
-- PWR_CNT_CLR (R668)
def pwrCntClr_CLEAR : Fld := ⟨0, 1⟩
-- PWR_CNT_CAP_MS (R667)
-- PWR_CNT_THERM_MS (R667)
-- PWR_CNT_FILL_MJ (R667)
-- PWR_CNT_SLEW_MISS (R667)
-- PWR_CNT_ILIMIT (R667)
-- PWR_CNT_EC_HELD (R667)
-- PWR_CNT_EC_FORCED (R667)
-- PWR_CNT_BRAKE (R667)
-- PWR_CNT_ECLIPSE (R667)
-- PWR_AGE_CFG (R684)
def ageCfg_PERIOD_D : Fld := ⟨0, 8⟩
def ageCfg_GUARD_PS : Fld := ⟨8, 8⟩
def ageCfg_AGE_PS : Fld := ⟨16, 8⟩
def ageCfg_AUTO_FENCE : Fld := ⟨24, 1⟩
def ageCfg_FENCE_ERRS : Fld := ⟨25, 4⟩
-- PWR_AGE_STATUS word 0 (R685)
def ageStatus0_POWERED_H : Fld := ⟨0, 24⟩
def ageStatus0_LAST_H : Fld := ⟨24, 24⟩
def ageStatus0_BUSY : Fld := ⟨48, 1⟩
def ageStatus0_FIXED_MARGINAL : Fld := ⟨49, 1⟩
-- PWR_AGE_STATUS word 1 (R685)
def ageStatus1_VF_CHANGES : Fld := ⟨0, 17⟩
def ageStatus1_FENCE_CHANGES : Fld := ⟨17, 17⟩
def ageStatus1_VF_WORN : Fld := ⟨34, 1⟩
def ageStatus1_FENCE_WORN : Fld := ⟨35, 1⟩
-- PWR_VF word 0 (R686)
def vf0_CODES : Fld := ⟨0, 64⟩
-- PWR_VF word 1 (R686)
def vf1_CODES : Fld := ⟨0, 64⟩
-- PWR_VF word 2 (R686)
def vf2_LMAX : Fld := ⟨0, 4⟩
def vf2_PEND_LMAX : Fld := ⟨4, 4⟩
def vf2_VMAX : Fld := ⟨8, 8⟩
def vf2_SENS : Fld := ⟨16, 8⟩
-- PWR_FENCE word 0 (R687)
def fence0_MXE_FENCED : Fld := ⟨0, 17⟩
def fence0_MXE_PEND : Fld := ⟨17, 17⟩
def fence0_VXE_FENCED : Fld := ⟨34, 8⟩
def fence0_VXE_PEND : Fld := ⟨42, 8⟩
-- PWR_FENCE word 1 (R687)
def fence1_TC_FENCED : Fld := ⟨0, 64⟩
-- PWR_FENCE word 2 (R687)
def fence2_TC_PEND : Fld := ⟨0, 64⟩
-- PWR_FENCE word 3 (R687)
def fence3_TM_FENCED : Fld := ⟨0, 16⟩
def fence3_TM_PEND : Fld := ⟨16, 16⟩
-- PWR_FENCE_LU (R687)
def fenceLu_LU_FENCED : Fld := ⟨0, 18⟩
def fenceLu_LU_PEND : Fld := ⟨18, 18⟩
-- CAP_ERR (R628)
def capErr_RECORDS : Fld := ⟨0, 9⟩
def capErr_QUEUES : Fld := ⟨9, 3⟩
def capErr_INJECT_MAX : Fld := ⟨16, 5⟩
-- ERR_CFG (R628)
def errCfg_OP_LIMIT_US : Fld := ⟨0, 16⟩
def errCfg_CTX_LIMIT_MS : Fld := ⟨16, 16⟩
def errCfg_DEV_QUIESCE_MS : Fld := ⟨32, 16⟩
def errCfg_DEV_RESET_EN : Fld := ⟨48, 1⟩
def errCfg_MEM_RETRIES : Fld := ⟨49, 3⟩
-- ERR_DEV_STATE (R631)
def errDevState_STATE : Fld := ⟨0, 3⟩
def errDevState_CLASS : Fld := ⟨3, 8⟩
-- ERR_LAST_DEVICE word 0 (R631)
def errLast0_RECORD_W0 : Fld := ⟨0, 64⟩
-- ERR_LAST_DEVICE word 1 (R631)
def errLast1_RECORD_W5 : Fld := ⟨0, 64⟩
-- ERR_Q_CFG of queue 4 (R629)
def errQCfgD_VECTOR : Fld := ⟨0, 16⟩
def errQCfgD_INTR_MIN : Fld := ⟨16, 3⟩
def errQCfgD_INTR_EN : Fld := ⟨19, 1⟩
def errQCfgD_ALERT_MIN : Fld := ⟨20, 3⟩
-- ERR_Q_STATUS of queue 4 (R629)
def errQStatusD_HEAD_SEQ : Fld := ⟨0, 32⟩
def errQStatusD_HELD : Fld := ⟨32, 9⟩
def errQStatusD_OVERFLOW : Fld := ⟨41, 1⟩
-- ERR_Q_SEQ of queue 4 (R629)
def errQSeqD_NEXT_SEQ : Fld := ⟨0, 32⟩
def errQSeqD_LOST : Fld := ⟨32, 32⟩
-- ERR_CNT_CLR of the device block (R633)
def errCntClrD_CLEAR : Fld := ⟨0, 1⟩
-- ERR_CNT_RECORDS of the device block (R632)
-- ERR_CNT_REPLAY of the device block (R632)
-- ERR_CNT_RETRY of the device block (R632)
-- ERR_CNT_ESCALATE of the device block (R632)
-- ERR_CNT_POISON of the device block (R632)
-- ERR_RECORD of queue 4 (R630)
def errRecordD_WORD : Fld := ⟨0, 64⟩
-- ERR_Q_CFG of queue k (R629)
def errQCfgT_VECTOR : Fld := ⟨0, 16⟩
def errQCfgT_INTR_MIN : Fld := ⟨16, 3⟩
def errQCfgT_INTR_EN : Fld := ⟨19, 1⟩
def errQCfgT_ALERT_MIN : Fld := ⟨20, 3⟩
-- ERR_Q_STATUS of queue k (R629)
def errQStatusT_HEAD_SEQ : Fld := ⟨0, 32⟩
def errQStatusT_HELD : Fld := ⟨32, 9⟩
def errQStatusT_OVERFLOW : Fld := ⟨41, 1⟩
-- ERR_Q_SEQ of queue k (R629)
def errQSeqT_NEXT_SEQ : Fld := ⟨0, 32⟩
def errQSeqT_LOST : Fld := ⟨32, 32⟩
-- ERR_RECOVERY (R631)
def errRecovery_OPS : Fld := ⟨0, 8⟩
def errRecovery_QUEUES : Fld := ⟨8, 11⟩
def errRecovery_CONTEXTS : Fld := ⟨19, 9⟩
def errRecovery_TOWER_RESET : Fld := ⟨28, 1⟩
-- ERR_CNT_CLR of a tower block (R633)
def errCntClrT_CLEAR : Fld := ⟨0, 1⟩
-- ERR_CNT_RECORDS of a tower block (R632)
-- ERR_CNT_REPLAY of a tower block (R632)
-- ERR_CNT_RETRY of a tower block (R632)
-- ERR_CNT_ESCALATE of a tower block (R632)
-- ERR_CNT_POISON of a tower block (R632)
-- ERR_RECORD of queue k (R630)
def errRecordT_WORD : Fld := ⟨0, 64⟩
-- CAP_MEM_DEV (R432)
def capMemDev_CT_GIB : Fld := ⟨0, 10⟩
def capMemDev_DS_MAX : Fld := ⟨10, 8⟩
-- MEM_ILV_SPLIT (R432)
def ilvSplit_DS : Fld := ⟨0, 8⟩
def ilvSplit_DC : Fld := ⟨8, 10⟩
-- CAP_MEM (R433)
def capMem_STACK_CTLS : Fld := ⟨0, 4⟩
def capMem_BUS_CTLS : Fld := ⟨4, 4⟩
def capMem_STACK_GIB : Fld := ⟨8, 12⟩
def capMem_BUS_GIB : Fld := ⟨20, 12⟩
def capMem_PCH_MARK_MAX : Fld := ⟨32, 4⟩
def capMem_STACK_MARK_MAX : Fld := ⟨36, 6⟩
def capMem_BUS_MARK_MAX : Fld := ⟨42, 2⟩
-- MEM_CFG (R434)
def memCfg_THROTTLE_C : Fld := ⟨0, 8⟩
def memCfg_SCRUB_HOURS : Fld := ⟨8, 8⟩
def memCfg_AUTO_MARK : Fld := ⟨16, 1⟩
def memCfg_MARK_THRESH : Fld := ⟨20, 12⟩
def memCfg_AGE_LOG2 : Fld := ⟨32, 6⟩
def memCfg_MAX0_PCT : Fld := ⟨40, 7⟩
def memCfg_W1 : Fld := ⟨48, 4⟩
def memCfg_W2 : Fld := ⟨52, 4⟩
def memCfg_W3 : Fld := ⟨56, 4⟩
-- MEM_CTL_STATUS (R435)
def memCtlStatus_ENABLED : Fld := ⟨0, 1⟩
def memCtlStatus_KIND : Fld := ⟨1, 1⟩
def memCtlStatus_SELF_REFRESH : Fld := ⟨2, 1⟩
def memCtlStatus_THROTTLED : Fld := ⟨3, 1⟩
def memCtlStatus_LNT_PAUSED : Fld := ⟨4, 1⟩
def memCtlStatus_TEMP_C : Fld := ⟨8, 8⟩
def memCtlStatus_MAX_TEMP_C : Fld := ⟨16, 8⟩
def memCtlStatus_RATE_PCT : Fld := ⟨24, 7⟩
def memCtlStatus_GIB : Fld := ⟨32, 12⟩
-- MEM_ERASE_STAT (R436)
def memEraseStat_MARKS : Fld := ⟨0, 6⟩
def memEraseStat_CHANGES : Fld := ⟨16, 17⟩
def memEraseStat_WORN : Fld := ⟨33, 1⟩
-- MEM_CNT_CLR (R438)
def memCntClr_CLEAR : Fld := ⟨0, 1⟩
-- MEM_CNT_RD (R437)
-- MEM_CNT_WR (R437)
-- MEM_CNT_RMW (R437)
-- MEM_CNT_CORR (R437)
-- MEM_CNT_UNCORR (R437)
-- MEM_CNT_POISON_RD (R437)
-- MEM_CNT_SCRUB (R437)
-- MEM_CNT_ODE (R437)
-- MEM_CNT_CLASS0 (R437)
-- MEM_CNT_THROTTLE (R437)
-- MEM_CNT_AGED (R437)
-- MEM_ERASE_LIST (R436)
def memEraseList_POSITION : Fld := ⟨0, 30⟩
def memEraseList_VALID : Fld := ⟨63, 1⟩
-- CAP_MXE (R175)
def capMxe_PHYSICAL : Fld := ⟨0, 8⟩
def capMxe_LOGICAL : Fld := ⟨8, 8⟩
def capMxe_ROWS : Fld := ⟨16, 9⟩
def capMxe_COLS : Fld := ⟨25, 9⟩
def capMxe_ACC_ROWS : Fld := ⟨34, 9⟩
def capMxe_BANKS : Fld := ⟨43, 3⟩
def capMxe_DEPTH : Fld := ⟨46, 3⟩
def capMxe_KMAX : Fld := ⟨49, 14⟩
-- MXE_DIE_CFG (R176)
def mxeDieCfg_REPLAY_STEP : Fld := ⟨0, 4⟩
def mxeDieCfg_HOLD_TIMEOUT_LOG2 : Fld := ⟨8, 5⟩
-- MXE_STATUS (R177)
def mxeStatus_STATE : Fld := ⟨0, 3⟩
def mxeStatus_LENT : Fld := ⟨3, 1⟩
def mxeStatus_LOGICAL_MX : Fld := ⟨4, 2⟩
def mxeStatus_LOGICAL_C : Fld := ⟨6, 2⟩
def mxeStatus_ASSIGNED : Fld := ⟨8, 1⟩
def mxeStatus_ACCEPTED : Fld := ⟨16, 3⟩
def mxeStatus_IDLE_PASS : Fld := ⟨19, 1⟩
def mxeStatus_LAST_ANCHOR : Fld := ⟨32, 16⟩
-- MXE_PORT (R178)
def mxePort_OWNER_TC : Fld := ⟨0, 4⟩
def mxePort_OWNER_GROUP : Fld := ⟨4, 3⟩
def mxePort_OWNER_THREAD : Fld := ⟨7, 5⟩
def mxePort_OWNER_VALID : Fld := ⟨12, 1⟩
def mxePort_LAST_STATUS : Fld := ⟨13, 3⟩
def mxePort_ISSUES : Fld := ⟨16, 32⟩
def mxePort_REFUSED : Fld := ⟨48, 16⟩
-- MXE_CNT_CLR (R180)
def mxeCntClr_CLEAR : Fld := ⟨0, 1⟩
-- MXE_CNT_BUSY (R179)
-- MXE_CNT_PROD (R179)
-- MXE_CNT_TILES (R179)
-- MXE_CNT_REPLAY (R179)
-- MXE_CNT_SQUASH (R179)
-- MXE_CNT_SAT (R179)
-- MXE_CNT_WAIT_W (R179)
-- MXE_CNT_HOLD (R179)
-- MXE_CNT_IDLE (R179)
-- MXE_BEAM_CFG (R264)
def beamCfg_WAIT_TIMEOUT_LOG2 : Fld := ⟨0, 6⟩
def beamCfg_BREAK_EN : Fld := ⟨6, 1⟩
-- MXE_BEAM_STATUS (R265)
def beamStatus_STATE : Fld := ⟨0, 3⟩
def beamStatus_BANK : Fld := ⟨3, 1⟩
def beamStatus_LOADING : Fld := ⟨4, 1⟩
def beamStatus_CONTEXT : Fld := ⟨8, 8⟩
def beamStatus_STRETCH_EXT : Fld := ⟨16, 1⟩
def beamStatus_PC : Fld := ⟨32, 17⟩
-- MXE_BEAM_WAIT (R266)
def beamWait_OBJ : Fld := ⟨0, 16⟩
def beamWait_COND : Fld := ⟨16, 3⟩
def beamWait_VALUE : Fld := ⟨32, 32⟩
-- MXE_BEAM_LC (R267)
def beamLc_LC0 : Fld := ⟨0, 16⟩
def beamLc_LC1 : Fld := ⟨16, 16⟩
def beamLc_LC2 : Fld := ⟨32, 16⟩
def beamLc_LC3 : Fld := ⟨48, 16⟩
-- MXE_BEAM_MARK (R268)
def beamMark_VALUE : Fld := ⟨0, 16⟩
def beamMark_ADDR : Fld := ⟨32, 17⟩
-- MXE_BEAM_STOP (R268)
def beamStop_CAUSE : Fld := ⟨0, 4⟩
def beamStop_ADDR : Fld := ⟨32, 17⟩
-- MXE_BEAM_STRETCH (R269)
def beamStretch_CYCLES : Fld := ⟨0, 32⟩
def beamStretch_EXT : Fld := ⟨32, 32⟩
-- MXE_BEAM_CNT_CYCLES (R270)
-- MXE_BEAM_CNT_WORDS (R270)
-- MXE_BEAM_CNT_WAIT (R270)
-- MXE_BEAM_CNT_SLIP_DET (R270)
-- MXE_BEAM_CNT_SLIP_EXT (R270)
-- MXE_BEAM_CNT_PAUSE (R270)
-- MXE_BEAM_CNT_SKIP (R270)
-- MXE_BEAM_CNT_FINISH (R270)
-- MXE_BEAM_BANK (R271)
def beamBank_VALID : Fld := ⟨0, 1⟩
def beamBank_IN_USE : Fld := ⟨1, 1⟩
def beamBank_CONTEXT : Fld := ⟨8, 8⟩
def beamBank_WORD_BYTES : Fld := ⟨16, 20⟩
def beamBank_DESC_COUNT : Fld := ⟨48, 13⟩
-- MXE_LEND (R272)
def mxeLend_MXE_MASK : Fld := ⟨0, 4⟩
def mxeLend_VXE_MASK : Fld := ⟨4, 2⟩
def mxeLend_TC : Fld := ⟨6, 4⟩
def mxeLend_GROUP : Fld := ⟨10, 3⟩
def mxeLend_THREAD : Fld := ⟨13, 5⟩
def mxeLend_ACTIVE : Fld := ⟨18, 1⟩
def mxeLend_SPAN_LEFT : Fld := ⟨32, 16⟩
-- MXE_REMAP (R273)
def mxeRemap_PHYS : Fld := ⟨0, 5⟩
def mxeRemap_VALID : Fld := ⟨5, 1⟩
-- Scale record word 0 (R206)
def scale0_ANCHOR : Fld := ⟨0, 16⟩
def scale0_OANCH : Fld := ⟨16, 16⟩
def scale0_MARGIN : Fld := ⟨32, 4⟩
def scale0_MODE : Fld := ⟨36, 2⟩
def scale0_XEN : Fld := ⟨38, 1⟩
def scale0_STRICT : Fld := ⟨39, 1⟩
def scale0_REPLAYED : Fld := ⟨40, 1⟩
def scale0_RERUN : Fld := ⟨41, 1⟩
def scale0_SAT : Fld := ⟨42, 1⟩
def scale0_LAST_REPLAYED : Fld := ⟨43, 1⟩
def scale0_LAST_RERUN : Fld := ⟨44, 1⟩
def scale0_LAST_SAT : Fld := ⟨45, 1⟩
def scale0_STEPS : Fld := ⟨48, 16⟩
-- Scale record word 1 (R206)
def scale1_PHIST : Fld := ⟨0, 32⟩
def scale1_OHIST : Fld := ⟨32, 32⟩
-- Scale record word 2 (R206)
def scale2_STEP_PMAX : Fld := ⟨0, 8⟩
def scale2_STEP_OMAX : Fld := ⟨8, 8⟩
def scale2_EREQ_V : Fld := ⟨16, 1⟩
def scale2_OREQ_V : Fld := ⟨17, 1⟩
def scale2_STEP_EREQ : Fld := ⟨32, 16⟩
def scale2_STEP_OREQ : Fld := ⟨48, 16⟩
-- Scale record word 3 (R206)
def scale3_TILES : Fld := ⟨0, 48⟩
-- CAP_VXE (R299)
def capVxe_ENGINES : Fld := ⟨0, 8⟩
def capVxe_LANES_8 : Fld := ⟨8, 11⟩
def capVxe_LANES_16 : Fld := ⟨19, 11⟩
def capVxe_LANES_32 : Fld := ⟨30, 11⟩
def capVxe_LANES_64 : Fld := ⟨41, 11⟩
def capVxe_LATCHES : Fld := ⟨52, 3⟩
def capVxe_BUFFERS : Fld := ⟨55, 2⟩
def capVxe_CHAIN_MAX : Fld := ⟨57, 5⟩
-- VXE_STATUS (R300)
def vxeStatus_STATE : Fld := ⟨0, 3⟩
def vxeStatus_LENT : Fld := ⟨3, 1⟩
def vxeStatus_OPEN_BY_THREAD : Fld := ⟨4, 1⟩
def vxeStatus_OPEN_COUNT : Fld := ⟨5, 5⟩
def vxeStatus_LAST_PORT : Fld := ⟨10, 3⟩
def vxeStatus_PASS_LEFT : Fld := ⟨16, 25⟩
-- VXE_CNT_CLR (R302)
def vxeCntClr_CLEAR : Fld := ⟨0, 1⟩
-- VXE_CNT_STREAM (R301)
-- VXE_CNT_ELEMS (R301)
-- VXE_CNT_CHAINS (R301)
-- VXE_CNT_OOR (R301)
-- VXE_CNT_HOLD (R301)
-- VXE_CNT_POISON (R301)
-- VXE_CNT_SR (R301)
-- CAP_TC (R334)
def capTc_CORES : Fld := ⟨0, 8⟩
def capTc_SLOTS : Fld := ⟨8, 4⟩
def capTc_LANES : Fld := ⟨12, 6⟩
def capTc_L1_KIB : Fld := ⟨18, 8⟩
def capTc_BARRIERS : Fld := ⟨26, 3⟩
def capTc_FRAG : Fld := ⟨29, 1⟩
-- TC_DIE_CFG (R335)
def tcDieCfg_BAR_TIMEOUT_LOG2 : Fld := ⟨0, 6⟩
def tcDieCfg_GWAIT_TIMEOUT_LOG2 : Fld := ⟨8, 6⟩
def tcDieCfg_CONV_WAIT_LOG2 : Fld := ⟨16, 4⟩
def tcDieCfg_REPACK_EN : Fld := ⟨20, 1⟩
-- TC_STATUS (R336)
def tcStatus_RESIDENT : Fld := ⟨0, 8⟩
def tcStatus_HALTED : Fld := ⟨8, 8⟩
def tcStatus_FAULTED : Fld := ⟨16, 8⟩
def tcStatus_FENCED : Fld := ⟨24, 1⟩
def tcStatus_FRAG_BUSY : Fld := ⟨25, 1⟩
-- TC_CNT_CLR (R339)
def tcCntClr_CLEAR : Fld := ⟨0, 1⟩
-- TC_CNT_ISSUE (R338)
-- TC_CNT_THREAD (R338)
-- TC_CNT_DIVERGE (R338)
-- TC_CNT_REPACK (R338)
-- TC_CNT_SPIN_SPLIT (R338)
-- TC_CNT_FRAG (R338)
-- TC_CNT_CONV_TO (R338)
-- TC_CNT_IDLE (R338)
-- TC_GROUP_STATE word 0 (R337)
def tcGroup0_STATE : Fld := ⟨0, 3⟩
def tcGroup0_CONTEXT : Fld := ⟨8, 8⟩
def tcGroup0_CAUSE : Fld := ⟨16, 4⟩
def tcGroup0_SUBGROUPS : Fld := ⟨20, 6⟩
def tcGroup0_FAULT_LANE : Fld := ⟨27, 5⟩
def tcGroup0_LAUNCH_IDX : Fld := ⟨32, 24⟩
-- TC_GROUP_STATE word 1 (R337)
def tcGroup1_ENDED : Fld := ⟨0, 32⟩
def tcGroup1_SPINNING : Fld := ⟨32, 32⟩
-- TC_GROUP_STATE word 2 (R337)
def tcGroup2_BAR_MASK : Fld := ⟨0, 32⟩
def tcGroup2_BAR_ARRIVED : Fld := ⟨32, 32⟩
-- TC_GROUP_STATE word 3 (R337)
def tcGroup3_FAULT_PC : Fld := ⟨0, 64⟩
-- CAP_SP (R360)
def capSp_BANKS : Fld := ⟨0, 8⟩
def capSp_BANK_KIB : Fld := ⟨8, 10⟩
def capSp_MOVERS : Fld := ⟨18, 4⟩
def capSp_QUEUE : Fld := ⟨22, 4⟩
def capSp_TM_BYTES : Fld := ⟨26, 10⟩
-- TC_SP_CNT_CLR (R363)
def tcSpCntClr_CLEAR : Fld := ⟨0, 1⟩
-- TC_SP_CNT_CORR (R362)
-- TC_SP_CNT_UNCORR (R362)
-- TC_SP_CNT_AMO_RETRY (R362)
-- TC_SP_CNT_SIDE_WAIT (R362)
-- TC_TM_STATUS (R361)
def tmStatus_STATE : Fld := ⟨0, 3⟩
def tmStatus_QUEUED : Fld := ⟨3, 4⟩
def tmStatus_CONTEXT : Fld := ⟨8, 8⟩
def tmStatus_CUR_DESC : Fld := ⟨16, 19⟩
def tmStatus_CHAIN_POS : Fld := ⟨48, 13⟩
-- TC_TM_PROGRESS (R361)
def tmProgress_ELEMS_DONE : Fld := ⟨0, 48⟩
-- TC_TM_CNT_CLR (R363)
def tcTmCntClr_CLEAR : Fld := ⟨0, 1⟩
-- TC_TM_CNT_BYTES_RD (R362)
-- TC_TM_CNT_BYTES_WR (R362)
-- TC_TM_CNT_DESC (R362)
-- TC_TM_CNT_HOLD (R362)
-- TC_TM_CNT_OOR (R362)
-- TC_TM_CNT_RETRY (R362)
-- TC_TM_CNT_POISON (R362)
-- CAP_L2 (R398)
def capL2_SLICES : Fld := ⟨0, 8⟩
def capL2_SLICE_KIB : Fld := ⟨8, 14⟩
def capL2_WAYS : Fld := ⟨22, 5⟩
def capL2_LINE_BYTES : Fld := ⟨27, 8⟩
def capL2_RED_SLOTS : Fld := ⟨35, 7⟩
def capL2_MISS_ENTRIES : Fld := ⟨42, 9⟩
def capL2_PIN_MAX : Fld := ⟨51, 4⟩
def capL2_DIR_LOG2 : Fld := ⟨55, 4⟩
-- L2_CFG (R399)
def l2Cfg_RED_STALL_LOG2 : Fld := ⟨0, 6⟩
-- L2_SLICE_STATUS (R400)
def l2SliceStatus_PIN_WAYS : Fld := ⟨0, 4⟩
def l2SliceStatus_PIN_BUSY : Fld := ⟨4, 1⟩
def l2SliceStatus_OPEN_SLOTS : Fld := ⟨8, 7⟩
def l2SliceStatus_RED_STALLED : Fld := ⟨15, 1⟩
def l2SliceStatus_MISS_USED : Fld := ⟨16, 9⟩
def l2SliceStatus_RANGE_BUSY : Fld := ⟨25, 1⟩
def l2SliceStatus_DIR_USED : Fld := ⟨32, 15⟩
-- L2_CNT_CLR (R402)
def l2CntClr_CLEAR : Fld := ⟨0, 1⟩
-- L2_CNT_HIT (R401)
-- L2_CNT_MISS (R401)
-- L2_CNT_MERGE (R401)
-- L2_CNT_BYPASS (R401)
-- L2_CNT_WB (R401)
-- L2_CNT_RMW (R401)
-- L2_CNT_RED (R401)
-- L2_CNT_DRAIN (R401)
-- L2_CNT_RED_STALL (R401)
-- L2_CNT_CORR (R401)
-- L2_CNT_UNCORR (R401)
-- L2_CNT_DIR_RECALL (R401)
-- L2_CNT_DIR_BACKINV (R401)
-- L2_RED_TABLE (R403)
def l2RedTable_VALID : Fld := ⟨0, 1⟩
def l2RedTable_OP : Fld := ⟨1, 4⟩
def l2RedTable_FMT : Fld := ⟨5, 3⟩
def l2RedTable_RND : Fld := ⟨8, 2⟩
def l2RedTable_ANCHOR : Fld := ⟨16, 16⟩
-- CAP_LNT (R466)
def capLnt_UNITS : Fld := ⟨0, 8⟩
def capLnt_BUF_KIB : Fld := ⟨8, 9⟩
def capLnt_QUERIES : Fld := ⟨17, 5⟩
def capLnt_DMAX : Fld := ⟨22, 9⟩
def capLnt_KMAX : Fld := ⟨31, 9⟩
def capLnt_OPS : Fld := ⟨40, 7⟩
def capLnt_QUEUE : Fld := ⟨47, 4⟩
-- CAP_LNT_UNIT (R467)
def capLntUnit_UNIT_ID : Fld := ⟨0, 7⟩
def capLntUnit_KIND : Fld := ⟨7, 1⟩
def capLntUnit_BUF_KIB : Fld := ⟨8, 9⟩
-- LNT_STATUS (R468)
def lntStatus_STATE : Fld := ⟨0, 3⟩
def lntStatus_QUEUED : Fld := ⟨3, 4⟩
def lntStatus_CONTEXT : Fld := ⟨8, 8⟩
def lntStatus_PROG : Fld := ⟨16, 4⟩
-- LNT_PROGRESS (R468)
def lntProgress_NEXT_KEY : Fld := ⟨0, 32⟩
-- LNT_CNT_CLR (R470)
def lntCntClr_CLEAR : Fld := ⟨0, 1⟩
-- LNT_CNT_BYTES (R469)
-- LNT_CNT_RECORDS (R469)
-- LNT_CNT_REQS (R469)
-- LNT_CNT_PAUSE (R469)
-- LNT_CNT_POISON (R469)
-- LNT_CNT_BUF_CORR (R469)
-- LNT_CNT_RESULT (R469)
-- LNT_CNT_WAIT (R469)
-- CAP_SYN (R527)
def capSyn_OBJECTS : Fld := ⟨0, 16⟩
def capSyn_QUEUES : Fld := ⟨16, 12⟩
-- SYN_CFG (R527)
def synCfg_QWAIT_TIMEOUT_LOG2 : Fld := ⟨0, 6⟩
-- SYN_CNT_CLR (R531)
def synCntClr_CLEAR : Fld := ⟨0, 1⟩
-- SYN_CNT_OPS (R530)
-- SYN_CNT_QUERY (R530)
-- SYN_CNT_REFUSED (R530)
-- SYN_CNT_NOTIFY (R530)
-- SYN_OBJ_STATE word 0 (R528)
def synObj0_TYPE : Fld := ⟨0, 2⟩
def synObj0_PEER_EN : Fld := ⟨2, 1⟩
def synObj0_NOTIFY_ARMED : Fld := ⟨3, 1⟩
def synObj0_DOORBELL : Fld := ⟨4, 1⟩
def synObj0_CONTEXT : Fld := ⟨8, 8⟩
def synObj0_VECTOR : Fld := ⟨16, 16⟩
def synObj0_COUNT : Fld := ⟨32, 16⟩
def synObj0_WAITERS : Fld := ⟨48, 16⟩
-- SYN_OBJ_STATE word 1 (R528)
def synObj1_VALUE : Fld := ⟨0, 32⟩
def synObj1_ARRIVED : Fld := ⟨32, 32⟩
-- SYN_Q_CFG (R529)
def synQCfg_IN_USE : Fld := ⟨0, 1⟩
def synQCfg_SIZE_LOG2 : Fld := ⟨5, 5⟩
def synQCfg_EC : Fld := ⟨10, 2⟩
def synQCfg_SLOT_EN : Fld := ⟨12, 1⟩
def synQCfg_CONTEXT : Fld := ⟨16, 8⟩
def synQCfg_DOORBELL : Fld := ⟨24, 16⟩
def synQCfg_SLOT_OBJ : Fld := ⟨40, 16⟩
-- SYN_Q_STATUS (R529)
def synQStatus_STATE : Fld := ⟨0, 2⟩
def synQStatus_TAKEN : Fld := ⟨32, 32⟩
-- SYN_Q_STOP (R529)
def synQStop_ENTRY : Fld := ⟨0, 32⟩
def synQStop_CAUSE : Fld := ⟨32, 4⟩
def synQStop_CANCELLED : Fld := ⟨48, 16⟩
-- CAP_FAB (R595)
def capFab_PORTS : Fld := ⟨0, 4⟩
def capFab_VCS : Fld := ⟨4, 4⟩
def capFab_TAG_SLOTS : Fld := ⟨8, 8⟩
def capFab_COLLS : Fld := ⟨16, 8⟩
def capFab_FANOUT_MAX : Fld := ⟨24, 5⟩
def capFab_REPLAY_KIB : Fld := ⟨29, 10⟩
-- FAB_CFG (R596)
def fabCfg_DRAIN_MS : Fld := ⟨0, 16⟩
def fabCfg_LIFE : Fld := ⟨16, 8⟩
def fabCfg_E2E_US : Fld := ⟨24, 16⟩
def fabCfg_E2E_RETRIES : Fld := ⟨40, 4⟩
def fabCfg_JOIN_MS : Fld := ⟨44, 12⟩
def fabCfg_ECL_PORT0 : Fld := ⟨56, 4⟩
def fabCfg_ECL_PORT1 : Fld := ⟨60, 4⟩
-- FAB_DEV_STATUS (R597)
def fabDevStatus_ID : Fld := ⟨0, 22⟩
def fabDevStatus_PART : Fld := ⟨22, 2⟩
def fabDevStatus_MEMBER_TAG : Fld := ⟨24, 20⟩
def fabDevStatus_MEMBER_SLOT : Fld := ⟨44, 6⟩
def fabDevStatus_CONTEXT : Fld := ⟨50, 8⟩
def fabDevStatus_FORCED : Fld := ⟨58, 1⟩
-- FAB_MGMT_CFG (R597)
def fabMgmtCfg_SRC62 : Fld := ⟨0, 22⟩
def fabMgmtCfg_SRC63 : Fld := ⟨32, 22⟩
-- FAB_MGMT_STATUS (R597)
def fabMgmtStatus_AGG_ID : Fld := ⟨0, 22⟩
def fabMgmtStatus_AGGREGATING : Fld := ⟨22, 1⟩
def fabMgmtStatus_CHILDREN : Fld := ⟨23, 7⟩
def fabMgmtStatus_LOST : Fld := ⟨30, 7⟩
-- FAB_TAG (R598)
def fabTag_TAG : Fld := ⟨0, 20⟩
def fabTag_ROLE : Fld := ⟨20, 2⟩
def fabTag_CONTEXT : Fld := ⟨22, 8⟩
def fabTag_CLEARING : Fld := ⟨30, 1⟩
def fabTag_ENTRIES : Fld := ⟨32, 23⟩
-- FAB_FLARE_STATUS word 0 (R599)
def flareStatus0_FLARE_ID : Fld := ⟨0, 32⟩
def flareStatus0_PHASE : Fld := ⟨32, 3⟩
def flareStatus0_ROOT : Fld := ⟨35, 1⟩
def flareStatus0_OVERFLOW : Fld := ⟨36, 1⟩
def flareStatus0_NENT : Fld := ⟨37, 7⟩
def flareStatus0_TAG : Fld := ⟨44, 20⟩
-- FAB_FLARE_STATUS word 1 (R599)
def flareStatus1_REACHED : Fld := ⟨0, 24⟩
def flareStatus1_MEMBERS : Fld := ⟨24, 24⟩
-- FAB_FLARE_UNREACHED (R599)
def flareUnreached_ENTRY : Fld := ⟨0, 48⟩
def flareUnreached_VALID : Fld := ⟨63, 1⟩
-- FAB_PORT_CFG (R600)
def portCfg_MODE : Fld := ⟨0, 2⟩
def portCfg_MEDIA : Fld := ⟨2, 2⟩
-- FAB_PORT_STATUS (R600)
def portStatus_STATE : Fld := ⟨0, 3⟩
def portStatus_FAILED : Fld := ⟨3, 1⟩
def portStatus_LANES_UP : Fld := ⟨8, 8⟩
def portStatus_PEER_ID : Fld := ⟨16, 22⟩
-- FAB_PORT_CNT_CLR (R603)
def portCntClr_CLEAR : Fld := ⟨0, 1⟩
-- FAB_PORT_CNT_TX_PKT (R601)
-- FAB_PORT_CNT_RX_PKT (R601)
-- FAB_PORT_CNT_TX_BYTES (R601)
-- FAB_PORT_CNT_RX_BYTES (R601)
-- FAB_PORT_CNT_REPLAY (R601)
-- FAB_PORT_CNT_TAGDROP (R601)
-- FAB_PORT_CNT_NOROUTE (R601)
-- FAB_PORT_CNT_LIFEDROP (R601)
-- FAB_PORT_CNT_CRC (R601)
-- FAB_COLL_STATUS (R602)
def collStatus_MODE : Fld := ⟨0, 2⟩
def collStatus_STATE : Fld := ⟨2, 2⟩
def collStatus_CONTEXT : Fld := ⟨8, 8⟩
def collStatus_STEPS : Fld := ⟨16, 32⟩
def collStatus_NCHILD : Fld := ⟨48, 5⟩
-- FAB_CNT_CLR (R603)
def fabCntClr_CLEAR : Fld := ⟨0, 1⟩
-- FAB_CNT_E2E_RETX (R601)
-- FAB_CNT_E2E_FAIL (R601)
-- FAB_CNT_PEER_FULL (R601)
-- FAB_CNT_LOCALDROP (R601)
-- FAB_LINK_STATUS (R551)
def linkStatus_STATE : Fld := ⟨0, 3⟩
def linkStatus_DEGRADED : Fld := ⟨3, 1⟩
def linkStatus_ROUTED_AROUND : Fld := ⟨4, 1⟩
def linkStatus_MODULES_UP : Fld := ⟨8, 16⟩
def linkStatus_HALF_WIDTH : Fld := ⟨24, 16⟩
def linkStatus_SPARES_USED : Fld := ⟨40, 8⟩
-- FAB_LINK_CNT (R552)
def linkCnt_REPLAYS : Fld := ⟨0, 32⟩
def linkCnt_RETRAINS : Fld := ⟨32, 16⟩
-- FAB_BOND_STATUS (R553)
def bondStatus_CHANNELS_UP : Fld := ⟨0, 32⟩
def bondStatus_UP_COUNT : Fld := ⟨32, 6⟩
def bondStatus_FENCED : Fld := ⟨38, 1⟩
def bondStatus_PADS_REPAIRED : Fld := ⟨40, 10⟩
-- FAB_BOND_CNT (R552)
def bondCnt_REPLAYS : Fld := ⟨0, 32⟩
def bondCnt_RETRAINS : Fld := ⟨32, 16⟩
-- CTL_HOST_STATUS (R554)
def hostStatus_HOST_LINKS_UP : Fld := ⟨0, 2⟩
def hostStatus_SERVICE_ONLY : Fld := ⟨2, 1⟩
-- CTL_HC_ENTRY (R554)
def hcEntry_ADDR : Fld := ⟨2, 62⟩
-- CTL_HC_RELEASE (R554)
def hcRelease_MASK : Fld := ⟨0, 64⟩
-- CTL_HC_RUNNING (R554)
def hcRunning_MASK : Fld := ⟨0, 64⟩
-- CTL_D2D_STATUS (R551)
def d2dStatus_STATE : Fld := ⟨0, 3⟩
def d2dStatus_DEGRADED : Fld := ⟨3, 1⟩
def d2dStatus_ROUTED_AROUND : Fld := ⟨4, 1⟩
def d2dStatus_MODULES_UP : Fld := ⟨8, 16⟩
def d2dStatus_HALF_WIDTH : Fld := ⟨24, 16⟩
def d2dStatus_SPARES_USED : Fld := ⟨40, 8⟩
-- CTL_D2D_CNT (R552)
def d2dCnt_REPLAYS : Fld := ⟨0, 32⟩
def d2dCnt_RETRAINS : Fld := ⟨32, 16⟩
-- CTL_PE_CFG (R555)
def peCfg_MAX_SPEED : Fld := ⟨0, 3⟩
def peCfg_MAX_WIDTH : Fld := ⟨3, 5⟩
def peCfg_P2P_EN : Fld := ⟨8, 1⟩
-- CTL_PE_STATUS (R555)
def peStatus_SPEED : Fld := ⟨0, 3⟩
def peStatus_WIDTH : Fld := ⟨3, 5⟩
def peStatus_UP : Fld := ⟨8, 1⟩
def peStatus_FLIT : Fld := ⟨9, 1⟩
def peStatus_UR_COUNT : Fld := ⟨32, 32⟩
-- CTL_PE_OUT_BASE (R555)
def peOutBase_BASE : Fld := ⟨28, 36⟩
-- CTL_PE_MSI_BASE (R555)
def peMsiBase_BASE : Fld := ⟨18, 46⟩
-- CTL_PE_INWIN (R556)
def peInwin_EN : Fld := ⟨0, 1⟩
def peInwin_RD_EN : Fld := ⟨1, 1⟩
def peInwin_WR_EN : Fld := ⟨2, 1⟩
def peInwin_SIZE_LOG2 : Fld := ⟨6, 6⟩
def peInwin_BASE : Fld := ⟨12, 40⟩

end F

/-! The table. -/

/-- Rows 0 to 19 of the register table. -/
def regRows0 : List RegRow := [
  ⟨"CTL_ID word w", 0xe0000000000, [(0x8, 4)], .readOnly,
    [⟨⟨0, 64⟩, .ro⟩],
    fun part i => part.idWord (i.getD 0 0)⟩,
  ⟨"CTL_SERIAL", 0xe0000000020, [], .readOnly,
    [⟨⟨0, 64⟩, .ro⟩],
    fun part _ => part.serial⟩,
  ⟨"CAP_DEV", 0xe0000000040, [], .readOnly,
    [⟨⟨0, 8⟩, .ro⟩, ⟨⟨8, 8⟩, .ro⟩, ⟨⟨16, 8⟩, .ro⟩, ⟨⟨24, 8⟩, .ro⟩, ⟨⟨32, 12⟩, .ro⟩, ⟨⟨44, 12⟩, .ro⟩, ⟨⟨56, 8⟩, .ro⟩],
    fun part _ => part.capDev⟩,
  ⟨"CTL_COMMIT_STAMP", 0xe0000000048, [], .readOnly,
    [⟨⟨0, 64⟩, .ro⟩],
    fun _ _ => 0x0⟩,
  ⟨"CTL_SHADOW_USE", 0xe0000000050, [], .readOnly,
    [⟨⟨0, 15⟩, .ro⟩, ⟨⟨16, 7⟩, .ro⟩],
    fun _ _ => 0x0⟩,
  ⟨"CTL_DIRECT_STORE_CNT", 0xe0000000058, [], .readOnly,
    [⟨⟨0, 32⟩, .ro⟩],
    fun _ _ => 0x0⟩,
  ⟨"CTL_SB_STATUS", 0xe0000000100, [], .immediate,
    [⟨⟨0, 1⟩, .ro⟩, ⟨⟨1, 1⟩, .ro⟩, ⟨⟨2, 1⟩, .rw1c⟩, ⟨⟨3, 1⟩, .ro⟩, ⟨⟨4, 1⟩, .ro⟩, ⟨⟨5, 1⟩, .ro⟩, ⟨⟨6, 1⟩, .ro⟩, ⟨⟨7, 1⟩, .ro⟩, ⟨⟨8, 4⟩, .ro⟩, ⟨⟨16, 16⟩, .ro⟩],
    fun _ _ => 0x0⟩,
  ⟨"CTL_RESET_CAUSE", 0xe0000000108, [], .readOnly,
    [⟨⟨0, 4⟩, .ro⟩, ⟨⟨16, 16⟩, .ro⟩],
    fun _ _ => 0x0⟩,
  ⟨"CTL_CH_CFG", 0xe0000010000, [(0x100, 64)], .immediate,
    [⟨⟨0, 2⟩, .ro⟩, ⟨⟨2, 1⟩, .rw⟩, ⟨⟨3, 1⟩, .rw⟩, ⟨⟨4, 2⟩, .rw⟩, ⟨⟨32, 16⟩, .rw⟩],
    fun _ i => resetChCfg (i.getD 0 0)⟩,
  ⟨"CTL_CH_CMD_BASE", 0xe0000010008, [(0x100, 64)], .immediate,
    [⟨⟨0, 5⟩, .rw⟩, ⟨⟨12, 40⟩, .rw⟩],
    fun _ _ => 0x0⟩,
  ⟨"CTL_CH_CMD_PTR", 0xe0000010010, [(0x100, 64)], .immediate,
    [⟨⟨0, 17⟩, .rw⟩, ⟨⟨32, 17⟩, .ro⟩],
    fun _ _ => 0x0⟩,
  ⟨"CTL_CH_RPL_BASE", 0xe0000010018, [(0x100, 64)], .immediate,
    [⟨⟨0, 5⟩, .rw⟩, ⟨⟨12, 40⟩, .rw⟩],
    fun _ _ => 0x0⟩,
  ⟨"CTL_CH_RPL_PTR", 0xe0000010020, [(0x100, 64)], .immediate,
    [⟨⟨0, 17⟩, .rw⟩, ⟨⟨32, 17⟩, .ro⟩],
    fun _ _ => 0x0⟩,
  ⟨"CTL_CH_STATUS", 0xe0000010028, [(0x100, 64)], .immediate,
    [⟨⟨0, 1⟩, .ro⟩, ⟨⟨1, 1⟩, .rw1c⟩, ⟨⟨2, 1⟩, .ro⟩, ⟨⟨3, 1⟩, .rw1c⟩, ⟨⟨16, 16⟩, .ro⟩, ⟨⟨32, 11⟩, .ro⟩],
    fun _ _ => 0x0⟩,
  ⟨"CTL_CH_ILLEGAL", 0xe0000010030, [(0x100, 64)], .readOnly,
    [⟨⟨0, 32⟩, .ro⟩, ⟨⟨32, 16⟩, .ro⟩, ⟨⟨48, 3⟩, .ro⟩],
    fun _ _ => 0x0⟩,
  ⟨"CTL_CH_PERMIT", 0xe0000010038, [(0x100, 64)], .staged,
    [⟨⟨0, 16⟩, .rws⟩],
    fun _ i => resetChPermit (i.getD 0 0)⟩,
  ⟨"CTL_PERS_WEAR", 0xe0000020000, [(0x8, 4096)], .readOnly,
    [⟨⟨0, 17⟩, .ro⟩, ⟨⟨17, 1⟩, .ro⟩],
    fun _ _ => 0x0⟩,
  ⟨"CTL_CLK_DROOP", 0xe0000030000, [(0x8, 9)], .staged,
    [⟨⟨0, 8⟩, .rws⟩, ⟨⟨8, 4⟩, .rws⟩],
    fun _ _ => 0x828⟩,
  ⟨"CTL_CLK_ISLAND", 0xe0000040000, [(0x8, 4608)], .immediate,
    [⟨⟨0, 16⟩, .ro⟩, ⟨⟨16, 16⟩, .rw⟩, ⟨⟨32, 1⟩, .ro⟩, ⟨⟨33, 1⟩, .ro⟩, ⟨⟨34, 1⟩, .ro⟩, ⟨⟨35, 1⟩, .ro⟩],
    fun part i => resetIsland part (i.getD 0 0)⟩,
  ⟨"CTL_CLK_STRETCH_CNT", 0xe0000050000, [(0x8, 4608)], .readOnly,
    [⟨⟨0, 48⟩, .ro⟩, ⟨⟨48, 16⟩, .ro⟩],
    fun _ _ => 0x0⟩]

/-- Rows 20 to 39 of the register table. -/
def regRows1 : List RegRow := [
  ⟨"CTL_BOOT_STATUS", 0xe0000000200, [], .readOnly,
    [⟨⟨0, 4⟩, .ro⟩, ⟨⟨4, 1⟩, .ro⟩, ⟨⟨5, 1⟩, .ro⟩, ⟨⟨6, 1⟩, .ro⟩, ⟨⟨7, 1⟩, .ro⟩, ⟨⟨8, 8⟩, .ro⟩, ⟨⟨16, 8⟩, .ro⟩, ⟨⟨32, 32⟩, .ro⟩],
    fun _ _ => 0x0⟩,
  ⟨"CTL_BOOT_CFG", 0xe0000000208, [], .persistent,
    [⟨⟨0, 1⟩, .rwp⟩, ⟨⟨1, 8⟩, .rwp⟩, ⟨⟨9, 10⟩, .rwp⟩, ⟨⟨19, 1⟩, .rwp⟩],
    fun _ _ => 192 * 2⟩,
  ⟨"CTL_BOOT_SVN", 0xe0000000210, [], .persistent,
    [⟨⟨0, 32⟩, .rwp⟩],
    fun _ _ => 0x0⟩,
  ⟨"CTL_MEASUREm word w", 0xe0000000400, [(0x40, 8), (0x8, 6)], .readOnly,
    [⟨⟨0, 64⟩, .ro⟩],
    fun _ _ => 0x0⟩,
  ⟨"CTL_ALERT", 0xe0000000600, [], .immediate,
    [⟨⟨0, 14⟩, .rw1c⟩],
    fun _ _ => 0x0⟩,
  ⟨"CTL_DEBUG_STATUS", 0xe0000000700, [], .readOnly,
    [⟨⟨0, 1⟩, .ro⟩, ⟨⟨1, 1⟩, .ro⟩, ⟨⟨16, 16⟩, .ro⟩, ⟨⟨32, 32⟩, .ro⟩],
    fun _ _ => 0x0⟩,
  ⟨"CTL_TRACE_STATUS", 0xe0000000800, [], .readOnly,
    [⟨⟨0, 1⟩, .ro⟩, ⟨⟨1, 1⟩, .ro⟩, ⟨⟨2, 30⟩, .ro⟩, ⟨⟨32, 32⟩, .ro⟩],
    fun _ _ => 0x0⟩,
  ⟨"CTL_MCTP_STATUS", 0xe0000000900, [], .readOnly,
    [⟨⟨0, 8⟩, .ro⟩, ⟨⟨8, 7⟩, .ro⟩, ⟨⟨16, 16⟩, .ro⟩, ⟨⟨32, 1⟩, .ro⟩, ⟨⟨33, 1⟩, .ro⟩],
    fun _ _ => 0x0⟩,
  ⟨"CTL_CLUSTER_OWN", 0xe0000001000, [(0x8, 16)], .staged,
    [⟨⟨0, 8⟩, .rws⟩, ⟨⟨8, 1⟩, .rws⟩],
    fun _ _ => 0x0⟩,
  ⟨"CTL_KEY_MAP", 0xe0000008000, [(0x8, 3072)], .staged,
    [⟨⟨0, 8⟩, .rws⟩, ⟨⟨16, 8⟩, .rws⟩, ⟨⟨32, 8⟩, .rws⟩, ⟨⟨48, 8⟩, .rws⟩, ⟨⟨8, 1⟩, .rws⟩, ⟨⟨24, 1⟩, .rws⟩, ⟨⟨40, 1⟩, .rws⟩, ⟨⟨56, 1⟩, .rws⟩],
    fun _ _ => 0x0⟩,
  ⟨"CAP_XLT", 0xe0001000000, [], .readOnly,
    [⟨⟨0, 8⟩, .ro⟩, ⟨⟨8, 8⟩, .ro⟩, ⟨⟨16, 9⟩, .ro⟩, ⟨⟨25, 4⟩, .ro⟩, ⟨⟨29, 4⟩, .ro⟩, ⟨⟨33, 4⟩, .ro⟩, ⟨⟨37, 7⟩, .ro⟩, ⟨⟨44, 3⟩, .ro⟩, ⟨⟨47, 7⟩, .ro⟩],
    fun _ _ => 0x20481d75003439⟩,
  ⟨"XLT_CTX_ROOT", 0xe0001001000, [(0x20, 256)], .readOnly,
    [⟨⟨0, 1⟩, .ro⟩, ⟨⟨1, 5⟩, .ro⟩, ⟨⟨12, 40⟩, .ro⟩, ⟨⟨56, 7⟩, .ro⟩],
    fun _ _ => 0x0⟩,
  ⟨"XLT_CTX_EPOCH", 0xe0001001008, [(0x20, 256)], .readOnly,
    [⟨⟨0, 32⟩, .ro⟩, ⟨⟨32, 32⟩, .ro⟩],
    fun _ _ => 0x0⟩,
  ⟨"XLT_CTX_FAULT", 0xe0001001010, [(0x20, 256)], .readOnly,
    [⟨⟨0, 3⟩, .ro⟩, ⟨⟨3, 2⟩, .ro⟩, ⟨⟨5, 3⟩, .ro⟩, ⟨⟨8, 3⟩, .ro⟩, ⟨⟨32, 32⟩, .ro⟩],
    fun _ _ => 0x0⟩,
  ⟨"XLT_CTX_FAULT_VA", 0xe0001001018, [(0x20, 256)], .readOnly,
    [⟨⟨0, 57⟩, .ro⟩],
    fun _ _ => 0x0⟩,
  ⟨"XLT_CNT_CLR", 0xe0001004000, [(0x100, 4)], .immediate,
    [⟨⟨0, 1⟩, .wo⟩],
    fun _ _ => 0x0⟩,
  ⟨"XLT_CNT_LOOKUP", 0xe0001004008, [(0x100, 4)], .readOnly,
    [⟨⟨0, 48⟩, .ro⟩],
    fun _ _ => 0x0⟩,
  ⟨"XLT_CNT_MISS", 0xe0001004010, [(0x100, 4)], .readOnly,
    [⟨⟨0, 48⟩, .ro⟩],
    fun _ _ => 0x0⟩,
  ⟨"XLT_CNT_WALK", 0xe0001004018, [(0x100, 4)], .readOnly,
    [⟨⟨0, 48⟩, .ro⟩],
    fun _ _ => 0x0⟩,
  ⟨"XLT_CNT_REWALK", 0xe0001004020, [(0x100, 4)], .readOnly,
    [⟨⟨0, 48⟩, .ro⟩],
    fun _ _ => 0x0⟩]

/-- Rows 40 to 59 of the register table. -/
def regRows2 : List RegRow := [
  ⟨"XLT_CNT_FAULT", 0xe0001004028, [(0x100, 4)], .readOnly,
    [⟨⟨0, 48⟩, .ro⟩],
    fun _ _ => 0x0⟩,
  ⟨"XLT_CNT_INVAL", 0xe0001004030, [(0x100, 4)], .readOnly,
    [⟨⟨0, 48⟩, .ro⟩],
    fun _ _ => 0x0⟩,
  ⟨"XLT_CNT_MIG_BYTES", 0xe0001004038, [(0x100, 4)], .readOnly,
    [⟨⟨0, 48⟩, .ro⟩],
    fun _ _ => 0x0⟩,
  ⟨"CAP_PWR", 0xe0002000000, [], .readOnly,
    [⟨⟨0, 12⟩, .ro⟩, ⟨⟨12, 12⟩, .ro⟩, ⟨⟨24, 8⟩, .ro⟩, ⟨⟨32, 8⟩, .ro⟩, ⟨⟨40, 9⟩, .ro⟩],
    fun _ _ => 0x1c2dc10ed8708⟩,
  ⟨"PWR_CFG", 0xe0002000100, [], .staged,
    [⟨⟨0, 12⟩, .rws⟩, ⟨⟨16, 15⟩, .rws⟩, ⟨⟨32, 8⟩, .rws⟩, ⟨⟨40, 8⟩, .rws⟩, ⟨⟨48, 16⟩, .rws⟩],
    fun _ _ => resetPwrCfg⟩,
  ⟨"PWR_EC_CFG", 0xe0002000108, [], .staged,
    [⟨⟨0, 8⟩, .rws⟩, ⟨⟨8, 4⟩, .rws⟩, ⟨⟨12, 8⟩, .rws⟩, ⟨⟨20, 4⟩, .rws⟩, ⟨⟨24, 8⟩, .rws⟩, ⟨⟨32, 4⟩, .rws⟩, ⟨⟨36, 8⟩, .rws⟩, ⟨⟨44, 4⟩, .rws⟩, ⟨⟨48, 16⟩, .rws⟩],
    fun _ _ => 0x64a6452820a000⟩,
  ⟨"PWR_BOOT_LIMITS", 0xe0002000110, [], .persistent,
    [⟨⟨0, 12⟩, .rwp⟩, ⟨⟨16, 15⟩, .rwp⟩],
    fun _ _ => 3800 + 2000 * 2^16⟩,
  ⟨"PWR_STATUS", 0xe0002000200, [], .readOnly,
    [⟨⟨0, 4⟩, .ro⟩, ⟨⟨4, 16⟩, .ro⟩, ⟨⟨20, 1⟩, .ro⟩, ⟨⟨21, 1⟩, .ro⟩, ⟨⟨22, 1⟩, .ro⟩, ⟨⟨23, 1⟩, .ro⟩, ⟨⟨24, 1⟩, .ro⟩, ⟨⟨25, 1⟩, .ro⟩, ⟨⟨32, 16⟩, .ro⟩, ⟨⟨48, 16⟩, .ro⟩],
    fun _ _ => 0xfffff⟩,
  ⟨"PWR_SENSE_IN", 0xe0002000208, [], .readOnly,
    [⟨⟨0, 16⟩, .ro⟩, ⟨⟨16, 16⟩, .ro⟩, ⟨⟨32, 16⟩, .ro⟩, ⟨⟨48, 16⟩, .ro⟩],
    fun _ _ => 0x0⟩,
  ⟨"PWR_SENSE_P", 0xe0002000210, [], .readOnly,
    [⟨⟨0, 16⟩, .ro⟩, ⟨⟨16, 16⟩, .ro⟩, ⟨⟨32, 16⟩, .ro⟩, ⟨⟨48, 16⟩, .ro⟩],
    fun _ _ => 0x0⟩,
  ⟨"PWR_TEMP", 0xe0002000218, [], .readOnly,
    [⟨⟨0, 32⟩, .ro⟩, ⟨⟨32, 32⟩, .ro⟩],
    fun _ _ => 0x0⟩,
  ⟨"PWR_TEMP_AUX", 0xe0002000220, [], .readOnly,
    [⟨⟨0, 8⟩, .ro⟩, ⟨⟨8, 8⟩, .ro⟩, ⟨⟨16, 8⟩, .ro⟩, ⟨⟨24, 8⟩, .ro⟩],
    fun _ _ => 0x0⟩,
  ⟨"PWR_MODEL", 0xe0002000228, [], .readOnly,
    [⟨⟨0, 16⟩, .ro⟩, ⟨⟨16, 1⟩, .ro⟩, ⟨⟨32, 32⟩, .ro⟩],
    fun _ _ => 0x1000⟩,
  ⟨"PWR_E_MAIN", 0xe0002000230, [], .readOnly,
    [⟨⟨0, 64⟩, .ro⟩],
    fun _ _ => 0x0⟩,
  ⟨"PWR_E_BKP", 0xe0002000238, [], .readOnly,
    [⟨⟨0, 64⟩, .ro⟩],
    fun _ _ => 0x0⟩,
  ⟨"PWR_E_UNATTR", 0xe0002000240, [], .readOnly,
    [⟨⟨0, 64⟩, .ro⟩],
    fun _ _ => 0x0⟩,
  ⟨"PWR_SUPPLY", 0xe0002000300, [], .readOnly,
    [⟨⟨0, 3⟩, .ro⟩, ⟨⟨16, 16⟩, .ro⟩, ⟨⟨32, 16⟩, .ro⟩, ⟨⟨48, 16⟩, .ro⟩],
    fun _ _ => 0x0⟩,
  ⟨"PWR_SUPPLY_T", 0xe0002000308, [(0x8, 7)], .readOnly,
    [⟨⟨0, 48⟩, .ro⟩],
    fun _ _ => 0x0⟩,
  ⟨"PWR_COEF", 0xe0002000400, [(0x8, 11)], .readOnly,
    [⟨⟨0, 32⟩, .ro⟩],
    fun _ i => pwrCoefPj (i.getD 0 0)⟩,
  ⟨"PWR_CNT_CLR", 0xe0002000500, [], .immediate,
    [⟨⟨0, 1⟩, .wo⟩],
    fun _ _ => 0x0⟩]

/-- Rows 60 to 79 of the register table. -/
def regRows3 : List RegRow := [
  ⟨"PWR_CNT_CAP_MS", 0xe0002000508, [], .readOnly,
    [⟨⟨0, 48⟩, .ro⟩],
    fun _ _ => 0x0⟩,
  ⟨"PWR_CNT_THERM_MS", 0xe0002000510, [], .readOnly,
    [⟨⟨0, 48⟩, .ro⟩],
    fun _ _ => 0x0⟩,
  ⟨"PWR_CNT_FILL_MJ", 0xe0002000518, [], .readOnly,
    [⟨⟨0, 48⟩, .ro⟩],
    fun _ _ => 0x0⟩,
  ⟨"PWR_CNT_SLEW_MISS", 0xe0002000520, [], .readOnly,
    [⟨⟨0, 48⟩, .ro⟩],
    fun _ _ => 0x0⟩,
  ⟨"PWR_CNT_ILIMIT", 0xe0002000528, [], .readOnly,
    [⟨⟨0, 48⟩, .ro⟩],
    fun _ _ => 0x0⟩,
  ⟨"PWR_CNT_EC_HELD", 0xe0002000530, [], .readOnly,
    [⟨⟨0, 48⟩, .ro⟩],
    fun _ _ => 0x0⟩,
  ⟨"PWR_CNT_EC_FORCED", 0xe0002000538, [], .readOnly,
    [⟨⟨0, 48⟩, .ro⟩],
    fun _ _ => 0x0⟩,
  ⟨"PWR_CNT_BRAKE", 0xe0002000540, [], .readOnly,
    [⟨⟨0, 48⟩, .ro⟩],
    fun _ _ => 0x0⟩,
  ⟨"PWR_CNT_ECLIPSE", 0xe0002000548, [], .readOnly,
    [⟨⟨0, 48⟩, .ro⟩],
    fun _ _ => 0x0⟩,
  ⟨"PWR_AGE_CFG", 0xe0002000800, [], .staged,
    [⟨⟨0, 8⟩, .rws⟩, ⟨⟨8, 8⟩, .rws⟩, ⟨⟨16, 8⟩, .rws⟩, ⟨⟨24, 1⟩, .rws⟩, ⟨⟨25, 4⟩, .rws⟩],
    fun _ _ => 0x704141e⟩,
  ⟨"PWR_AGE_STATUS word 0", 0xe0002000808, [], .readOnly,
    [⟨⟨0, 24⟩, .ro⟩, ⟨⟨24, 24⟩, .ro⟩, ⟨⟨48, 1⟩, .ro⟩, ⟨⟨49, 1⟩, .ro⟩],
    fun _ _ => 0x0⟩,
  ⟨"PWR_AGE_STATUS word 1", 0xe0002000810, [], .readOnly,
    [⟨⟨0, 17⟩, .ro⟩, ⟨⟨17, 17⟩, .ro⟩, ⟨⟨34, 1⟩, .ro⟩, ⟨⟨35, 1⟩, .ro⟩],
    fun _ _ => 0x0⟩,
  ⟨"PWR_VF word 0", 0xe0002000900, [(0x20, 9)], .readOnly,
    [⟨⟨0, 64⟩, .ro⟩],
    fun part _ => part.vfCodes⟩,
  ⟨"PWR_VF word 1", 0xe0002000908, [(0x20, 9)], .readOnly,
    [⟨⟨0, 64⟩, .ro⟩],
    fun part _ => part.vfCodes⟩,
  ⟨"PWR_VF word 2", 0xe0002000910, [(0x20, 9)], .readOnly,
    [⟨⟨0, 4⟩, .ro⟩, ⟨⟨4, 4⟩, .ro⟩, ⟨⟨8, 8⟩, .ro⟩, ⟨⟨16, 8⟩, .ro⟩],
    fun part _ => 15 + 15 * 16 + part.vmax * 256 + part.sens * 65536⟩,
  ⟨"PWR_FENCE word 0", 0xe0002000b00, [(0x20, 4)], .readOnly,
    [⟨⟨0, 17⟩, .ro⟩, ⟨⟨17, 17⟩, .ro⟩, ⟨⟨34, 8⟩, .ro⟩, ⟨⟨42, 8⟩, .ro⟩],
    fun _ _ => 0x0⟩,
  ⟨"PWR_FENCE word 1", 0xe0002000b08, [(0x20, 4)], .readOnly,
    [⟨⟨0, 64⟩, .ro⟩],
    fun _ _ => 0x0⟩,
  ⟨"PWR_FENCE word 2", 0xe0002000b10, [(0x20, 4)], .readOnly,
    [⟨⟨0, 64⟩, .ro⟩],
    fun _ _ => 0x0⟩,
  ⟨"PWR_FENCE word 3", 0xe0002000b18, [(0x20, 4)], .readOnly,
    [⟨⟨0, 16⟩, .ro⟩, ⟨⟨16, 16⟩, .ro⟩],
    fun _ _ => 0x0⟩,
  ⟨"PWR_FENCE_LU", 0xe0002000b80, [(0x8, 4)], .readOnly,
    [⟨⟨0, 18⟩, .ro⟩, ⟨⟨18, 18⟩, .ro⟩],
    fun _ _ => 0x0⟩]

/-- Rows 80 to 99 of the register table. -/
def regRows4 : List RegRow := [
  ⟨"CAP_ERR", 0xe0003000000, [], .readOnly,
    [⟨⟨0, 9⟩, .ro⟩, ⟨⟨9, 3⟩, .ro⟩, ⟨⟨16, 5⟩, .ro⟩],
    fun _ _ => 0x100b00⟩,
  ⟨"ERR_CFG", 0xe0003000100, [], .staged,
    [⟨⟨0, 16⟩, .rws⟩, ⟨⟨16, 16⟩, .rws⟩, ⟨⟨32, 16⟩, .rws⟩, ⟨⟨48, 1⟩, .rws⟩, ⟨⟨49, 3⟩, .rws⟩],
    fun _ _ => 0x7006403e82710⟩,
  ⟨"ERR_DEV_STATE", 0xe0003000108, [], .readOnly,
    [⟨⟨0, 3⟩, .ro⟩, ⟨⟨3, 8⟩, .ro⟩],
    fun _ _ => 0x0⟩,
  ⟨"ERR_LAST_DEVICE word 0", 0xe0003000110, [], .readOnly,
    [⟨⟨0, 64⟩, .ro⟩],
    fun _ _ => 0x0⟩,
  ⟨"ERR_LAST_DEVICE word 1", 0xe0003000118, [], .readOnly,
    [⟨⟨0, 64⟩, .ro⟩],
    fun _ _ => 0x0⟩,
  ⟨"ERR_Q_CFG of queue 4", 0xe0003000200, [], .staged,
    [⟨⟨0, 16⟩, .rws⟩, ⟨⟨16, 3⟩, .rws⟩, ⟨⟨19, 1⟩, .rws⟩, ⟨⟨20, 3⟩, .rws⟩],
    fun _ _ => 0x300000⟩,
  ⟨"ERR_Q_STATUS of queue 4", 0xe0003000208, [], .readOnly,
    [⟨⟨0, 32⟩, .ro⟩, ⟨⟨32, 9⟩, .ro⟩, ⟨⟨41, 1⟩, .ro⟩],
    fun _ _ => 0x0⟩,
  ⟨"ERR_Q_SEQ of queue 4", 0xe0003000210, [], .readOnly,
    [⟨⟨0, 32⟩, .ro⟩, ⟨⟨32, 32⟩, .ro⟩],
    fun _ _ => 0x0⟩,
  ⟨"ERR_CNT_CLR of the device block", 0xe0003000300, [], .immediate,
    [⟨⟨0, 1⟩, .wo⟩],
    fun _ _ => 0x0⟩,
  ⟨"ERR_CNT_RECORDS of the device block", 0xe0003000308, [], .readOnly,
    [⟨⟨0, 48⟩, .ro⟩],
    fun _ _ => 0x0⟩,
  ⟨"ERR_CNT_REPLAY of the device block", 0xe0003000310, [], .readOnly,
    [⟨⟨0, 48⟩, .ro⟩],
    fun _ _ => 0x0⟩,
  ⟨"ERR_CNT_RETRY of the device block", 0xe0003000318, [], .readOnly,
    [⟨⟨0, 48⟩, .ro⟩],
    fun _ _ => 0x0⟩,
  ⟨"ERR_CNT_ESCALATE of the device block", 0xe0003000320, [], .readOnly,
    [⟨⟨0, 48⟩, .ro⟩],
    fun _ _ => 0x0⟩,
  ⟨"ERR_CNT_POISON of the device block", 0xe0003000328, [], .readOnly,
    [⟨⟨0, 48⟩, .ro⟩],
    fun _ _ => 0x0⟩,
  ⟨"ERR_RECORD of queue 4", 0xe0003010000, [(0x40, 256), (0x8, 8)], .readOnly,
    [⟨⟨0, 64⟩, .ro⟩],
    fun _ _ => 0x0⟩,
  ⟨"ERR_Q_CFG of queue k", 0xe0018000100, [(0x10000000, 4)], .staged,
    [⟨⟨0, 16⟩, .rws⟩, ⟨⟨16, 3⟩, .rws⟩, ⟨⟨19, 1⟩, .rws⟩, ⟨⟨20, 3⟩, .rws⟩],
    fun _ _ => 0x300000⟩,
  ⟨"ERR_Q_STATUS of queue k", 0xe0018000108, [(0x10000000, 4)], .readOnly,
    [⟨⟨0, 32⟩, .ro⟩, ⟨⟨32, 9⟩, .ro⟩, ⟨⟨41, 1⟩, .ro⟩],
    fun _ _ => 0x0⟩,
  ⟨"ERR_Q_SEQ of queue k", 0xe0018000110, [(0x10000000, 4)], .readOnly,
    [⟨⟨0, 32⟩, .ro⟩, ⟨⟨32, 32⟩, .ro⟩],
    fun _ _ => 0x0⟩,
  ⟨"ERR_RECOVERY", 0xe0018000118, [(0x10000000, 4)], .readOnly,
    [⟨⟨0, 8⟩, .ro⟩, ⟨⟨8, 11⟩, .ro⟩, ⟨⟨19, 9⟩, .ro⟩, ⟨⟨28, 1⟩, .ro⟩],
    fun _ _ => 0x0⟩,
  ⟨"ERR_CNT_CLR of a tower block", 0xe0018000300, [(0x10000000, 4)], .immediate,
    [⟨⟨0, 1⟩, .wo⟩],
    fun _ _ => 0x0⟩]

/-- Rows 100 to 119 of the register table. -/
def regRows5 : List RegRow := [
  ⟨"ERR_CNT_RECORDS of a tower block", 0xe0018000308, [(0x10000000, 4)], .readOnly,
    [⟨⟨0, 48⟩, .ro⟩],
    fun _ _ => 0x0⟩,
  ⟨"ERR_CNT_REPLAY of a tower block", 0xe0018000310, [(0x10000000, 4)], .readOnly,
    [⟨⟨0, 48⟩, .ro⟩],
    fun _ _ => 0x0⟩,
  ⟨"ERR_CNT_RETRY of a tower block", 0xe0018000318, [(0x10000000, 4)], .readOnly,
    [⟨⟨0, 48⟩, .ro⟩],
    fun _ _ => 0x0⟩,
  ⟨"ERR_CNT_ESCALATE of a tower block", 0xe0018000320, [(0x10000000, 4)], .readOnly,
    [⟨⟨0, 48⟩, .ro⟩],
    fun _ _ => 0x0⟩,
  ⟨"ERR_CNT_POISON of a tower block", 0xe0018000328, [(0x10000000, 4)], .readOnly,
    [⟨⟨0, 48⟩, .ro⟩],
    fun _ _ => 0x0⟩,
  ⟨"ERR_RECORD of queue k", 0xe0018010000, [(0x10000000, 4), (0x40, 256), (0x8, 8)], .readOnly,
    [⟨⟨0, 64⟩, .ro⟩],
    fun _ _ => 0x0⟩,
  ⟨"CAP_MEM_DEV", 0xe0004000000, [], .readOnly,
    [⟨⟨0, 10⟩, .ro⟩, ⟨⟨10, 8⟩, .ro⟩],
    fun part _ => part.ct + 0xC0 * 2^10⟩,
  ⟨"MEM_ILV_SPLIT", 0xe0004000100, [], .staged,
    [⟨⟨0, 8⟩, .rws⟩, ⟨⟨8, 10⟩, .rws⟩],
    fun part _ => 0xC0 + part.ct * 2^8⟩,
  ⟨"CAP_MEM", 0xe0013000000, [(0x10000000, 4)], .readOnly,
    [⟨⟨0, 4⟩, .ro⟩, ⟨⟨4, 4⟩, .ro⟩, ⟨⟨8, 12⟩, .ro⟩, ⟨⟨20, 12⟩, .ro⟩, ⟨⟨32, 4⟩, .ro⟩, ⟨⟨36, 6⟩, .ro⟩, ⟨⟨42, 2⟩, .ro⟩],
    fun part _ => 2 + 2*2^4 + 0x60*2^8 + part.busGib*2^20 + 4*2^32 + 0x20*2^36 + 2*2^42⟩,
  ⟨"MEM_CFG", 0xe0013000100, [(0x10000000, 4)], .staged,
    [⟨⟨0, 8⟩, .rws⟩, ⟨⟨8, 8⟩, .rws⟩, ⟨⟨16, 1⟩, .rws⟩, ⟨⟨20, 12⟩, .rws⟩, ⟨⟨32, 6⟩, .rws⟩, ⟨⟨40, 7⟩, .rws⟩, ⟨⟨48, 4⟩, .rws⟩, ⟨⟨52, 4⟩, .rws⟩, ⟨⟨56, 4⟩, .rws⟩],
    fun _ _ => 0x148320e1001185f⟩,
  ⟨"MEM_CTL_STATUS", 0xe0013001000, [(0x10000000, 4), (0x100, 4)], .readOnly,
    [⟨⟨0, 1⟩, .ro⟩, ⟨⟨1, 1⟩, .ro⟩, ⟨⟨2, 1⟩, .ro⟩, ⟨⟨3, 1⟩, .ro⟩, ⟨⟨4, 1⟩, .ro⟩, ⟨⟨8, 8⟩, .ro⟩, ⟨⟨16, 8⟩, .ro⟩, ⟨⟨24, 7⟩, .ro⟩, ⟨⟨32, 12⟩, .ro⟩],
    fun part i => resetMemCtlStatus part (i.getD 1 0)⟩,
  ⟨"MEM_ERASE_STAT", 0xe0013001008, [(0x10000000, 4), (0x100, 4)], .readOnly,
    [⟨⟨0, 6⟩, .ro⟩, ⟨⟨16, 17⟩, .ro⟩, ⟨⟨33, 1⟩, .ro⟩],
    fun _ _ => 0x0⟩,
  ⟨"MEM_CNT_CLR", 0xe0013001010, [(0x10000000, 4), (0x100, 4)], .immediate,
    [⟨⟨0, 1⟩, .wo⟩],
    fun _ _ => 0x0⟩,
  ⟨"MEM_CNT_RD", 0xe0013001018, [(0x10000000, 4), (0x100, 4)], .readOnly,
    [⟨⟨0, 48⟩, .ro⟩],
    fun _ _ => 0x0⟩,
  ⟨"MEM_CNT_WR", 0xe0013001020, [(0x10000000, 4), (0x100, 4)], .readOnly,
    [⟨⟨0, 48⟩, .ro⟩],
    fun _ _ => 0x0⟩,
  ⟨"MEM_CNT_RMW", 0xe0013001028, [(0x10000000, 4), (0x100, 4)], .readOnly,
    [⟨⟨0, 48⟩, .ro⟩],
    fun _ _ => 0x0⟩,
  ⟨"MEM_CNT_CORR", 0xe0013001030, [(0x10000000, 4), (0x100, 4)], .readOnly,
    [⟨⟨0, 48⟩, .ro⟩],
    fun _ _ => 0x0⟩,
  ⟨"MEM_CNT_UNCORR", 0xe0013001038, [(0x10000000, 4), (0x100, 4)], .readOnly,
    [⟨⟨0, 48⟩, .ro⟩],
    fun _ _ => 0x0⟩,
  ⟨"MEM_CNT_POISON_RD", 0xe0013001040, [(0x10000000, 4), (0x100, 4)], .readOnly,
    [⟨⟨0, 48⟩, .ro⟩],
    fun _ _ => 0x0⟩,
  ⟨"MEM_CNT_SCRUB", 0xe0013001048, [(0x10000000, 4), (0x100, 4)], .readOnly,
    [⟨⟨0, 48⟩, .ro⟩],
    fun _ _ => 0x0⟩]

/-- Rows 120 to 139 of the register table. -/
def regRows6 : List RegRow := [
  ⟨"MEM_CNT_ODE", 0xe0013001050, [(0x10000000, 4), (0x100, 4)], .readOnly,
    [⟨⟨0, 48⟩, .ro⟩],
    fun _ _ => 0x0⟩,
  ⟨"MEM_CNT_CLASS0", 0xe0013001058, [(0x10000000, 4), (0x100, 4)], .readOnly,
    [⟨⟨0, 48⟩, .ro⟩],
    fun _ _ => 0x0⟩,
  ⟨"MEM_CNT_THROTTLE", 0xe0013001060, [(0x10000000, 4), (0x100, 4)], .readOnly,
    [⟨⟨0, 48⟩, .ro⟩],
    fun _ _ => 0x0⟩,
  ⟨"MEM_CNT_AGED", 0xe0013001068, [(0x10000000, 4), (0x100, 4)], .readOnly,
    [⟨⟨0, 48⟩, .ro⟩],
    fun _ _ => 0x0⟩,
  ⟨"MEM_ERASE_LIST", 0xe0013002000, [(0x10000000, 4), (0x200, 4), (0x8, 32)], .readOnly,
    [⟨⟨0, 30⟩, .ro⟩, ⟨⟨63, 1⟩, .ro⟩],
    fun _ _ => 0x0⟩,
  ⟨"CAP_MXE", 0xe0010000000, [(0x10000000, 4)], .readOnly,
    [⟨⟨0, 8⟩, .ro⟩, ⟨⟨8, 8⟩, .ro⟩, ⟨⟨16, 9⟩, .ro⟩, ⟨⟨25, 9⟩, .ro⟩, ⟨⟨34, 9⟩, .ro⟩, ⟨⟨43, 3⟩, .ro⟩, ⟨⟨46, 3⟩, .ro⟩, ⟨⟨49, 14⟩, .ro⟩],
    fun _ _ => 0x7fff140281401011⟩,
  ⟨"MXE_DIE_CFG", 0xe0010000100, [(0x10000000, 4)], .staged,
    [⟨⟨0, 4⟩, .rws⟩, ⟨⟨8, 5⟩, .rws⟩],
    fun _ _ => 0x1608⟩,
  ⟨"MXE_STATUS", 0xe0010001000, [(0x10000000, 4), (0x100, 17)], .readOnly,
    [⟨⟨0, 3⟩, .ro⟩, ⟨⟨3, 1⟩, .ro⟩, ⟨⟨4, 2⟩, .ro⟩, ⟨⟨6, 2⟩, .ro⟩, ⟨⟨8, 1⟩, .ro⟩, ⟨⟨16, 3⟩, .ro⟩, ⟨⟨19, 1⟩, .ro⟩, ⟨⟨32, 16⟩, .ro⟩],
    fun _ i => resetMxeStatus (i.getD 1 0)⟩,
  ⟨"MXE_PORT", 0xe0010001008, [(0x10000000, 4), (0x100, 17)], .readOnly,
    [⟨⟨0, 4⟩, .ro⟩, ⟨⟨4, 3⟩, .ro⟩, ⟨⟨7, 5⟩, .ro⟩, ⟨⟨12, 1⟩, .ro⟩, ⟨⟨13, 3⟩, .ro⟩, ⟨⟨16, 32⟩, .ro⟩, ⟨⟨48, 16⟩, .ro⟩],
    fun _ _ => 0x0⟩,
  ⟨"MXE_CNT_CLR", 0xe0010001010, [(0x10000000, 4), (0x100, 17)], .immediate,
    [⟨⟨0, 1⟩, .wo⟩],
    fun _ _ => 0x0⟩,
  ⟨"MXE_CNT_BUSY", 0xe0010001020, [(0x10000000, 4), (0x100, 17)], .readOnly,
    [⟨⟨0, 48⟩, .ro⟩],
    fun _ _ => 0x0⟩,
  ⟨"MXE_CNT_PROD", 0xe0010001028, [(0x10000000, 4), (0x100, 17)], .readOnly,
    [⟨⟨0, 48⟩, .ro⟩],
    fun _ _ => 0x0⟩,
  ⟨"MXE_CNT_TILES", 0xe0010001030, [(0x10000000, 4), (0x100, 17)], .readOnly,
    [⟨⟨0, 48⟩, .ro⟩],
    fun _ _ => 0x0⟩,
  ⟨"MXE_CNT_REPLAY", 0xe0010001038, [(0x10000000, 4), (0x100, 17)], .readOnly,
    [⟨⟨0, 48⟩, .ro⟩],
    fun _ _ => 0x0⟩,
  ⟨"MXE_CNT_SQUASH", 0xe0010001040, [(0x10000000, 4), (0x100, 17)], .readOnly,
    [⟨⟨0, 48⟩, .ro⟩],
    fun _ _ => 0x0⟩,
  ⟨"MXE_CNT_SAT", 0xe0010001048, [(0x10000000, 4), (0x100, 17)], .readOnly,
    [⟨⟨0, 48⟩, .ro⟩],
    fun _ _ => 0x0⟩,
  ⟨"MXE_CNT_WAIT_W", 0xe0010001050, [(0x10000000, 4), (0x100, 17)], .readOnly,
    [⟨⟨0, 48⟩, .ro⟩],
    fun _ _ => 0x0⟩,
  ⟨"MXE_CNT_HOLD", 0xe0010001058, [(0x10000000, 4), (0x100, 17)], .readOnly,
    [⟨⟨0, 48⟩, .ro⟩],
    fun _ _ => 0x0⟩,
  ⟨"MXE_CNT_IDLE", 0xe0010001060, [(0x10000000, 4), (0x100, 17)], .readOnly,
    [⟨⟨0, 48⟩, .ro⟩],
    fun _ _ => 0x0⟩,
  ⟨"MXE_BEAM_CFG", 0xe0010100000, [(0x10000000, 4)], .staged,
    [⟨⟨0, 6⟩, .rws⟩, ⟨⟨6, 1⟩, .rws⟩],
    fun _ _ => 0x1e⟩]

/-- Rows 140 to 159 of the register table. -/
def regRows7 : List RegRow := [
  ⟨"MXE_BEAM_STATUS", 0xe0010100008, [(0x10000000, 4)], .readOnly,
    [⟨⟨0, 3⟩, .ro⟩, ⟨⟨3, 1⟩, .ro⟩, ⟨⟨4, 1⟩, .ro⟩, ⟨⟨8, 8⟩, .ro⟩, ⟨⟨16, 1⟩, .ro⟩, ⟨⟨32, 17⟩, .ro⟩],
    fun _ _ => 0x0⟩,
  ⟨"MXE_BEAM_WAIT", 0xe0010100010, [(0x10000000, 4)], .readOnly,
    [⟨⟨0, 16⟩, .ro⟩, ⟨⟨16, 3⟩, .ro⟩, ⟨⟨32, 32⟩, .ro⟩],
    fun _ _ => 0x0⟩,
  ⟨"MXE_BEAM_LC", 0xe0010100018, [(0x10000000, 4)], .readOnly,
    [⟨⟨0, 16⟩, .ro⟩, ⟨⟨16, 16⟩, .ro⟩, ⟨⟨32, 16⟩, .ro⟩, ⟨⟨48, 16⟩, .ro⟩],
    fun _ _ => 0x0⟩,
  ⟨"MXE_BEAM_MARK", 0xe0010100020, [(0x10000000, 4)], .readOnly,
    [⟨⟨0, 16⟩, .ro⟩, ⟨⟨32, 17⟩, .ro⟩],
    fun _ _ => 0x0⟩,
  ⟨"MXE_BEAM_STOP", 0xe0010100028, [(0x10000000, 4)], .readOnly,
    [⟨⟨0, 4⟩, .ro⟩, ⟨⟨32, 17⟩, .ro⟩],
    fun _ _ => 0x0⟩,
  ⟨"MXE_BEAM_STRETCH", 0xe0010100030, [(0x10000000, 4)], .readOnly,
    [⟨⟨0, 32⟩, .ro⟩, ⟨⟨32, 32⟩, .ro⟩],
    fun _ _ => 0x0⟩,
  ⟨"MXE_BEAM_CNT_CYCLES", 0xe0010100040, [(0x10000000, 4)], .readOnly,
    [⟨⟨0, 48⟩, .ro⟩],
    fun _ _ => 0x0⟩,
  ⟨"MXE_BEAM_CNT_WORDS", 0xe0010100048, [(0x10000000, 4)], .readOnly,
    [⟨⟨0, 48⟩, .ro⟩],
    fun _ _ => 0x0⟩,
  ⟨"MXE_BEAM_CNT_WAIT", 0xe0010100050, [(0x10000000, 4)], .readOnly,
    [⟨⟨0, 48⟩, .ro⟩],
    fun _ _ => 0x0⟩,
  ⟨"MXE_BEAM_CNT_SLIP_DET", 0xe0010100058, [(0x10000000, 4)], .readOnly,
    [⟨⟨0, 48⟩, .ro⟩],
    fun _ _ => 0x0⟩,
  ⟨"MXE_BEAM_CNT_SLIP_EXT", 0xe0010100060, [(0x10000000, 4)], .readOnly,
    [⟨⟨0, 48⟩, .ro⟩],
    fun _ _ => 0x0⟩,
  ⟨"MXE_BEAM_CNT_PAUSE", 0xe0010100068, [(0x10000000, 4)], .readOnly,
    [⟨⟨0, 48⟩, .ro⟩],
    fun _ _ => 0x0⟩,
  ⟨"MXE_BEAM_CNT_SKIP", 0xe0010100070, [(0x10000000, 4)], .readOnly,
    [⟨⟨0, 48⟩, .ro⟩],
    fun _ _ => 0x0⟩,
  ⟨"MXE_BEAM_CNT_FINISH", 0xe0010100078, [(0x10000000, 4)], .readOnly,
    [⟨⟨0, 48⟩, .ro⟩],
    fun _ _ => 0x0⟩,
  ⟨"MXE_BEAM_BANK", 0xe0010100100, [(0x10000000, 4), (0x8, 2)], .readOnly,
    [⟨⟨0, 1⟩, .ro⟩, ⟨⟨1, 1⟩, .ro⟩, ⟨⟨8, 8⟩, .ro⟩, ⟨⟨16, 20⟩, .ro⟩, ⟨⟨48, 13⟩, .ro⟩],
    fun _ _ => 0x0⟩,
  ⟨"MXE_LEND", 0xe0010100200, [(0x10000000, 4), (0x8, 4)], .readOnly,
    [⟨⟨0, 4⟩, .ro⟩, ⟨⟨4, 2⟩, .ro⟩, ⟨⟨6, 4⟩, .ro⟩, ⟨⟨10, 3⟩, .ro⟩, ⟨⟨13, 5⟩, .ro⟩, ⟨⟨18, 1⟩, .ro⟩, ⟨⟨32, 16⟩, .ro⟩],
    fun _ _ => 0x0⟩,
  ⟨"MXE_REMAP", 0xe0010180000, [(0x10000000, 4), (0x8, 16)], .readOnly,
    [⟨⟨0, 5⟩, .ro⟩, ⟨⟨5, 1⟩, .ro⟩],
    fun _ i => (i.getD 1 0) + 0x20⟩,
  ⟨"Scale record word 0", 0xe0010200000, [(0x10000000, 4), (0x20, 4096)], .readOnly,
    [⟨⟨0, 16⟩, .ro⟩, ⟨⟨16, 16⟩, .ro⟩, ⟨⟨32, 4⟩, .ro⟩, ⟨⟨36, 2⟩, .ro⟩, ⟨⟨38, 1⟩, .ro⟩, ⟨⟨39, 1⟩, .ro⟩, ⟨⟨40, 1⟩, .ro⟩, ⟨⟨41, 1⟩, .ro⟩, ⟨⟨42, 1⟩, .ro⟩, ⟨⟨43, 1⟩, .ro⟩, ⟨⟨44, 1⟩, .ro⟩, ⟨⟨45, 1⟩, .ro⟩, ⟨⟨48, 16⟩, .ro⟩],
    fun _ _ => 0x200000000⟩,
  ⟨"Scale record word 1", 0xe0010200008, [(0x10000000, 4), (0x20, 4096)], .readOnly,
    [⟨⟨0, 32⟩, .ro⟩, ⟨⟨32, 32⟩, .ro⟩],
    fun _ _ => 0x0⟩,
  ⟨"Scale record word 2", 0xe0010200010, [(0x10000000, 4), (0x20, 4096)], .readOnly,
    [⟨⟨0, 8⟩, .ro⟩, ⟨⟨8, 8⟩, .ro⟩, ⟨⟨16, 1⟩, .ro⟩, ⟨⟨17, 1⟩, .ro⟩, ⟨⟨32, 16⟩, .ro⟩, ⟨⟨48, 16⟩, .ro⟩],
    fun _ _ => 0x0⟩]

/-- Rows 160 to 179 of the register table. -/
def regRows8 : List RegRow := [
  ⟨"Scale record word 3", 0xe0010200018, [(0x10000000, 4), (0x20, 4096)], .readOnly,
    [⟨⟨0, 48⟩, .ro⟩],
    fun _ _ => 0x0⟩,
  ⟨"CAP_VXE", 0xe0011000000, [(0x10000000, 4)], .readOnly,
    [⟨⟨0, 8⟩, .ro⟩, ⟨⟨8, 11⟩, .ro⟩, ⟨⟨19, 11⟩, .ro⟩, ⟨⟨30, 11⟩, .ro⟩, ⟨⟨41, 11⟩, .ro⟩, ⟨⟨52, 3⟩, .ro⟩, ⟨⟨55, 2⟩, .ro⟩, ⟨⟨57, 5⟩, .ro⟩],
    fun _ _ => 0x2140804010040008⟩,
  ⟨"VXE_STATUS", 0xe0011001000, [(0x10000000, 4), (0x100, 8)], .readOnly,
    [⟨⟨0, 3⟩, .ro⟩, ⟨⟨3, 1⟩, .ro⟩, ⟨⟨4, 1⟩, .ro⟩, ⟨⟨5, 5⟩, .ro⟩, ⟨⟨10, 3⟩, .ro⟩, ⟨⟨16, 25⟩, .ro⟩],
    fun _ _ => 0x0⟩,
  ⟨"VXE_CNT_CLR", 0xe0011001010, [(0x10000000, 4), (0x100, 8)], .immediate,
    [⟨⟨0, 1⟩, .wo⟩],
    fun _ _ => 0x0⟩,
  ⟨"VXE_CNT_STREAM", 0xe0011001020, [(0x10000000, 4), (0x100, 8)], .readOnly,
    [⟨⟨0, 48⟩, .ro⟩],
    fun _ _ => 0x0⟩,
  ⟨"VXE_CNT_ELEMS", 0xe0011001028, [(0x10000000, 4), (0x100, 8)], .readOnly,
    [⟨⟨0, 48⟩, .ro⟩],
    fun _ _ => 0x0⟩,
  ⟨"VXE_CNT_CHAINS", 0xe0011001030, [(0x10000000, 4), (0x100, 8)], .readOnly,
    [⟨⟨0, 48⟩, .ro⟩],
    fun _ _ => 0x0⟩,
  ⟨"VXE_CNT_OOR", 0xe0011001038, [(0x10000000, 4), (0x100, 8)], .readOnly,
    [⟨⟨0, 48⟩, .ro⟩],
    fun _ _ => 0x0⟩,
  ⟨"VXE_CNT_HOLD", 0xe0011001040, [(0x10000000, 4), (0x100, 8)], .readOnly,
    [⟨⟨0, 48⟩, .ro⟩],
    fun _ _ => 0x0⟩,
  ⟨"VXE_CNT_POISON", 0xe0011001048, [(0x10000000, 4), (0x100, 8)], .readOnly,
    [⟨⟨0, 48⟩, .ro⟩],
    fun _ _ => 0x0⟩,
  ⟨"VXE_CNT_SR", 0xe0011001050, [(0x10000000, 4), (0x100, 8)], .readOnly,
    [⟨⟨0, 48⟩, .ro⟩],
    fun _ _ => 0x0⟩,
  ⟨"CAP_TC", 0xe0012000000, [(0x10000000, 4)], .readOnly,
    [⟨⟨0, 8⟩, .ro⟩, ⟨⟨8, 4⟩, .ro⟩, ⟨⟨12, 6⟩, .ro⟩, ⟨⟨18, 8⟩, .ro⟩, ⟨⟨26, 3⟩, .ro⟩, ⟨⟨29, 1⟩, .ro⟩],
    fun _ _ => 0x31020840⟩,
  ⟨"TC_DIE_CFG", 0xe0012000100, [(0x10000000, 4)], .staged,
    [⟨⟨0, 6⟩, .rws⟩, ⟨⟨8, 6⟩, .rws⟩, ⟨⟨16, 4⟩, .rws⟩, ⟨⟨20, 1⟩, .rws⟩],
    fun _ _ => 0x1a1e18⟩,
  ⟨"TC_STATUS", 0xe0012001000, [(0x10000000, 4), (0x200, 64)], .readOnly,
    [⟨⟨0, 8⟩, .ro⟩, ⟨⟨8, 8⟩, .ro⟩, ⟨⟨16, 8⟩, .ro⟩, ⟨⟨24, 1⟩, .ro⟩, ⟨⟨25, 1⟩, .ro⟩],
    fun _ _ => 0x0⟩,
  ⟨"TC_CNT_CLR", 0xe0012001008, [(0x10000000, 4), (0x200, 64)], .immediate,
    [⟨⟨0, 1⟩, .wo⟩],
    fun _ _ => 0x0⟩,
  ⟨"TC_CNT_ISSUE", 0xe0012001010, [(0x10000000, 4), (0x200, 64)], .readOnly,
    [⟨⟨0, 48⟩, .ro⟩],
    fun _ _ => 0x0⟩,
  ⟨"TC_CNT_THREAD", 0xe0012001018, [(0x10000000, 4), (0x200, 64)], .readOnly,
    [⟨⟨0, 48⟩, .ro⟩],
    fun _ _ => 0x0⟩,
  ⟨"TC_CNT_DIVERGE", 0xe0012001020, [(0x10000000, 4), (0x200, 64)], .readOnly,
    [⟨⟨0, 48⟩, .ro⟩],
    fun _ _ => 0x0⟩,
  ⟨"TC_CNT_REPACK", 0xe0012001028, [(0x10000000, 4), (0x200, 64)], .readOnly,
    [⟨⟨0, 48⟩, .ro⟩],
    fun _ _ => 0x0⟩,
  ⟨"TC_CNT_SPIN_SPLIT", 0xe0012001030, [(0x10000000, 4), (0x200, 64)], .readOnly,
    [⟨⟨0, 48⟩, .ro⟩],
    fun _ _ => 0x0⟩]

/-- Rows 180 to 199 of the register table. -/
def regRows9 : List RegRow := [
  ⟨"TC_CNT_FRAG", 0xe0012001038, [(0x10000000, 4), (0x200, 64)], .readOnly,
    [⟨⟨0, 48⟩, .ro⟩],
    fun _ _ => 0x0⟩,
  ⟨"TC_CNT_CONV_TO", 0xe0012001040, [(0x10000000, 4), (0x200, 64)], .readOnly,
    [⟨⟨0, 48⟩, .ro⟩],
    fun _ _ => 0x0⟩,
  ⟨"TC_CNT_IDLE", 0xe0012001048, [(0x10000000, 4), (0x200, 64)], .readOnly,
    [⟨⟨0, 48⟩, .ro⟩],
    fun _ _ => 0x0⟩,
  ⟨"TC_GROUP_STATE word 0", 0xe0012001100, [(0x10000000, 4), (0x200, 64), (0x20, 8)], .readOnly,
    [⟨⟨0, 3⟩, .ro⟩, ⟨⟨8, 8⟩, .ro⟩, ⟨⟨16, 4⟩, .ro⟩, ⟨⟨20, 6⟩, .ro⟩, ⟨⟨27, 5⟩, .ro⟩, ⟨⟨32, 24⟩, .ro⟩],
    fun _ _ => 0x0⟩,
  ⟨"TC_GROUP_STATE word 1", 0xe0012001108, [(0x10000000, 4), (0x200, 64), (0x20, 8)], .readOnly,
    [⟨⟨0, 32⟩, .ro⟩, ⟨⟨32, 32⟩, .ro⟩],
    fun _ _ => 0x0⟩,
  ⟨"TC_GROUP_STATE word 2", 0xe0012001110, [(0x10000000, 4), (0x200, 64), (0x20, 8)], .readOnly,
    [⟨⟨0, 32⟩, .ro⟩, ⟨⟨32, 32⟩, .ro⟩],
    fun _ _ => 0x0⟩,
  ⟨"TC_GROUP_STATE word 3", 0xe0012001118, [(0x10000000, 4), (0x200, 64), (0x20, 8)], .readOnly,
    [⟨⟨0, 64⟩, .ro⟩],
    fun _ _ => 0x0⟩,
  ⟨"CAP_SP", 0xe0012100000, [(0x10000000, 4)], .readOnly,
    [⟨⟨0, 8⟩, .ro⟩, ⟨⟨8, 10⟩, .ro⟩, ⟨⟨18, 4⟩, .ro⟩, ⟨⟨22, 4⟩, .ro⟩, ⟨⟨26, 10⟩, .ro⟩],
    fun _ _ => 0x402118040⟩,
  ⟨"TC_SP_CNT_CLR", 0xe0012101000, [(0x10000000, 4), (0x100, 4)], .immediate,
    [⟨⟨0, 1⟩, .wo⟩],
    fun _ _ => 0x0⟩,
  ⟨"TC_SP_CNT_CORR", 0xe0012101008, [(0x10000000, 4), (0x100, 4)], .readOnly,
    [⟨⟨0, 48⟩, .ro⟩],
    fun _ _ => 0x0⟩,
  ⟨"TC_SP_CNT_UNCORR", 0xe0012101010, [(0x10000000, 4), (0x100, 4)], .readOnly,
    [⟨⟨0, 48⟩, .ro⟩],
    fun _ _ => 0x0⟩,
  ⟨"TC_SP_CNT_AMO_RETRY", 0xe0012101018, [(0x10000000, 4), (0x100, 4)], .readOnly,
    [⟨⟨0, 48⟩, .ro⟩],
    fun _ _ => 0x0⟩,
  ⟨"TC_SP_CNT_SIDE_WAIT", 0xe0012101020, [(0x10000000, 4), (0x100, 4)], .readOnly,
    [⟨⟨0, 48⟩, .ro⟩],
    fun _ _ => 0x0⟩,
  ⟨"TC_TM_STATUS", 0xe0012110000, [(0x10000000, 4), (0x100, 16)], .readOnly,
    [⟨⟨0, 3⟩, .ro⟩, ⟨⟨3, 4⟩, .ro⟩, ⟨⟨8, 8⟩, .ro⟩, ⟨⟨16, 19⟩, .ro⟩, ⟨⟨48, 13⟩, .ro⟩],
    fun _ _ => 0x0⟩,
  ⟨"TC_TM_PROGRESS", 0xe0012110008, [(0x10000000, 4), (0x100, 16)], .readOnly,
    [⟨⟨0, 48⟩, .ro⟩],
    fun _ _ => 0x0⟩,
  ⟨"TC_TM_CNT_CLR", 0xe0012110010, [(0x10000000, 4), (0x100, 16)], .immediate,
    [⟨⟨0, 1⟩, .wo⟩],
    fun _ _ => 0x0⟩,
  ⟨"TC_TM_CNT_BYTES_RD", 0xe0012110020, [(0x10000000, 4), (0x100, 16)], .readOnly,
    [⟨⟨0, 48⟩, .ro⟩],
    fun _ _ => 0x0⟩,
  ⟨"TC_TM_CNT_BYTES_WR", 0xe0012110028, [(0x10000000, 4), (0x100, 16)], .readOnly,
    [⟨⟨0, 48⟩, .ro⟩],
    fun _ _ => 0x0⟩,
  ⟨"TC_TM_CNT_DESC", 0xe0012110030, [(0x10000000, 4), (0x100, 16)], .readOnly,
    [⟨⟨0, 48⟩, .ro⟩],
    fun _ _ => 0x0⟩,
  ⟨"TC_TM_CNT_HOLD", 0xe0012110038, [(0x10000000, 4), (0x100, 16)], .readOnly,
    [⟨⟨0, 48⟩, .ro⟩],
    fun _ _ => 0x0⟩]

/-- Rows 200 to 219 of the register table. -/
def regRows10 : List RegRow := [
  ⟨"TC_TM_CNT_OOR", 0xe0012110040, [(0x10000000, 4), (0x100, 16)], .readOnly,
    [⟨⟨0, 48⟩, .ro⟩],
    fun _ _ => 0x0⟩,
  ⟨"TC_TM_CNT_RETRY", 0xe0012110048, [(0x10000000, 4), (0x100, 16)], .readOnly,
    [⟨⟨0, 48⟩, .ro⟩],
    fun _ _ => 0x0⟩,
  ⟨"TC_TM_CNT_POISON", 0xe0012110050, [(0x10000000, 4), (0x100, 16)], .readOnly,
    [⟨⟨0, 48⟩, .ro⟩],
    fun _ _ => 0x0⟩,
  ⟨"CAP_L2", 0xe0014000000, [(0x10000000, 4)], .readOnly,
    [⟨⟨0, 8⟩, .ro⟩, ⟨⟨8, 14⟩, .ro⟩, ⟨⟨22, 5⟩, .ro⟩, ⟨⟨27, 8⟩, .ro⟩, ⟨⟨35, 7⟩, .ro⟩, ⟨⟨42, 9⟩, .ro⟩, ⟨⟨51, 4⟩, .ro⟩, ⟨⟨55, 4⟩, .ro⟩],
    fun _ _ => 0x764020404280020⟩,
  ⟨"L2_CFG", 0xe0014000100, [(0x10000000, 4)], .staged,
    [⟨⟨0, 6⟩, .rws⟩],
    fun _ _ => 0x18⟩,
  ⟨"L2_SLICE_STATUS", 0xe0014001000, [(0x10000000, 4), (0x100, 32)], .readOnly,
    [⟨⟨0, 4⟩, .ro⟩, ⟨⟨4, 1⟩, .ro⟩, ⟨⟨8, 7⟩, .ro⟩, ⟨⟨15, 1⟩, .ro⟩, ⟨⟨16, 9⟩, .ro⟩, ⟨⟨25, 1⟩, .ro⟩, ⟨⟨32, 15⟩, .ro⟩],
    fun _ _ => 0x0⟩,
  ⟨"L2_CNT_CLR", 0xe0014001008, [(0x10000000, 4), (0x100, 32)], .immediate,
    [⟨⟨0, 1⟩, .wo⟩],
    fun _ _ => 0x0⟩,
  ⟨"L2_CNT_HIT", 0xe0014001010, [(0x10000000, 4), (0x100, 32)], .readOnly,
    [⟨⟨0, 48⟩, .ro⟩],
    fun _ _ => 0x0⟩,
  ⟨"L2_CNT_MISS", 0xe0014001018, [(0x10000000, 4), (0x100, 32)], .readOnly,
    [⟨⟨0, 48⟩, .ro⟩],
    fun _ _ => 0x0⟩,
  ⟨"L2_CNT_MERGE", 0xe0014001020, [(0x10000000, 4), (0x100, 32)], .readOnly,
    [⟨⟨0, 48⟩, .ro⟩],
    fun _ _ => 0x0⟩,
  ⟨"L2_CNT_BYPASS", 0xe0014001028, [(0x10000000, 4), (0x100, 32)], .readOnly,
    [⟨⟨0, 48⟩, .ro⟩],
    fun _ _ => 0x0⟩,
  ⟨"L2_CNT_WB", 0xe0014001030, [(0x10000000, 4), (0x100, 32)], .readOnly,
    [⟨⟨0, 48⟩, .ro⟩],
    fun _ _ => 0x0⟩,
  ⟨"L2_CNT_RMW", 0xe0014001038, [(0x10000000, 4), (0x100, 32)], .readOnly,
    [⟨⟨0, 48⟩, .ro⟩],
    fun _ _ => 0x0⟩,
  ⟨"L2_CNT_RED", 0xe0014001040, [(0x10000000, 4), (0x100, 32)], .readOnly,
    [⟨⟨0, 48⟩, .ro⟩],
    fun _ _ => 0x0⟩,
  ⟨"L2_CNT_DRAIN", 0xe0014001048, [(0x10000000, 4), (0x100, 32)], .readOnly,
    [⟨⟨0, 48⟩, .ro⟩],
    fun _ _ => 0x0⟩,
  ⟨"L2_CNT_RED_STALL", 0xe0014001050, [(0x10000000, 4), (0x100, 32)], .readOnly,
    [⟨⟨0, 48⟩, .ro⟩],
    fun _ _ => 0x0⟩,
  ⟨"L2_CNT_CORR", 0xe0014001058, [(0x10000000, 4), (0x100, 32)], .readOnly,
    [⟨⟨0, 48⟩, .ro⟩],
    fun _ _ => 0x0⟩,
  ⟨"L2_CNT_UNCORR", 0xe0014001060, [(0x10000000, 4), (0x100, 32)], .readOnly,
    [⟨⟨0, 48⟩, .ro⟩],
    fun _ _ => 0x0⟩,
  ⟨"L2_CNT_DIR_RECALL", 0xe0014001068, [(0x10000000, 4), (0x100, 32)], .readOnly,
    [⟨⟨0, 48⟩, .ro⟩],
    fun _ _ => 0x0⟩,
  ⟨"L2_CNT_DIR_BACKINV", 0xe0014001070, [(0x10000000, 4), (0x100, 32)], .readOnly,
    [⟨⟨0, 48⟩, .ro⟩],
    fun _ _ => 0x0⟩]

/-- Rows 220 to 239 of the register table. -/
def regRows11 : List RegRow := [
  ⟨"L2_RED_TABLE", 0xe0014200008, [(0x10000000, 4), (0x80, 256), (0x8, 15)], .staged,
    [⟨⟨0, 1⟩, .rws⟩, ⟨⟨1, 4⟩, .rws⟩, ⟨⟨5, 3⟩, .rws⟩, ⟨⟨8, 2⟩, .rws⟩, ⟨⟨16, 16⟩, .rws⟩],
    fun _ _ => 0x0⟩,
  ⟨"CAP_LNT", 0xe0015000000, [(0x10000000, 4)], .readOnly,
    [⟨⟨0, 8⟩, .ro⟩, ⟨⟨8, 9⟩, .ro⟩, ⟨⟨17, 5⟩, .ro⟩, ⟨⟨22, 9⟩, .ro⟩, ⟨⟨31, 9⟩, .ro⟩, ⟨⟨40, 7⟩, .ro⟩, ⟨⟨47, 4⟩, .ro⟩],
    fun _ _ => 0x4408040210012⟩,
  ⟨"CAP_LNT_UNIT", 0xe0015000100, [(0x10000000, 4), (0x8, 18)], .readOnly,
    [⟨⟨0, 7⟩, .ro⟩, ⟨⟨7, 1⟩, .ro⟩, ⟨⟨8, 9⟩, .ro⟩],
    fun part i => resetCapLntUnit part (i.getD 0 0) (i.getD 1 0)⟩,
  ⟨"LNT_STATUS", 0xe0015001000, [(0x10000000, 4), (0x100, 18)], .readOnly,
    [⟨⟨0, 3⟩, .ro⟩, ⟨⟨3, 4⟩, .ro⟩, ⟨⟨8, 8⟩, .ro⟩, ⟨⟨16, 4⟩, .ro⟩],
    fun part i => resetLntStatus part (i.getD 1 0)⟩,
  ⟨"LNT_PROGRESS", 0xe0015001008, [(0x10000000, 4), (0x100, 18)], .readOnly,
    [⟨⟨0, 32⟩, .ro⟩],
    fun _ _ => 0x0⟩,
  ⟨"LNT_CNT_CLR", 0xe0015001010, [(0x10000000, 4), (0x100, 18)], .immediate,
    [⟨⟨0, 1⟩, .wo⟩],
    fun _ _ => 0x0⟩,
  ⟨"LNT_CNT_BYTES", 0xe0015001020, [(0x10000000, 4), (0x100, 18)], .readOnly,
    [⟨⟨0, 48⟩, .ro⟩],
    fun _ _ => 0x0⟩,
  ⟨"LNT_CNT_RECORDS", 0xe0015001028, [(0x10000000, 4), (0x100, 18)], .readOnly,
    [⟨⟨0, 48⟩, .ro⟩],
    fun _ _ => 0x0⟩,
  ⟨"LNT_CNT_REQS", 0xe0015001030, [(0x10000000, 4), (0x100, 18)], .readOnly,
    [⟨⟨0, 48⟩, .ro⟩],
    fun _ _ => 0x0⟩,
  ⟨"LNT_CNT_PAUSE", 0xe0015001038, [(0x10000000, 4), (0x100, 18)], .readOnly,
    [⟨⟨0, 48⟩, .ro⟩],
    fun _ _ => 0x0⟩,
  ⟨"LNT_CNT_POISON", 0xe0015001040, [(0x10000000, 4), (0x100, 18)], .readOnly,
    [⟨⟨0, 48⟩, .ro⟩],
    fun _ _ => 0x0⟩,
  ⟨"LNT_CNT_BUF_CORR", 0xe0015001048, [(0x10000000, 4), (0x100, 18)], .readOnly,
    [⟨⟨0, 48⟩, .ro⟩],
    fun _ _ => 0x0⟩,
  ⟨"LNT_CNT_RESULT", 0xe0015001050, [(0x10000000, 4), (0x100, 18)], .readOnly,
    [⟨⟨0, 48⟩, .ro⟩],
    fun _ _ => 0x0⟩,
  ⟨"LNT_CNT_WAIT", 0xe0015001058, [(0x10000000, 4), (0x100, 18)], .readOnly,
    [⟨⟨0, 48⟩, .ro⟩],
    fun _ _ => 0x0⟩,
  ⟨"CAP_SYN", 0xe0016000000, [(0x10000000, 4)], .readOnly,
    [⟨⟨0, 16⟩, .ro⟩, ⟨⟨16, 12⟩, .ro⟩],
    fun _ _ => 0x4004000⟩,
  ⟨"SYN_CFG", 0xe0016000100, [(0x10000000, 4)], .staged,
    [⟨⟨0, 6⟩, .rws⟩],
    fun _ _ => 0x22⟩,
  ⟨"SYN_CNT_CLR", 0xe0016001000, [(0x10000000, 4)], .immediate,
    [⟨⟨0, 1⟩, .wo⟩],
    fun _ _ => 0x0⟩,
  ⟨"SYN_CNT_OPS", 0xe0016001008, [(0x10000000, 4)], .readOnly,
    [⟨⟨0, 48⟩, .ro⟩],
    fun _ _ => 0x0⟩,
  ⟨"SYN_CNT_QUERY", 0xe0016001010, [(0x10000000, 4)], .readOnly,
    [⟨⟨0, 48⟩, .ro⟩],
    fun _ _ => 0x0⟩,
  ⟨"SYN_CNT_REFUSED", 0xe0016001018, [(0x10000000, 4)], .readOnly,
    [⟨⟨0, 48⟩, .ro⟩],
    fun _ _ => 0x0⟩]

/-- Rows 240 to 259 of the register table. -/
def regRows12 : List RegRow := [
  ⟨"SYN_CNT_NOTIFY", 0xe0016001020, [(0x10000000, 4)], .readOnly,
    [⟨⟨0, 48⟩, .ro⟩],
    fun _ _ => 0x0⟩,
  ⟨"SYN_OBJ_STATE word 0", 0xe0016100000, [(0x10000000, 4), (0x10, 16384)], .readOnly,
    [⟨⟨0, 2⟩, .ro⟩, ⟨⟨2, 1⟩, .ro⟩, ⟨⟨3, 1⟩, .ro⟩, ⟨⟨4, 1⟩, .ro⟩, ⟨⟨8, 8⟩, .ro⟩, ⟨⟨16, 16⟩, .ro⟩, ⟨⟨32, 16⟩, .ro⟩, ⟨⟨48, 16⟩, .ro⟩],
    fun _ _ => 0x0⟩,
  ⟨"SYN_OBJ_STATE word 1", 0xe0016100008, [(0x10000000, 4), (0x10, 16384)], .readOnly,
    [⟨⟨0, 32⟩, .ro⟩, ⟨⟨32, 32⟩, .ro⟩],
    fun _ _ => 0x0⟩,
  ⟨"SYN_Q_CFG", 0xe0016200000, [(0x10000000, 4), (0x20, 1024)], .readOnly,
    [⟨⟨0, 1⟩, .ro⟩, ⟨⟨5, 5⟩, .ro⟩, ⟨⟨10, 2⟩, .ro⟩, ⟨⟨12, 1⟩, .ro⟩, ⟨⟨16, 8⟩, .ro⟩, ⟨⟨24, 16⟩, .ro⟩, ⟨⟨40, 16⟩, .ro⟩],
    fun _ _ => 0x0⟩,
  ⟨"SYN_Q_STATUS", 0xe0016200008, [(0x10000000, 4), (0x20, 1024)], .readOnly,
    [⟨⟨0, 2⟩, .ro⟩, ⟨⟨32, 32⟩, .ro⟩],
    fun _ _ => 0x0⟩,
  ⟨"SYN_Q_STOP", 0xe0016200010, [(0x10000000, 4), (0x20, 1024)], .readOnly,
    [⟨⟨0, 32⟩, .ro⟩, ⟨⟨32, 4⟩, .ro⟩, ⟨⟨48, 16⟩, .ro⟩],
    fun _ _ => 0x0⟩,
  ⟨"CAP_FAB", 0xe0017000000, [(0x10000000, 4)], .readOnly,
    [⟨⟨0, 4⟩, .ro⟩, ⟨⟨4, 4⟩, .ro⟩, ⟨⟨8, 8⟩, .ro⟩, ⟨⟨16, 8⟩, .ro⟩, ⟨⟨24, 5⟩, .ro⟩, ⟨⟨29, 10⟩, .ro⟩],
    fun part _ => part.portsPerDie + 4*2^4 + 0x40*2^8 + 0x40*2^16 + 0x10*2^24 + 0x200*2^29⟩,
  ⟨"FAB_CFG", 0xe0017000100, [], .staged,
    [⟨⟨0, 16⟩, .rws⟩, ⟨⟨16, 8⟩, .rws⟩, ⟨⟨24, 16⟩, .rws⟩, ⟨⟨40, 4⟩, .rws⟩, ⟨⟨44, 12⟩, .rws⟩, ⟨⟨56, 4⟩, .rws⟩, ⟨⟨60, 4⟩, .rws⟩],
    fun part _ => resetFabCfg part⟩,
  ⟨"FAB_DEV_STATUS", 0xe0017000108, [], .readOnly,
    [⟨⟨0, 22⟩, .ro⟩, ⟨⟨22, 2⟩, .ro⟩, ⟨⟨24, 20⟩, .ro⟩, ⟨⟨44, 6⟩, .ro⟩, ⟨⟨50, 8⟩, .ro⟩, ⟨⟨58, 1⟩, .ro⟩],
    fun _ _ => 0x3fffff⟩,
  ⟨"FAB_MGMT_CFG", 0xe0017000110, [], .staged,
    [⟨⟨0, 22⟩, .rws⟩, ⟨⟨32, 22⟩, .rws⟩],
    fun _ _ => 0x3fffff003fffff⟩,
  ⟨"FAB_MGMT_STATUS", 0xe0017000118, [], .readOnly,
    [⟨⟨0, 22⟩, .ro⟩, ⟨⟨22, 1⟩, .ro⟩, ⟨⟨23, 7⟩, .ro⟩, ⟨⟨30, 7⟩, .ro⟩],
    fun _ _ => 0x3fffff⟩,
  ⟨"FAB_TAG", 0xe0017000200, [(0x8, 64)], .readOnly,
    [⟨⟨0, 20⟩, .ro⟩, ⟨⟨20, 2⟩, .ro⟩, ⟨⟨22, 8⟩, .ro⟩, ⟨⟨30, 1⟩, .ro⟩, ⟨⟨32, 23⟩, .ro⟩],
    fun _ _ => 0x0⟩,
  ⟨"FAB_FLARE_STATUS word 0", 0xe0017000800, [], .readOnly,
    [⟨⟨0, 32⟩, .ro⟩, ⟨⟨32, 3⟩, .ro⟩, ⟨⟨35, 1⟩, .ro⟩, ⟨⟨36, 1⟩, .ro⟩, ⟨⟨37, 7⟩, .ro⟩, ⟨⟨44, 20⟩, .ro⟩],
    fun _ _ => 0x0⟩,
  ⟨"FAB_FLARE_STATUS word 1", 0xe0017000808, [], .readOnly,
    [⟨⟨0, 24⟩, .ro⟩, ⟨⟨24, 24⟩, .ro⟩],
    fun _ _ => 0x0⟩,
  ⟨"FAB_FLARE_UNREACHED", 0xe0017000900, [(0x8, 64)], .readOnly,
    [⟨⟨0, 48⟩, .ro⟩, ⟨⟨63, 1⟩, .ro⟩],
    fun _ _ => 0x0⟩,
  ⟨"FAB_PORT_CFG", 0xe0017001000, [(0x10000000, 4), (0x100, 4)], .staged,
    [⟨⟨0, 2⟩, .rws⟩, ⟨⟨2, 2⟩, .rws⟩],
    fun _ _ => 0x0⟩,
  ⟨"FAB_PORT_STATUS", 0xe0017001008, [(0x10000000, 4), (0x100, 4)], .readOnly,
    [⟨⟨0, 3⟩, .ro⟩, ⟨⟨3, 1⟩, .ro⟩, ⟨⟨8, 8⟩, .ro⟩, ⟨⟨16, 22⟩, .ro⟩],
    fun part i => resetPortStatus part (i.getD 1 0)⟩,
  ⟨"FAB_PORT_CNT_CLR", 0xe0017001010, [(0x10000000, 4), (0x100, 4)], .immediate,
    [⟨⟨0, 1⟩, .wo⟩],
    fun _ _ => 0x0⟩,
  ⟨"FAB_PORT_CNT_TX_PKT", 0xe0017001018, [(0x10000000, 4), (0x100, 4)], .readOnly,
    [⟨⟨0, 48⟩, .ro⟩],
    fun _ _ => 0x0⟩,
  ⟨"FAB_PORT_CNT_RX_PKT", 0xe0017001020, [(0x10000000, 4), (0x100, 4)], .readOnly,
    [⟨⟨0, 48⟩, .ro⟩],
    fun _ _ => 0x0⟩]

/-- Rows 260 to 279 of the register table. -/
def regRows13 : List RegRow := [
  ⟨"FAB_PORT_CNT_TX_BYTES", 0xe0017001028, [(0x10000000, 4), (0x100, 4)], .readOnly,
    [⟨⟨0, 48⟩, .ro⟩],
    fun _ _ => 0x0⟩,
  ⟨"FAB_PORT_CNT_RX_BYTES", 0xe0017001030, [(0x10000000, 4), (0x100, 4)], .readOnly,
    [⟨⟨0, 48⟩, .ro⟩],
    fun _ _ => 0x0⟩,
  ⟨"FAB_PORT_CNT_REPLAY", 0xe0017001038, [(0x10000000, 4), (0x100, 4)], .readOnly,
    [⟨⟨0, 48⟩, .ro⟩],
    fun _ _ => 0x0⟩,
  ⟨"FAB_PORT_CNT_TAGDROP", 0xe0017001040, [(0x10000000, 4), (0x100, 4)], .readOnly,
    [⟨⟨0, 48⟩, .ro⟩],
    fun _ _ => 0x0⟩,
  ⟨"FAB_PORT_CNT_NOROUTE", 0xe0017001048, [(0x10000000, 4), (0x100, 4)], .readOnly,
    [⟨⟨0, 48⟩, .ro⟩],
    fun _ _ => 0x0⟩,
  ⟨"FAB_PORT_CNT_LIFEDROP", 0xe0017001050, [(0x10000000, 4), (0x100, 4)], .readOnly,
    [⟨⟨0, 48⟩, .ro⟩],
    fun _ _ => 0x0⟩,
  ⟨"FAB_PORT_CNT_CRC", 0xe0017001058, [(0x10000000, 4), (0x100, 4)], .readOnly,
    [⟨⟨0, 48⟩, .ro⟩],
    fun _ _ => 0x0⟩,
  ⟨"FAB_COLL_STATUS", 0xe0017002000, [(0x10000000, 4), (0x8, 64)], .readOnly,
    [⟨⟨0, 2⟩, .ro⟩, ⟨⟨2, 2⟩, .ro⟩, ⟨⟨8, 8⟩, .ro⟩, ⟨⟨16, 32⟩, .ro⟩, ⟨⟨48, 5⟩, .ro⟩],
    fun _ _ => 0x0⟩,
  ⟨"FAB_CNT_CLR", 0xe0017003000, [(0x10000000, 4)], .immediate,
    [⟨⟨0, 1⟩, .wo⟩],
    fun _ _ => 0x0⟩,
  ⟨"FAB_CNT_E2E_RETX", 0xe0017003008, [(0x10000000, 4)], .readOnly,
    [⟨⟨0, 48⟩, .ro⟩],
    fun _ _ => 0x0⟩,
  ⟨"FAB_CNT_E2E_FAIL", 0xe0017003010, [(0x10000000, 4)], .readOnly,
    [⟨⟨0, 48⟩, .ro⟩],
    fun _ _ => 0x0⟩,
  ⟨"FAB_CNT_PEER_FULL", 0xe0017003018, [(0x10000000, 4)], .readOnly,
    [⟨⟨0, 48⟩, .ro⟩],
    fun _ _ => 0x0⟩,
  ⟨"FAB_CNT_LOCALDROP", 0xe0017003020, [(0x10000000, 4)], .readOnly,
    [⟨⟨0, 48⟩, .ro⟩],
    fun _ _ => 0x0⟩,
  ⟨"FAB_LINK_STATUS", 0xe0017f00000, [(0x10000000, 4), (0x10, 3)], .readOnly,
    [⟨⟨0, 3⟩, .ro⟩, ⟨⟨3, 1⟩, .ro⟩, ⟨⟨4, 1⟩, .ro⟩, ⟨⟨8, 16⟩, .ro⟩, ⟨⟨24, 16⟩, .ro⟩, ⟨⟨40, 8⟩, .ro⟩],
    fun _ i => resetLinkStatus (i.getD 0 0) (i.getD 1 0)⟩,
  ⟨"FAB_LINK_CNT", 0xe0017f00008, [(0x10000000, 4), (0x10, 3)], .readOnly,
    [⟨⟨0, 32⟩, .ro⟩, ⟨⟨32, 16⟩, .ro⟩],
    fun _ _ => 0x0⟩,
  ⟨"FAB_BOND_STATUS", 0xe0017f01000, [(0x10000000, 4)], .readOnly,
    [⟨⟨0, 32⟩, .ro⟩, ⟨⟨32, 6⟩, .ro⟩, ⟨⟨38, 1⟩, .ro⟩, ⟨⟨40, 10⟩, .ro⟩],
    fun _ _ => 0x0⟩,
  ⟨"FAB_BOND_CNT", 0xe0017f01008, [(0x10000000, 4)], .readOnly,
    [⟨⟨0, 32⟩, .ro⟩, ⟨⟨32, 16⟩, .ro⟩],
    fun _ _ => 0x0⟩,
  ⟨"CTL_HOST_STATUS", 0xe000f000000, [], .readOnly,
    [⟨⟨0, 2⟩, .ro⟩, ⟨⟨2, 1⟩, .ro⟩],
    fun _ _ => 0x0⟩,
  ⟨"CTL_HC_ENTRY", 0xe000f000100, [], .immediate,
    [⟨⟨2, 62⟩, .rw⟩],
    fun _ _ => 0x0⟩,
  ⟨"CTL_HC_RELEASE", 0xe000f000108, [], .immediate,
    [⟨⟨0, 64⟩, .wo⟩],
    fun _ _ => 0x0⟩]

/-- Rows 280 to 287 of the register table. -/
def regRows14 : List RegRow := [
  ⟨"CTL_HC_RUNNING", 0xe000f000110, [], .readOnly,
    [⟨⟨0, 64⟩, .ro⟩],
    fun _ _ => 0x0⟩,
  ⟨"CTL_D2D_STATUS", 0xe000f001000, [(0x10, 2)], .readOnly,
    [⟨⟨0, 3⟩, .ro⟩, ⟨⟨3, 1⟩, .ro⟩, ⟨⟨4, 1⟩, .ro⟩, ⟨⟨8, 16⟩, .ro⟩, ⟨⟨24, 16⟩, .ro⟩, ⟨⟨40, 8⟩, .ro⟩],
    fun _ _ => 0x1⟩,
  ⟨"CTL_D2D_CNT", 0xe000f001008, [(0x10, 2)], .readOnly,
    [⟨⟨0, 32⟩, .ro⟩, ⟨⟨32, 16⟩, .ro⟩],
    fun _ _ => 0x0⟩,
  ⟨"CTL_PE_CFG", 0xe000f010000, [(0x1000, 2)], .staged,
    [⟨⟨0, 3⟩, .rws⟩, ⟨⟨3, 5⟩, .rws⟩, ⟨⟨8, 1⟩, .rws⟩],
    fun _ _ => 0x86⟩,
  ⟨"CTL_PE_STATUS", 0xe000f010008, [(0x1000, 2)], .readOnly,
    [⟨⟨0, 3⟩, .ro⟩, ⟨⟨3, 5⟩, .ro⟩, ⟨⟨8, 1⟩, .ro⟩, ⟨⟨9, 1⟩, .ro⟩, ⟨⟨32, 32⟩, .ro⟩],
    fun _ _ => 0x0⟩,
  ⟨"CTL_PE_OUT_BASE", 0xe000f010010, [(0x1000, 2)], .staged,
    [⟨⟨28, 36⟩, .rws⟩],
    fun _ _ => 0x0⟩,
  ⟨"CTL_PE_MSI_BASE", 0xe000f010018, [(0x1000, 2)], .staged,
    [⟨⟨18, 46⟩, .rws⟩],
    fun _ _ => 0x0⟩,
  ⟨"CTL_PE_INWIN", 0xe000f010100, [(0x1000, 2), (0x8, 8)], .staged,
    [⟨⟨0, 1⟩, .rws⟩, ⟨⟨1, 1⟩, .rws⟩, ⟨⟨2, 1⟩, .rws⟩, ⟨⟨6, 6⟩, .rws⟩, ⟨⟨12, 40⟩, .rws⟩],
    fun _ _ => 0x300⟩]

/-- Every register of control space. -/
def regRows : List RegRow :=
  regRows0 ++ regRows1 ++ regRows2 ++ regRows3 ++ regRows4 ++ regRows5 ++ regRows6 ++ regRows7 ++ regRows8 ++ regRows9 ++ regRows10 ++ regRows11 ++ regRows12 ++ regRows13 ++ regRows14

/-- The indices an offset spells under the strides and counts of a row, or none when it lies off the row. -/
def indicesOf : List (Nat × Nat) → Nat → Option (List Nat)
  | [], off => if off = 0 then some [] else none
  | (st, ct) :: ds, off =>
    if off / st < ct then (indicesOf ds (off % st)).map (off / st :: ·) else none

/-- The row and indices of an address among some rows. -/
def findRegIn : List RegRow → Nat → Option (RegRow × List Nat)
  | [], _ => none
  | r :: rs, a =>
    if r.base ≤ a then
      match indicesOf r.dims (a - r.base) with
      | some is => some (r, is)
      | none => findRegIn rs a
    else findRegIn rs a

/-- The register at an address of control space; none in a gap (R115). -/
def findReg (a : Nat) : Option (RegRow × List Nat) := findRegIn regRows a

/-- The value of a register after a module reset (R10); 0 in a gap, as a load of a gap returns (R115). -/
def regDefault (p : Part) (a : Nat) : Word :=
  match findReg a with
  | some (r, is) => BitVec.ofNat 64 (r.reset p is)
  | none => 0

/-- The bits of a register whose fields have one of the given access codes. -/
def RegRow.mask (r : RegRow) (accs : List Access) : Word :=
  r.fields.foldl (fun m f => if accs.contains f.acc then m ||| ((BitVec.ofNat 64 (2 ^ f.fld.w - 1)) <<< f.fld.lo) else m) 0

end Sys2Proof.Machine
end

