-- ==== Sys2Proof/Machine/Types/Ageing.lean ====
section
/-! DEFINITION. State of ageing (22_ageing.md) beyond its registers: what the monitors have measured, a re-plan in progress, changes
of the fence record on their way to the store. -/

namespace Sys2Proof.Machine

/-- A re-plan between its computation and its durable records (R674, R675): the dies it names, whether it moves LAST_H, the channel
that waits, the new values of the V-F registers, the fences it makes pending and those it makes at once (tower, engine), how many
dies' tables change, and whether a fixed-frequency island is marginal. -/
structure Replan where
  dies    : Nat
  due     : Bool
  chan    : Option Nat
  regs    : List (Nat × Word)
  pend    : List (Nat × Nat)
  atOnce  : List (Nat × Nat)
  changed : Nat
  fixed   : Bool
  deriving DecidableEq, Repr, Inhabited

/-- A UNIT_FENCE or UNIT_UNFENCE that is not yet durable (R680): tower, kind, index, whether it fences, its channel. -/
structure FenceChange where
  tower : Nat
  kind  : Nat
  index : Nat
  fence : Bool
  chan  : Nat
  deriving DecidableEq, Repr, Inhabited

/-- State of ageing: the present delay of each monitor in ps; the largest delay of this re-plan period, and of the last period in
which the level ran, by 16 * monitor + level (R670, R674); ARRAY_CHECK faults of this period by 17 * tower + engine (R678); the
re-plan in progress; fence changes not yet durable; fenced units that return at their next boundary (tower, kind, index). -/
structure Ageing where
  delays  : List (Nat × Nat)
  cur     : List (Nat × Nat)
  old     : List (Nat × Nat)
  checks  : List (Nat × Nat)
  replan  : Option Replan
  changes : List FenceChange
  leaving : List (Nat × Nat × Nat)
  deriving DecidableEq, Repr, Inhabited

end Sys2Proof.Machine
end

