-- ==== Sys2Proof/Machine/Types/Board.lean ====
section
/-! DEFINITION. State of the module's face: supplies, rails, pins, reference, brake, resets in progress, boot store. -/

namespace Sys2Proof.Machine

/-- The self-timed soft-start stage of an input (R42). -/
inductive Ramp where
  | idle | ramping | complete
  deriving DecidableEq, Repr, Inhabited

/-- One supply input (R40, R42): the blade-side and internal voltages in mV, whether it is good, whether it has been lost
since it was last good, the tick at which its 100 ms good window began if one is running, and its soft-start stage. -/
structure Supply where
  bladeMv : Nat
  busMv   : Nat
  good    : Bool
  lost    : Bool
  window  : Option Nat
  ramp    : Ramp
  deriving DecidableEq, Repr, Inhabited

/-- A module reset in progress (R77): its cause under R62, whether it will hand over, the milestones passed. -/
structure ModReset where
  cause     : Nat
  locked    : Bool
  refWait   : Bool
  startTick : Nat
  deriving DecidableEq, Repr, Inhabited

/-- The module's face. -/
structure Board where
  main      : Supply
  backup    : Supply
  /-- MGMT runs (R131). -/
  mgmtUp    : Bool
  /-- The module has been withdrawn from its node board (R43). -/
  removed   : Bool
  /-- A rail sequence is running (R132), and how many rail steps are good. -/
  railRun   : Bool
  rails     : Nat
  /-- Every island but MGMT has power (R58, R132). -/
  powered   : Bool
  /-- RESET_L is recognised and not yet released (R52), and the tick at which it fell. -/
  resetLow  : Bool
  lowFrom   : Nat
  /-- The module reset in progress, if any (R77). -/
  modReset  : Option ModReset
  /-- A thermal trip has happened and its reset is still to come (R58), and THERM_L's latch. -/
  tripped   : Bool
  /-- THERM_L, BRAKED_L are driven (R57); ALERT_L and ECLIPSE_L follow CTL_ALERT and the eclipse phase. -/
  thermLow  : Bool
  brakedLow : Bool
  /-- PE0_PERST_L and PE1_PERST_L asserted, and the PCIe reference clocks running (R48, R77, R137). -/
  perst     : Bool
  refclkOut : Bool
  /-- VIO_1V8 is live (R47). -/
  vio       : Bool
  /-- REF is lost and the generators are in holdover (R50, R68). -/
  refLost   : Bool
  /-- Tick at which REF_OK last changed (R50). -/
  refFrom   : Nat
  /-- Stuck timer and release timer of the brake, as the tick at which each last started (R54, R55). -/
  stuckFrom   : Nat
  releaseFrom : Nat
  /-- Why the brake holds: BRAKE_L and, apart from it, the supply-loss sequence (R649). -/
  lossBrake : Bool
  /-- Tick at which the last module reset ended and at which the readiness state was entered (R130, R140). -/
  resetEnd  : Nat
  stateFrom : Nat
  /-- Training of this MEMORY_INIT has ended (R137, R138). -/
  trained   : Bool
  /-- The boot store: image slots A and B in order of TYPE (R134, R135). -/
  slotA     : List BootImage
  slotB     : List BootImage
  /-- The SVN of the running CCFW (R130). -/
  ccSvn     : Nat
  /-- Droop stretch in sixteenths by island (R70); an island not listed is not stretched. -/
  stretch   : List (Nat × Nat)
  /-- Towers under reset (R79), and the channel that waits for the reply. -/
  towerRst  : List (Nat × Option Nat)
  /-- The ticks at which the tower resets in progress began. -/
  towerFrom : List (Nat × Nat) := []
  /-- Tower and context of the work that each tower reset in progress found (R82). -/
  towerHad  : List (Nat × Nat)
  /-- Contexts under reset with the waiting channel (R80). -/
  ctxRst    : List (Nat × Option Nat)
  /-- Units under reset: unit code and waiting channel (R81). -/
  unitRst   : List (Nat × Option Nat)
  /-- The non-volatile V-F record (R671, R686) as register values: what a module reset restores. -/
  nv        : List (Nat × Word)
  deriving DecidableEq, Repr, Inhabited

end Sys2Proof.Machine
end

