-- ==== Sys2Proof/Machine/Numbers.lean ====
section
/-! DEFINITION. Number formats and exact arithmetic (07_aperture_formats.md, 08_scaling_rounding.md): decoding, the one
rounding, converters, the aperture word and its records, slices, and the random bits of stochastic rounding. -/

namespace Sys2Proof.Machine

/-! Exact dyadic values. -/

/-- The exact value (-1)^neg * m * 2^e; a zero keeps its sign. -/
structure Dy where
  neg : Bool
  m   : Nat
  e   : Int
  deriving DecidableEq, Repr, Inhabited

namespace Dy

/-- The value is zero. -/
def isZero (a : Dy) : Bool := a.m = 0
/-- The exponent of the binade that holds |a| (R196); 0 for zero. -/
def flog (a : Dy) : Int := (Nat.log2 a.m : Int) + a.e
/-- Signed significand. -/
def int (a : Dy) : Int := if a.neg then -(a.m : Int) else a.m
/-- A dyadic from a signed significand; the sign of zero is plus. -/
def ofInt (i : Int) (e : Int) : Dy := { neg := decide (i < 0), m := i.natAbs, e := e }
/-- Exact product. -/
def mul (a b : Dy) : Dy := { neg := a.neg != b.neg, m := a.m * b.m, e := a.e + b.e }
/-- Scaling by a power of two. -/
def scale (a : Dy) (k : Int) : Dy := { a with e := a.e + k }
/-- Exact sum; the sign of a zero sum is minus only when both are negative. -/
def add (a b : Dy) : Dy :=
  if a.m = 0 then (if b.m = 0 then { neg := a.neg && b.neg, m := 0, e := 0 } else b)
  else if b.m = 0 then a
  else
    let e := min a.e b.e
    let x := a.int * (2 : Int) ^ (a.e - e).toNat + b.int * (2 : Int) ^ (b.e - e).toNat
    if x = 0 then { neg := a.neg && b.neg, m := 0, e := 0 } else ofInt x e
/-- Negation. -/
def negate (a : Dy) : Dy := { a with neg := !a.neg }
/-- |a| < |b|. -/
def absLt (a b : Dy) : Bool :=
  let e := min a.e b.e
  decide (a.m * 2 ^ (a.e - e).toNat < b.m * 2 ^ (b.e - e).toNat)
/-- a < b as values. -/
def lt (a b : Dy) : Bool :=
  if a.m = 0 && b.m = 0 then false
  else if a.m = 0 then !b.neg
  else if b.m = 0 then a.neg
  else if a.neg != b.neg then a.neg
  else if a.flog != b.flog then (decide (a.flog < b.flog)) != a.neg
  else if a.neg then b.absLt a else a.absLt b
/-- a = b as values. -/
def eqv (a b : Dy) : Bool := !a.lt b && !b.lt a
/-- floor(|a| * 2^k). -/
def floorAbs (a : Dy) (k : Int) : Nat :=
  let t := a.e + k
  if 0 ≤ t then a.m * 2 ^ t.toNat else a.m / 2 ^ (-t).toNat

end Dy

/-- A number of a format: a NaN, an infinity, or a finite value. -/
inductive Num where
  | nan
  | inf (neg : Bool)
  | fin (d : Dy)
  deriving DecidableEq, Repr, Inhabited

/-! Formats (R184 to R187). -/

/-- What the top exponent of a floating-point format encodes: IEEE infinities and NaNs, only the NaNs 0x7F and 0xFF of
E4M3, or finite values alone (R184, R185). -/
inductive Specials where
  | ieee | e4m3 | none
  deriving DecidableEq, Repr, Inhabited

/-- An element format: a two's complement integer, MXINT8's integer with weight 2^-6 (R186), or floating point (R184). -/
inductive Fmt where
  | int (w : Nat)
  | mxint8
  | flt (eb mb : Nat) (bias : Int) (sp : Specials)
  deriving DecidableEq, Repr, Inhabited

namespace Fmt
def int4 : Fmt := .int 4
def int8 : Fmt := .int 8
def int32 : Fmt := .int 32
def e4m3 : Fmt := .flt 4 3 7 .e4m3
def e5m2 : Fmt := .flt 5 2 15 .ieee
def f16 : Fmt := .flt 5 10 15 .ieee
def bf16 : Fmt := .flt 8 7 127 .ieee
def e2m3 : Fmt := .flt 2 3 1 .none
def e3m2 : Fmt := .flt 3 2 3 .none
def e2m1 : Fmt := .flt 2 1 1 .none
def f32 : Fmt := .flt 8 23 127 .ieee
def f64 : Fmt := .flt 11 52 1023 .ieee

/-- Bits of an encoding. -/
def bits : Fmt → Nat
  | .int w => w
  | .mxint8 => 8
  | .flt eb mb _ _ => 1 + eb + mb

/-- Exponent of the smallest normal binade (R184). -/
def emin : Fmt → Int
  | .flt _ _ b _ => 1 - b
  | _ => 0

/-- Mantissa bits. -/
def mant : Fmt → Nat
  | .flt _ mb _ _ => mb
  | _ => 0

/-- Largest finite magnitude (R184), as significand and exponent. -/
def maxFinite : Fmt → Dy
  | .int w => ⟨false, 2 ^ (w - 1) - 1, 0⟩
  | .mxint8 => ⟨false, 127, -6⟩
  | .flt eb mb b sp =>
    match sp with
    | .ieee => ⟨false, 2 ^ (mb + 1) - 1, (2 ^ eb : Nat) - 2 - b - mb⟩
    | .e4m3 => ⟨false, 2 ^ (mb + 1) - 2, (2 ^ eb : Nat) - 1 - b - mb⟩
    | .none => ⟨false, 2 ^ (mb + 1) - 1, (2 ^ eb : Nat) - 1 - b - mb⟩

/-- Encoding of the largest finite magnitude. -/
def maxBits : Fmt → Nat
  | .int w => 2 ^ (w - 1) - 1
  | .mxint8 => 127
  | .flt eb mb _ sp =>
    match sp with
    | .ieee => 2 ^ (eb + mb) - 2 ^ mb - 1
    | .e4m3 => 2 ^ (eb + mb) - 2
    | .none => 2 ^ (eb + mb) - 1

/-- Default NaN (R184); 0 where the format has none. -/
def defaultNan : Fmt → Nat
  | .flt eb mb _ .ieee => 2 ^ (eb + mb) - 2 ^ (mb - 1)
  | .flt eb mb _ .e4m3 => 2 ^ (eb + mb) - 1
  | _ => 0

/-- Encoding of an infinity where the format has one. -/
def infBits (f : Fmt) (neg : Bool) : Nat :=
  match f with
  | .flt eb mb _ _ => (2 ^ eb - 1) * 2 ^ mb + b2n neg * 2 ^ (eb + mb)
  | _ => 0

/-- top of R208: exponent of the binade that holds the largest finite value. -/
def top (f : Fmt) : Int := f.maxFinite.flog

/-- The value an encoding holds (R185, R186). -/
def decode (f : Fmt) (v : Nat) : Num :=
  match f with
  | .int w => .fin (Dy.ofInt (sext w v) 0)
  | .mxint8 => .fin (Dy.ofInt (sext 8 v) (-6))
  | .flt eb mb b sp =>
    let m := v % 2 ^ mb
    let x := v / 2 ^ mb % 2 ^ eb
    let neg := v.testBit (eb + mb)
    let special : Bool := match sp with
      | .ieee => x = 2 ^ eb - 1
      | .e4m3 => x = 2 ^ eb - 1 && m = 2 ^ mb - 1
      | .none => false
    if special then (if sp = .ieee ∧ m = 0 then .inf neg else .nan)
    else if x = 0 then .fin ⟨neg, m, 1 - b - mb⟩
    else .fin ⟨neg, 2 ^ mb + m, x - b - mb⟩

/-- A zero of either sign. -/
def zeroBits (f : Fmt) (neg : Bool) : Nat :=
  match f with
  | .flt eb mb _ _ => b2n neg * 2 ^ (eb + mb)
  | _ => 0

/-- The encoding of (-1)^neg * n * 2^ue, a value of the format's own spacing within its finite range. -/
def encode (f : Fmt) (neg : Bool) (n : Nat) (ue : Int) : Nat :=
  match f with
  | .int w => Machine.ofInt w (if neg then -(n : Int) else n)
  | .mxint8 => Machine.ofInt 8 (if neg then -(n : Int) else n)
  | .flt eb mb b _ =>
    if n = 0 then b2n neg * 2 ^ (eb + mb)
    else
      let lg := (Nat.log2 n : Int) + ue
      let sg := b2n neg * 2 ^ (eb + mb)
      let em : Int := 1 - b
      if lg < em then sg + (Dy.mk false n ue).floorAbs (mb - em)
      else sg + (lg + b).toNat * 2 ^ mb + (Dy.mk false n ue).floorAbs (mb - lg) % 2 ^ mb

end Fmt

/-! Rounding (R196, R224). -/

/-- How an inexact value is rounded: to nearest even, toward zero, up, down, or stochastically by a random word. -/
inductive Rnd where
  | even | zero | up | down | sr (r : Nat)
  deriving DecidableEq, Repr, Inhabited

/-- RND codes 0 to 3 (R149). -/
def Rnd.ofCode (c : Nat) : Rnd := match c % 4 with | 0 => .even | 1 => .zero | 2 => .up | _ => .down

/-- The exponent of the spacing u of round_to. -/
def spacing (v : Dy) (f : Fmt) : Int :=
  match f with
  | .int _ => 0
  | .mxint8 => -6
  | .flt .. => max v.flog f.emin - f.mant

/-- round_to of R196 and round_sr of R224 at a given spacing: the magnitude in units of 2^ue. -/
def roundAt (v : Dy) (ue : Int) (rnd : Rnd) : Nat :=
  let k := ue - v.e
  if k ≤ 0 then v.m * 2 ^ (-k).toNat
  else
    let d := 2 ^ k.toNat
    let n := v.m / d
    let r := v.m % d
    match rnd with
    | .even => if 2 * r > d || (2 * r = d && n % 2 = 1) then n + 1 else n
    | .zero => n
    | .up => if !v.neg && r ≠ 0 then n + 1 else n
    | .down => if v.neg && r ≠ 0 then n + 1 else n
    | .sr w => if w < r * 2 ^ 32 / d then n + 1 else n

/-- round_to: magnitude and spacing exponent. -/
def roundTo (v : Dy) (f : Fmt) (rnd : Rnd) : Nat × Int := let u := spacing v f; (roundAt v u rnd, u)

/-- A rounded magnitude beyond the format's range (R197). -/
def beyond (f : Fmt) (neg : Bool) (n : Nat) (ue : Int) : Bool :=
  match f with
  | .int w => if neg then decide (2 ^ (w - 1) < n) else decide (2 ^ (w - 1) ≤ n)
  | .mxint8 => if neg then decide (128 < n) else decide (127 < n)
  | .flt .. => f.maxFinite.absLt ⟨false, n, ue⟩

/-- Largest finite value of a sign, or the integer bound (R197). -/
def bound (f : Fmt) (neg : Bool) : Nat :=
  match f with
  | .int w => if neg then 2 ^ (w - 1) else 2 ^ (w - 1) - 1
  | .mxint8 => if neg then 128 else 127
  | .flt eb mb _ _ => f.maxBits + b2n neg * 2 ^ (eb + mb)

/-- Infinity of a sign, or what stands for it in a format without infinities (R199, R201): 0x7F or 0xFF in E4M3, the
largest finite value in E2M3, E3M2 and E2M1, the bound in an integer. -/
def infOr (f : Fmt) (neg : Bool) : Nat :=
  match f with
  | .flt _ _ _ .ieee => f.infBits neg
  | .flt eb mb _ .e4m3 => 2 ^ (eb + mb) - 1 + b2n neg * 2 ^ (eb + mb)
  | f => bound f neg

/-- A format whose values include infinities. -/
def Fmt.hasInf : Fmt → Bool | .flt _ _ _ .ieee => true | _ => false
/-- A format with a NaN. -/
def Fmt.hasNan : Fmt → Bool | .flt _ _ _ .none => false | .flt .. => true | _ => false

/-- A converter (R200, R201): the stored bits and whether the out-of-range counter counts. Conversion into an integer
format, and of a value the destination holds exactly, is the same rounding. -/
def convert (x : Num) (f : Fmt) (rnd : Rnd) (sat : Bool) : Nat × Bool :=
  match x with
  | .nan => if f.hasNan then (f.defaultNan, false) else (0, true)
  | .inf neg => (infOr f neg, !f.hasInf)
  | .fin d =>
    if d.m = 0 then (f.zeroBits d.neg, false)
    else
      let (n, u) := roundTo d f rnd
      if beyond f d.neg n u then (if sat then bound f d.neg else infOr f d.neg, true)
      else if n = 0 then (f.zeroBits d.neg, false)
      else (f.encode d.neg n u, false)

/-! The aperture (R181 to R199). -/

/-- An accumulator: the aperture word W and its four flags (R181, R183). -/
structure Acc where
  w    : Int
  nan  : Bool
  pinf : Bool
  ninf : Bool
  ovf  : Bool
  deriving DecidableEq, Repr, Inhabited

/-- A cleared accumulator (R183). -/
def Acc.zero : Acc := { w := 0, nan := false, pinf := false, ninf := false, ovf := false }

/-- place of R189: the integer, and whether the product overflows. -/
def place (p : Dy) (anchor : Int) : Int × Bool :=
  if p.m = 0 then (0, false)
  else if anchor + 1 ≤ p.flog then ((if p.neg then -(2 ^ 101 - 1) else 2 ^ 101 - 1), true)
  else
    let c : Nat := p.floorAbs (100 - anchor)
    ((if p.neg then -(c : Int) else c), false)

/-- A product of two operands entering an accumulator (R188). -/
def Acc.product (a : Acc) (anchor sigma : Int) (x y : Num) : Acc :=
  match x, y with
  | .nan, _ => { a with nan := true }
  | _, .nan => { a with nan := true }
  | .inf s, .inf t => if s = t then { a with pinf := true } else { a with ninf := true }
  | .inf s, .fin d => if d.m = 0 then { a with nan := true }
      else if s = d.neg then { a with pinf := true } else { a with ninf := true }
  | .fin d, .inf s => if d.m = 0 then { a with nan := true }
      else if s = d.neg then { a with pinf := true } else { a with ninf := true }
  | .fin d, .fin e =>
    let (c, o) := place ((d.mul e).scale sigma) anchor
    { a with w := a.w + c, ovf := a.ovf || o }

/-- floor_log2 of a finite nonzero product's magnitude, for pmax (R209). -/
def productLog (sigma : Int) (x y : Num) : Option Int :=
  match x, y with
  | .fin d, .fin e => if d.m = 0 || e.m = 0 then none else some (((d.mul e).scale sigma).flog)
  | _, _ => none

/-- An element of C entering with the first pass (R190): value times 2^X. -/
def Acc.entry (a : Acc) (anchor shift : Int) (x : Num) : Acc :=
  match x with
  | .nan => { a with nan := true }
  | .inf s => if s then { a with ninf := true } else { a with pinf := true }
  | .fin d =>
    let c0 := d.scale shift
    if c0.m = 0 then a
    else if anchor + 26 ≤ c0.flog then
      { a with w := a.w + (if c0.neg then -(2 ^ 126 - 1) else 2 ^ 126 - 1), ovf := true }
    else
      let c : Nat := c0.floorAbs (100 - anchor)
      { a with w := a.w + (if c0.neg then -(c : Int) else c) }

/-- The guard bits W[127:126] differ (R181, R192). -/
def guardDiffers (w : Int) : Bool := decide (2 ^ 126 ≤ w) || decide (w < -(2 ^ 126))

/-- The exact output value of an accumulator (R195). -/
def Acc.value (a : Acc) (anchor shift : Int) : Dy := Dy.ofInt a.w (anchor - 100 - shift)

/-- Output overflow of an accumulator with no flag set (R197). -/
def Acc.outputOverflows (a : Acc) (anchor shift : Int) (f : Fmt) (rnd : Rnd) : Bool :=
  if a.nan || a.pinf || a.ninf || a.ovf || a.w = 0 then false
  else
    let v := a.value anchor shift
    let (n, u) := roundTo v f rnd
    beyond f v.neg n u

/-- The stored element and whether it is saturated or out of range (R197 to R199). A split tile, whose result beyond range
is an infinity or the largest finite value as IEEE 754 prescribes (R167), passes ieee. -/
def Acc.output (a : Acc) (anchor shift : Int) (f : Fmt) (rnd : Rnd) (ieee : Bool) : Nat × Bool :=
  let isInt := match f with | .flt .. => false | _ => true
  if a.nan || (a.pinf && a.ninf) then (if isInt then 0 else f.defaultNan, isInt)
  else if a.pinf then (infOr f false, isInt)
  else if a.ninf then (infOr f true, isInt)
  else if a.ovf then (bound f (decide (a.w < 0)), true)
  else if a.w = 0 then (f.zeroBits (rnd = .down), false)
  else
    let v := a.value anchor shift
    let (n, u) := roundTo v f rnd
    if beyond f v.neg n u then
      if ieee then
        let finite := rnd = .zero || (rnd = .up && v.neg) || (rnd = .down && !v.neg)
        (if finite then bound f v.neg else infOr f v.neg, true)
      else (bound f v.neg, true)
    else if n = 0 then (f.zeroBits v.neg, false)
    else (f.encode v.neg n u, false)

/-! Aperture records (R203, R204). -/

/-- An aperture record: its word modulo 2^128, its anchor, its flags. -/
structure ApRec where
  w      : Nat
  anchor : Int
  flags  : Nat
  deriving DecidableEq, Repr, Inhabited

/-- The 24 bytes of a record. -/
def ApRec.bytes (r : ApRec) : List Byte :=
  leBytes 16 r.w ++ leBytes 2 (Machine.ofInt 16 r.anchor) ++ leBytes 1 (r.flags % 16) ++ leBytes 5 0

/-- The record that 24 bytes hold. -/
def ApRec.ofBytes (b : List Byte) : ApRec :=
  { w := leNat (b.take 16), anchor := sext 16 (leNat ((b.drop 16).take 2)), flags := leNat ((b.drop 18).take 1) % 16 }

/-- The record of an accumulator at an anchor. -/
def Acc.toRec (a : Acc) (anchor : Int) : ApRec :=
  { w := Machine.ofInt 128 a.w, anchor := anchor,
    flags := b2n a.nan + 2 * b2n a.pinf + 4 * b2n a.ninf + 8 * b2n a.ovf }

/-- The accumulator a record stands for. -/
def ApRec.toAcc (r : ApRec) : Acc :=
  { w := sext 128 r.w, nan := bit r.flags 0, pinf := bit r.flags 1, ninf := bit r.flags 2, ovf := bit r.flags 3 }

/-- Two records of one anchor combined (R204). -/
def ApRec.add (a b : ApRec) : ApRec := { w := (a.w + b.w) % 2 ^ 128, anchor := a.anchor, flags := a.flags ||| b.flags }

/-- A record converted to a format with an output shift (R204): the guard is checked, then the flags decide. -/
def ApRec.convert (r : ApRec) (shift : Int) (f : Fmt) (rnd : Rnd) : Nat × Bool :=
  let a := r.toAcc
  ({ a with ovf := a.ovf || guardDiffers a.w } : Acc).output r.anchor shift f rnd false

/-! Slices (R164 to R166). -/

/-- Number of slices of binary32 and binary64 (R164). -/
def sliceCount (wide : Bool) : Nat := if wide then 7 else 3

/-- The balanced base-256 digits of q, most significant first (R165). -/
def digits (q : Int) : Nat → List Int
  | 0 => []
  | s + 1 =>
    let d := (q + 128) % 256 - 128
    digits ((q - d) / 256) s ++ [d]

/-- slice of R165. -/
def slice (a : Dy) (e : Int) (s : Nat) : List Int :=
  let f : Int := 8 * s - 2
  let n := roundAt a (e - f) .even
  digits (if a.neg then -(n : Int) else n) s

/-- The integer that a list of slices encodes, most significant first (R165). -/
def unslice (d : List Int) : Int := d.foldl (fun q x => 256 * q + x) 0

/-- The least exponent e with |a| < 2^e for every element: what a converter writes for a row (R165, R166); a row of zeros has that
of the format's least number. -/
def sliceExp (wide : Bool) (xs : List Num) : Int :=
  if xs.any (fun x => match x with | .fin _ => false | _ => true) then 0x7FFF
  else
    let es := xs.filterMap (fun x => match x with
      | .fin d => if d.m = 0 then none else some (d.flog + 1)
      | _ => none)
    match es with
    | [] => if wide then -1074 else -149
    | e :: es => es.foldl max e

/-! Stochastic rounding's random word (R223). -/

/-- sr_mix of R223. -/
def srMix (x : BitVec 64) : BitVec 64 :=
  let x := x ^^^ (x >>> 32)
  let x := x * 0xA3B195C74E2DF06B
  let x := x ^^^ (x >>> 29)
  let x := x * 0x5B1D7F36C9A0E4D5
  x ^^^ (x >>> 32)

/-- sr_bits of R223. -/
def srBits (seed addr step : Nat) : Nat :=
  let h := srMix (BitVec.ofNat 64 seed + 0x3C8E51D2B7F40A69)
  let h := srMix (h ^^^ BitVec.ofNat 64 addr)
  let h := srMix (h ^^^ BitVec.ofNat 64 (step % 2 ^ 32))
  h.toNat / 2 ^ 32

/-! Format codes of descriptors (R148). -/

/-- The format of one stored element of A or B by its code; a sliced operand's element is an INT8 slice. -/
def fmtOf (code : Nat) : Option Fmt :=
  match code with
  | 0x00 => some Fmt.int8
  | 0x01 => some Fmt.int4
  | 0x02 | 0x06 => some Fmt.e4m3
  | 0x03 | 0x07 => some Fmt.e5m2
  | 0x04 => some Fmt.f16
  | 0x05 => some Fmt.bf16
  | 0x08 => some Fmt.e2m3
  | 0x09 => some Fmt.e3m2
  | 0x0A | 0x0C => some Fmt.e2m1
  | 0x0B => some Fmt.mxint8
  | 0x0D | 0x0E => some Fmt.int8
  | 0x10 => some Fmt.int32
  | 0x11 => some Fmt.f32
  | 0x12 => some Fmt.f64
  | _ => none

/-- A format code with MX block scales (R148). -/
def isMx (code : Nat) : Bool := 0x06 ≤ code && code ≤ 0x0B
/-- A sliced format code (R148). -/
def isSliced (code : Nat) : Bool := code = 0x0D || code = 0x0E
/-- Codes allowed as A or B (R148). -/
def allowedAB (code : Nat) : Bool := code ≤ 0x0E
/-- Codes allowed as C (R148). -/
def allowedC (code : Nat) : Bool := [0x00, 0x02, 0x03, 0x04, 0x05, 0x10, 0x11, 0x12].contains code
/-- Bits one element takes in the scratchpad (R162): MXFP6 elements take a byte each. -/
def storeBits (code : Nat) : Nat :=
  match code with
  | 0x01 | 0x0A | 0x0C => 4
  | 0x04 | 0x05 => 16
  | 0x10 | 0x11 => 32
  | 0x12 => 64
  | _ => 8

/-- The E8M0 scale exponent of a byte, none for NaN (R187). -/
def mxScale (b : Nat) : Option Int := if b % 256 = 0xFF then none else some ((b % 256 : Nat) - 127)

end Sys2Proof.Machine
end

