-- ==== Sys2Proof/Machine/Types/Errors.lean ====
section
/-! DEFINITION. State of error handling beyond its registers: who owns a piece of work, armed injections, recoveries in
progress, channels that are down. The record queues themselves are registers (R627 to R630). -/

namespace Sys2Proof.Machine

/-- To whom a piece of work belongs (R604): its context, and the queue and entry it began through, if any. -/
structure Owner where
  ctx   : Nat
  entry : Option (Nat × Nat)
  deriving DecidableEq, Repr, Inhabited

/-- An injection armed on a tower (R625). -/
structure Injection where
  tower : Nat
  cls   : Nat
  unit  : Nat
  ctx   : Nat
  addr  : Nat
  deriving DecidableEq, Repr, Inhabited

/-- What is wanted of a new record (R630), in the words of its fields; unit is the layout of W3[23:0]. -/
structure RecordReq where
  queue    : Nat
  cls      : Nat
  domain   : Nat
  action   : Nat
  escal    : Bool := false
  injected : Bool := false
  owner    : Option Owner := none
  unit     : Nat := 0
  opref    : Nat := 0
  addr     : Nat := 0
  detail   : Nat := 0
  related  : Nat := 0
  aux      : Nat := 0
  deriving DecidableEq, Repr, Inhabited

/-- A recovery in progress (R604, R616): its level (0 operation, 1 queue, 2 context, 3 tower, 4 device), the instance (the
operation's unit code, the queue, the context, the tower), the operation's number, its owner, its tower, the class of the
fault that began it, its own record while that is still to be written (R621), else the identifier of the record that began
it, whether it waits for the return of main power (R618), and whether the time limit of R616 applies. -/
structure Recovery where
  level    : Nat
  unit     : Nat
  opref    : Nat
  owner    : Option Owner
  tower    : Nat
  cls      : Nat
  own      : Option RecordReq
  related  : Nat
  deferred : Bool
  bounded  : Bool
  /-- The tick at which it began. -/
  since    : Nat := 0
  deriving DecidableEq, Repr, Inhabited

/-- What a device recovery stopped and will resume (R617): queues, beams by tower, groups as tower, core, slot. -/
structure Quiesced where
  queues : List Nat
  beams  : List Nat
  groups : List (Nat × Nat × Nat)
  deriving DecidableEq, Repr, Inhabited

/-- State of error handling. downCh lists memory channels that are down, as (tower * 4 + controller, channel) (R609). -/
structure Errors where
  armed      : List Injection
  recov      : List Recovery
  downCh     : List (Nat × Nat)
  /-- Accesses repeated so far by channel (R609). -/
  repeats    : List (Nat × Nat)
  /-- What the device recovery in progress has stopped. -/
  quiesced   : Option Quiesced
  deriving DecidableEq, Repr, Inhabited

end Sys2Proof.Machine
end

