-- ==== Sys2Proof/Machine/Types/Compute.lean ====
section
/-! DEFINITION. State of the compute die's units beyond their registers: matrix engines, vector engines, sequencers, tensor
movers, thread cores. -/

namespace Sys2Proof.Machine

/-- Who made an access or an operation (R502, R604): a thread by tower, core 0 to 63, slot, lane; a tower's beam; an engine;
a vector engine; a mover by tower and number 0 to 15; a lantern unit 0 to 71; a queue entry; the host die; a PCIe peer; CC;
a job's work from the fabric; a collective by tower and number. -/
inductive Issuer where
  | thread (k c g l : Nat)
  | beam (k : Nat)
  | engine (k e : Nat)
  | vxe (k x : Nat)
  | mover (k m : Nat)
  | lantern (n : Nat)
  | entry (q n : Nat)
  | host
  | peer (q : Nat)
  | cc
  | fabric
  | coll (k c : Nat)
  deriving DecidableEq, Repr, Inhabited

/-! Matrix engines (06_matrix_engines.md). -/

/-- A tile descriptor as its eight words (R149). -/
structure TileDesc where
  w : List Nat
  deriving DecidableEq, Repr, Inhabited

/-- Where a tile or chain came from: the n-th word a sequencer issued, or a thread through a port (R170). -/
inductive WorkSrc where
  | beam (n : Nat)
  | port (core group lane : Nat)
  deriving DecidableEq, Repr, Inhabited

/-- An accepted, uncommitted tile (R152 to R160, R207, R215): its descriptor, source and owner; the cluster whose scratchpad
it uses; REPLAY_STEP and HOLD_TIMEOUT_LOG2 as at acceptance; whether its record had XEN set; its first anchor and shift, the
present attempt's, and the needed ones; attempt number; passes started and ended; its accumulator bank; the largest product
binade so far; the poisoned sector a pass has read; an error replay in progress; whether it has passed its check point, is
draining, and has a saturated element; whether it is tainted (R246) and issued in the present stretch. -/
structure Tile where
  desc     : TileDesc
  src      : WorkSrc
  owner    : Owner
  cluster  : Nat
  step     : Nat
  holdLog2 : Nat
  xen      : Bool
  e0       : Int
  x0       : Int
  anchor   : Int
  shift    : Int
  eNeed    : Int
  xNeed    : Int
  attempt  : Nat
  started  : Nat
  ended    : Nat
  acc      : List Acc
  pmax     : Option Int
  errRec   : Bool
  injected : Bool
  checked  : Bool
  draining : Bool
  sat      : Bool
  /-- OPREF of its records (R630): the beam word's address, or the launch group. -/
  opref    : Nat
  deriving DecidableEq, Repr, Inhabited

/-- Issued by a beam. -/
def WorkSrc.isBeam : WorkSrc → Bool
  | .beam _ => true
  | .port .. => false

/-! Vector engines (10_vector_engines.md). -/

/-- A recorded vector instruction: its words and, for a stream instruction, its descriptor as read at issue (R295). -/
structure VInstr where
  lo   : Nat
  hi   : Nat
  desc : List Nat
  deriving DecidableEq, Repr, Inhabited

/-- Bytes of one line on their way to a scratchpad: their address in the physical map, and whether they carry the poison mark. -/
abbrev Chunk := Nat × List Byte × Bool

/-- A chain (R278): who issues it, for whom, and its instructions; streaming once closed, streamed once its last element is
in. -/
structure Chain where
  src      : WorkSrc
  owner    : Owner
  ins      : List VInstr
  closed   : Bool
  streamed : Bool
  /-- OPREF of its records (R630). -/
  opref    : Nat
  /-- Elements of its pass and λ, once it is closed (R242, R300). -/
  elems    : Nat
  lanes    : Nat
  /-- What its pass writes, a cycle of the write port at a time (R293), found when its last element is in or its first write
  stalls; whether those writes have begun. -/
  out      : List (List Chunk)
  wrote    : Bool
  /-- Out-of-range events of each of those cycles, and stochastically rounded elements of the pass (R301). -/
  oor      : List Nat
  sr       : Nat
  deriving DecidableEq, Repr, Inhabited

/-- A write stalled at a hold (R155, R156): the writer, for a mover the move, the cluster, the engine, as 17 * k + e, at whose hold
it stalled, and the writes still to be made, each of the chunks that one write covers. -/
structure Stall where
  who    : Issuer
  owner  : Owner
  item   : Nat
  cl     : Nat
  eng    : Nat
  chunks : List (List Chunk)
  deriving DecidableEq, Repr, Inhabited

/-! The beam (09_beam.md). -/

/-- A bank of a sequencer: the word area in 64-bit units, the descriptor table, and ENTRY (R254, R256). -/
structure Bank where
  words : List Nat
  descs : List (List Nat)
  entry : Nat
  deriving DecidableEq, Repr, Inhabited

/-- A signal of a beam (R244): operation code, object and operand; whether it waits for operations; the numbers of the word
that issued it and of the last word before its beam, and for whom. -/
structure BeamSignal where
  op    : Nat
  obj   : Nat
  value : Nat
  after : Bool
  seq   : Nat
  first : Nat
  owner : Owner
  deriving DecidableEq, Repr, Inhabited

/-- A lend (R250, R251): the cluster, the masks of its MXEs and VXEs still lent, the thread core, group and thread it names, and
the words left of its SPAN, 0 for no limit. -/
structure Lend where
  cl   : Nat
  mx   : Nat
  vx   : Nat
  tc   : Nat
  grp  : Nat
  thr  : Nat
  left : Nat
  deriving DecidableEq, Repr, Inhabited

/-- A load in progress (R256): bank, context, image address, reply channel. -/
structure BeamLoad where
  bank : Nat
  ctx  : Nat
  addr : Nat
  chan : Nat
  deriving DecidableEq, Repr, Inhabited

/-- A sequencer beyond its registers: the two banks; the configuration the beam took at start; its owner; DONE_OBJ when
enabled; the address of the last issued word; whether an answer has satisfied the present word's wait, and a wait is begun;
held and outbound signals; the class of an issued operation's failure that stops it; the channels that wait for an abort or a
step, words left to step; the tick up to which its cycles are counted; the running length and EXT slip of the stretch; a load in
progress; how many words the sequencer has ever issued, how many it had before this beam and before the present stretch. -/
structure Beam where
  banks    : List Bank
  cfg      : Word
  owner    : Owner
  done     : Option Nat
  last     : Nat
  waiting  : Bool
  met      : Bool
  held     : List BeamSignal
  out      : List BeamSignal
  unitErr  : Option Nat
  aborting : List Nat
  stepLeft : Nat
  stepChan : Option Nat
  since    : Nat
  cycles   : Nat
  ext      : Nat
  load     : Option BeamLoad
  seq      : Nat
  first    : Nat
  mark     : Nat
  /-- Cycles that the present word has waited since it became eligible (R249). -/
  waited   : Nat
  /-- The interlock found when the present word was last tried has a cause of class EXT (R240). -/
  slipExt  : Bool
  /-- Operations of the present stretch that are tainted (R246), by the number of their word and the code of their unit. -/
  tainted  : List (Nat × Nat)
  /-- Lends in force, oldest first. -/
  lends    : List Lend
  deriving DecidableEq, Repr, Inhabited

/-! Tensor movers (12_scratchpad_dma.md). -/

/-- A descriptor held by a mover (R346): its number at this mover, its words, its offset / 64, its owner, its position in its
chain; whether it has started and whether it is done and only its signal is to come; the class (256 more when injected), address and
auxiliary word of the failure it stops with (R356); the source bytes that have come back for a remote load, by virtual address. -/
structure Move where
  id       : Nat
  w        : List Nat
  off      : Nat
  owner    : Owner
  pos      : Nat
  started  : Bool
  done     : Bool
  fail     : Option (Nat × Nat × Nat)
  got      : List (Nat × List Byte × Nat)
  /-- Rows of a store that are written. -/
  row      : Nat
  /-- It has moved poisoned data, and counted for it. -/
  marked   : Bool
  /-- Destination elements written (R361). -/
  elems    : Nat
  deriving DecidableEq, Repr, Inhabited

/-- A mover: the descriptors it holds, oldest first, the number of the next one, and for whom it stopped (R356). -/
structure Mover where
  queue   : List Move
  next    : Nat
  stopped : Option Owner
  deriving DecidableEq, Repr, Inhabited

/-! Thread cores (11_thread_cores.md). -/

/-- What a thread waits for: nothing; a GCONV; a barrier; a GWAIT with its destination register and scope. -/
inductive ThreadWait where
  | none | conv | bar (id : Nat) | gwait (rd scope : Nat)
  deriving DecidableEq, Repr, Inhabited

/-- A load on its way (R309): destination register (32 and up for f registers) and the value it will deliver. -/
structure LoadBack where
  rd    : Nat
  value : Nat
  deriving DecidableEq, Repr, Inhabited

/-- A thread (R303, R305, R324, R332). -/
structure Thread where
  x        : List Word
  f        : List Word
  fcsr     : Nat
  pc       : Nat
  cmask    : Nat
  spin     : Nat
  spinning : Bool
  lastAt   : Option Nat
  ended    : Bool
  instret  : Nat
  wait     : ThreadWait
  loads    : List LoadBack
  deriving DecidableEq, Repr, Inhabited

/-- An open barrier instance (R322): participant mask and arrived lanes. -/
structure BarInst where
  mask    : Nat
  arrived : Nat
  deriving DecidableEq, Repr, Inhabited

/-- A resident group (R305): its owner, launch number, launch group index, the lanes started, ARG, its threads, its
subgroups as disjoint lane masks, its open barrier instances by number, and TC_DIE_CFG as it took it. -/
structure Group where
  owner   : Owner
  launch  : Nat
  index   : Nat
  arg     : Word
  lanes   : Nat
  threads : List Thread
  subs    : List Nat
  bars    : List (Nat × BarInst)
  cfg     : Word
  /-- The barrier of its most recent instance (R337). -/
  recent  : Nat
  /-- Ticks at which its timers began: by lane for a wait at a GCONV, by 32 + number for a barrier instance (R311, R323). -/
  timers  : List (Nat × Nat) := []
  /-- The tick at which it stopped; its timers stand from then (R323, R329). -/
  stood   : Option Nat := none
  deriving DecidableEq, Repr, Inhabited

/-- A line of a thread core's L1 (R394): line address / 128, its bytes, and which of its sectors are poisoned. -/
structure L1Line where
  line   : Nat
  bytes  : List Byte
  poison : Nat
  deriving DecidableEq, Repr, Inhabited

/-- A thread core: its resident groups by slot; its packed sets as slot and lane-mask lists (R312); the subgroups whose last
instruction was a GCONV, as slot, lane mask and its address; its L1 with the most recently used line first. -/
structure Core where
  slots : List (Nat × Group)
  packs : List (List (Nat × Nat))
  conv  : List (Nat × Nat × Nat)
  l1    : List L1Line
  /-- Contexts that have had a group here since the L1 was last emptied for them (R76). -/
  ctxs  : List Nat
  /-- Instructions issued: at least so many THREAD cycles have passed (R307). -/
  turns : Nat
  /-- The slot that issued last, and by slot the lowest lane of the subgroup that issued last in it (R308). -/
  lastGroup : Nat
  lastSub   : List (Nat × Nat)
  /-- Results that may still be on their way (R309): slot, lanes, registers, and the count of turns by which they are there. -/
  late      : List (Nat × Nat × List Nat × Nat)
  /-- The counts of turns by which the divider and the fragment unit are free (R309). -/
  divFree   : Nat
  fragFree  : Nat
  deriving DecidableEq, Repr, Inhabited

/-- A kernel launch in progress (R304 to R306): its owner, payload words, next group to place, groups ended. -/
structure Launch where
  owner : Owner
  w     : List Nat
  next  : Nat
  ended : Nat
  /-- No further group is placed: its entry is marked (R613). -/
  stop  : Bool
  deriving DecidableEq, Repr, Inhabited

/-- A reservation (R315): the thread that holds it, the 128-byte line and the address it named. -/
structure Resv where
  who  : Issuer
  line : Nat
  va   : Nat
  deriving DecidableEq, Repr, Inhabited

/-- State of the four compute dies. Engines by 17 * k + e, vector engines by 8 * k + x, movers by 16 * k + m, cores by
64 * k + c, launches by number. -/
structure Compute where
  tiles    : List (Nat × List Tile)
  chains   : List (Nat × List Chain)
  beams    : List (Nat × Beam)
  movers   : List (Nat × Mover)
  cores    : List (Nat × Core)
  launches : List (Nat × Launch)
  nextLaunch : Nat
  stalls   : List Stall
  /-- Threads whose stalled SC or AMO has timed out: it completes without its write (R156). -/
  given    : List Issuer
  /-- Scratchpad words that hold an error (R345), by address / 8, rising: true for a double-bit error. -/
  badWords : List (Nat × Bool)
  deriving DecidableEq, Repr, Inhabited

end Sys2Proof.Machine
end

