-- ==== Sys2Proof/Machine/Types/Xlt.lean ====
section
/-! DEFINITION. State of address translation (16_translation.md) beyond its registers. -/

namespace Sys2Proof.Machine

/-- What an access needs of its leaf (R481), in the codes of FAULT.ACCESS (R499). -/
inductive AccessKind where
  | read | write | atomic | fetch | reduce | lantern
  deriving DecidableEq, Repr, Inhabited

/-- A cached run (R478, R479): context, first virtual address, log2 of its bytes, first physical address, the leaf it came
from; kept for READ_MOSTLY advice, or EVICT_FIRST. -/
structure XEntry where
  ctx   : Nat
  va    : Nat
  span  : Nat
  pa    : Nat
  leaf  : Nat
  kept  : Bool
  evict : Bool
  deriving DecidableEq, Repr, Inhabited

/-- A cached pointer of the walk cache (R479): context, level of the table it points to, first virtual address, log2 of its
span, and the table's base. -/
structure XPointer where
  ctx   : Nat
  level : Nat
  va    : Nat
  span  : Nat
  base  : Nat
  deriving DecidableEq, Repr, Inhabited

/-- Which of the caches asks (R479): a cluster's by 4k + j, a base die's, or every cluster of some towers (ACCESSED_BY). -/
inductive XCache where
  | cluster (m : Nat) | base (k : Nat)
  deriving DecidableEq, Repr, Inhabited

/-- What waits for a walk besides the access that began it (R479): its cache, access, owner and unit; it missed, or found its
permission missing. -/
structure WalkAsker where
  cache : XCache
  acc   : AccessKind
  owner : Option Owner
  unit  : Nat
  miss  : Bool
  deriving DecidableEq, Repr, Inhabited

/-- A walk in flight (R480): the tower whose walker makes it, the cache that asked, context, address, the access and agent
that asked (R499), the level and address of the entry to read next, the epochs its context had issued when it began (R485),
the owner of the work and the unit that asked. -/
structure Walk where
  tower  : Nat
  cache  : XCache
  ctx    : Nat
  va     : Nat
  acc    : AccessKind
  agent  : Nat
  level  : Nat
  addr   : Nat
  began  : Nat
  owner  : Option Owner
  unit   : Nat
  /-- The access that asked missed its caches; it found its permission missing when false (R481). -/
  miss   : Bool := true
  /-- What else waits for it. -/
  joined : List WalkAsker := []
  deriving DecidableEq, Repr, Inhabited

/-- A walk that has ended, until the instruction that asked issues (R482): kind 0 for one that came to a run, else the fault's
kind, level, entry last read, and the record written; the unit that asked. -/
structure WalkFault where
  cache : XCache
  ctx   : Nat
  va    : Nat
  acc   : AccessKind
  kind  : Nat
  level : Nat
  entry : Nat
  record : Nat
  unit   : Nat := 0
  miss   : Bool := true
  deriving DecidableEq, Repr, Inhabited

/-- An invalidation that has not completed (R484, R485): context, epoch, range or all; the object to signal; the channel that
waits for it, and the detail words its reply adds to the epoch (R492, R493). -/
structure Epoch where
  ctx  : Nat
  e    : Nat
  va   : Nat
  len  : Nat
  all  : Bool
  done : Option Nat
  chan : Option Nat
  tail : List Nat
  /-- Towers whose cluster caches take the range's runs when it completes (ACCESSED_BY, R493), as bits; bit 4 is set for
  ACCESSED_BY, whose reply counts the pages skipped. -/
  towers : Nat
  deriving DecidableEq, Repr, Inhabited

/-- An advice range of a context (R492, R493): its kinds as bits 1 to 4, its window. -/
structure Advice where
  ctx    : Nat
  va     : Nat
  len    : Nat
  kinds  : Nat
  window : Nat
  deriving DecidableEq, Repr, Inhabited

/-- A MEM_PREFETCH in progress (R487 to R491): MODE, context, range, destination, remote device, PRIO, the bytes done, its
object and channel, and for a MIGRATE that MEM_ADVISE asked for the tail of its reply (R493). -/
structure Migrate where
  mode    : Nat
  ctx     : Nat
  va      : Nat
  len     : Nat
  dest    : Nat
  remote  : Nat
  prio    : Nat
  moved   : Nat
  doneObj : Option Nat
  chan    : Nat
  /-- The epoch that a MEM_ADVISE replies with, when it asked for the migration. -/
  advise  : Option Nat
  deriving DecidableEq, Repr, Inhabited

/-- State of translation: cluster caches by 4k + j, base-die and tower caches and walk caches by tower, most recently used
first; walks in flight; walks that have ended and whose askers have not issued; epochs; advice; migrations. -/
structure Xlt where
  cluster  : List (Nat × List XEntry)
  base     : List (Nat × List XEntry)
  tower    : List (Nat × List XEntry)
  pointers : List (Nat × List XPointer)
  walks    : List Walk
  faults   : List WalkFault
  epochs   : List Epoch
  advice   : List Advice
  migrates : List Migrate
  deriving DecidableEq, Repr, Inhabited

end Sys2Proof.Machine
end

