-- ==== Sys2Proof/Machine/Types/Cache.lean ====
section
/-! DEFINITION. State of the base-die caches (13_l2_cache.md) beyond their registers. The bytes every agent sees are State's
memory; a cached line holds which bytes are valid and dirty, and for each dirty byte what the memory behind the slice still
holds, so that dropping a dirty line brings the old bytes back. -/

namespace Sys2Proof.Machine

/-- A resident line (R364): line address / 128, way, valid and dirty masks by byte, the bytes of the memory behind it by offset where
they are not the line's own (those behind the dirty ones, and those that a fill delivered wrong, R411), the poison marks of the sectors behind where they are not the line's own, and whether it was filled under EVICT_FIRST advice (R493). -/
structure L2Line where
  line   : Nat
  way    : Nat
  valid  : Nat
  dirty  : Nat
  behind : List (Nat × Byte)
  poison : Nat
  evict  : Bool
  deriving DecidableEq, Repr, Inhabited

/-- One element of a reduction slot (R389): its index in the line, aperture word and flags, contributions, poison. -/
structure RedElem where
  i      : Nat
  acc    : Acc
  count  : Nat
  poison : Bool
  deriving DecidableEq, Repr, Inhabited

/-- An open reduction slot (R389). -/
structure RedSlot where
  line   : Nat
  ctx    : Nat
  fmt    : Nat
  rnd    : Nat
  anchor : Int
  elems  : List RedElem
  deriving DecidableEq, Repr, Inhabited

/-- What a request does at its home (R368 to R370, R387). -/
inductive ReqKind where
  | read | write | reduce
  deriving DecidableEq, Repr, Inhabited

/-- A thread's access on its way to its home (R394): who makes it and for whom, its kind, address, length and bytes, POLICY,
RED, context; for a read the destination register, the load's operation and whether the L1 takes the line; the instruction's
address; crit is set for a read through a latency-critical leaf (R421). Of a read that a miss entry holds, bytes are what it asked
for as it stood at its arrival, and red the marks of its line then with, times 4, the mask of the line's bytes that it takes from
memory (R375). Of a reduce write, rd is its poison mark; one that
waits at its slice (R390) has its limit, RED_STALL_LOG2 when it began to wait (R399), and, if no thread made it, pc names the
descriptor or the remote write it belongs to. -/
structure HomeReq where
  who    : Issuer
  owner  : Owner
  kind   : ReqKind
  pa     : Nat
  len    : Nat
  bytes  : List Byte
  policy : Nat
  red    : Nat
  rd     : Nat
  op     : Nat
  l1     : Bool
  evict  : Bool
  va     : Nat
  pc     : Nat
  limit  : Nat := 0
  crit   : Bool := false
  deriving DecidableEq, Repr, Inhabited

/-- A miss entry (R374): its line, the requests it holds, oldest first, whether its fill is installed, and the sectors that memory
has answered with the poison mark (R375, R412). -/
structure Miss where
  line    : Nat
  reqs    : List HomeReq
  install : Bool
  evict   : Bool
  bad     : Nat := 0
  deriving DecidableEq, Repr, Inhabited

/-- A recall or invalidation sent to the host die (R392, R393): its line, whether the host's copy goes, and whether the
directory entry goes with it because its set was full. -/
structure Recall where
  line  : Nat
  inval : Bool
  evict : Bool
  deriving DecidableEq, Repr, Inhabited

/-- A slice: lines with the most recently used first; miss entries; open slots; the host directory as line and modified,
most recently used first; recalls not yet answered; reduce writes that wait (R390). -/
structure Slice where
  lines   : List L2Line
  misses  : List Miss
  slots   : List RedSlot
  dir     : List (Nat × Bool)
  recalls : List Recall
  waiting : List HomeReq
  deriving DecidableEq, Repr, Inhabited

/-- A range command in progress (R379, R380): kind (0 prefetch, 1 flush, 2 invalidate), range, options, context of nothing,
counts, channel. -/
structure RangeCmd where
  kind : Nat
  addr : Nat
  len  : Nat
  opts : Nat
  chan : Nat
  deriving DecidableEq, Repr, Inhabited

/-- A pin command in progress on a tower (R384, R385). -/
structure PinCmd where
  tower  : Nat
  ways   : Nat
  slices : Nat
  unpin  : Bool
  chan   : Nat
  deriving DecidableEq, Repr, Inhabited

/-- State of the caches: slices by 32 * k + s, thread requests on their way, range and pin commands, and the sectors held in the
slices that the next check finds uncorrectable (R367). -/
structure Cache where
  slices : List (Nat × Slice)
  flying : List HomeReq
  ranges : List RangeCmd
  pins   : List PinCmd
  weak   : List Nat := []
  deriving DecidableEq, Repr, Inhabited

end Sys2Proof.Machine
end

