-- ==== Sys2Proof/Machine/Types/Control.lean ====
section
/-! DEFINITION. State of the control plane: channels, transactions, shadow sets, replies and interrupts. -/

namespace Sys2Proof.Machine

/-- An entry of a shadow set (R102): register address, staged value, mask. -/
structure ShadowEntry where
  addr : Nat
  val  : Word
  mask : Word
  deriving DecidableEq, Repr, Inhabited

/-- An open transaction (R101, R104): its begin stamp, its entries in staging order, and the registers it has read in
order of first read. -/
structure Txn where
  id         : Nat
  beginStamp : Nat
  entries    : List ShadowEntry
  reads      : List Nat
  deriving DecidableEq, Repr, Inhabited

/-- A reply (R96): status code, echoed opcode and SEQ, TXN_ID, detail words. -/
structure Reply where
  status  : Nat
  opcode  : Nat
  seq     : Nat
  txn     : Nat
  details : List Word
  deriving DecidableEq, Repr, Inhabited

/-- A persistent write on its way to the non-volatile store (R106, R112): the values to become durable, and whether it is a
COMMIT's record, with the reply's own data. -/
structure Durable where
  writes : List (Nat × Word)
  commit : Bool
  count  : Nat
  /-- The triples still to come after a persistent triple of a REG_WRITE (R100). -/
  rest   : List (Nat × Word × Word)
  deriving DecidableEq, Repr, Inhabited

/-- A control channel (R87 to R95): the packet dequeued and not yet answered, with its opcode, whether it is being carried
out, the reply that waits for reply-ring room, the
last TXN_ID, the open transaction, the tick of the last dequeue, the packets that have arrived on a transport channel, and
a persistent write that is not yet durable. The rings and their indices are registers and memory. -/
structure Channel where
  current  : Option (Nat × Packet)
  busy     : Bool
  held     : Option (Reply × Bool)
  lastTxn  : Nat
  txn      : Option Txn
  lastPkt  : Nat
  arrived  : List (List Byte)
  durable  : Option Durable
  /-- A CHANNEL_RESET of this channel waits for its command in progress (R111). -/
  resetting : Bool
  /-- The fabric module whose packet is in progress on channel 62 or 63: its reply returns there (R92). -/
  src       : Option Nat
  deriving DecidableEq, Repr, Inhabited

/-- The control plane: channels by number (an unlisted one is idle and empty), the change stamps of staged and persistent
registers that have one (R104), the replies sent over the transports of channels 60 to 63, newest first, with their
channel, the interrupts on their way to the router, the pending identities at the router as hart * 1024 + identity (R545),
the word last answered to each host requester (a load or CSR read), by requester number, the channel that CC last took a
packet from, and the channels whose COMMIT or persistent write has been taken and not answered, in that order (R91). -/
structure Control where
  chans   : List (Nat × Channel)
  stamps  : List (Nat × Nat)
  outbox  : List (Nat × Reply)
  raised  : List Nat
  ids     : List Nat
  answers : List (Nat × Word)
  lastCh  : Nat
  storeQ  : List Nat
  deriving DecidableEq, Repr, Inhabited

end Sys2Proof.Machine
end

