-- ==== Sys2Proof/Machine/Types/Fabric.lean ====
section
/-! DEFINITION. State of the fabric (19_fabric.md) beyond its registers: ports' links, messages and streams, the routing
table, tags being removed, flares, collectives, reports. -/

namespace Sys2Proof.Machine

/-- A port's link (R562, R564): the next LSEQ it sends and expects, its replay buffer, the credits it holds by VC (RSP, REQ,
SYNC, MGMT), packets that wait for credits with the port each came from (none: the module's own), the oldest packet's
resends, and the tick until which a PAUSE frame holds it. -/
structure FabPort where
  txSeq   : Nat
  rxSeq   : Nat
  replay  : List (Nat × FabPkt)
  credits : List Nat
  waiting : List (FabPkt × Option Nat)
  resends : Nat
  paused  : Nat
  deriving DecidableEq, Repr, Inhabited

/-- What waits for an unordered message's answer: a mover's descriptor; a PUSH or PULL by its channel with the local address
its bytes go to; a collective's result is written locally and needs none. -/
inductive FabUse where
  | move (k m id : Nat)
  | copy (chan va : Nat)
  deriving DecidableEq, Repr, Inhabited

/-- An outstanding WRITE or READ (R566, R568): its packet, its base die, who waits, resends so far, the tick of the last
sending, and whether it has been answered. -/
structure FabMsg where
  pkt   : FabPkt
  die   : Nat
  use   : FabUse
  owner : Owner
  sent  : Nat
  last  : Nat
  acked : Bool
  deriving DecidableEq, Repr, Inhabited

/-- An ordered stream at its sender (R566): its next SEQ, its packets not acknowledged, oldest first, its base die, resends of
the oldest, the tick of its last packet. -/
structure TxStream where
  dst   : Nat
  tag   : Nat
  next  : Nat
  unacked : List FabPkt
  die   : Nat
  sent  : Nat
  last  : Nat
  /-- A tick no later than the last sending of its oldest packet not acknowledged. -/
  since  : Nat := 0
  deriving DecidableEq, Repr, Inhabited

/-- An ordered stream at its receiver: the SEQ it expects. -/
structure RxStream where
  src  : Nat
  tag  : Nat
  next : Nat
  last : Nat
  deriving DecidableEq, Repr, Inhabited

/-- A packet delivered to this module and not yet acted on: the port it came by. -/
structure Delivered where
  port : Nat
  pkt  : FabPkt
  deriving DecidableEq, Repr, Inhabited

/-- A segment of a collective in flight (R585): its step and number, the tick of its first contribution, its contributions by
source (0 the module itself, then the children), and whether its combination has left. -/
structure CollSeg where
  step  : Nat
  seg   : Nat
  first : Nat
  parts : List (Nat × List Byte × Nat)
  up    : Bool
  deriving DecidableEq, Repr, Inhabited

/-- Lag counters of a source (R589). -/
structure CollLag where
  last  : Nat
  total : Nat
  max   : Nat
  deriving DecidableEq, Repr, Inhabited

/-- A collective (R584, R585): its parameters; the step it runs or waits for; when it began; the next segment to inject, the
result segments written; segments in flight; lag by source. -/
structure Coll where
  ctx     : Nat
  mode    : Nat
  op      : Nat
  fmt     : Nat
  rnd     : Nat
  anchor  : Int
  trig    : Nat
  done    : Nat
  timeout : Nat
  src     : Nat
  dst     : Nat
  elems   : Nat
  parent  : Nat
  root    : Bool
  kids    : List Nat
  step    : Nat
  running : Bool
  start   : Nat
  inject  : Nat
  written : Nat
  segs    : List CollSeg
  lag     : List CollLag
  deriving DecidableEq, Repr, Inhabited

/-- A child in a flare (R579 to R582): its index, its deadline as a tick, and its answer: members reached, unreached entries,
OVERFLOW; a child that refused or passed its deadline reached none. -/
structure FlareChild where
  index    : Nat
  deadline : Nat
  answer   : Option (Nat × List Nat × Bool)
  deriving DecidableEq, Repr, Inhabited

/-- A flare at this module (R577 to R583): its FLARE_ID, the descriptor's words, the module's own index, the sender of its
prepare (none at the root), its children in the phase it runs, the phase (1 PREPARING, 2 HELD, 3 PREPARED, 4 COMMITTING,
5 COMMITTED, 6 ABORTED), whether a teardown of this module holds it, and at the root the channel that waits and the object
that the resolution signals. -/
structure Flare where
  id       : Nat
  desc     : List Nat
  index    : Nat
  parent   : Option Nat
  kids     : List FlareChild
  phase    : Nat
  held     : Bool
  chan     : Option Nat
  doneObj  : Option Nat
  /-- The tick of its prepare at this module (R582). -/
  since    : Nat := 0
  deriving DecidableEq, Repr, Inhabited

/-- A teardown (R576): its tag, its context, its channel, when it began, whether it was forced, the slot that it fences. -/
structure Teardown where
  tag    : Nat
  ctx    : Nat
  chan   : Nat
  start  : Nat
  forced : Bool
  fence  : Option Nat
  deriving DecidableEq, Repr, Inhabited

/-- The aggregator role (R592): period, upstream, HEALTH_PA, children with their latest report's tick, whether each has
answered and whether it is lost, and the channel of the AGG_ATTACH that has not been answered. -/
structure Aggregator where
  period   : Nat
  upstream : Nat
  pa       : Nat
  kids     : List (Nat × List Byte × Nat)
  answered : List Nat
  lost     : List Nat
  alerting : List Nat
  since    : Nat
  chan     : Option Nat
  deriving DecidableEq, Repr, Inhabited

/-- A PUSH or PULL in progress (R491): its context, channel and size, the module, tag and address it goes to, its own address, the
pieces of a PUSH's source still to be read, and the object it signals. -/
structure FabCopy where
  pull   : Bool
  ctx    : Nat
  chan   : Nat
  bytes  : Nat
  dst    : Nat
  tag    : Nat
  rva    : Nat
  va     : Nat
  left   : List (Nat × Nat)
  doneObj : Option Nat
  deriving DecidableEq, Repr, Inhabited

/-- State of the fabric: ports by number; packets that have left, newest first; routing entries that are not 0, by global ID;
routing writes in progress (channel, FIRST, entries); tag slots being walked, with the channel that waits; messages; streams;
delivered packets; the next message identifier; collectives by number; flares; the teardown; the aggregator; the period of
the reports it sends and their number; the sources of the commands on channels 62 and 63, oldest first; copies. -/
structure Fabric where
  ports    : List (Nat × FabPort)
  sent     : List (Nat × FabPkt)
  table    : List (Nat × Nat)
  writes   : List (Nat × Nat × List Nat)
  walks    : List (Nat × Option Nat)
  msgs     : List FabMsg
  tx       : List TxStream
  rx       : List RxStream
  inbox    : List Delivered
  nextMsg  : Nat
  colls    : List (Nat × Coll)
  flares   : List Flare
  teardown : Option Teardown
  agg      : Option Aggregator
  period   : Nat
  reports  : Nat
  cmdFrom  : List (Nat × Nat)
  copies   : List FabCopy
  /-- Reduce WRITEs applied, as base die, source, identifier and tick (R610). -/
  applied  : List (Nat × Nat × Nat × Nat)
  /-- Reduce WRITEs of which a part waits at a slice (R390), under the names their parts have there. -/
  reds     : List (Nat × Delivered) := []
  /-- The tick of the module's last report to its aggregator (R591). -/
  reported : Nat := 0
  /-- The tick at which a port entered its STATE, by port (R557). -/
  portFrom : List (Nat × Nat) := []
  deriving DecidableEq, Repr, Inhabited

end Sys2Proof.Machine
end

