-- ==== Sys2Proof/Machine/Types/Lantern.lean ====
section
/-! DEFINITION. State of the lantern units (15_lantern_units.md) beyond their registers and their buffers, which are memory. -/

namespace Sys2Proof.Machine

/-- A request held by a unit (R448): its payload words, its owner, its member number; once started, the queries as copied
(R444), the next key index, the counts and FLAGS of its partial, and whether another agent has stored into an area of it;
whether its records are all scanned or it has stopped for an error, and its release of the partial is still to come. -/
structure LntReq where
  w        : List Nat
  owner    : Owner
  member   : Nat
  started  : Bool
  queries  : List Nat
  next     : Nat
  scanned  : Nat
  emitted  : Nat
  poisoned : Nat
  dropped  : Nat
  flags    : Nat
  spoilt   : Bool
  /-- The areas of the work area it uses, as offset and length, once started (R444). -/
  areas    : List (Nat × Nat)
  /-- It stops for an error, of this class, address and translation entry, and its partial is still to be written (R462). -/
  stop     : Option (Nat × Nat × Nat) := none
  deriving DecidableEq, Repr, Inhabited

/-- A unit: the requests it holds, oldest first; the user slots that hold a program (R460); whether its stack's temperature
pauses it (R425); while it is paused, the tick up to which that is counted (R464, R469). -/
structure LntUnit where
  queue  : List LntReq
  loaded : List Nat
  hot    : Bool
  since  : Option Nat := none
  deriving DecidableEq, Repr, Inhabited

/-- A program load in progress (R460): unit, slot, the address and number of its operations, channel. -/
structure LntLoad where
  unit  : Nat
  slot  : Nat
  addr  : Nat
  count : Nat
  chan  : Nat
  deriving DecidableEq, Repr, Inhabited

/-- A LANTERN entry that its dispatcher has not delivered to every unit it names (R447, R448): its queue and index, its
payload, its owner, the units still to take it, and whether its checks have been made. -/
structure LntDisp where
  q       : Nat
  n       : Nat
  w       : List Nat
  owner   : Owner
  left    : List Nat
  checked : Bool
  deriving DecidableEq, Repr, Inhabited

/-- State of the lantern units, by number 0 to 71, of the program loads in progress and of the entries being delivered. -/
structure Lantern where
  units : List (Nat × LntUnit)
  loads : List LntLoad
  disp  : List LntDisp
  deriving DecidableEq, Repr, Inhabited

end Sys2Proof.Machine
end

