-- ==== Sys2Proof/Machine/Types/Links.lean ====
section
/-! DEFINITION. State of the package links and PCIe ports (18_package_links.md) beyond their registers. -/

namespace Sys2Proof.Machine

/-- A PCIe request or completion that left on a port (R547, R548): ECAM or memory space, write or read, a completion, Unsupported
Request, address, length, the bytes of a write or completion, its poisoned indication. -/
structure Tlp where
  port   : Nat
  ecam   : Bool
  write  : Bool
  compl  : Bool
  ur     : Bool
  addr   : Nat
  len    : Nat
  bytes  : List Byte
  poison : Bool
  deriving DecidableEq, Repr, Inhabited

/-- An outbound request that waits for its completion: requester, port, bytes read (0 for a write). -/
structure OutReq where
  who  : Nat
  port : Nat
  len  : Nat
  deriving DecidableEq, Repr, Inhabited

/-- What a port took at its last link training (R555): P2P_EN, OUT_BASE, MSI_BASE. -/
structure PortSet where
  p2p : Bool
  out : Nat
  msi : Nat
  deriving DecidableEq, Repr, Inhabited

/-- State of the links: what left on the PCIe ports, newest first; outbound requests that wait; what the ports took at
training; bond channels (32 k + c) and links (128 + l) whose replays call for a retraining; bond channels that retrain; those that
have gone down and keep their lines until a reset reassigns them (R536). -/
structure Links where
  sent     : List Tlp
  waiting  : List OutReq
  ports    : List (Nat × PortSet)
  due      : List Nat
  training : List Nat
  lost     : List Nat := []
  deriving DecidableEq, Repr, Inhabited

end Sys2Proof.Machine
end

