-- ==== Sys2Proof/Machine/Types/Manage.lean ====
section
/-! DEFINITION. State of management, security and debug (23_manage_debug.md) beyond its registers. -/

namespace Sys2Proof.Machine

/-- A firmware update in progress (R694): its target slot (true for B), and for each TYPE 1 to 4 whether the component has
been written and has verified. -/
structure Update where
  target   : Bool
  written  : List Nat
  verified : List Nat
  deriving DecidableEq, Repr, Inhabited

/-- The trace configuration in force (R704). -/
structure Trace where
  ctx      : Nat
  allCtx   : Bool
  enable   : Bool
  wrap     : Bool
  sources  : Nat
  base     : Nat
  bytes    : Nat
  objFirst : Nat
  objCount : Nat
  sampleUs : Nat
  counters : List Nat
  /-- The tick of the last sample of the counters. -/
  sampled  : Nat := 0
  deriving DecidableEq, Repr, Inhabited

/-- A trace record whose source has acted and which is not yet written (R705, R706): its source, its context, the die of its source
(4: the host die), the tick of the event, and W1 to W3 where the spec states what stands in them. -/
structure TraceDue where
  source : Nat
  ctx    : Option Nat
  die    : Nat
  time   : Nat
  words  : Option (List Nat)
  deriving DecidableEq, Repr, Inhabited

/-- The TAP (R708, R709): the instruction register, the boundary register as last loaded, and what the last scan shifted out. -/
structure Tap where
  ir       : Nat
  boundary : Nat
  out      : Nat
  deriving DecidableEq, Repr, Inhabited

/-- Answer to an I3C request: message type, request code, completion or error code, payload words. -/
structure I3cAnswer where
  typ   : Nat
  code  : Nat
  comp  : Nat
  words : List Nat
  deriving DecidableEq, Repr, Inhabited

/-- State of management, security and debug. Answers and sent events are listed newest first. -/
structure Manage where
  answers   : List I3cAnswer
  events    : List Nat
  update    : Option Update
  /-- Contexts with context debug open, the nonce held, and SPDM index 10's sticky bits (R696, R703). -/
  ctxDebug  : List Nat
  nonce     : Option (List Word)
  sticky    : Nat
  /-- Contexts that have a memory-encryption key (R700). -/
  keys      : List Nat
  /-- The trace configuration, and whether one was made since the module reset (R704, R707). -/
  trace     : Option Trace
  tap       : Tap
  /-- Trace records not yet written, oldest first. -/
  due       : List TraceDue := []
  deriving DecidableEq, Repr, Inhabited

end Sys2Proof.Machine
end

