-- ==== Sys2Proof/Machine/Types/Memory.lean ====
section
/-! DEFINITION. State of the memory controllers (14_memory_tiers.md) beyond their registers and the bytes behind them. -/

namespace Sys2Proof.Machine

/-- A change to a mark record on its way to the non-volatile store (R415): the position in the layout of R417, whether it is a
mark or a clear, and the channel that waits. -/
structure MarkChange where
  pos  : Nat
  set  : Bool
  chan : Option Nat
  deriving DecidableEq, Repr, Inhabited

/-- A MEM_SCRUB_RANGE in progress (R429): range, the object it signals, its channel. -/
structure ScrubCmd where
  addr : Nat
  len  : Nat
  done : Option Nat
  chan : Nat
  deriving DecidableEq, Repr, Inhabited

/-- State of the controllers: corrected symbols of the marking period by 2^30 * controller + position (R416); the sector that
patrol scrub reads next by controller (R428); mark changes not yet durable; range scrubs; the share of data slots that
the temperature allows by controller 4 * tower + u, where it is not 100 % (R424, R426); the positions that have reached MARK_THRESH in
the marking period, as in counts; the tick up to which the throttled cycles of a bus are counted, by controller (R437). -/
structure Mem where
  counts : List (Nat × Nat)
  patrol : List (Nat × Nat)
  marks  : List MarkChange
  scrubs : List ScrubCmd
  rates  : List (Nat × Nat)
  full   : List Nat := []
  hotAt  : List (Nat × Nat) := []
  /-- Ticks at which the marking periods began, by controller (R416). -/
  periods : List (Nat × Nat) := []
  deriving DecidableEq, Repr, Inhabited

end Sys2Proof.Machine
end

