-- ==== Sys2Proof/Machine/Types/Power.lean ====
section
/-! DEFINITION. State of the power controller (21_power.md) beyond its registers. -/

namespace Sys2Proof.Machine

/-- What a context's interval has gathered (R638, R640), in microjoules: the attributed energy by kind of R640, the
unattributed and the measured energy; the windows, the lowest and highest GAIN, what R640 flags, and the bounds in µs. -/
structure EnergyReport where
  kinds    : List Nat
  unattr   : Nat
  device   : Nat
  windows  : Nat
  gainMin  : Nat
  gainMax  : Nat
  clamped  : Bool
  eclipse  : Bool
  braked   : Bool
  startUs  : Nat
  endUs    : Nat
  closed   : Bool
  deriving DecidableEq, Repr, Inhabited

/-- A PWR_ENERGY_REPORT, or a context reset's reply, that waits for the end of its window (R639, R80): channel, context,
NEW. -/
structure EnergyAsk where
  chan : Nat
  ctx  : Nat
  new  : Bool
  deriving DecidableEq, Repr, Inhabited

/-- An entry held under R647: its queue and index, its needs, and whether only the budget, short of Phi, holds it, or the
cap. -/
structure HeldEntry where
  q     : Nat
  n     : Nat
  need  : Nat
  heat  : Nat
  byPhi : Bool
  byCap : Bool
  /-- The tick from which it is held. -/
  since : Nat := 0
  deriving DecidableEq, Repr, Inhabited

/-- What entering eclipse mode stopped and its end resumes (R652): beams by tower, groups as tower, core, slot, each in the order
in which it stopped. -/
structure SafePoints where
  beams  : List Nat
  groups : List (Nat × Nat × Nat)
  deriving DecidableEq, Repr, Inhabited

/-- State of the power controller: the gain as an exact fraction (R637); Pref in tenths of a milliwatt, and P - F of the last
step (R646); the thermal level of each tower and the current-limit level (R644, R645); whether the cap holds every entry of
class 1 and above (R643); what the window in progress has shown (CAP_BIND, THERM_BIND, braking, eclipse mode); the W_NEED of
started entries with their ticks, the held entries oldest first (R647); the reports by context and those asked for; the
energies: main, backup and unattributed in microjoules, of idle passes in picojoules; the windows ended; what eclipse mode stopped,
from its entry until the end of the return, and whether every safe point has been reached (R650, R652). -/
structure Power where
  gainN   : Nat
  gainD   : Nat
  pref    : Nat
  work    : Int
  therm   : List Nat
  ilevel  : Nat
  capHold : Bool
  capWin  : Bool
  thermWin : Bool
  brkWin  : Bool
  eclWin  : Bool
  starts  : List (Nat × Nat)
  held    : List HeldEntry
  reports : List (Nat × EnergyReport)
  asks    : List EnergyAsk
  eMain   : Nat
  eBkp    : Nat
  eUnattr : Nat
  eFill   : Nat
  windows : Nat
  stopped : Option SafePoints
  safe    : Bool
  /-- The tick from which the entry wait timers stand (R650). -/
  stood   : Option Nat := none
  /-- Ticks of the last steps: by tower of its thermal level, 4 for the levels (R642, R644). -/
  stepAt  : List (Nat × Nat) := []
  deriving DecidableEq, Repr, Inhabited

end Sys2Proof.Machine
end

