-- ==== Sys2Proof/Machine/Types/Sync.lean ====
section
/-! DEFINITION. State of synchronisation objects and work queues (17_ordering_sync.md) beyond their registers. -/

namespace Sys2Proof.Machine

/-- An operation on its way to an object's home (R510, R513): issuer, context (none for the host window, where no context is
judged), object, operation (1 ADD, 2 SET, 3 ARRIVE), operand, the owner of the work that signals, and, for a beam's signal, the
number of the word that issued it. -/
structure SynOp where
  who   : Issuer
  ctx   : Option Nat
  obj   : Nat
  op    : Nat
  value : Nat
  owner : Option Owner
  seq   : Nat
  deriving DecidableEq, Repr, Inhabited

/-- A wait that has begun (R512): who waits, on what, whether some state since has met the condition, and whether the home
has refused it. -/
structure Wait where
  who     : Issuer
  ctx     : Nat
  obj     : Nat
  cond    : Nat
  value   : Nat
  met     : Bool
  refused : Bool
  /-- The tick at which its timer began, moved on by the time it stood; and an entry's limit (R521). -/
  since   : Nat := 0
  limit   : Nat := 0
  deriving DecidableEq, Repr, Inhabited

/-- An entry that a queue has taken (R519 to R523): its index and words, and whether a word was poisoned (R619); waitBegun from
the cycle its wait begins; started; ended when its work has ended; completed; signalled when its header signal has left;
marked, with the cause it will fail with, when one of its operations has failed (R613). -/
structure QEntry where
  n         : Nat
  w         : List Nat
  bad       : Bool
  waitBegun : Bool
  started   : Bool
  ended     : Bool
  completed : Bool
  signalled : Bool
  marked    : Option Nat
  deriving DecidableEq, Repr, Inhabited

/-- Why a queue is stopping or has stopped (R523, R524): at an entry, with a cause, replying on the
channels of the QUEUE_STOPs that wait. -/
structure QStop where
  entry : Nat
  cause : Nat
  chans : List Nat
  deriving DecidableEq, Repr, Inhabited

/-- A work queue in use (R518): ring base, BASE, the number of entries taken, the entries taken and not yet done with in
order, the index below which it skips every entry it takes, whether it skips the rest of a failed batch by reading ahead
(R524), the stop in progress or reached, the failed entry's TAG. -/
structure Queue where
  ring     : Nat
  base     : Nat
  taken    : Nat
  entries  : List QEntry
  skipTo   : Nat
  skipping : Bool
  stop     : Option QStop
  tag      : Option Nat
  deriving DecidableEq, Repr, Inhabited

/-- State of objects and queues: operations in flight, oldest first; operations that arrived at a home under tower reset
(R525); waits; armed notifies by object; queues by number. -/
structure Sync where
  flying   : List SynOp
  deferred : List SynOp
  waits    : List Wait
  notifies : List (Nat × Nat)
  queues   : List (Nat × Queue)
  deriving DecidableEq, Repr, Inhabited

end Sys2Proof.Machine
end

