-- ==== Sys2Proof/Machine/State.lean ====
section
/-! DEFINITION. The state of the module as plain data, the reasons a step can stop, and the state after reset. -/

namespace Sys2Proof.Machine

/-- A part of the stack or capacity tier whose bytes are undefined until written (R32), or until their sector is written whole
(R701): addresses from lo below hi, and the free number that its bytes are drawn from. -/
structure UndefRange where
  lo    : Nat
  hi    : Nat
  gen   : Nat
  whole : Bool
  deriving DecidableEq, Repr, Inhabited

/-- Everything the spec gives the module, and the queue of waiting commands. -/
structure State where
  /-- What is fixed at manufacture (R2, R118). -/
  part    : Part
  /-- Every register of control space, by address, less those at their reset value (R115). -/
  regs    : List (Nat × Word)
  /-- Every byte of the physical address space, by address, less those that are zero (R29). -/
  mem     : List Host.Cell
  /-- 64-byte sectors that carry the poison mark, rising (R345, R412). -/
  poison  : List Nat
  /-- Parts of the tiers that are undefined until written. -/
  undef   : List UndefRange
  board   : Board
  ctl     : Control
  err     : Errors
  mg      : Manage
  comp    : Compute
  syn     : Sync
  xlt     : Xlt
  l2      : Cache
  memc    : Mem
  lnt     : Lantern
  fab     : Fabric
  lnk     : Links
  pwr     : Power
  age     : Ageing
  /-- LR reservations held at homes (R315, R344). -/
  resv    : List Resv
  /-- MODEL. MGMT cycles counted by the idle step (log entry 3). -/
  now     : Nat
  /-- MODEL. How many free values have been drawn (log entry 2). -/
  freeCtr : Nat
  /-- The commands that wait, first in first out. -/
  pending : List Instr
  deriving DecidableEq, Repr

/-- No step of this model faults: a hardware fault is an effect on State (an error record, a stopped unit). The type has
one constructor so that it is not empty; nothing raises it. Safe. -/
inductive Fault where
  /-- Raised by nothing. -/
  | none
  deriving DecidableEq, Repr

/-- Why a command has no meaning. -/
inductive Refusal where
  /-- Raised by exec's arm of a command that has no meaning yet. Safe: the machine stops. -/
  | notModelled (mnemonic : String)
  /-- Raised by a meaning whose operand names a unit, channel, port or register that the module does not have (R23, R24):
  no such command can be sent. Safe: the machine stops. -/
  | noSuchUnit
  deriving DecidableEq, Repr

/-- An input with nothing on its blades (R42). -/
def Supply.absent : Supply :=
  { bladeMv := 0, busMv := 0, good := false, lost := false, window := none, ramp := .idle }

/-- The face of a module that has just been plugged in: no input, MGMT down, pins at their pull levels (R47, R128). -/
def Board.reset : Board :=
  { main := Supply.absent, backup := Supply.absent, mgmtUp := false, removed := false, railRun := false, rails := 0,
    powered := false, resetLow := false, lowFrom := 0, modReset := none, tripped := false, thermLow := false, brakedLow := false,
    perst := true, refclkOut := false, vio := false, refLost := false, refFrom := 0, trained := false, stuckFrom := 0, releaseFrom := 0,
    lossBrake := false, resetEnd := 0, stateFrom := 0, slotA := [], slotB := [], ccSvn := 0,
    stretch := [], towerRst := [], towerHad := [], ctxRst := [], unitRst := [], nv := [] }

/-- The control plane after reset (R76, R120). -/
def Control.reset : Control :=
  { chans := [], stamps := [], outbox := [], raised := [], ids := [], answers := [], lastCh := 63, storeQ := [] }

/-- Error handling after reset (R618). -/
def Errors.reset : Errors := { armed := [], recov := [], downCh := [], repeats := [], quiesced := none }

/-- The TAP in Test-Logic-Reset: IDCODE selected (R708). -/
def Tap.reset : Tap := { ir := 0x01, boundary := 0, out := 0 }

/-- Management, security and debug after reset (R689, R700, R703). -/
def Manage.reset : Manage :=
  { answers := [], events := [], update := none, ctxDebug := [], nonce := none, sticky := 0,
    keys := [], trace := none, tap := Tap.reset }

/-- Compute dies after reset: nothing accepted, queued, resident or held. -/
def Compute.reset : Compute :=
  { tiles := [], chains := [], beams := [], movers := [], cores := [], launches := [], nextLaunch := 0, stalls := [], given := [],
    badWords := [] }

/-- Objects and queues after reset (R525). -/
def Sync.reset : Sync := { flying := [], deferred := [], waits := [], notifies := [], queues := [] }

/-- Translation after reset (R494). -/
def Xlt.reset : Xlt :=
  { cluster := [], base := [], tower := [], pointers := [], walks := [], faults := [], epochs := [], advice := [],
    migrates := [] }

/-- Caches after reset (R396). -/
def Cache.reset : Cache := { slices := [], flying := [], ranges := [], pins := [] }

/-- Memory controllers after reset. -/
def Mem.reset : Mem := { counts := [], patrol := [], marks := [], scrubs := [], rates := [] }

/-- The fabric after reset: the ID is unset; every table, tag, stream and collective is gone (R593). -/
def Fabric.reset : Fabric :=
  { ports := [], sent := [], table := [], writes := [], walks := [], msgs := [], tx := [], rx := [], inbox := [],
    nextMsg := 0, colls := [], flares := [], teardown := none, agg := none, period := 0, reports := 0, cmdFrom := [],
    copies := [], applied := [] }

/-- The links after reset. -/
def Links.reset : Links := { sent := [], waiting := [], ports := [], due := [], training := [] }

/-- The power controller after a module reset (R637, R662): gain 1, every level 15, Pref 0, nothing gathered. -/
def Power.reset : Power :=
  { gainN := 1, gainD := 1, pref := 0, work := 0, therm := [15, 15, 15, 15], ilevel := 15, capHold := false, capWin := false,
    thermWin := false, brkWin := false, eclWin := false, starts := [], held := [], reports := [], asks := [], eMain := 0,
    eBkp := 0, eUnattr := 0, eFill := 0, windows := 0, stopped := none, safe := false }

/-- Ageing after reset: nothing measured, no re-plan (R670). -/
def Ageing.reset : Ageing := { delays := [], cur := [], old := [], checks := [], replan := none, changes := [], leaving := [] }

/-- Lantern units after reset (R464). -/
def Lantern.reset : Lantern := { units := [], loads := [], disp := [] }

/-- The part State.reset names: an IM-RQ4-F with serial number 0 and the fused voltage values of log entry 1. -/
def Part.reset : Part :=
  { kind := .f, serial := 0, vfCodes := 0, vmax := 76, sens := 6 }

/-- The module right after power-on, before any input is good: every register at its reset value (R10), memory with
nothing listed, the readiness state POWER_HOLD (R128), no command waiting. -/
def State.reset : State :=
  { part := Part.reset, regs := [], mem := [], poison := [], undef := [], board := Board.reset, ctl := Control.reset,
    err := Errors.reset, mg := Manage.reset, comp := Compute.reset, syn := Sync.reset, xlt := Xlt.reset, l2 := Cache.reset,
    memc := Mem.reset, lnt := Lantern.reset, fab := Fabric.reset, lnk := Links.reset, pwr := Power.reset,
    age := Ageing.reset, resv := [], now := 0, freeCtr := 0, pending := [] }

end Sys2Proof.Machine
end

