-- ==== Sys2Proof/Machine/Ops.lean ====
section
/-! DEFINITION. The named operations every meaning is built from: registers, counters, free values, memory and its map,
interrupts, alerts and error records. -/

namespace Sys2Proof.Machine

/-- The outcome type of the model. -/
abbrev Res := Host.Outcome State Fault Refusal

/-- A meaning whose operands name things the module has takes its effect; otherwise no such command exists. -/
def onUnit (ok : Bool) (t : State) : Res := if ok then .next t else .refused .noSuchUnit

/-! Registers. -/

/-- The value a register holds (R11). -/
def State.rd (s : State) (a : Nat) : Word := Assoc.getD s.regs a (regDefault s.part a)

/-- A register given a value. -/
def State.wr (s : State) (a : Nat) (v : Word) : State :=
  { s with regs := Assoc.put s.regs a v (regDefault s.part a) }

/-- A field of a register. -/
def State.fld (s : State) (a : Nat) (f : Fld) : Nat := f.get (s.rd a)

/-- A field of a register given a value. -/
def State.setFld (s : State) (a : Nat) (f : Fld) (n : Nat) : State := s.wr a (f.set (s.rd a) n)

/-- Several fields of one register given values. -/
def State.setFlds (s : State) (a : Nat) (l : List (Fld × Nat)) : State :=
  s.wr a (l.foldl (fun v e => e.1.set v e.2) (s.rd a))

/-- A one-bit field as a Boolean. -/
def State.flag (s : State) (a : Nat) (f : Fld) : Bool := s.fld a f ≠ 0

/-- A one-bit field given a Boolean. -/
def State.setFlag (s : State) (a : Nat) (f : Fld) (b : Bool) : State := s.setFld a f (b2n b)

/-- A 48-bit counter advanced, saturating at 2^48 - 1 (R179 and every counter table). -/
def State.bump (s : State) (a n : Nat) : State :=
  s.wr a (BitVec.ofNat 64 (satAdd ((s.rd a).toNat) n (2 ^ 48 - 1)))

/-- A counter field advanced, saturating at its width. -/
def State.bumpFld (s : State) (a : Nat) (f : Fld) (n : Nat) : State :=
  s.setFld a f (satAdd (s.fld a f) n (2 ^ f.w - 1))

/-- Registers at base, base + 8, and so on, n of them, set to zero. -/
def State.clearRegs (s : State) (base n : Nat) : State :=
  (List.range n).foldl (fun t i => t.wr (base + 8 * i) 0) s

/-- The next free value (log entry 2): State advances, nothing says what the value is. -/
def State.free (s : State) : Word × State := (Config.freeValue s.freeCtr, { s with freeCtr := s.freeCtr + 1 })

/-- Microseconds since the end of the last module reset; a MGMT cycle lasts 5 ns (R65). -/
def State.timeUs (s : State) : Nat := (s.now - s.board.resetEnd) / 200

/-- An event that the spec gives a time has come: MGMT time is at least that of it (log entry 45). -/
def State.notBefore (s : State) (t : Nat) : State := { s with now := max s.now t }

/-! Readiness (R128). -/

/-- The readiness state. -/
def State.readiness (s : State) : Nat := s.fld A.bootStatus F.bootStatus_STATE
/-- The module is in READY. -/
def State.ready (s : State) : Bool := s.readiness = 4
/-- CC runs CCFW: MEMORY_INIT, HOST_CONFIG or READY. -/
def State.ccRuns (s : State) : Bool := 2 ≤ s.readiness && s.readiness ≤ 4
/-- The supply phase of R665. -/
def State.phase (s : State) : Nat := s.fld A.pwrSupply F.pwrSupply_PHASE
/-- Eclipse mode: from the 450 W point until the end of the return (R650, R655); a main input lost again during the return does
not end it. -/
def State.eclipse (s : State) : Bool := (2 ≤ s.phase && s.phase ≤ 4) || (s.phase = 1 && s.pwr.stopped.isSome)
/-- From a main-input loss until the main input is good again (R113). -/
def State.mainGone (s : State) : Bool := s.phase ≠ 0 && !s.board.main.good
/-- The store takes no write: eclipse mode, or a main input lost and not good again (R113, R415). -/
def State.supplyEvent (s : State) : Bool := s.eclipse || s.mainGone

/-- The module enters a readiness state: STATE_MS restarts where that is a change of state (R128, R140). -/
def State.enter (s : State) (st : Nat) : State :=
  let since := if s.readiness = st then s.board.stateFrom else s.now
  let s := s.setFlds A.bootStatus [(F.bootStatus_STATE, st), (F.bootStatus_STATE_MS, 0)]
  { s with board := { s.board with stateFrom := since } }

/-! The physical address map (R29). -/

/-- The windows of R29. -/
inductive Window where
  | stackDev | stackTower (k : Nat) | capDev | capTower (k : Nat)
  | pinned (k sl : Nat) | scratch (m : Nat) | lntBuf (n : Nat) | objects | control | pcie (q : Nat) | reserved
  deriving DecidableEq, Repr

/-- The window of a physical address and the offset in it (R29). -/
def windowOf (pa : Nat) : Window × Nat :=
  if pa < 0x10000000000 then (.stackDev, pa)
  else if pa < 0x20000000000 then (.stackTower ((pa - 0x10000000000) / 0x4000000000), (pa - 0x10000000000) % 0x4000000000)
  else if pa < 0x40000000000 then (.reserved, 0)
  else if pa < 0x80000000000 then (.capDev, pa - 0x40000000000)
  else if pa < 0xC0000000000 then (.capTower ((pa - 0x80000000000) / 0x10000000000), (pa - 0x80000000000) % 0x10000000000)
  else if pa < 0xC0100000000 then
    let o := pa - 0xC0000000000
    if o % 0x40000000 / 0x1000000 < 32 then (.pinned (o / 0x40000000) (o % 0x40000000 / 0x1000000), o % 0x1000000)
    else (.reserved, 0)
  else if pa < 0xC0120000000 then (.scratch ((pa - 0xC0100000000) / 0x2000000), (pa - 0xC0100000000) % 0x2000000)
  else if pa < 0xC0200000000 then (.reserved, 0)
  else if pa < 0xC0204800000 then (.lntBuf ((pa - 0xC0200000000) / 0x100000), (pa - 0xC0200000000) % 0x100000)
  else if pa < 0xC0300000000 then (.reserved, 0)
  else if pa < 0xC0300400000 then (.objects, pa - 0xC0300000000)
  else if pa < 0xE0000000000 then (.reserved, 0)
  else if pa < 0xE0100000000 then (.control, pa - 0xE0000000000)
  else if pa < 0xF0000000000 then (.reserved, 0)
  else if pa < 0xF4000000000 then (.pcie 0, pa - 0xF0000000000)
  else if pa < 0xF8000000000 then (.pcie 1, pa - 0xF4000000000)
  else (.reserved, 0)

/-- One GiB. -/
def gib : Nat := 2 ^ 30

/-- Ds, the stack-tier share of the device-interleaved window (R31). -/
def State.ds (s : State) : Nat := s.fld A.ilvSplit F.ilvSplit_DS
/-- Dc, the capacity-tier share (R31). -/
def State.dc (s : State) : Nat := s.fld A.ilvSplit F.ilvSplit_DC

/-- The populated length of a window in bytes (R29, R30). -/
def State.windowLen (s : State) : Window → Nat
  | .stackDev => 4 * s.ds * gib
  | .stackTower _ => (192 - s.ds) * gib
  | .capDev => 4 * s.dc * gib
  | .capTower _ => (s.part.ct - s.dc) * gib
  | .pinned k sl => s.fld (A.l2SliceStatus k sl) F.l2SliceStatus_PIN_WAYS * 640 * 1024
  | .scratch _ => 24 * 2 ^ 20
  | .lntBuf n => if n < 64 || s.part.hasCapacity then 256 * 1024 else 0
  | .objects => 4 * 2 ^ 20
  | .control => 2 ^ 32
  | .pcie _ => 256 * gib
  | .reserved => 0

/-- The address lies in the populated part of its window (R30). -/
def State.populated (s : State) (pa : Nat) : Bool :=
  let w := windowOf pa
  w.2 < s.windowLen w.1

/-- n bytes from an address lie wholly in the populated part of one window. -/
def State.rangeIn (s : State) (pa n : Nat) : Bool :=
  let w := windowOf pa
  decide (w.2 + n ≤ s.windowLen w.1)

/-- A window of the stack tier or the capacity tier. -/
def Window.isTier : Window → Bool
  | .stackDev | .stackTower _ | .capDev | .capTower _ => true
  | _ => false

/-- A window of the capacity tier. -/
def Window.isCap : Window → Bool
  | .capDev | .capTower _ => true
  | _ => false

/-- n bytes from an address lie wholly in the populated part of one stack-tier or capacity-tier window. -/
def State.tierRange (s : State) (pa n : Nat) : Bool := (windowOf pa).1.isTier && s.rangeIn pa n

/-- The address lies in a window of a tier that the part does not have (R4). -/
def State.absentTier (s : State) (pa : Nat) : Bool := (windowOf pa).1.isCap && !s.part.hasCapacity

/-! Bytes and poison. -/

/-- The canonical form of memory: addresses strictly rise, and no listed byte is the one an unlisted address reads as. -/
def Memory.wf (m : List Host.Cell) : Bool := Assoc.sorted m && m.all (fun c => c.2 ≠ 0)

/-- The undefined range an address lies in, if any. -/
def State.undefAt (s : State) (pa : Nat) : Option UndefRange := s.undef.find? (fun r => r.lo ≤ pa && pa < r.hi)

/-- One byte of memory: free where it is undefined, 0 where nothing is listed (MEMORY_INIT clears, R137; log entry 4). -/
def State.rdByte (s : State) (pa : Nat) : Byte :=
  match s.undefAt pa with
  | some r => Config.freeByte r.gen pa
  | none => Assoc.getD s.mem pa 0

/-- One byte of memory written. -/
def State.wrByte (s : State) (pa : Nat) (b : Byte) : State := { s with mem := Assoc.put s.mem pa b 0 }

/-- n bytes from an address. -/
def State.rdBytes (s : State) (pa n : Nat) : List Byte := (List.range n).map (fun i => s.rdByte (pa + i))

/-- Bytes stored from an address on, and nothing else. -/
def State.putBytes (s : State) (pa : Nat) : List Byte → State
  | [] => s
  | b :: bs => (s.wrByte pa b).putBytes (pa + 1) bs

/-- The 64-byte sectors that n bytes from an address touch, as their first addresses. -/
def sectorsOf (pa n : Nat) : List Nat :=
  if n = 0 then [] else (rangeFrom (pa / 64) ((pa + n - 1) / 64 - pa / 64 + 1)).map (64 * ·)

/-- The sectors that n bytes from an address cover whole. -/
def wholeSectorsOf (pa n : Nat) : List Nat := (sectorsOf pa n).filter (fun a => pa ≤ a && a + 64 ≤ pa + n)

/-- A number put into a rising list. -/
def insertNat : List Nat → Nat → List Nat
  | [], a => [a]
  | b :: l, a => if a < b then a :: b :: l else if a = b then b :: l else b :: insertNat l a

/-- Set or clear the poison mark of a sector. -/
def State.setPoison (s : State) (sector : Nat) (p : Bool) : State :=
  { s with poison := if p then insertNat s.poison sector else s.poison.filter (· ≠ sector) }

/-- Some sector that the bytes touch carries the poison mark. -/
def State.poisoned (s : State) (pa n : Nat) : Bool := (sectorsOf pa n).any s.poison.contains

/-- The first poisoned sector that the bytes touch. -/
def State.firstPoison (s : State) (pa n : Nat) : Option Nat := (sectorsOf pa n).find? s.poison.contains

/-- A range of addresses taken out of the undefined ranges. -/
def cutUndef (lo hi : Nat) : List UndefRange → List UndefRange
  | [] => []
  | r :: rs =>
    if hi ≤ r.lo || r.hi ≤ lo then r :: cutUndef lo hi rs
    else
      (if r.lo < lo then [{ r with hi := lo }] else []) ++
      (if hi < r.hi then [{ r with lo := hi }] else []) ++ cutUndef lo hi rs

/-- Bytes from lo below hi stop being undefined, but for those that only a whole sector's write defines (R701). -/
def cutBytes (lo hi : Nat) (l : List UndefRange) : List UndefRange :=
  l.flatMap (fun r => if r.whole then [r] else cutUndef lo hi [r])

/-- Bytes written to memory: they stop being undefined; whole sectors lose their poison mark, and a sector written in part
keeps it, and with it what R701 makes undefined (R345, R412, R619, R701). -/
def State.wrBytes (s : State) (pa : Nat) (bs : List Byte) : State :=
  let n := bs.length
  let whole := wholeSectorsOf pa n
  let s := s.putBytes pa bs
  { s with resv := s.resv.filter (fun r => !(n ≠ 0 && pa < (r.line + 1) * 128 && r.line * 128 < pa + n)),
           poison := s.poison.filter (fun a => !whole.contains a),
           undef := if n = 0 then s.undef
                    else cutBytes pa (pa + n) (whole.foldl (fun u a => cutUndef a (a + 64) u) s.undef) }

/-- The 64-bit little-endian word at an address. -/
def State.rd64 (s : State) (pa : Nat) : Nat := leNat (s.rdBytes pa 8)
/-- The 32-bit little-endian word at an address. -/
def State.rd32 (s : State) (pa : Nat) : Nat := leNat (s.rdBytes pa 4)
/-- n consecutive 64-bit words at an address. -/
def State.rdWords (s : State) (pa n : Nat) : List Nat := (List.range n).map (fun i => s.rd64 (pa + 8 * i))

/-- Memory from lo below hi becomes undefined: listed bytes and poison marks go, and one free number stands for what it
now reads as (R32, R701); whole where only a whole sector's write ends it. -/
def State.undefine (s : State) (lo hi : Nat) (whole : Bool := false) : State :=
  { s with mem := s.mem.filter (fun c => !(lo ≤ c.1 && c.1 < hi)),
           poison := s.poison.filter (fun a => !(lo ≤ a && a < hi)),
           undef := { lo := lo, hi := hi, gen := s.freeCtr, whole := whole } :: cutUndef lo hi s.undef,
           freeCtr := s.freeCtr + 1 }

/-- Memory from lo below hi reads zero, with no mark. -/
def State.zero (s : State) (lo hi : Nat) : State :=
  { s with mem := s.mem.filter (fun c => !(lo ≤ c.1 && c.1 < hi)),
           poison := s.poison.filter (fun a => !(lo ≤ a && a < hi)),
           undef := cutUndef lo hi s.undef }

/-! Interrupts and alerts. -/

/-- An interrupt on its way to the router; identity 0 sends none (R545). -/
def State.interrupt (s : State) (vector : Nat) : State :=
  if vector % 1024 = 0 then s else { s with ctl := { s.ctl with raised := s.ctl.raised ++ [vector] } }

/-- A management alert: a bit of CTL_ALERT. A bit that turns to 1 sends one PLDM event when a receiver is set (R692). -/
def State.alertBit (s : State) (b : Nat) : State :=
  let v := (s.rd A.alert).toNat
  if v.testBit b then s
  else
    let s := s.wr A.alert (BitVec.ofNat 64 (v + 2 ^ b))
    if s.flag A.mctpStatus F.mctpStatus_EVT_RCVR then { s with mg := { s.mg with events := b :: s.mg.events } } else s

/-! Error records (R620 to R622, R626). -/

/-- ERR_Q_CFG of a record queue. -/
def errQCfg (q : Nat) : Nat := if q = 4 then A.errQCfgD else A.errQCfgT q
/-- ERR_Q_STATUS of a record queue. -/
def errQStatus (q : Nat) : Nat := if q = 4 then A.errQStatusD else A.errQStatusT q
/-- ERR_Q_SEQ of a record queue. -/
def errQSeq (q : Nat) : Nat := if q = 4 then A.errQSeqD else A.errQSeqT q
/-- Word w of slot i of a record queue. -/
def errRecord (q i w : Nat) : Nat := if q = 4 then A.errRecordD i w else A.errRecordT q i w
/-- Counter n of a record queue's block, in the order of R632. -/
def errCounter (q n : Nat) : Nat := (if q = 4 then A.errCntRecordsD else A.errCntRecordsT q) + 8 * n

/-- The eight words of a record (R630). -/
def recordWords (s : State) (r : RecordReq) (seq : Nat) : List Nat :=
  [ seq + r.queue * 2 ^ 32 + b2n r.injected * 2 ^ 35 + r.domain * 2 ^ 36 + b2n r.escal * 2 ^ 39 + r.action * 2 ^ 40
      + r.cls * 2 ^ 48,
    s.timeUs % 2 ^ 48,
    (match r.owner with
     | none => 0
     | some o => o.ctx % 256 + 2 ^ 8 +
        (match o.entry with | none => 0 | some (q, e) => q % 4096 * 2 ^ 9 + 2 ^ 21 + e % 2 ^ 32 * 2 ^ 32)),
    r.unit % 2 ^ 24 + r.opref % 2 ^ 32 * 2 ^ 32,
    r.addr % 2 ^ 64, r.detail % 2 ^ 64, r.related % 2 ^ 35, r.aux % 2 ^ 64 ]

/-- The identifier the next record of a queue will take (R620). -/
def State.nextRecordId (s : State) (q : Nat) : Nat := q * 2 ^ 32 + s.fld (errQSeq q) F.errQSeqT_NEXT_SEQ

/-- The words of a record put into its slot. -/
def putRecord (s : State) (q slot w : Nat) : List Nat → State
  | [] => s
  | v :: vs => putRecord (s.wr (errRecord q slot w) (BitVec.ofNat 64 v)) q slot (w + 1) vs

/-- The trace in force, while it writes records: not in eclipse mode (R706). -/
def State.liveTrace (s : State) : Option Trace := s.mg.trace.filter (fun t => t.enable && !s.eclipse)

/-- The trace records what a source of a context does: its source is chosen, its context is, and its object lies in the range.
What has no context is in a trace of every context only. -/
def Trace.wants (t : Trace) (source : Nat) (ctx : Option Nat) (ws : List Nat) : Bool :=
  source < 6 && t.sources.testBit source && (t.allCtx || ctx = some t.ctx)
    && (source ≠ 2 || (t.objFirst ≤ ws.getD 0 0 && ws.getD 0 0 < t.objFirst + t.objCount))

/-- A source of the trace acts (R705): its record is due. -/
def State.traced (s : State) (source : Nat) (ctx : Option Nat) (die : Nat) (ws : Option (List Nat)) : State :=
  match s.liveTrace with
  | some t =>
    if t.wants source ctx (ws.getD []) then
      let d : TraceDue := { source := source, ctx := ctx, die := die, time := s.now, words := ws }
      { s with mg := { s.mg with due := s.mg.due ++ [d] } }
    else s
  | none => s

/-- Write an error record (R620 to R622, R626): it takes the next sequence number of its queue; a held record in its slot
makes it lost; interrupts and alerts follow its domain; a device-domain class 0x12 counts. -/
def State.record (s : State) (r : RecordReq) : State :=
  let q := r.queue
  let seq := s.fld (errQSeq q) F.errQSeqT_NEXT_SEQ
  let slot := seq % 256
  let ws := recordWords s r seq
  let occupied := s.rd (errRecord q slot 0) ≠ 0
  let en := s.flag (errQCfg q) F.errQCfgT_INTR_EN
  let vec := s.fld (errQCfg q) F.errQCfgT_VECTOR
  let s := s.bump (errCounter q 0) 1
  let s := if r.cls = 0x12 then s.bump (errCounter q 4) 1 else s
  let s := if r.escal then s.bump (errCounter q 3) 1 else s
  let s := s.setFld (errQSeq q) F.errQSeqT_NEXT_SEQ ((seq + 1) % 2 ^ 32)
  let s :=
    if occupied then
      let first := !s.flag (errQStatus q) F.errQStatusT_OVERFLOW
      let s := s.setFlag (errQStatus q) F.errQStatusT_OVERFLOW true
      let s := s.bumpFld (errQSeq q) F.errQSeqT_LOST 1
      let s := if first && en && !(s.fld (errQCfg q) F.errQCfgT_INTR_MIN ≤ r.domain) then s.interrupt vec else s
      if first then s.alertBit 7 else s
    else
      let held := s.fld (errQStatus q) F.errQStatusT_HELD
      let s := (putRecord s q slot 0 ws).traced 3 (r.owner.map (·.ctx)) q (some [ws.getD 0 0, ws.getD 4 0, ws.getD 5 0])
      let s := s.setFld (errQStatus q) F.errQStatusT_HELD (held + 1)
      if held = 0 then s.setFld (errQStatus q) F.errQStatusT_HEAD_SEQ seq else s
  let s := if en && s.fld (errQCfg q) F.errQCfgT_INTR_MIN ≤ r.domain then s.interrupt vec else s
  if s.fld (errQCfg q) F.errQCfgT_ALERT_MIN ≤ r.domain then s.alertBit 6 else s

/-- The unit field of a record, W3[23:0] (R630). -/
def unitCode (kind tower cluster index sub : Nat) : Nat :=
  kind + tower % 4 * 2 ^ 4 + cluster % 4 * 2 ^ 6 + index % 256 * 2 ^ 8 + sub % 256 * 2 ^ 16

/-- An injection of a class armed on a unit, for a context or an address (R625). -/
def State.armedAt (s : State) (cls unit ctx addr : Nat) : Option Injection :=
  s.err.armed.find? (fun i => i.cls = cls && i.unit = unit &&
    (if cls = 0x01 || cls = 0x02 || cls = 0x20 then i.ctx = ctx
     else if cls = 0x24 then true else i.addr / 64 = addr / 64))

/-- An injection used up. -/
def State.disarm (s : State) (i : Injection) : State :=
  { s with err := { s.err with armed := s.err.armed.erase i } }

/-- An answer to a host requester. -/
def State.answer (s : State) (who : Nat) (v : Word) : State :=
  { s with ctl := { s.ctl with answers := Assoc.set s.ctl.answers who v } }

end Sys2Proof.Machine
end

