-- ==== Sys2Proof/Machine/Objects.lean ====
section
/-! DEFINITION. Synchronisation objects at their homes (R510 to R515): operations, conditions, waits, notifies, signals. -/

namespace Sys2Proof.Machine

/-- Home tower of an object (R510). -/
def objTower (i : Nat) : Nat := i / 16384
/-- SYN_OBJ_STATE word 0 of object i (R526). -/
def objReg0 (i : Nat) : Nat := A.synObj0 (i / 16384) (i % 16384)
/-- SYN_OBJ_STATE word 1 of object i (R526). -/
def objReg1 (i : Nat) : Nat := A.synObj1 (i / 16384) (i % 16384)

/-- TYPE of an object: 0 unbound, 1 COUNTER, 2 EVENT, 3 BARRIER (R528). -/
def State.objType (s : State) (i : Nat) : Nat := s.fld (objReg0 i) F.synObj0_TYPE
/-- VALUE of an object, or PHASE of a barrier. -/
def State.objValue (s : State) (i : Nat) : Nat := s.fld (objReg1 i) F.synObj1_VALUE
/-- The object is bound to a context (R513). -/
def State.objBoundTo (s : State) (i ctx : Nat) : Bool :=
  i < 65536 && s.objType i ≠ 0 && s.fld (objReg0 i) F.synObj0_CONTEXT = ctx

/-- Conditions a type accepts (R511). -/
def condAccepted (typ cond : Nat) : Bool :=
  match typ with
  | 1 => cond = 0 || cond = 1
  | 2 => cond = 0 || cond = 1 || cond = 2
  | 3 => cond = 3
  | _ => false

/-- Whether a value meets a condition (R512). -/
def condHolds (cond value c : Nat) : Bool :=
  match cond with
  | 1 => value = c % 2 ^ 32
  | 2 => value ≠ 0
  | _ => (value + 2 ^ 32 - c % 2 ^ 32) % 2 ^ 32 < 2 ^ 31

/-- A wait of a context is one its object's home answers (R513). -/
def State.waitAccepted (s : State) (ctx obj cond : Nat) : Bool := s.objBoundTo obj ctx && condAccepted (s.objType obj) cond

/-- Every wait on the object that the present state meets stays met (R512). -/
def State.latchWaits (s : State) (i : Nat) : State :=
  let v := s.objValue i
  { s with syn := { s.syn with waits := s.syn.waits.map (fun w =>
      if w.obj = i && !w.refused && s.waitAccepted w.ctx i w.cond && condHolds w.cond v w.value then { w with met := true } else w) } }

/-- The armed word of an object's notify, or 0 (R515). -/
def State.notifyWord (s : State) (i : Nat) : Nat := Assoc.getD s.syn.notifies i 0

/-- A notify disarmed. -/
def State.disarmNotify (s : State) (i : Nat) : State :=
  ({ s with syn := { s.syn with notifies := Assoc.del s.syn.notifies i } }).setFlag (objReg0 i) F.synObj0_NOTIFY_ARMED false

/-- An armed notify whose condition the present state meets raises its interrupt once and disarms (R515). -/
def State.checkNotify (s : State) (i : Nat) : State :=
  let n := s.notifyWord i
  if n = 0 then s
  else if condHolds (bitsOf n 32 2) (s.objValue i) (bitsOf n 0 32) then
    let s := s.disarmNotify i
    let s := s.bump (A.synCntNotify (objTower i)) 1
    s.interrupt (s.fld (objReg0 i) F.synObj0_VECTOR)
  else s

/-- Whether an object's type accepts an operation with its operand (R511). -/
def State.opAccepted (s : State) (i op v : Nat) : Bool :=
  let t := s.objType i
  match op with
  | 1 => t = 1 || t = 2
  | 2 => t = 2 && v = 0
  | 3 => t = 3 && 1 ≤ v && v ≤ s.fld (objReg0 i) F.synObj0_COUNT
  | _ => false

/-- An accepted operation's effect on the object's state (R511). -/
def State.opEffect (s : State) (i op v : Nat) : State :=
  match op with
  | 1 => s.setFld (objReg1 i) F.synObj1_VALUE ((s.objValue i + v) % 2 ^ 32)
  | 2 => s.setFld (objReg1 i) F.synObj1_VALUE 1
  | _ =>
    let c := s.fld (objReg0 i) F.synObj0_COUNT
    let a := s.fld (objReg1 i) F.synObj1_ARRIVED + v
    if c ≤ a then
      s.setFlds (objReg1 i) [(F.synObj1_ARRIVED, a - c), (F.synObj1_VALUE, (s.objValue i + 1) % 2 ^ 32)]
    else s.setFld (objReg1 i) F.synObj1_ARRIVED a

/-- An operation refused at its home (R513). -/
def State.opRefused (s : State) (i : Nat) : State := s.bump (A.synCntRefused (objTower i)) 1

/-- An operation at its home (R511, R513): the new state and whether it was applied. ctx none judges no context. -/
def State.objOp (s : State) (ctx : Option Nat) (i op v : Nat) : State × Bool :=
  let bound := i < 65536 && s.objType i ≠ 0 &&
    (match ctx with | none => true | some c => s.fld (objReg0 i) F.synObj0_CONTEXT = c)
  if bound && s.opAccepted i op v then
    let s := (s.opEffect i op v).bump (A.synCntOps (objTower i)) 1
    let s := s.traced 2 (some (s.fld (objReg0 i) F.synObj0_CONTEXT)) (objTower i) (some [i, op, s.objValue i])
    ((s.latchWaits i).checkNotify i, true)
  else (s.opRefused i, false)

/-- The number of waits pending on an object, shown in WAITERS (R528). -/
def State.showWaiters (s : State) (i : Nat) : State :=
  s.setFld (objReg0 i) F.synObj0_WAITERS (min 65535 (s.syn.waits.filter (fun w => w.obj = i)).length)

/-- A wait begins (R512): what already holds meets it. -/
def State.beginWait (s : State) (who : Issuer) (ctx obj cond value : Nat) (limit : Nat := 0) : State :=
  let w : Wait := { who := who, ctx := ctx, obj := obj, cond := cond, value := value,
                    met := s.waitAccepted ctx obj cond && condHolds cond (s.objValue obj) value, refused := false,
                    since := s.now, limit := limit }
  let s := { s with syn := { s.syn with waits := s.syn.waits ++ [w] } }
  s.showWaiters obj

/-- The wait of an agent, if it has one. -/
def State.waitOf (s : State) (who : Issuer) : Option Wait := s.syn.waits.find? (fun w => w.who = who)

/-- An agent's wait ends. -/
def State.endWait (s : State) (who : Issuer) : State :=
  match s.waitOf who with
  | none => s
  | some w =>
    let s := { s with syn := { s.syn with waits := s.syn.waits.filter (fun x => x.who ≠ who) } }
    s.showWaiters w.obj

/-- A signal leaves for its object's home (R510, R513). -/
def State.signal (s : State) (who : Issuer) (ctx : Option Nat) (owner : Option Owner) (obj op value : Nat) : State :=
  let o : SynOp := { who := who, ctx := ctx, obj := obj, op := op, value := value, owner := owner, seq := 0 }
  { s with syn := { s.syn with flying := s.syn.flying ++ [o] } }

/-- The home tower of an object is under reset (R525). -/
def State.homeReset (s : State) (obj : Nat) : Bool := s.board.towerRst.any (fun e => e.1 = objTower obj)

/-- The object that a command names takes ADD 1 at the command's end, before any reply (R484, R487); under its home's reset it
is applied after it (R525). -/
def State.signalDone (s : State) (ctx : Option Nat) (obj : Nat) : State :=
  if s.homeReset obj then
    let o : SynOp := { who := .cc, ctx := ctx, obj := obj, op := 1, value := 1, owner := none, seq := 0 }
    { s with syn := { s.syn with deferred := s.syn.deferred ++ [o] } }
  else (s.objOp ctx obj 1 1).1

end Sys2Proof.Machine
end

