-- ==== Sys2Proof/Machine/Home.lean ====
section
/-! DEFINITION. Where each address lives: channels (R418), home slices (R365), units behind the channels (R439). -/

namespace Sys2Proof.Machine

/-- XOR of the first k n-bit groups of x from bit 0 upward (fold_n of R418). -/
def foldBits (n x : Nat) : Nat → Nat
  | 0 => 0
  | k + 1 => (x % 2 ^ n) ^^^ foldBits n (x / 2 ^ n) k

/-- Parity of a natural number below 2^64. -/
def parity (x : Nat) : Nat := foldBits 1 x 64

/-- slice_of of R365. -/
def sliceOf (a : Nat) : Nat := foldBits 5 (a / 128) 9

/-- Where a byte of a tier lies: a stack pseudo-channel, or a capacity bus, with the offset in it (R418). -/
inductive Place where
  | stack (stack channel pc off : Nat)
  | bus (bus off : Nat)
  deriving DecidableEq, Repr

/-- The place of an address of a stack or capacity window (R418). -/
def State.place (s : State) (pa : Nat) : Option Place :=
  let (w, o) := windowOf pa
  let l := o / 128
  let b := o / 512
  match w with
  | .stackDev =>
    let g := foldBits 8 l 8
    some (.stack (g / 32) (g % 32) (o / 64 % 2) (l / 256 * 64 + o % 64))
  | .stackTower k =>
    let g := foldBits 6 l 10
    some (.stack (2 * k + g / 32) (g % 32) (o / 64 % 2) (s.ds * 8 * 2 ^ 20 + l / 64 * 64 + o % 64))
  | .capDev => some (.bus (foldBits 3 b 20) (b / 8 * 512 + o % 512))
  | .capTower k => some (.bus (2 * k + parity b) (s.dc * gib / 2 + b / 2 * 512 + o % 512))
  | _ => none

/-- Tower that owns a place. -/
def Place.tower : Place → Nat
  | .stack st .. => st / 2
  | .bus b _ => b / 2

/-- Controller number of a place: 4 * tower + u (R431). -/
def Place.ctl : Place → Nat
  | .stack st .. => st / 2 * 4 + st % 2
  | .bus b _ => b / 2 * 4 + 2 + b % 2

/-- Lantern unit behind a place: LU(8n + channel / 4) on stack n, LU(64 + b) on bus b. -/
def Place.unit : Place → Nat
  | .stack st ch .. => 8 * st + ch / 4
  | .bus b _ => 64 + b

/-- The home slice of an address of a memory window or a pinned window (R33, R365): tower and slice. -/
def State.home (s : State) (pa : Nat) : Option (Nat × Nat) :=
  match windowOf pa with
  | (.pinned k sl, _) => some (k, sl)
  | _ => (s.place pa).map (fun p => (p.tower, sliceOf pa))

/-- Scratchpad base of cluster m = 4k + j (R29, R340). -/
def spBase (m : Nat) : Nat := 0xC0100000000 + m * 0x2000000

/-- Bytes of a scratchpad (R340). -/
def spBytes : Nat := 0x1800000

/-- Lantern buffer base of unit n (R29). -/
def lntBase (n : Nat) : Nat := 0xC0200000000 + n * 0x100000

end Sys2Proof.Machine
end

