-- ==== Sys2Proof/Machine/Routes.lean ====
section
/-! DEFINITION. The paths of the package (R26, R534, R541, R542): which links an access crosses, and whether they carry traffic. -/

namespace Sys2Proof.Machine

/-- The status register of an end of link l (R534, R550): ring links 0 to 3, host links 4 and 5; its two ends. -/
def linkEnds (l : Nat) : List Nat :=
  if l < 4 then [A.linkStatus l 0, A.linkStatus ((l + 1) % 4) 1] else [A.linkStatus (l - 4) 2, A.d2dStatus (l - 4)]

/-- STATE of a link. -/
def State.linkState (s : State) (l : Nat) : Nat := match linkEnds l with | a :: _ => s.fld a F.linkStatus_STATE | [] => 4

/-- The ring link that the towers route around, if one is down (R541). -/
def State.ringGap (s : State) : Option Nat := (List.range 4).find? (fun l => s.flag (A.linkStatus l 0) F.linkStatus_ROUTED_AROUND)

/-- Ring links between towers a and b of the ring without a gap, for an address (R26): link k joins Tk and T(k+1). A diagonal goes
through the lower-numbered tower between them when bit 7 is 0, else through the higher-numbered one. -/
def ringLinks (a b pa : Nat) : List Nat :=
  let hop (x y : Nat) : Nat := if (x + 1) % 4 = y then x else y
  if a = b then []
  else if (a + 1) % 4 = b || (b + 1) % 4 = a then [hop a b]
  else
    let m := if bit pa 7 then max ((a + 1) % 4) ((a + 3) % 4) else min ((a + 1) % 4) ((a + 3) % 4)
    [hop a m, hop m b]

/-- Ring links between two towers around a gap (R541): the towers stand in the order T(gap + 1), T(gap + 2), T(gap + 3), T(gap). -/
def ringAround (gap a b : Nat) : List Nat :=
  let at_ (t : Nat) : Nat := (t + 7 - gap) % 4
  (rangeFrom (min (at_ a) (at_ b)) (max (at_ a) (at_ b) - min (at_ a) (at_ b))).map (fun i => (gap + 1 + i) % 4)

/-- Links between two towers for an address. -/
def State.towerPath (s : State) (a b pa : Nat) : List Nat :=
  match s.ringGap with | none => ringLinks a b pa | some g => ringAround g a b

/-- Links between the host die and a tower for an address (R26, R541, R542): none of them when both host links are down, and the
service paths carry the traffic. -/
def State.hostPath (s : State) (b pa : Nat) : List Nat :=
  match s.fld A.hostStatus F.hostStatus_HOST_LINKS_UP with
  | 0 => []
  | 1 => 4 :: s.towerPath 0 b pa
  | 2 => 5 :: s.towerPath 1 b pa
  | _ =>
    let h (e : Nat) : Nat := (s.towerPath e b pa).length
    let e := if h 0 < h 1 then 0 else if h 1 < h 0 then 1 else if b = 0 || b = 3 then 0 else 1
    (4 + e) :: s.towerPath e b pa

/-- Where an agent sits: a tower, or the host die (R21). -/
inductive Die where
  | tower (k : Nat) | host | port
  deriving DecidableEq, Repr

/-- The die an agent's accesses come from; an arrival of the fabric enters by a port of its own. -/
def Issuer.die (w : Issuer) : Die :=
  match w with
  | .thread k .. | .beam k | .engine k _ | .vxe k _ | .mover k _ | .coll k _ => .tower k
  | .lantern n => .tower (if n < 64 then n / 16 else (n - 64) / 2)
  | .entry q _ => .tower (q / 1024)
  | .host | .peer _ | .cc => .host
  | .fabric => .port

/-- The die that owns an address (R33, R340, R443). -/
def State.owningDie (s : State) (pa : Nat) : Die :=
  match windowOf pa with
  | (.scratch m, _) => .tower (m / 4)
  | (.lntBuf n, _) => .tower (if n < 64 then n / 16 else (n - 64) / 2)
  | (.pcie _, _) => .host
  | (.objects, o) => .tower (objTower (o / 64))
  | _ => match s.home pa with | some (k, _) => .tower k | none => .port

/-- The links between two dies for an address. -/
def State.path (s : State) (a b : Die) (pa : Nat) : List Nat :=
  match a, b with
  | .tower k, .tower h => s.towerPath k h pa
  | .tower k, .host | .host, .tower k => s.hostPath k pa
  | _, _ => []

/-- Traffic passes a path: no link of it is down or retrains; what meets one that does waits there (R539, R541). -/
def State.pathOpen (s : State) (a b : Die) (pa : Nat) : Bool := (s.path a b pa).all (fun l => s.linkState l = 2)

/-- A bond channel by tower: its number among all. -/
def bondKey (k c : Nat) : Nat := 32 * k + c

/-- The bond of tower k carries a line (R535, R536): its channel is the first, from slice_of on, that was up at the last reset, and
it has not gone down since nor retrains. -/
def State.bondOpen (s : State) (k pa : Nat) : Bool :=
  let up := s.fld (A.bondStatus k) F.bondStatus_CHANNELS_UP
  match ((List.range 32).map (fun i => (sliceOf pa + i) % 32)).find? (fun c => up.testBit c || s.lnk.lost.contains (bondKey k c)) with
  | some c => !s.lnk.lost.contains (bondKey k c) && !s.lnk.training.contains (bondKey k c)
  | none => true

/-- The tower whose compute die an agent is on. -/
def Issuer.compute (w : Issuer) : Option Nat :=
  match w with
  | .thread k .. | .beam k | .engine k _ | .vxe k _ | .mover k _ => some k
  | _ => none

/-- An access between an agent and an address passes the bonds on its way: the agent's own unless it stays on its die, and that of
another tower whose scratchpad it goes to. -/
def State.bondsOpen (s : State) (who : Issuer) (pa : Nat) : Bool :=
  let target : Option Nat := match windowOf pa with | (.scratch m, _) => some (m / 4) | _ => none
  if who.compute = target then true
  else (who.compute.all (s.bondOpen · pa)) && (target.all (s.bondOpen · pa))

/-- An agent's access reaches the owner of an address. -/
def State.crosses (s : State) (who : Issuer) (pa : Nat) : Bool := s.bondsOpen who pa && s.pathOpen who.die (s.owningDie pa) pa

/-- An agent's operation on a synchronisation object reaches its home. -/
def State.reachesObj (s : State) (who : Issuer) (obj : Nat) : Bool :=
  who.compute.all (s.bondOpen · (64 * obj)) && s.pathOpen who.die (.tower (objTower obj)) (64 * obj)

end Sys2Proof.Machine
end

