-- ==== Sys2Proof/Machine/CacheOps.lean ====
section
/-! DEFINITION. Operations of an L2 slice on one line (13_l2_cache.md): residence, write-back, allocation, the host directory,
reduction slots, and the accesses built from them. -/

namespace Sys2Proof.Machine

/-- An empty slice. -/
def Slice.empty : Slice := { lines := [], misses := [], slots := [], dir := [], recalls := [], waiting := [] }

/-- The slice numbered 32 * tower + s. -/
def State.slice (s : State) (key : Nat) : Slice := Assoc.getD s.l2.slices key Slice.empty

/-- L2_SLICE_STATUS brought up to a slice's contents (R400). -/
def State.showSlice (s : State) (key : Nat) : State :=
  let c := s.slice key
  s.setFlds (A.l2SliceStatus (key / 32) (key % 32))
    [(F.l2SliceStatus_OPEN_SLOTS, c.slots.length), (F.l2SliceStatus_RED_STALLED, b2n (!c.waiting.isEmpty)),
     (F.l2SliceStatus_MISS_USED, c.misses.length), (F.l2SliceStatus_DIR_USED, c.dir.length)]

/-- A slice replaced. -/
def State.setSlice (s : State) (key : Nat) (c : Slice) : State :=
  ({ s with l2 := { s.l2 with slices := Assoc.put s.l2.slices key c Slice.empty } }).showSlice key

/-- A slice changed. -/
def State.modSlice (s : State) (key : Nat) (f : Slice → Slice) : State := s.setSlice key (f (s.slice key))

/-- A counter of a slice, by its place in the table of R401. -/
def l2Cnt (key n : Nat) : Nat := A.l2CntHit (key / 32) (key % 32) + 8 * n

/-- The slice of a line's address, as 32 * tower + s. -/
def State.homeKey (s : State) (pa : Nat) : Option Nat := (s.home pa).map (fun h => 32 * h.1 + h.2)

/-- A line of a pinned window (R382). -/
def isPinnedLine (line : Nat) : Bool := match windowOf (line * 128) with | (.pinned .., _) => true | _ => false

/-- The mask of n bytes from offset o of a line. -/
def lineMask (o n : Nat) : Nat := (2 ^ n - 1) * 2 ^ o

/-- The resident line, if any. -/
def Slice.find (c : Slice) (line : Nat) : Option L2Line := c.lines.find? (fun l => l.line = line)
/-- A resident line replaced in place. -/
def Slice.put (c : Slice) (l : L2Line) : Slice := { c with lines := c.lines.map (fun x => if x.line = l.line then l else x) }
/-- A line made most recently used. -/
def Slice.touch (c : Slice) (line : Nat) : Slice :=
  { c with lines := c.lines.filter (fun l => l.line = line) ++ c.lines.filter (fun l => l.line ≠ line) }
/-- The open slot of a line, if any. -/
def Slice.slot (c : Slice) (line : Nat) : Option RedSlot := c.slots.find? (fun r => r.line = line)

/-! Memory behind the slice. -/

/-- The byte the memory behind a slice holds (R439, R441): what a lantern unit or a scrub reads. -/
def State.behindByte (s : State) (pa : Nat) : Byte :=
  match s.homeKey pa with
  | none => s.rdByte pa
  | some key =>
    match (s.slice key).find (pa / 128) with
    | some l => match Assoc.get? l.behind (pa % 128) with | some b => b | none => s.rdByte pa
    | none => s.rdByte pa

/-- The channel of an address's place is down (R609). -/
def State.downAt (s : State) (pa : Nat) : Bool :=
  if s.err.downCh.isEmpty then false
  else match s.place pa with
    | some (.stack st ch pc o) => s.err.downCh.contains ((Place.stack st ch pc o).ctl, ch)
    | some p => s.err.downCh.contains (p.ctl, 0)
    | none => false

/-- Whether the memory behind a slice holds a sector in poison form, or its channel is down. -/
def State.behindPoison (s : State) (sector : Nat) : Bool :=
  if s.downAt sector then true
  else match s.homeKey sector with
  | none => s.poison.contains sector
  | some key =>
    match (s.slice key).find (sector / 128) with
    | some l => l.poison.testBit (sector % 128 / 64) || (bitsOf l.dirty (sector % 128) 64 = 0 && s.poison.contains sector)
    | none => s.poison.contains sector

/-- n bytes of the memory behind the slices. -/
def State.behindBytes (s : State) (pa n : Nat) : List Byte := (List.range n).map (fun i => s.behindByte (pa + i))

/-- The sectors of a line that hold dirty bytes, 0 and 1. -/
def L2Line.dirtySectors (l : L2Line) : List Nat := [0, 1].filter (fun h => bitsOf l.dirty (64 * h) 64 ≠ 0)

/-- A sector of a slice that its check finds uncorrectable: marked and counted (R367). -/
def State.l2Poison (s : State) (key a : Nat) : State :=
  ({ s with l2 := { s.l2 with weak := s.l2.weak.filter (· ≠ a) } }.setPoison a true).bump (l2Cnt key 10) 1

/-- Sectors of a slice written whole, or gone from it: their check bytes are good again. -/
def State.l2Heal (s : State) (as : List Nat) : State :=
  if s.l2.weak.isEmpty then s else { s with l2 := { s.l2 with weak := s.l2.weak.filter (!as.contains ·) } }

/-- What still differs behind a line once its dirty sectors are written (R371): a sector that is all valid is written whole, of
another the dirty bytes alone are merged. -/
def L2Line.keptBehind (l : L2Line) : List (Nat × Byte) :=
  l.behind.filter (fun e => !l.dirty.testBit e.1 &&
    !(l.dirtySectors.contains (e.1 / 64) && bitsOf l.valid (64 * (e.1 / 64)) 64 = 2 ^ 64 - 1))

/-- A line's dirty sectors written back (R371): memory behind now holds the present bytes. A sector that the check cannot correct
leaves with the poison mark; a write-back has no requester whose domain a record could be in (log entry 206). -/
def State.writeback (s : State) (key line : Nat) : State :=
  match (s.slice key).find line with
  | none => s
  | some l =>
    let ds := l.dirtySectors
    let s := ((ds.map (fun h => line * 128 + 64 * h)).filter s.l2.weak.contains).foldl (fun s a => s.l2Poison key a) s
    let rmw := (ds.filter (fun h => bitsOf l.valid (64 * h) 64 ≠ 2 ^ 64 - 1)).length
    let s := s.modSlice key (fun c => c.put { l with dirty := 0, behind := l.keptBehind, poison := ds.foldl (fun p h => putBit p h false) l.poison })
    let s := s.bump (l2Cnt key 4) ds.length
    s.bump (l2Cnt key 5) rmw

/-- A line dropped without write-back: the bytes behind its dirty ones come back (R379 DISCARD). -/
def State.dropLine (s : State) (key line : Nat) : State :=
  match (s.slice key).find line with
  | none => s
  | some l =>
    let s := s.modSlice key (fun c => { c with lines := c.lines.filter (fun x => x.line ≠ line) })
    let s := s.l2Heal [line * 128, line * 128 + 64]
    let s := l.behind.foldl (fun s e => s.wrByte (line * 128 + e.1) e.2) s
    [0, 1].foldl (fun s h =>
      if l.dirtySectors.contains h || l.poison.testBit h then s.setPoison (line * 128 + 64 * h) (l.poison.testBit h) else s) s

/-- A line written back and invalidated. -/
def State.evictLine (s : State) (key line : Nat) : State := (s.writeback key line).dropLine key line

/-- Bytes of a line about to become dirty: what memory behind holds is kept (L2Line.behind). -/
def L2Line.soil (s : State) (l : L2Line) (o n : Nat) : L2Line :=
  let fresh := (rangeFrom o n).filter (fun i => !l.dirty.testBit i)
  let behind := fresh.foldl (fun b i => match Assoc.get? b i with | some _ => b | none => Assoc.set b i (s.rdByte (l.line * 128 + i))) l.behind
  let poison := [0, 1].foldl (fun p h =>
    if bitsOf l.dirty (64 * h) 64 = 0 then putBit p h (p.testBit h || s.poison.contains (l.line * 128 + 64 * h)) else p) l.poison
  { l with valid := l.valid ||| lineMask o n, dirty := l.dirty ||| lineMask o n, behind := behind, poison := poison }

/-! Allocation (R372, R373). -/

/-- Ways of the set of a line that are neither pinned nor holding a line. -/
def State.freeWays (s : State) (key line : Nat) : List Nat :=
  let c := s.slice key
  let w := s.fld (A.l2SliceStatus (key / 32) (key % 32)) F.l2SliceStatus_PIN_WAYS
  let used := (c.lines.filter (fun l => l.line % 5120 = line % 5120)).map (·.way)
  (List.range (16 - w)).filter (fun i => !used.contains i)

/-- The least recently used evictable line of a line's set (R372). -/
def Slice.victim (c : Slice) (line : Nat) : Option L2Line :=
  (c.lines.filter (fun l => l.line % 5120 = line % 5120 && (c.slot l.line).isNone &&
    !c.misses.any (fun m => m.line = l.line))).getLast?

/-- A line placed in its set with nothing valid, evicting if it must; none when its set has no evictable way (R373). A line
of an EVICT_FIRST access goes to the least recently used place (R493). -/
def State.allocate (s : State) (key line : Nat) (evictFirst : Bool) : Option State :=
  let place (s : State) (way : Nat) : State :=
    let l : L2Line := { line := line, way := way, valid := 0, dirty := 0, behind := [], poison := 0, evict := evictFirst }
    s.modSlice key (fun c => { c with lines := if evictFirst then c.lines ++ [l] else l :: c.lines })
  match s.freeWays key line with
  | way :: _ => some (place s way)
  | [] =>
    match (s.slice key).victim line with
    | some v => some (place (s.evictLine key v.line) v.way)
    | none => none

/-! Reduction slots (R387 to R391). -/

/-- Element format of FMT of L2_RED_TABLE for FADD: 2 binary16, 3 bfloat16, 4 binary32, 5 binary64 (R389, R403). -/
def redFmt (fmt : Nat) : Fmt :=
  match fmt with | 2 => Fmt.f16 | 3 => Fmt.bf16 | 4 => Fmt.f32 | _ => Fmt.f64

/-- Bytes of an element of FMT: 0 INT32, 1 INT64, then as redFmt. -/
def redBytes (fmt : Nat) : Nat := match fmt with | 0 => 4 | 1 => 8 | 2 => 2 | 3 => 2 | 4 => 4 | _ => 8

/-- A slot converts its records and writes the results into the line (R389); nothing when the line has no open slot.
Discarded results (R385) are not written. -/
def State.drainSlot (s : State) (key line : Nat) (discard : Bool := false) : State :=
  match (s.slice key).slot line with
  | none => s
  | some r =>
    let s := s.modSlice key (fun c => { c with slots := c.slots.filter (fun x => x.line ≠ line) })
    let s := s.bump (l2Cnt key 7) 1
    if discard then s
    else
      let n := redBytes r.fmt
      let f := redFmt r.fmt
      r.elems.foldl (fun s e =>
        let s := match (s.slice key).find line with
          | some l => s.modSlice key (fun c => c.put (l.soil s (e.i * n) n))
          | none => s
        let v := ((e.acc.toRec r.anchor).convert 0 f (Rnd.ofCode r.rnd)).1
        let s := s.wrBytes (line * 128 + e.i * n) (leBytes n v)
        if e.poison then s.setPoison ((line * 128 + e.i * n) / 64 * 64) true else s) s

/-! The host directory (R392, R393). -/

/-- A recall or invalidation sent to the host die, once. -/
def State.sendRecall (s : State) (key : Nat) (r : Recall) : State :=
  if (s.slice key).recalls.any (fun x => x.line = r.line) then s
  else
    let s := if (s.slice key).dir.any (fun d => d.1 = r.line && d.2) then s.bump (l2Cnt key 11) 1 else s
    s.modSlice key (fun c => { c with recalls := c.recalls ++ [r] })

/-- A non-host access meets the directory (R392): the state with any recall sent, and whether the access may go on. -/
def State.meetDir (s : State) (key line : Nat) (isWrite : Bool) : State × Bool :=
  match (s.slice key).dir.find? (fun d => d.1 = line) with
  | none => (s, true)
  | some (_, m) =>
    if !isWrite && !m then (s, true)
    else (s.sendRecall key { line := line, inval := isWrite, evict := false }, false)

/-! Accesses at the home slice, each within one line. -/

/-- Bytes written to a line already at its home, under the write's policy (R369, R370); as write-through without
allocation while its tower is under reset (R79). -/
def State.writeLine (s : State) (key pa : Nat) (bs : List Byte) (poison : Bool) (policy : Nat) (evictFirst : Bool) : State :=
  let policy := if s.board.towerRst.any (fun e => e.1 = key / 32) then 1 else policy
  let line := pa / 128
  let o := pa % 128
  let n := bs.length
  let put (s : State) : State :=
    let s := (s.wrBytes pa bs).l2Heal (wholeSectorsOf pa n)
    if poison then (sectorsOf pa n).foldl (fun s a => s.setPoison a true) s else s
  let hit (s : State) : State := s.bump (l2Cnt key 0) 1
  if isPinnedLine line then put (hit s)
  else
    match (s.slice key).find line with
    | some l =>
      let s := if policy = 2 || l.evict then s else s.modSlice key (fun c => c.touch line)
      if policy = 1 then
        let behind := (rangeFrom o n).foldl (fun b i =>
          if l.dirty.testBit i then Assoc.set b i ((bs.getD (i - o) 0)) else Assoc.del b i) l.behind
        let marks := (wholeSectorsOf pa n).foldl (fun p a => putBit p (a % 128 / 64) false) l.poison
        put (hit (s.modSlice key (fun c => c.put { l with valid := l.valid ||| lineMask o n, behind := behind, poison := marks })))
      else put (hit (s.modSlice key (fun c => c.put (l.soil s o n))))
    | none =>
      if policy = 1 || policy = 2 then put (hit s)
      else
        match s.allocate key line evictFirst with
        | none => put (hit (s.bump (l2Cnt key 3) 1))
        | some s =>
          match (s.slice key).find line with
          | none => put s
          | some l => put (hit (s.modSlice key (fun c => c.put (l.soil s o n))))

/-- Whether a read of n bytes of a line is served without a fetch (R370). -/
def State.readHits (s : State) (key pa n : Nat) : Bool :=
  isPinnedLine (pa / 128) ||
  (match (s.slice key).find (pa / 128) with
   | some l => l.valid &&& lineMask (pa % 128) n = lineMask (pa % 128) n
   | none => false)

/-- Of n asked bytes of a line those that are not valid in the slice, as a mask of the line's bytes (R370). -/
def State.owes (s : State) (key pa n : Nat) : Nat :=
  let valid := match (s.slice key).find (pa / 128) with
    | some l => l.valid
    | none => if isPinnedLine (pa / 128) then 2 ^ 128 - 1 else 0
  let asked := lineMask (pa % 128) n
  asked - (asked &&& valid)

/-- The sectors that hold asked bytes not yet valid become valid in a resident line (R370). -/
def State.fillLine (s : State) (key pa n : Nat) : State :=
  match (s.slice key).find (pa / 128) with
  | none => s
  | some l =>
    let w := s.owes key pa n
    let m := (if bitsOf w 0 64 = 0 then 0 else lineMask 0 64) ||| (if bitsOf w 64 64 = 0 then 0 else lineMask 64 64)
    s.modSlice key (fun c => c.put { l with valid := l.valid ||| m })

/-- A line read by a hit: its recency changes unless the access is STREAM or the line EVICT_FIRST (R369, R493). -/
def State.readHit (s : State) (key line policy : Nat) : State :=
  let s := s.bump (l2Cnt key 0) 1
  match (s.slice key).find line with
  | some l => if policy = 2 || l.evict then s else s.modSlice key (fun c => c.touch line)
  | none => s

/-- Where a miss of a line counts (R374): as a merge when an entry for the line is in flight, else as an entry taken. -/
def State.missCnt (s : State) (key line : Nat) : Nat := l2Cnt key (if (s.slice key).misses.any (fun m => m.line = line) then 2 else 1)

/-- A read of n bytes of a line needs no miss entry or finds one (R374): its line's has room for it, or one is free. -/
def State.missRoom (s : State) (key pa n : Nat) : Bool :=
  s.readHits key pa n ||
  (match (s.slice key).misses.find? (fun m => m.line = pa / 128) with
   | some m => decide (m.reqs.length < 64)
   | none => decide ((s.slice key).misses.length < 256))

/-- A read within one line whose miss, if it has one, is fetched at once: the unit that reads waits for its fill, and the entry
that the miss takes or merges into is open within this event only. A partial line is filled under every policy (R370). -/
def State.readLineNow (s : State) (key pa n policy : Nat) (evictFirst : Bool) : State :=
  if s.readHits key pa n then s.readHit key (pa / 128) policy
  else
    let s := s.bump (s.missCnt key (pa / 128)) 1
    match (s.slice key).find (pa / 128) with
    | some l =>
      let s := s.fillLine key pa n
      if policy = 2 || l.evict then s else s.modSlice key (fun c => c.touch (pa / 128))
    | none =>
      if policy = 2 then s
      else
        match s.allocate key (pa / 128) evictFirst with
        | some s => s.fillLine key pa n
        | none => s.bump (l2Cnt key 3) 1

/-- Pieces of a range that lie within one line each, as address and length. -/
def linePieces (pa n : Nat) : List (Nat × Nat) :=
  if n = 0 then []
  else (rangeFrom (pa / 128) ((pa + n - 1) / 128 - pa / 128 + 1)).map (fun l =>
    let lo := max pa (l * 128)
    (lo, min (pa + n) ((l + 1) * 128) - lo))

/-- Sectors that would come from a channel that is down carry the poison mark (R609): those whose bytes the slice does not
hold. -/
def State.markDown (s : State) (key pa n : Nat) : State :=
  if s.err.downCh.isEmpty then s
  else (sectorsOf pa n).foldl (fun s a =>
    let held := match (s.slice key).find (a / 128) with
      | some l => bitsOf l.valid (a % 128) 64 = 2 ^ 64 - 1
      | none => isPinnedLine (a / 128)
    if !held && s.downAt a then s.setPoison a true else s) s

/-- Before a non-host agent's access, open slots of the lines drain and host copies are recalled (R391, R392): the state, and
whether the access may go on; a read that no miss entry can take may not (R374). -/
def State.clearLines (s : State) (pa n : Nat) (isWrite : Bool) : State × Bool :=
  (linePieces pa n).foldl (fun (r : State × Bool) p =>
    match r.1.homeKey p.1 with
    | none => r
    | some key =>
      let s := (r.1.drainSlot key (p.1 / 128)).markDown key p.1 p.2
      let (s, ok) := s.meetDir key (p.1 / 128) isWrite
      (s, r.2 && ok && (isWrite || s.missRoom key p.1 p.2))) (s, true)

/-- A read of memory by an agent that waits for it: every line is read at its home. Addresses without a home slice are read
at their owner. -/
def State.homeRead (s : State) (pa n policy : Nat) (evictFirst : Bool := false) : State :=
  (linePieces pa n).foldl (fun s p =>
    match s.homeKey p.1 with
    | none => s
    | some key => s.readLineNow key p.1 p.2 policy evictFirst) s

/-- A write of memory that reaches its home: a slice, or the owner of another window. -/
def State.homeWrite (s : State) (pa : Nat) (bs : List Byte) (poison : Bool) (policy : Nat) (evictFirst : Bool := false) : State :=
  (linePieces pa bs.length).foldl (fun s p =>
    let part := (bs.drop (p.1 - pa)).take p.2
    match s.homeKey p.1 with
    | none =>
      let s := s.wrBytes p.1 part
      if poison then (sectorsOf p.1 p.2).foldl (fun s a => s.setPoison a true) s else s
    | some key => s.writeLine key p.1 part poison policy evictFirst) s

/-- A masked store at a home by a unit of the module itself, as a WB write. -/
def State.storeHome (s : State) (pa : Nat) (bs : List Byte) : State := (s.clearLines pa bs.length true).1.homeWrite pa bs false 0

/-! Reduce writes (R387 to R389). -/

/-- One integer reduction of two elements of w bits (R388). -/
def redInt (op w old new : Nat) : Nat :=
  match op with
  | 0 => (old + new) % 2 ^ w
  | 1 => if sext w new < sext w old then new else old
  | 2 => if sext w old < sext w new then new else old
  | 3 => min old new
  | 4 => max old new
  | 5 => old &&& new
  | 6 => old ||| new
  | _ => old ^^^ new

/-- One contribution to an element of a slot (R389): its first contribution brings the line's value in as a C entry. -/
def RedElem.contribute (e : RedElem) (anchor : Int) (f : Fmt) (v : Nat) (poison : Bool) : RedElem :=
  let a := e.acc.product anchor 0 (f.decode v) (.fin ⟨false, 1, 0⟩)
  { e with acc := if 2 ^ 25 ≤ e.count then { a with ovf := true } else a, count := e.count + 1, poison := e.poison || poison }

/-- A reduce write's elements entering a slot of its line. -/
def State.contribute (s : State) (key pa : Nat) (bs : List Byte) (poison : Bool) : State :=
  let line := pa / 128
  match (s.slice key).slot line with
  | none => s
  | some r =>
    let n := redBytes r.fmt
    let f := redFmt r.fmt
    let step (r : RedSlot) (j : Nat) : RedSlot :=
      let i := (pa % 128) / n + j
      let v := leNat ((bs.drop (j * n)).take n)
      let fresh : RedElem :=
        { i := i, acc := Acc.zero.entry r.anchor 0 (f.decode (leNat (s.rdBytes (line * 128 + i * n) n))), count := 0,
          poison := s.poisoned (line * 128 + i * n) n }
      let e := (r.elems.find? (fun e => e.i = i)).getD fresh
      { r with elems := r.elems.filter (fun e => e.i ≠ i) ++ [e.contribute r.anchor f v poison] }
    let r' := (List.range (bs.length / n)).foldl step r
    s.modSlice key (fun c => { c with slots := c.slots.map (fun x => if x.line = line then r' else x) })

/-- L2_RED_TABLE's entry for a context on a tower (R387). -/
def State.redEntry (s : State) (tower ctx r : Nat) : Word := s.rd (A.l2RedTable tower ctx (r - 1))

/-- A reduce write of n bytes is refused (R387): its entry is not VALID, or it does not cover whole elements. -/
def State.redRefused (s : State) (key pa ctx red n : Nat) : Bool :=
  let ent := s.redEntry (key / 32) ctx red
  let w := redBytes (F.l2RedTable_FMT.get ent)
  F.l2RedTable_VALID.get ent = 0 || pa % w ≠ 0 || n % w ≠ 0 || n = 0

/-- What a reduce write meets before it acts: host copies of its line (R392), and full miss entries where it needs the line's
value (R374). A refused one meets nothing, since it changes nothing. -/
def State.redMeets (s : State) (key pa ctx red n : Nat) : State × Bool :=
  if s.redRefused key pa ctx red n then (s, true)
  else
    let (s, ok) := s.meetDir key (pa / 128) true
    (s, ok && (((s.slice key).slot (pa / 128)).isSome || s.missRoom key pa n))

/-- The outcome of a reduce write at its home. -/
inductive RedOut where
  | applied (s : State) | refused (s : State) | waits (s : State)

/-- Elements of w bytes of a write reduced with what memory holds (R388). -/
def State.redBytesOf (s : State) (op w pa : Nat) (bs : List Byte) : List Byte :=
  (List.range (bs.length / w)).flatMap (fun j =>
    leBytes w (redInt op (8 * w) (leNat (s.rdBytes (pa + j * w) w)) (leNat ((bs.drop (j * w)).take w))))

/-- A reduce write at its home slice (R387 to R391); its line's host copies have gone. Integer operations apply at once to
the line's value; FADD contributes to a slot, opening one when it must. While the tower is under reset its unpinned ways take
nothing (R79): an integer result is written through, and a FADD write waits (log entry 207). -/
def State.reduceLine (s : State) (key pa ctx red : Nat) (bs : List Byte) (poison : Bool) : RedOut :=
  let line := pa / 128
  let ent := s.redEntry (key / 32) ctx red
  let op := F.l2RedTable_OP.get ent
  let fmt := F.l2RedTable_FMT.get ent
  let rnd := F.l2RedTable_RND.get ent
  let anchor := sext 16 (F.l2RedTable_ANCHOR.get ent)
  let n := redBytes fmt
  let through := !isPinnedLine line && s.board.towerRst.any (fun e => e.1 = key / 32)
  if s.redRefused key pa ctx red bs.length then .refused s
  else if op < 8 && through then
    let marks := (sectorsOf pa bs.length).filter (fun a => poison || s.poison.contains a)
    let s := s.writeLine key pa (s.redBytesOf op n pa bs) false 1 false
    .applied ((marks.foldl (fun s a => s.setPoison a true) s).bump (l2Cnt key 6) 1)
  else if op < 8 then
    let s := s.drainSlot key line
    let (s, placed) :=
      if isPinnedLine line || ((s.slice key).find line).isSome then (s, true)
      else match s.allocate key line false with | some t => (t, true) | none => (s, false)
    if !placed then .waits s
    else
      let hit := s.readHits key pa bs.length
      let s := s.bump (if hit then l2Cnt key 0 else s.missCnt key line) 1
      let s := (s.fillLine key pa bs.length).modSlice key (fun c => c.touch line)
      let s := match (s.slice key).find line with
        | some l => s.modSlice key (fun c => c.put (l.soil s (pa % 128) bs.length))
        | none => s
      let marks := (sectorsOf pa bs.length).filter (fun a => poison || s.poison.contains a)
      let s := (s.wrBytes pa (s.redBytesOf op n pa bs)).l2Heal (wholeSectorsOf pa bs.length)
      let s := marks.foldl (fun s a => s.setPoison a true) s
      .applied (s.bump (l2Cnt key 6) 1)
  else
    let same := match (s.slice key).slot line with
      | some r => r.ctx = ctx && r.fmt = fmt && r.rnd = rnd && r.anchor = anchor
      | none => true
    let s := if same then s else s.drainSlot key line
    if ((s.slice key).slot line).isSome then
      .applied ((((s.contribute key pa bs poison).modSlice key (fun c => c.touch line)).bump (l2Cnt key 0) 1).bump (l2Cnt key 6) 1)
    else if through || 64 ≤ (s.slice key).slots.length then .waits s
    else
      let (s, placed) :=
        if isPinnedLine line || ((s.slice key).find line).isSome then (s, true)
        else match s.allocate key line false with | some t => (t, true) | none => (s, false)
      if !placed then .waits s
      else
        let hit := s.readHits key (line * 128) 128
        let s := s.bump (if hit then l2Cnt key 0 else s.missCnt key line) 1
        let s := s.fillLine key (line * 128) 128
        let r : RedSlot := { line := line, ctx := ctx, fmt := fmt, rnd := rnd, anchor := anchor, elems := [] }
        let s := s.modSlice key (fun c => { c with slots := c.slots ++ [r] })
        .applied (((s.contribute key pa bs poison).modSlice key (fun c => c.touch line)).bump (l2Cnt key 6) 1)

end Sys2Proof.Machine
end

