-- ==== Sys2Proof/Machine/CompOps.lean ====
section
/-! DEFINITION. Access to the units of the compute dies: each unit's hidden state and the status registers that show it. -/

namespace Sys2Proof.Machine

/-! Matrix engines: number 17 * tower + e (R174). -/

/-- Tiles accepted and not committed, oldest first. -/
def State.tilesOf (s : State) (k e : Nat) : List Tile := Assoc.getD s.comp.tiles (17 * k + e) []

/-- STATE of MXE_STATUS (R177). DESIGN CHOICE (log entry 186): from acceptance to its drain the oldest tile shows 1, or 2 once an
attempt of it has been replayed. -/
def engineState (fenced assigned : Bool) (ts : List Tile) : Nat :=
  if fenced then 4
  else if !assigned then 5
  else match ts with
    | [] => 0
    | t :: _ => if t.draining then 3 else if t.attempt ≠ 0 || t.errRec then 2 else 1

/-- An engine's tiles replaced, with MXE_STATUS brought up to them; an accepted tile stops an idle pass (R173). -/
def State.setTiles (s : State) (k e : Nat) (ts : List Tile) : State :=
  let s := { s with comp := { s.comp with tiles := Assoc.put s.comp.tiles (17 * k + e) ts [] } }
  let a := A.mxeStatus k e
  s.setFlds a [(F.mxeStatus_STATE, engineState (s.fld a F.mxeStatus_STATE = 4) (s.flag a F.mxeStatus_ASSIGNED) ts),
               (F.mxeStatus_ACCEPTED, ts.length),
               (F.mxeStatus_IDLE_PASS, if ts.isEmpty then s.fld a F.mxeStatus_IDLE_PASS else 0)]

/-- The tile in place i of an engine replaced. -/
def State.setTile (s : State) (k e i : Nat) (t : Tile) : State := s.setTiles k e ((s.tilesOf k e).set i t)

/-- The tile in place i of an engine taken out. -/
def State.dropTile (s : State) (k e i : Nat) : State := s.setTiles k e ((s.tilesOf k e).eraseIdx i)

/-- Physical engine that serves logical position e of tower k; none without a valid entry (R252, R253). -/
def State.physEngine (s : State) (k e : Nat) : Option Nat :=
  if s.flag (A.mxeRemap k e) F.mxeRemap_VALID then some (s.fld (A.mxeRemap k e) F.mxeRemap_PHYS) else none

/-- An engine is lent (R250). -/
def State.engineLent (s : State) (k e : Nat) : Bool := s.flag (A.mxeStatus k e) F.mxeStatus_LENT

/-! Vector engines: number 8 * tower + x (R298). -/

/-- Chains of an engine, oldest first; at most one is open, the last. -/
def State.chainsOf (s : State) (k x : Nat) : List Chain := Assoc.getD s.comp.chains (8 * k + x) []

/-- The open chain. -/
def openChain (cs : List Chain) : Option Chain := cs.find? (fun c => !c.closed)
/-- A chain whose pass has not streamed its last element in. -/
def streaming (cs : List Chain) : Option Chain := cs.find? (fun c => c.closed && !c.streamed)
/-- Chain buffers in use (R278): open and streaming chains. -/
def buffersUsed (cs : List Chain) : Nat := (cs.filter (fun c => !c.streamed)).length

/-- Elements of the streaming pass not yet streamed in (R300): all of them, or, where one of its writes stands stalled, those that
had not entered c + 15 cycles after the elements of that write (R242, R293). -/
def passLeft (cs : List Chain) (stall : Option Stall) : Nat :=
  match streaming cs, stall with
  | none, _ => 0
  | some c, some w => if c.wrote then c.elems - min c.elems (c.lanes * (c.out.length - w.chunks.length + c.ins.length + 15)) else c.elems
  | some c, none => c.elems

/-- An engine's chains replaced, with VXE_STATUS brought up to them (R300). -/
def State.setChains (s : State) (k x : Nat) (cs : List Chain) : State :=
  let s := { s with comp := { s.comp with chains := Assoc.put s.comp.chains (8 * k + x) cs [] } }
  let a := A.vxeStatus k x
  let rec' := (openChain cs).isSome
  let str := (streaming cs).isSome
  let stalled := s.comp.stalls.any (fun w => w.who = .vxe k x)
  let st := if s.fld a F.vxeStatus_STATE = 4 then 4
    else if stalled then 5
    else if str && rec' then 3 else if str then 2 else if rec' then 1 else 0
  let (byThread, n) := match openChain cs with
    | some c => (!c.src.isBeam, c.ins.length)
    | none => (false, 0)
  s.setFlds a [(F.vxeStatus_STATE, st), (F.vxeStatus_OPEN_BY_THREAD, b2n byThread), (F.vxeStatus_OPEN_COUNT, n),
    (F.vxeStatus_PASS_LEFT, passLeft cs (s.comp.stalls.find? (fun w => w.who = .vxe k x)))]

/-- A vector engine is fenced. -/
def State.vxeFenced (s : State) (k x : Nat) : Bool := s.fld (A.vxeStatus k x) F.vxeStatus_STATE = 4
/-- A matrix engine is fenced. -/
def State.mxeFenced (s : State) (k e : Nat) : Bool := s.fld (A.mxeStatus k e) F.mxeStatus_STATE = 4

/-! Sequencers. -/

/-- A sequencer that has never run. -/
def Beam.idle : Beam :=
  { banks := [⟨[], [], 0⟩, ⟨[], [], 0⟩], cfg := 0, owner := { ctx := 0, entry := none }, done := none, last := 0, waiting := false,
    met := false, held := [], out := [], unitErr := none, aborting := [], stepLeft := 0, stepChan := none, since := 0,
    cycles := 0, ext := 0, load := none, seq := 0, first := 0, mark := 0, waited := 0, slipExt := false, tainted := [], lends := [] }

/-- The sequencer of tower k. -/
def State.beam (s : State) (k : Nat) : Beam := Assoc.getD s.comp.beams k Beam.idle
/-- A sequencer replaced. -/
def State.setBeam (s : State) (k : Nat) (b : Beam) : State :=
  { s with comp := { s.comp with beams := Assoc.put s.comp.beams k b Beam.idle } }
/-- A sequencer changed. -/
def State.modBeam (s : State) (k : Nat) (f : Beam → Beam) : State := s.setBeam k (f (s.beam k))
/-- STATE of a sequencer: 0 IDLE, 1 ISSUING, 2 WAITING, 3 SLIPPING, 4 PAUSED, 5 FINISHING, 6 ABORTING (R265). -/
def State.beamState (s : State) (k : Nat) : Nat := s.fld (A.beamStatus k) F.beamStatus_STATE
/-- STATE given to a sequencer. -/
def State.setBeamState (s : State) (k st : Nat) : State := s.setFld (A.beamStatus k) F.beamStatus_STATE st
/-- Context of the current or last beam. -/
def State.beamCtx (s : State) (k : Nat) : Nat := s.fld (A.beamStatus k) F.beamStatus_CONTEXT

/-- MXE_LEND of a cluster brought up to its lends (R272): the engines of all of them, and the owner and words left of the last
that began. DESIGN CHOICE (log entry 192): one register shows the last of several lends. -/
def State.showLend (s : State) (k j : Nat) : State :=
  let ls := (s.beam k).lends.filter (fun d => d.cl = j)
  match ls.getLast? with
  | none => s.wr (A.mxeLend k j) 0
  | some d => s.setFlds (A.mxeLend k j)
      [(F.mxeLend_MXE_MASK, ls.foldl (fun m d => m ||| d.mx) 0), (F.mxeLend_VXE_MASK, ls.foldl (fun m d => m ||| d.vx) 0),
       (F.mxeLend_TC, d.tc), (F.mxeLend_GROUP, d.grp), (F.mxeLend_THREAD, d.thr), (F.mxeLend_ACTIVE, 1),
       (F.mxeLend_SPAN_LEFT, d.left)]

/-- A lend ended for some engines of a cluster: masks of MXEs and VXEs (R251). The owner's open chain on a VXE goes (R279). -/
def State.endLend (s : State) (k j mx vx : Nat) : State :=
  let ls := (s.beam k).lends
  let goneM := (ls.filter (fun d => d.cl = j)).foldl (fun m d => m ||| (d.mx &&& mx)) 0
  let goneV := (ls.filter (fun d => d.cl = j)).foldl (fun m d => m ||| (d.vx &&& vx)) 0
  let left := (ls.map (fun d => if d.cl = j then { d with mx := d.mx &&& (15 ^^^ goneM), vx := d.vx &&& (3 ^^^ goneV) } else d)).filter
    (fun d => d.mx ≠ 0 || d.vx ≠ 0)
  let s := (s.modBeam k (fun b => { b with lends := left })).showLend k j
  let s := (List.range 4).foldl (fun s i =>
    if goneM.testBit i then
      match s.physEngine k (4 * j + i) with
      | some e => (s.setFlag (A.mxeStatus k e) F.mxeStatus_LENT false).setFlds (A.mxePort k e)
          [(F.mxePort_OWNER_VALID, 0), (F.mxePort_OWNER_TC, 0), (F.mxePort_OWNER_GROUP, 0), (F.mxePort_OWNER_THREAD, 0)]
      | none => s
    else s) s
  (List.range 2).foldl (fun s i =>
    if goneV.testBit i then
      let s := s.setFlag (A.vxeStatus k (2 * j + i)) F.vxeStatus_LENT false
      s.setChains k (2 * j + i) ((s.chainsOf k (2 * j + i)).filter (fun c => c.closed || c.src.isBeam))
    else s) s

/-- The number of an operation's word, with the code of its unit, marks it tainted (R246); a thread's operation has none. -/
def State.taint (s : State) (k : Nat) (src : WorkSrc) (u : Nat) : State :=
  match src with
  | .beam n => s.modBeam k (fun b => { b with tainted := (n, u) :: b.tainted })
  | .port .. => s

/-- An operation of tower k is tainted. -/
def State.isTainted (s : State) (k : Nat) (src : WorkSrc) (u : Nat) : Bool :=
  match src with
  | .beam n => (s.beam k).tainted.contains (n, u)
  | .port .. => false

/-- An operation of tower k was issued by a thread or in an earlier stretch (R246). -/
def State.outside (s : State) (k : Nat) (src : WorkSrc) : Bool :=
  match src with
  | .beam n => decide (n ≤ (s.beam k).mark)
  | .port .. => true

/-- Waiting for an operation of tower k is slip of class EXT (R246). -/
def State.opExt (s : State) (k : Nat) (src : WorkSrc) (u : Nat) : Bool := s.outside k src || s.isTainted k src u

/-- Every lend of a tower ended. -/
def State.endLends (s : State) (k : Nat) : State := (List.range 4).foldl (fun s j => s.endLend k j 15 3) s

/-! Tensor movers: number 16 * tower + m (R359). -/

/-- An idle mover. -/
def Mover.idle : Mover := { queue := [], next := 0, stopped := none }
/-- Mover m of tower k. -/
def State.mover (s : State) (k m : Nat) : Mover := Assoc.getD s.comp.movers (16 * k + m) Mover.idle

/-- Descriptors a mover holds (R346, R354): a chain's successor takes the place of the one before it. -/
def Mover.held (v : Mover) : Nat := (v.queue.filter (fun d => !(d.started && d.fail.isNone && bit (d.w.getD 0 0) 28))).length

/-- A mover replaced, with TC_TM_STATUS and TC_TM_PROGRESS brought up to it (R361). -/
def State.setMover (s : State) (k m : Nat) (v : Mover) : State :=
  let s := { s with comp := { s.comp with movers := Assoc.put s.comp.movers (16 * k + m) v Mover.idle } }
  let a := A.tmStatus k m
  let st := if s.fld a F.tmStatus_STATE = 4 then 4
    else if v.stopped.isSome then 3
    else if s.comp.stalls.any (fun w => w.who = .mover k m) then 2
    else if v.queue.any (fun d => d.started && !d.done) then 1 else 0
  let s := s.setFlds a [(F.tmStatus_STATE, st), (F.tmStatus_QUEUED, v.held)]
  match v.queue.find? (fun d => d.started && !d.done) with
  | some d => (s.setFlds a [(F.tmStatus_CONTEXT, d.owner.ctx), (F.tmStatus_CUR_DESC, d.off), (F.tmStatus_CHAIN_POS, d.pos)]).setFld
      (A.tmProgress k m) F.tmProgress_ELEMS_DONE d.elems
  | none => s

/-! Thread cores: number 64 * tower + c (R333). -/

/-- An empty core. -/
def Core.idle : Core :=
  { slots := [], packs := [], conv := [], l1 := [], ctxs := [], turns := 0, lastGroup := 7, lastSub := [], late := [], divFree := 0,
    fragFree := 0 }
/-- Core c of tower k. -/
def State.core (s : State) (k c : Nat) : Core := Assoc.getD s.comp.cores (64 * k + c) Core.idle

/-- STATE of a slot: 0 empty, 1 running, 2 HALTED, 3 FAULTED (R337). -/
def State.slotState (s : State) (k c g : Nat) : Nat := s.fld (A.tcGroup0 k c g) F.tcGroup0_STATE

/-- TC_STATUS brought up to the slots (R336). -/
def State.showCore (s : State) (k c : Nat) : State :=
  let bits (st : Nat) : Nat := (List.range 8).foldl (fun m g => if s.slotState k c g = st then m + 2 ^ g else m) 0
  s.setFlds (A.tcStatus k c) [(F.tcStatus_RESIDENT, bits 1 + bits 2 + bits 3), (F.tcStatus_HALTED, bits 2),
    (F.tcStatus_FAULTED, bits 3)]

/-- A core replaced. -/
def State.setCore (s : State) (k c : Nat) (v : Core) : State :=
  { s with comp := { s.comp with cores := Assoc.put s.comp.cores (64 * k + c) v Core.idle } }
/-- A core changed. -/
def State.modCore (s : State) (k c : Nat) (f : Core → Core) : State := s.setCore k c (f (s.core k c))
/-- The group in a slot. -/
def State.group (s : State) (k c g : Nat) : Option Group := Assoc.get? (s.core k c).slots g

/-- Lanes of a group for which a test of its thread holds, as a mask. -/
def Group.mask (g : Group) (p : Thread → Bool) : Nat :=
  (List.range g.threads.length).foldl (fun m i => if p (g.threads.getD i default) then m + 2 ^ i else m) 0

/-- A group replaced, with TC_GROUP_STATE brought up to it (R337). -/
def State.setGroup (s : State) (k c g : Nat) (v : Group) : State :=
  let s := s.modCore k c (fun x => { x with slots := Assoc.set x.slots g v })
  let s := s.setFld (A.tcGroup0 k c g) F.tcGroup0_SUBGROUPS v.subs.length
  s.setFlds (A.tcGroup1 k c g) [(F.tcGroup1_ENDED, v.mask (·.ended)), (F.tcGroup1_SPINNING, v.mask (·.spinning))]

/-- The agent is a thread of group slot g of core c of tower k. -/
def Issuer.inGroup (w : Issuer) (k c g : Nat) : Bool :=
  match w with
  | .thread a b d _ => a = k && b = c && d = g
  | _ => false

/-- The reads that a group's threads have on their way are dropped. -/
def State.dropReads (s : State) (k c g : Nat) : State :=
  let keep (r : HomeReq) : Bool := !(r.who.inGroup k c g && r.kind = .read)
  { s with l2 := { s.l2 with flying := s.l2.flying.filter keep,
                             slices := s.l2.slices.map (fun e => (e.1, { e.2 with
                               misses := e.2.misses.map (fun m => { m with reqs := m.reqs.filter keep }) })) } }

/-- A matrix engine. -/
def unitMxe (k e : Nat) : Nat := unitCode 1 k 0 e 0
/-- A vector engine: INDEX is the engine of the die. -/
def unitVxe (k x : Nat) : Nat := unitCode 2 k (x / 2) x 0
/-- A thread group: INDEX the core of the cluster, SUB the slot. -/
def unitGroup (k c g : Nat) : Nat := unitCode 3 k (c / 16) (c % 16) g
/-- A mover. -/
def unitMover (k m : Nat) : Nat := unitCode 4 k (m / 4) (m % 4) 0
/-- A sequencer. -/
def unitSeq (k : Nat) : Nat := unitCode 5 k 0 0 0
/-- An L2 slice by key. -/
def unitSlice (key : Nat) : Nat := unitCode 6 (key / 32) 0 (key % 32) 0
/-- A memory controller by 4 * tower + u. -/
def unitCtl (ctl : Nat) : Nat := unitCode (if ctl % 4 < 2 then 7 else 8) (ctl / 4) 0 (ctl % 4) 0

/-- Tower whose walker and tower cache serve a cache (R479). -/
def XCache.tower : XCache → Nat
  | .cluster m => m / 4
  | .base k => k

/-- What asked for a walk: the access that began it, then those that joined. -/
def Walk.askers (w : Walk) : List WalkAsker :=
  { cache := w.cache, acc := w.acc, owner := w.owner, unit := w.unit, miss := w.miss } :: w.joined

/-- A timer that stood from one tick to another goes on: the tick it began at, moved on. -/
def movedOn (from_ now since : Nat) : Nat := since + (now - max since from_)

/-- The timers of a group's waits stand from now (R323, R329). -/
def State.standTimers (s : State) (k c g : Nat) : State :=
  s.modCore k c (fun x => { x with slots := x.slots.map (fun e => if e.1 = g then (e.1, { e.2 with stood := some (e.2.stood.getD s.now) }) else e) })

/-- They go on from where they stood (R330). -/
def State.runTimers (s : State) (k c g : Nat) : State :=
  match (s.group k c g).bind (·.stood) with
  | none => s
  | some t =>
    let s := s.modCore k c (fun x => { x with slots := x.slots.map (fun e =>
      if e.1 = g then (e.1, { e.2 with stood := none, timers := e.2.timers.map (fun m => (m.1, movedOn t s.now m.2)) }) else e) })
    { s with syn := { s.syn with waits := s.syn.waits.map (fun w =>
      if w.who.inGroup k c g then { w with since := movedOn t s.now w.since } else w) } }

/-- MGMT cycles that so many THREAD cycles take at least: at the nominal 1.5 GHz (R65). -/
def threadTicks (n : Nat) : Nat := n * 2 / 15

/-- MGMT cycles that so many BASENET cycles take at least: at the nominal 2.2 GHz (R65). -/
def basenetTicks (n : Nat) : Nat := n / 11

/-- What a unit's walks have come to is forgotten: its instruction has issued, or asks no longer. -/
def State.dropWalkEnds (s : State) (unit : Nat) : State :=
  { s with xlt := { s.xlt with faults := s.xlt.faults.filter (fun f => f.unit ≠ unit) } }

/-- A slot emptied: its words go on describing the last group in it, with STATE 0 (R337). -/
def State.freeSlot (s : State) (k c g : Nat) : State :=
  let s := (s.dropReads k c g).dropWalkEnds (unitGroup k c g)
  let s := s.modCore k c (fun x =>
    { x with slots := Assoc.del x.slots g, conv := x.conv.filter (fun e => e.1 ≠ g), lastSub := Assoc.del x.lastSub g,
             late := x.late.filter (fun e => e.1 ≠ g),
             packs := (x.packs.map (fun p => p.filter (fun e => e.1 ≠ g))).filter (fun p => 2 ≤ p.length) })
  let s := { s with resv := s.resv.filter (fun r => !r.who.inGroup k c g),
                    comp := { s.comp with given := s.comp.given.filter (fun w => !w.inGroup k c g) } }
  (s.setFlds (A.tcGroup0 k c g) [(F.tcGroup0_STATE, 0), (F.tcGroup0_SUBGROUPS, 0)]).showCore k c

/-- Cluster of a core within its tower. -/
def coreCluster (c : Nat) : Nat := c / 16

/-! Unit codes of records (R630). -/

/-- A unit, by its code in records, is under a unit reset (R82). -/
def State.unitResetting (s : State) (u : Nat) : Bool := s.board.unitRst.any (fun e => e.1 = u)

end Sys2Proof.Machine
end

