-- ==== Sys2Proof/Machine/Clocks.lean ====
section
/-! DEFINITION. Frequencies, tower levels, the brake's actions and the droop stretch (R65 to R71, R83 to R85, R424, R641, R649,
R672). -/

namespace Sys2Proof.Machine

/-! The share of data slots a memory controller grants (R424, R426, R649). -/

/-- The brake is in force, by either cause (R649, R662). -/
def State.braking (s : State) : Bool := s.flag A.pwrStatus F.pwrStatus_BRAKING

/-- The share that the temperature allows controller u of tower k. -/
def State.thermRate (s : State) (k u : Nat) : Nat := Assoc.getD s.memc.rates (4 * k + u) 100

/-- RATE_PCT of a controller: the lower of its temperature's share and, under the brake, 25 %; 0 where there is no controller. -/
def State.showRate (s : State) (k u : Nat) : State :=
  let a := A.memCtlStatus k u
  if s.flag a F.memCtlStatus_ENABLED then
    s.setFld a F.memCtlStatus_RATE_PCT (if s.braking then min 25 (s.thermRate k u) else s.thermRate k u)
  else s

/-- The temperature's share given to a controller. -/
def State.setRate (s : State) (k u r : Nat) : State :=
  ({ s with memc := { s.memc with rates := Assoc.put s.memc.rates (4 * k + u) r 100 } }).showRate k u

/-- RATE_PCT of every controller brought up to the brake. -/
def State.showRates (s : State) : State :=
  (List.range 16).foldl (fun s c => s.showRate (c / 4) (c % 4)) s

/-! Levels and frequencies (R65, R67, R641, R649). -/

/-- Level of tower k (R662). -/
def State.level (s : State) (k : Nat) : Nat := bitsOf (s.fld A.pwrStatus F.pwrStatus_L_TOWER) (4 * k) 4

/-- Island number of instance n of the domain in row d of R65 (R115). -/
def islandOf (d n : Nat) : Nat := (d - 1) * 256 + n

/-- The frequency an island is to run at, in whole MHz rounded down: its level's for the governed families, the requested one
for host cores, nominal for the others, and what the brake gives BASENET, HOSTUNC and the host cores. -/
def State.islandTarget (s : State) (j : Nat) : Nat :=
  let n := j % 256
  let l := s.level n
  if !islandPresent s.part j then 0
  else match j / 256 + 1 with
    | 3 => if s.braking then 800 else s.fld (A.clkIsland j) F.clkIsland_FREQ_REQ_MHZ
    | 4 => if s.braking then 1000 else 2000
    | 6 | 7 => 450 + 90 * l
    | 8 => 375 + 75 * l
    | 9 | 10 => 500 + 100 * l
    | 11 => if s.braking then 1100 else 2200
    | 15 => (625 + 125 * min l (s.fld (A.vf2 (4 + n)) F.vf2_LMAX)) / 2
    | d => domainMhz d

/-- Islands whose frequency is ever changed: HOSTCORE, HOSTUNC, and of each tower ARRAY, VECTOR, THREAD, CLUSTERNET, BOND,
BASENET, LANTERN. -/
def variableIslands : List Nat :=
  (List.range 8).map (islandOf 3) ++ [islandOf 4 0] ++
  (List.range 4).flatMap (fun k => [6, 7, 8, 9, 10, 11, 15].map (fun d => islandOf d k))

/-- An island whose frequency differs from its target glides toward it (R67). -/
def State.glide (s : State) (j : Nat) : State :=
  s.setFlag (A.clkIsland j) F.clkIsland_GLIDING (s.fld (A.clkIsland j) F.clkIsland_FREQ_MHZ ≠ s.islandTarget j)

/-- Every island glides toward its target. -/
def State.glideAll (s : State) : State := variableIslands.foldl (fun s j => s.glide j) s

/-- A frequency given to an island: FREQ_REQ_MHZ of an island that is not a host core's equals FREQ_MHZ (R83). -/
def State.setFreq (s : State) (j mhz : Nat) : State :=
  let s := s.setFld (A.clkIsland j) F.clkIsland_FREQ_MHZ mhz
  if j / 256 + 1 = 3 then s else s.setFld (A.clkIsland j) F.clkIsland_FREQ_REQ_MHZ mhz

/-- The islands that change together with one: the locked pair (R69). -/
def lockedWith (j : Nat) : List Nat :=
  match j / 256 + 1 with
  | 6 => [j, islandOf 7 (j % 256)]
  | 7 => [islandOf 6 (j % 256), j]
  | _ => [j]

/-- The end of an island's glide. -/
def State.endGlide (s : State) (j : Nat) : State :=
  (lockedWith j).foldl (fun s i =>
    if s.flag (A.clkIsland i) F.clkIsland_GLIDING then (s.setFreq i (s.islandTarget i)).setFlag (A.clkIsland i) F.clkIsland_GLIDING false
    else s) s

/-! Idle passes (R173, R646). -/

/-- The idle pass of an engine stops. -/
def State.stopIdle (s : State) (k e : Nat) : State :=
  if s.flag (A.mxeStatus k e) F.mxeStatus_IDLE_PASS then s.setFlag (A.mxeStatus k e) F.mxeStatus_IDLE_PASS false else s

/-- Every idle pass stops. -/
def State.stopFill (s : State) : State :=
  let s := (List.range 68).foldl (fun s i => s.stopIdle (i / 17) (i % 17)) s
  (s.setFlag A.pwrStatus F.pwrStatus_FILL false).setFld A.pwrSenseP F.pwrSenseP_FILL_W 0

/-! The brake (R649). -/

/-- Tenths of a milliwatt in a watt. -/
def perWatt : Nat := 10000

/-- PREF_W brought up to Pref. -/
def State.showPref (s : State) : State := s.setFld A.pwrStatus F.pwrStatus_PREF_W (min 65535 (s.pwr.pref / perWatt))

/-- The brake's actions begin (R649): every level 0 and with them L_CAP (log entry 43), fixed islands and memory slots lowered,
idle passes stopped; each brake begun counts. -/
def State.beginBrake (s : State) : State :=
  let s := s.bump A.pwrCntBrake 1
  if s.braking then s
  else
    let s := s.stopFill
    let s := s.setFlds A.pwrStatus [(F.pwrStatus_BRAKING, 1), (F.pwrStatus_L_TOWER, 0), (F.pwrStatus_L_CAP, 0)]
    let s := { s with pwr := { s.pwr with brkWin := true } }
    s.showRates.glideAll

/-- The brake ends once neither cause holds (R56, R649): the governor resumes with Pref at the draw of the last step, and levels
rise from 0 at the steps that follow. -/
def State.endBrake (s : State) : State :=
  if !s.braking || s.flag A.sbStatus F.sbStatus_BRAKED || s.board.lossBrake then s
  else
    let s := s.setFlag A.pwrStatus F.pwrStatus_BRAKING false
    let s := ({ s with pwr := { s.pwr with pref := s.pwr.work.toNat } }).showPref
    s.showRates.glideAll

/-! Droop (R70, R85). -/

/-- STRETCHING of an island and of the other of its locked pair. -/
def State.setStretching (s : State) (j : Nat) (b : Bool) : State :=
  (lockedWith j).foldl (fun s i => s.setFlag (A.clkIsland i) F.clkIsland_STRETCHING b) s

/-- Die whose CTL_CLK_DROOP governs an island (R84, R115): compute dies 0 to 3, base dies 4 to 7, the host die 8. -/
def droopDie (j : Nat) : Nat :=
  match j / 256 + 1 with
  | 3 | 4 => 8
  | 11 => 4 + j % 256
  | _ => j % 256

/-- A supply stays more than DROOP_MV low for some cycles: the period grows by 1/16 a cycle, from the stretch then in force up to
MAX_STRETCH, and holds. -/
def State.droop (s : State) (j cycles : Nat) : State :=
  let now := Assoc.getD s.board.stretch j 0
  let m := min (s.fld (A.clkDroop (droopDie j)) F.clkDroop_MAX_STRETCH) (now + cycles)
  if m = 0 then s
  else
    let a := A.clkStretchCnt j
    let s := if now = 0 then s.bumpFld a F.clkStretchCnt_EVENTS 1 else s
    let s := s.bumpFld a F.clkStretchCnt_STRETCH_CYCLES cycles
    ({ s with board := { s.board with stretch := Assoc.put s.board.stretch j m 0 } }).setStretching j true

/-- One step of the way back (R70, R71): the period is a sixteenth shorter, for 16 cycles or at nominal; a droop that returns goes on
from there. -/
def State.droopStep (s : State) (j : Nat) : State :=
  let left := Assoc.getD s.board.stretch j 0 - 1
  if Assoc.getD s.board.stretch j 0 = 0 then s
  else
    let s := s.bumpFld (A.clkStretchCnt j) F.clkStretchCnt_STRETCH_CYCLES (if left = 0 then 0 else 16)
    ({ s with board := { s.board with stretch := Assoc.put s.board.stretch j left 0 } }).setStretching j (left ≠ 0)

end Sys2Proof.Machine
end

