-- ==== Sys2Proof/Machine/FabOps.lean ====
section
/-! DEFINITION. Sending over the fabric (R560 to R571): ports, credits, routing, messages and streams. Replies of channels 62
and 63 leave through it. -/

namespace Sys2Proof.Machine

/-! Ports. -/

/-- Credits of an empty receiver, in units of 64 bytes, by VC: RSP, REQ, SYNC, MGMT (R562). -/
def fullCredits : List Nat := [1024, 4096, 1024, 256]

/-- A port that has sent nothing. -/
def FabPort.idle : FabPort :=
  { txSeq := 0, rxSeq := 0, replay := [], credits := fullCredits, waiting := [], resends := 0, paused := 0 }

/-- Port n's link. -/
def State.fport (s : State) (n : Nat) : FabPort := Assoc.getD s.fab.ports n FabPort.idle
/-- Port n's link replaced. -/
def State.setFport (s : State) (n : Nat) (p : FabPort) : State :=
  { s with fab := { s.fab with ports := Assoc.put s.fab.ports n p FabPort.idle } }

/-- FAB_PORT_CFG of port n. -/
def portCfgOf (n : Nat) : Nat := A.portCfg (n / 4) (n % 4)
/-- FAB_PORT_STATUS of port n. -/
def portStatusOf (n : Nat) : Nat := A.portStatus (n / 4) (n % 4)
/-- Counter i of port n, in the order of R601: TX_PKT, RX_PKT, TX_BYTES, RX_BYTES, REPLAY, TAGDROP, NOROUTE, LIFEDROP, CRC. -/
def portCnt (n i : Nat) : Nat := A.fabPortCntTxPkt (n / 4) (n % 4) + 8 * i

/-- STATE of a port. -/
def State.portState (s : State) (n : Nat) : Nat := s.fld (portStatusOf n) F.portStatus_STATE
/-- The port is failed for routing (R557). -/
def State.portFailed (s : State) (n : Nat) : Bool := s.portState n ≠ 2
/-- The port runs in Ethernet mode (R559). -/
def State.portEth (s : State) (n : Nat) : Bool := s.fld (portCfgOf n) F.portCfg_MODE = 1

/-- Virtual channel of a packet (R561). -/
def pktVc (p : FabPkt) : Nat :=
  match p.typ with
  | 1 | 2 => 1
  | 3 | 4 => 0
  | 6 | 7 | 8 => 2
  | _ => 3
/-- Bytes of a packet, header and trailer included. -/
def pktSize (p : FabPkt) : Nat := 40 + p.payload.length
/-- Credits a packet takes (R562). -/
def pktNeed (p : FabPkt) : Nat := ceilDiv (pktSize p) 64

/-- A port may send a packet now: credits and replay-buffer room in transport mode, no PAUSE in Ethernet mode (R559, R562,
R564). -/
def State.canSend (s : State) (n : Nat) (p : FabPkt) : Bool :=
  let f := s.fport n
  if s.portEth n then decide (f.paused ≤ s.now)
  else decide ((pktNeed p) ≤ f.credits.getD (pktVc p) 0) &&
    decide ((f.replay.map (fun e => (pktSize e.2))).foldl (· + ·) 0 + (pktSize p) ≤ 512 * 1024)

/-- W0 and W1 of a packet's header (R560). -/
def pktHeader (p : FabPkt) : List Nat :=
  [p.dst + p.src * 2 ^ 22 + p.tag * 2 ^ 44,
   p.typ + b2n p.ord * 2 ^ 4 + b2n p.first * 2 ^ 5 + ceilDiv p.payload.length 8 * 2 ^ 6 + p.life * 2 ^ 16 + p.hops * 2 ^ 24
     + p.seq * 2 ^ 32]

/-- A packet of the member tag at a port: a trace records its header (R705). -/
def State.tracePkt (s : State) (n : Nat) (p : FabPkt) : State :=
  if p.tag ≠ 0 && s.fld A.fabDevStatus F.fabDevStatus_MEMBER_TAG = p.tag then
    s.traced 4 (some (s.fld A.fabDevStatus F.fabDevStatus_CONTEXT)) (n / 4) (some (n :: pktHeader p))
  else s

/-- A packet leaves on a port. -/
def State.transmit (s : State) (n : Nat) (p : FabPkt) : State :=
  let s := s.tracePkt n p
  let f := s.fport n
  let s :=
    if s.portEth n then s
    else s.setFport n { f with txSeq := (f.txSeq + 1) % 65536, replay := f.replay ++ [(f.txSeq, p)],
                               credits := f.credits.set (pktVc p) (f.credits.getD (pktVc p) 0 - (pktNeed p)) }
  let s := { s with fab := { s.fab with sent := (n, p) :: s.fab.sent } }
  (s.bump (portCnt n 0) 1).bump (portCnt n 2) (pktSize p)

/-- A packet sent on a port, or waiting there behind packets of its virtual channel. -/
def State.emit (s : State) (n : Nat) (p : FabPkt) (arrival : Option Nat) : State :=
  let f := s.fport n
  if f.waiting.any (fun w => (pktVc w.1) = (pktVc p)) || !s.canSend n p then s.setFport n { f with waiting := f.waiting ++ [(p, arrival)] }
  else s.transmit n p

/-- Up to c waiting packets of a virtual channel leave, in order, while they can. -/
def State.drainVc (s : State) (n vc : Nat) : Nat → State
  | 0 => s
  | c + 1 =>
    match (s.fport n).waiting.find? (fun w => (pktVc w.1) = vc) with
    | some w =>
      if s.canSend n w.1 then
        let f := s.fport n
        ((s.setFport n { f with waiting := f.waiting.erase w }).transmit n w.1).drainVc n vc c
      else s
    | none => s

/-- Waiting packets leave: responses first, then requests, synchronisation and management by weights 8, 4 and 1 (R562). -/
def State.drainPort (s : State) (n : Nat) : Nat → State
  | 0 => s
  | r + 1 => ((((s.drainVc n 0 63).drainVc n 1 8).drainVc n 2 4).drainVc n 3 1).drainPort n r

/-- Waiting packets of a port leave while credits last. -/
def State.flushPort (s : State) (n : Nat) : State := s.drainPort n (s.fport n).waiting.length

/-! Routing (R569, R570, R571). -/

/-- The module's own ID. -/
def State.ownId (s : State) : Nat := s.fld A.fabDevStatus F.fabDevStatus_ID
/-- The unset ID. -/
def idUnset : Nat := 0x3FFFFF

/-- The slot holding a tag (R573). -/
def State.slotOf (s : State) (tag : Nat) : Option Nat :=
  (rangeFrom 1 63).find? (fun i => s.fld (A.fabTag i) F.fabTag_ROLE ≠ 0 && s.fld (A.fabTag i) F.fabTag_TAG = tag)

/-- The module's partition state: 0 FREE, 1 QUIESCING, 2 JOINING, 3 MEMBER (R575). -/
def State.partState (s : State) : Nat := s.fld A.fabDevStatus F.fabDevStatus_PART
/-- The context bound to the member tag, for a tag that is held as MEMBER. -/
def State.tagCtx (s : State) (tag : Nat) : Option Nat :=
  (s.slotOf tag).bind (fun i => if s.fld (A.fabTag i) F.fabTag_ROLE = 3 then some (s.fld (A.fabTag i) F.fabTag_CONTEXT) else none)
/-- The job tag of a context (R471): its member tag. -/
def State.jobTag (s : State) (ctx : Nat) : Option Nat :=
  let v := s.rd A.fabDevStatus
  if (F.fabDevStatus_PART.get v = 3 || F.fabDevStatus_PART.get v = 1) && F.fabDevStatus_CONTEXT.get v = ctx
      && F.fabDevStatus_MEMBER_TAG.get v ≠ 0
  then some (F.fabDevStatus_MEMBER_TAG.get v) else none

/-- A dropped packet counted: i of the port counters, or LOCALDROP of the base die for the module's own (R570). -/
def State.dropPkt (s : State) (arrival : Option Nat) (die i : Nat) : State :=
  match arrival with
  | some n => s.bump (portCnt n i) 1
  | none => s.bump (A.fabCntLocaldrop die) 1

/-- alt_better of R571. -/
def State.altBetter (s : State) (p a : Nat) (vc : Nat) : Bool :=
  decide ((s.fport p).credits.getD vc 0 + fullCredits.getD vc 0 / 4 ≤ (s.fport a).credits.getD vc 0)

/-- route of R570: where a packet goes from the base die where it arrives or originates. An ACK that carries tag 0 answers a FLARE
or MGMT packet and travels as they do (log entry 131). -/
def State.route (s : State) (p : FabPkt) (arrival : Option Nat) (die : Nat) : State :=
  let mgmt := p.typ = 9 || p.typ = 10
  let answer := p.typ = 4 && p.tag = 0
  let slot := if p.tag = 0 then some 0 else s.slotOf p.tag
  if s.ownId = idUnset then s.dropPkt arrival die 6
  else if s.eclipse && !mgmt && !answer then s.dropPkt arrival die 6
  else if (p.tag = 0) != (mgmt || answer) then s.dropPkt arrival die 5
  else
    match slot with
    | none => s.dropPkt arrival die 5
    | some sl =>
      if p.dst = s.ownId then
        if sl ≠ 0 && s.fld (A.fabTag sl) F.fabTag_ROLE ≠ 3 then s.dropPkt arrival die 5
        else { s with fab := { s.fab with inbox := s.fab.inbox ++ [{ port := arrival.getD (4 * die), pkt := p }] } }
      else
        let e := Assoc.getD s.fab.table p.dst 0
        let mode := bitsOf e 8 2
        let pri := bitsOf e 0 4
        let alt := bitsOf e 4 4
        if mode = 0 then s.dropPkt arrival die 6
        else if sl ≠ 0 && bitsOf e 10 6 ≠ sl then s.dropPkt arrival die 5
        else
          let out := if 2 ≤ mode && (s.portFailed pri || (mode = 3 && !p.ord && s.altBetter pri alt (pktVc p))) then alt else pri
          if s.portFailed out then s.dropPkt arrival die 6
          else s.emit out { p with hops := if arrival.isSome then min 15 (p.hops + 1) else p.hops } arrival

/-! Unordered messages and ordered streams (R566). -/

/-- FAB_CFG.LIFE. -/
def State.fabLife (s : State) : Nat := s.fld A.fabCfg F.fabCfg_LIFE

/-- A WRITE or READ leaves a base die and waits for its answer. Identifiers have bit 31 set, apart from stream numbers. -/
def State.sendMsg (s : State) (die dst tag typ opa opb : Nat) (payload : List Byte) (use : FabUse) (o : Owner) : State :=
  let p : FabPkt := { dst := dst, src := s.ownId, tag := tag, typ := typ, ord := false, first := false, life := s.fabLife,
                      hops := 0, seq := 2 ^ 31 + s.fab.nextMsg, opa := opa, opb := opb, payload := payload }
  let m : FabMsg := { pkt := p, die := die, use := use, owner := o, sent := 0, last := s.now, acked := false }
  let s := { s with fab := { s.fab with msgs := s.fab.msgs ++ [m], nextMsg := (s.fab.nextMsg + 1) % 2 ^ 31 } }
  s.route p none die

/-- An answer leaves for a packet (ACK or READ_RSP); nothing waits for it. -/
def State.answerPkt (s : State) (d : Delivered) (typ opa opb seq : Nat) (payload : List Byte) : State :=
  let p : FabPkt := { dst := d.pkt.src, src := s.ownId, tag := d.pkt.tag, typ := typ, ord := false, first := false,
                      life := s.fabLife, hops := 0, seq := seq, opa := opa, opb := opb, payload := payload }
  s.route p none (d.port / 4)

/-- An ordered packet leaves on its stream (R566). -/
def State.sendOrdered (s : State) (die dst tag typ opa opb : Nat) (payload : List Byte) : State :=
  let t : TxStream := (s.fab.tx.find? (fun t => t.dst = dst && t.tag = tag)).getD
    { dst := dst, tag := tag, next := 0, unacked := [], die := die, sent := 0, last := s.now }
  let p : FabPkt := { dst := dst, src := s.ownId, tag := tag, typ := typ, ord := true, first := t.next = 0, life := s.fabLife,
                      hops := 0, seq := t.next, opa := opa, opb := opb, payload := payload }
  let t : TxStream := { t with next := (t.next + 1) % 2 ^ 32, unacked := t.unacked ++ [p], last := s.now,
                               since := if t.unacked.isEmpty then s.now else t.since }
  let s := { s with fab := { s.fab with tx := s.fab.tx.filter (fun x : TxStream => !(x.dst = dst && x.tag = tag)) ++ [t] } }
  s.route p none die

/-- A message is over: answered, and past the lifetime of its last resend when it was sent again (R568); LIFE counts 160 ns,
32 MGMT cycles. -/
def State.msgOver (s : State) (m : FabMsg) : Bool := m.acked && (m.sent = 0 || decide (m.last + 32 * s.fabLife ≤ s.now))

/-- Every message of a use is over, and those that are leave. -/
def State.usesDone (s : State) (p : FabUse → Bool) : Bool := s.fab.msgs.all (fun m => !p m.use || s.msgOver m)
/-- The messages of a use are forgotten. -/
def State.dropUses (s : State) (p : FabUse → Bool) : State :=
  { s with fab := { s.fab with msgs := s.fab.msgs.filter (fun m => !p m.use) } }

/-! Collectives as far as stops go. -/

/-- FAB_COLL_STATUS of collective n. -/
def collStatusOf (n : Nat) : Nat := A.collStatus (n % 4) (n / 4)

/-- A collective's running step fails (R588, R593): it reads FAILED, and sends nothing further for the step. -/
def State.failColl (s : State) (n : Nat) : State :=
  match Assoc.get? s.fab.colls n with
  | some c =>
    if c.running then
      let s := { s with fab := { s.fab with colls := Assoc.set s.fab.colls n { c with running := false, segs := [] } } }
      s.setFld (collStatusOf n) F.collStatus_STATE 2
    else s
  | none => s

/-- The running steps of the collectives that a test of number and context picks fail. -/
def State.failColls (s : State) (p : Nat → Nat → Bool) : State :=
  (s.fab.colls.filter (fun e => p e.1 e.2.ctx)).foldl (fun s e => s.failColl e.1) s

end Sys2Proof.Machine
end

