-- ==== Sys2Proof/Machine/Reply.lean ====
section
/-! DEFINITION. Channels, packets and replies (R87 to R97, R123, R129): who is served, how a reply leaves, what a ring fault
does. Every command packet goes through command. -/

namespace Sys2Proof.Machine

/-! Status codes (R97). -/

namespace St
def ok : Nat := 0x00
def noEffect : Nat := 0x01
def conflict : Nat := 0x02
def worn : Nat := 0x03
def busy : Nat := 0x04
def invalid : Nat := 0x05
def disabled : Nat := 0x06
def pinLimit : Nat := 0x07
def badOpcode : Nat := 0x08
def badLength : Nat := 0x09
def denied : Nat := 0x0A
def shadowFull : Nat := 0x0B
def badAddress : Nat := 0x0C
def heldInReset : Nat := 0x0D
def noRef : Nat := 0x0E
def error : Nat := 0x0F
def aborted : Nat := 0x10
def timeout : Nat := 0x11
def unreached : Nat := 0x12
def held : Nat := 0x13
def notFound : Nat := 0x14
def epochPending : Nat := 0x15
def storeFailed : Nat := 0x16
end St

/-- The number of opcodes assigned in each group, from 0x00 on, with the gap of group 0x01 apart (R98). -/
def opcodeAssigned (op : Nat) : Bool :=
  let g := op / 256
  let n := op % 256
  if g = 1 then n ≤ 2 || (0x10 ≤ n && n ≤ 0x13)
  else n < [8, 0, 7, 4, 5, 3, 6, 5, 2, 2, 12, 3, 2, 4, 4].getD g 0

/-- An idle channel. -/
def Channel.idle : Channel :=
  { current := none, busy := false, held := none, lastTxn := 0, txn := none, lastPkt := 0, arrived := [], durable := none,
    resetting := false, src := none }

/-- The channel numbered n. -/
def State.chan (s : State) (n : Nat) : Channel := Assoc.getD s.ctl.chans n Channel.idle

/-- A channel replaced. -/
def State.setChan (s : State) (n : Nat) (c : Channel) : State :=
  { s with ctl := { s.ctl with chans := Assoc.put s.ctl.chans n c Channel.idle } }

/-- A channel changed. -/
def State.modChan (s : State) (n : Nat) (f : Channel → Channel) : State := s.setChan n (f (s.chan n))

/-- Whether a channel is a memory ring (R87). -/
def isRing (n : Nat) : Bool := n < 60

/-- A channel's ENABLE (R120). -/
def State.chEnabled (s : State) (n : Nat) : Bool := s.flag (A.chCfg n) F.chCfg_ENABLE

/-! Transactions as far as the registers show them. -/

/-- The number of shadow-set entries across all open transactions, and the number of open transactions (R119). -/
def State.shadowUse (s : State) : Nat × Nat :=
  s.ctl.chans.foldl (fun u e => match e.2.txn with | none => u | some t => (u.1 + t.entries.length, u.2 + 1)) (0, 0)

/-- CTL_CH_STATUS and CTL_SHADOW_USE brought up to the transactions (R119, R124). -/
def State.showTxn (s : State) (n : Nat) : State :=
  let s := match (s.chan n).txn with
    | none => s.setFlds (A.chStatus n) [(F.chStatus_TXN_OPEN, 0), (F.chStatus_STAGED, 0)]
    | some t => s.setFlds (A.chStatus n)
        [(F.chStatus_TXN_OPEN, 1), (F.chStatus_TXN_ID, t.id), (F.chStatus_STAGED, t.entries.length)]
  let u := s.shadowUse
  s.setFlds A.shadowUse [(F.shadowUse_ENTRIES, u.1), (F.shadowUse_OPEN_TXNS, u.2)]

/-- The open transaction of a channel discarded (R107). -/
def State.dropTxn (s : State) (n : Nat) : State := (s.modChan n (fun c => { c with txn := none })).showTxn n

/-! Rings (R88, R121, R122). -/

/-- Slots of a ring by its base register. -/
def State.ringSlots (s : State) (baseReg : Nat) : Nat := 2 ^ s.fld baseReg F.chCmdBase_SIZE_LOG2
/-- Address of slot 0 of a ring by its base register. -/
def State.ringBase (s : State) (baseReg : Nat) : Nat := s.fld baseReg F.chCmdBase_BASE * 4096

/-- Slots between a ring's consumer and producer index, modulo twice the slot count (R88, R122). -/
def ringUsed (slots producer consumer : Nat) : Nat := (producer + 2 * slots - consumer % (2 * slots)) % (2 * slots)

/-- Slots of a packet or reply of a length in bytes (R88). -/
def slotsOf (len : Nat) : Nat := ceilDiv len 64

/-- The bytes of a reply (R96), padded to whole slots (R123). -/
def Reply.bytes (r : Reply) : List Byte :=
  let len := 16 + 8 * r.details.length
  let body := leBytes 2 r.status ++ leBytes 2 r.opcode ++ leBytes 4 r.seq ++ leBytes 2 len ++ leBytes 2 r.txn ++ leBytes 4 0
    ++ r.details.flatMap (fun d => leBytes 8 d.toNat)
  body ++ List.replicate (slotsOf len * 64 - body.length) 0

/-- A ring fault (R123): the transaction rolls back, the channel is disabled, RING_FAULT is set, and a CTL_RING record goes
to the device queue. A reply in hand is discarded when its own ring is at fault. -/
def State.ringFault (s : State) (n addr : Nat) : State :=
  let s := s.dropTxn n
  let s := s.setFlag (A.chCfg n) F.chCfg_ENABLE false
  let s := s.setFlag (A.chStatus n) F.chStatus_RING_FAULT true
  s.record { queue := 4, cls := 0x0E, domain := 0, action := 12, unit := unitCode 15 0 0 n 0, addr := addr }

/-- The addresses of n slots of a ring from an index on, wrapping at the last slot (R88). -/
def ringAddrs (base slots idx n : Nat) : List Nat := (List.range n).map (fun i => base + (idx + i) % slots * 64)

/-- The bytes of a reply written slot by slot at their home slices (R33, R88, R123); host copies of the lines are recalled. -/
def putSlots (s : State) : List Nat → List Byte → State
  | [], _ => s
  | a :: as, bs => putSlots (s.storeHome a (bs.take 64)) as (bs.drop 64)

/-- A reply written into the channel's reply ring when it has room, else held with STALLED_RPL (R89); a slot outside
populated memory is a ring fault (R123). -/
def State.deliver (s : State) (n : Nat) (r : Reply) (intr : Bool) : State :=
  if isRing n then
    let slots := s.ringSlots (A.chRplBase n)
    let head := s.fld (A.chRplPtr n) F.chRplPtr_HEAD
    let tail := s.fld (A.chRplPtr n) F.chRplPtr_TAIL
    let k := slotsOf (16 + 8 * r.details.length)
    if slots - min slots (ringUsed slots tail head) < k then
      (s.modChan n (fun c => { c with held := some (r, intr) })).setFlag (A.chStatus n) F.chStatus_STALLED_RPL true
    else
      let as := ringAddrs (s.ringBase (A.chRplBase n)) slots tail k
      let s := (s.modChan n (fun c => { c with held := none })).setFlag (A.chStatus n) F.chStatus_STALLED_RPL false
      match as.find? (fun a => !s.tierRange a 64) with
      | some bad => s.ringFault n bad
      | none =>
        let s := (putSlots s as r.bytes).setFld (A.chRplPtr n) F.chRplPtr_TAIL ((tail + k) % (2 * slots))
        if intr then s.interrupt (s.fld (A.chCfg n) F.chCfg_VECTOR) else s
  else
    let s := { s with ctl := { s.ctl with outbox := (n, r) :: s.ctl.outbox } }
    let s : State := match (s.chan n).src with
      | some m =>
        (s.modChan n (fun c => { c with src := none })).sendOrdered 0 m 0 0xA 2 0 (r.bytes.take (16 + 8 * r.details.length))
      | none => s
    if intr then s.interrupt (s.fld (A.chCfg n) F.chCfg_VECTOR) else s

/-! The order of COMMITs and persistent writes (R91). -/

/-- A packet that CC takes joins the order of COMMITs and persistent writes when it may be one: COMMIT, or REG_WRITE. -/
def State.joinStore (s : State) (n op : Nat) : State :=
  if (op = 2 || op = 5) && !s.ctl.storeQ.contains n then { s with ctl := { s.ctl with storeQ := s.ctl.storeQ ++ [n] } } else s

/-- A channel's packet leaves that order. -/
def State.leaveStore (s : State) (n : Nat) : State := { s with ctl := { s.ctl with storeQ := s.ctl.storeQ.filter (· ≠ n) } }

/-- The reply of the command in progress on a channel (R96), discarded where a CHANNEL_RESET waits for it (R111); quiet replies raise
no interrupt (R109). -/
def State.replyWith (s : State) (n status : Nat) (details : List Word) (quiet : Bool) : State :=
  match (s.chan n).current with
  | none => s
  | some (op, p) =>
    let txn := match (s.chan n).txn with | none => 0 | some t => t.id
    let r : Reply := { status := status, opcode := op, seq := p.seq, txn := txn, details := details }
    let gone := (s.chan n).resetting
    let s := (s.modChan n (fun c => { c with current := none, busy := false, durable := none })).leaveStore n
    if gone then s.modChan n (fun c => { c with src := none })
    else s.deliver n r (!quiet && bit p.flags 0 && s.flag (A.chCfg n) F.chCfg_INTR_EN)

/-- The reply of the command in progress. -/
def State.reply (s : State) (n status : Nat) (details : List Nat := []) : State :=
  s.replyWith n status (details.map (BitVec.ofNat 64)) false

/-! Context debug and trace (R703, R706). -/

/-- Context debug of a context closes; OPEN_CTX counts those that have it. -/
def State.closeDebug (s : State) (c : Nat) : State :=
  let l := s.mg.ctxDebug.filter (· ≠ c)
  ({ s with mg := { s.mg with ctxDebug := l } }).setFld A.debugStatus F.debugStatus_OPEN_CTX l.length

/-- A trace of one context stops when the context or its debug access closes. -/
def State.stopTrace (s : State) (c : Nat) : State :=
  match s.mg.trace with
  | some t =>
    if !t.allCtx && t.ctx = c then
      ({ s with mg := { s.mg with trace := some { t with enable := false }, due := [] } }).setFlag A.traceStatus F.traceStatus_ACTIVE false
    else s
  | none => s

/-! Who is served (R53, R129). -/

/-- The channel delivers packets (R120, R129): channels 62 and 63 only from HOST_CONFIG on. -/
def State.chOpen (s : State) (n : Nat) : Bool :=
  s.chEnabled n && (n ≠ 62 && n ≠ 63 || s.readiness = 3 || s.readiness = 4)

/-- MGMT alone answers: POWER_HOLD, or FAILED with cause RAIL (R129). -/
def State.mgmtAlone (s : State) : Bool :=
  s.readiness = 0 || (s.readiness = 15 && s.fld A.bootStatus F.bootStatus_FAIL_CAUSE = 1)

/-- The packet is on its readiness state's list (R129). -/
def State.served (s : State) (n op : Nat) : Bool :=
  let g := op / 256
  match s.readiness with
  | 1 => (n = 60 || n = 61) && (op = 0x100 || op = 0x101)
  | 2 => g = 0 || g = 1
  | 3 => g ≠ 2 && g ≠ 6 && g ≠ 7 && g ≠ 8 && op ≠ 0x0A05
  | 4 => true
  | _ => (n = 60 || n = 61) && (op = 0x100 || op = 0x101 || op = 0x110)

/-- The registers MGMT holds and serves while the module is held (R53). -/
def mgmtRegister (a : Nat) : Bool :=
  [A.sbStatus, A.resetCause, A.bootStatus, A.alert, A.errLast0, A.errLast1].contains a

/-- A REG_READ that names only registers MGMT holds (R53). -/
def mgmtRead (op : Nat) (p : Packet) : Bool :=
  op = 4 && p.length = 32 &&
    (let a := ((p.params.getD 0 0)).toNat
     let c := ((p.params.getD 1 0)).toNat
     1 ≤ c && c ≤ 64 && (List.range c).all (fun i => mgmtRegister (a + 8 * i)))

/-- The first failure among steps 1 to 3 of R95, R53 and R129, as a status; none when the packet goes on to its own rules. -/
def State.precheck (s : State) (n op : Nat) (p : Packet) : Option Nat :=
  if p.length < 16 || 4096 < p.length || p.length % 8 ≠ 0 then some St.badLength
  else if !opcodeAssigned op then some St.badOpcode
  else if s.mgmtAlone then
    if mgmtRead op p then none
    else some (match s.board.modReset with | some r => if r.refWait then St.noRef else St.heldInReset | none => St.heldInReset)
  else if !bit (s.fld (A.chPermit n) F.chPermit_GROUPS) (op / 256) then some St.denied
  else if !s.served n op then some St.busy
  else none

/-- A command packet on a channel: it starts only when no other packet of the channel is in progress (R91), restarts the
transaction timer (R108), and either replies at its first failed check (R95) or takes its effect. -/
def State.command (s : State) (n op : Nat) (p : Packet) (body : State → State) : State :=
  let c := s.chan n
  let go (s : State) : State :=
    let s := (s.modChan n (fun c => { c with current := some (op, p), busy := true, lastPkt := s.now })).joinStore n op
    match s.precheck n op p with
    | some st => s.reply n st
    | none => body s
  match c.current with
  | some (o, q) => if o = op && q = p && !c.busy then go s else s
  | none => if s.chOpen n && c.held.isNone && !c.resetting then go s else s

/-- A command that cannot end yet: its packet is presented again. -/
def State.unfinished (s : State) (ch : Nat) : State := s.modChan ch (fun c => { c with busy := false })

/-- A command packet's meaning as an outcome: the channel must exist. -/
def cmd (n op : Nat) (p : Packet) (s : State) (body : State → State) : Res :=
  onUnit (n < 64) (s.command n op p body)

/-- Parameter word i of a packet (0 when absent). -/
def pword (p : Packet) (i : Nat) : Nat := (p.params.getD i 0).toNat

/-- A command of n parameter words whose words have reserved bits outside the given masks: LENGTH first (R97, BAD_LENGTH),
then reserved bits (R717). Log entry 5. -/
def checkWords (p : Packet) (masks : List Nat) : Option Nat :=
  if p.length ≠ 16 + 8 * masks.length then some St.badLength
  else if (List.range masks.length).any (fun i => (pword p i) &&& ((2 ^ 64 - 1) ^^^ (masks.getD i 0)) ≠ 0) then some St.invalid
  else none

/-- The first of some checks that fails, as its status. -/
def firstFail : List (Bool × Nat) → Option Nat
  | [] => none
  | (bad, st) :: l => if bad then some st else firstFail l

/-- A command that replies at its first failed check or goes on. -/
def State.orFail (s : State) (n : Nat) (f : Option Nat) (body : State → State) : State :=
  match f with
  | some st => s.reply n st
  | none => body s

end Sys2Proof.Machine
end

