-- ==== Sys2Proof/Machine/Stops.lean ====
section
/-! DEFINITION. Queues as far as starts, ends and stops go (R518 to R525), and how work is stopped: by entry, by context, by
tower (R76, R79, R80, R157, R262, R306, R464, R525). -/

namespace Sys2Proof.Machine

/-! Lantern units as far as their queue shows. -/

/-- A unit with nothing in it. -/
def LntUnit.idle : LntUnit := { queue := [], loaded := [], hot := false }
/-- Lantern unit n. -/
def State.lunit (s : State) (n : Nat) : LntUnit := Assoc.getD s.lnt.units n LntUnit.idle
/-- Tower of lantern unit n (R465). -/
def lntTower (n : Nat) : Nat := if n < 64 then n / 16 else (n - 64) / 2
/-- Local number of lantern unit n (R465). -/
def lntLocal (n : Nat) : Nat := if n < 64 then n % 16 else 16 + (n - 64) % 2
/-- LNT_STATUS of unit n. -/
def lntStatusOf (n : Nat) : Nat := A.lntStatus (lntTower n) (lntLocal n)
/-- LNT_PROGRESS of unit n. -/
def lntProgressOf (n : Nat) : Nat := A.lntProgress (lntTower n) (lntLocal n)
/-- Counter i of unit n, in the order of R469. -/
def lntCnt (n i : Nat) : Nat := A.lntCntBytes (lntTower n) (lntLocal n) + 8 * i
/-- A unit of a lantern. -/
def unitLnt (n : Nat) : Nat := unitCode 9 (lntTower n) 0 n 0
/-- Word i of a request's payload. -/
def LntReq.word (r : LntReq) (i : Nat) : Nat := r.w.getD i 0

/-- A unit's STATE (R468): fenced and absent stay; a pause shows whether it holds requests or not (R464). -/
def State.lntState (s : State) (n : Nat) (u : LntUnit) : Nat :=
  let st := s.fld (lntStatusOf n) F.lntStatus_STATE
  if st = 5 || st = 6 then st
  else if s.eclipse then 4
  else if u.hot then 3
  else match u.queue with
    | [] => 0
    | r :: _ => if !r.started then 0 else if bitsOf (r.word 0) 0 4 = 2 then 2 else 1

/-- A unit replaced, with LNT_STATUS and LNT_PROGRESS brought up to it, and LNT_CNT_PAUSE: 25 LANTERN cycles are 4 MGMT cycles. -/
def State.setLunit (s : State) (n : Nat) (u : LntUnit) : State :=
  let s := match u.since with | some t => if t < s.now then s.bump (lntCnt n 3) ((s.now - t) * 25 / 4) else s | none => s
  let u := { u with since := if s.eclipse || u.hot then some s.now else none }
  let s := { s with lnt := { s.lnt with units := Assoc.put s.lnt.units n u LntUnit.idle } }
  let s := s.setFlds (lntStatusOf n) [(F.lntStatus_STATE, s.lntState n u), (F.lntStatus_QUEUED, u.queue.length)]
  match u.queue with
  | r :: _ =>
    if r.started then
      (s.setFlds (lntStatusOf n) [(F.lntStatus_CONTEXT, r.owner.ctx), (F.lntStatus_PROG, bitsOf (r.word 0) 4 4)]).setFld
        (lntProgressOf n) F.lntProgress_NEXT_KEY r.next
    else s
  | [] => s

/-! Queues (R518, R529): home tower q / 1024. -/

/-- SYN_Q_CFG of a queue. -/
def qCfg (q : Nat) : Nat := A.synQCfg (q / 1024) (q % 1024)
/-- SYN_Q_STATUS of a queue. -/
def qStatus (q : Nat) : Nat := A.synQStatus (q / 1024) (q % 1024)
/-- SYN_Q_STOP of a queue. -/
def qStop (q : Nat) : Nat := A.synQStop (q / 1024) (q % 1024)
/-- The queue numbered q, if it is in use. -/
def State.queue? (s : State) (q : Nat) : Option Queue := Assoc.get? s.syn.queues q
/-- A queue replaced. -/
def State.setQueue (s : State) (q : Nat) (v : Queue) : State :=
  { s with syn := { s.syn with queues := Assoc.set s.syn.queues q v } }
/-- STATE of a queue: 0 free, 1 RUNNING, 2 STOPPING, 3 STOPPED. -/
def State.qState (s : State) (q : Nat) : Nat := s.fld (qStatus q) F.synQStatus_STATE
/-- Context of a queue. -/
def State.qCtx (s : State) (q : Nat) : Nat := s.fld (qCfg q) F.synQCfg_CONTEXT

/-- Word i of an entry. -/
def QEntry.word (e : QEntry) (i : Nat) : Nat := e.w.getD i 0
/-- KIND of an entry (R520): 1 BEAM, 2 KERNEL, 3 MOVE, 4 LANTERN, 5 SYNC. -/
def QEntry.kind (e : QEntry) : Nat := bitsOf (e.word 0) 0 4
/-- OVERLAP of an entry. -/
def QEntry.overlap (e : QEntry) : Bool := bit (e.word 0) 4
/-- An entry that has not begun. -/
def QEntry.fresh (n : Nat) (w : List Nat) (bad : Bool) : QEntry :=
  { n := n, w := w, bad := bad, waitBegun := false, started := false, ended := false, completed := false, signalled := false,
    marked := none }
/-- The entry numbered n of a queue, if it is taken and not done with. -/
def Queue.entry? (v : Queue) (n : Nat) : Option QEntry := v.entries.find? (fun e => e.n = n)
/-- An entry of a queue changed. -/
def Queue.modEntry (v : Queue) (n : Nat) (f : QEntry → QEntry) : Queue :=
  { v with entries := v.entries.map (fun e => if e.n = n then f e else e) }
/-- An entry of a queue changed. -/
def State.modEntry (s : State) (q n : Nat) (f : QEntry → QEntry) : State :=
  match s.queue? q with
  | some v => s.setQueue q (v.modEntry n f)
  | none => s

/-- ERR_RECOVERY of a tower recounted (R631). -/
def State.showRecovery (s : State) (k : Nat) : State :=
  let ops := (s.err.recov.filter (fun r => r.level = 0 && r.tower = k)).length
  let qs := (s.syn.queues.filter (fun e => e.1 / 1024 = k && s.qState e.1 = 2)).length
  s.setFlds (A.errRecovery k)
    [(F.errRecovery_OPS, min 255 ops), (F.errRecovery_QUEUES, qs), (F.errRecovery_CONTEXTS, s.board.ctxRst.length),
     (F.errRecovery_TOWER_RESET, b2n (s.board.towerRst.any (fun e => e.1 = k)))]

/-- STATE given to a queue. -/
def State.setQState (s : State) (q st : Nat) : State :=
  (s.setFld (qStatus q) F.synQStatus_STATE st).showRecovery (q / 1024)

/-! Work by owner: every stop below acts on the work that a test of tower and owner picks. -/

/-- The owner is entry n of queue q. -/
def Owner.isEntry (o : Owner) (q n : Nat) : Bool := o.entry = some (q, n)

/-- Tiles that have not begun to drain and chains go (R157). Error replays end with their tiles. -/
def State.stopEngines (s : State) (sel : Nat → Owner → Bool) : State :=
  let s := s.comp.tiles.foldl (fun s e =>
    s.setTiles (e.1 / 17) (e.1 % 17) (e.2.filter (fun t => t.draining || !sel (e.1 / 17) t.owner))) s
  let s := { s with comp := { s.comp with stalls := s.comp.stalls.filter (fun w =>
    match w.who with
    | .engine .. => true
    | .vxe k _ => !sel k w.owner
    | .mover k _ => !sel k w.owner
    | .thread k .. => !sel k w.owner
    | _ => true) } }
  let s := s.comp.chains.foldl (fun s e =>
    s.setChains (e.1 / 8) (e.1 % 8) (e.2.filter (fun c => !sel (e.1 / 8) c.owner))) s
  { s with err := { s.err with recov := s.err.recov.filter (fun r =>
    !(r.level = 0 && (match r.owner with | some o => sel r.tower o | none => false))) } }

/-- Cycles of one kind pass: their counter and CYCLES gain them, and so does the stretch (R245, R270). -/
def State.beamTick (s : State) (k reg n : Nat) : State :=
  ((s.bump reg n).bump (A.mxeBeamCntCycles k) n).modBeam k (fun b => { b with cycles := b.cycles + n, since := s.now })

/-- Cycles of slip of a class pass (R240, R246). -/
def State.beamSlip (s : State) (k : Nat) (ext : Bool) (n : Nat) : State :=
  if ext then
    let s := (s.beamTick k (A.mxeBeamCntSlipExt k) n).modBeam k (fun x => { x with ext := x.ext + n })
    if n = 0 then s else s.setFlag (A.beamStatus k) F.beamStatus_STRETCH_EXT true
  else s.beamTick k (A.mxeBeamCntSlipDet k) n

/-- Cycles of ARRAY in some MGMT cycles, at their nominal 1.8 GHz and 200 MHz (R65; log entry 38). -/
def arrayCycles (mgmt : Nat) : Nat := 9 * mgmt

/-- The cycles that a sequencer has spent in its state since they were last counted go to the counter of that state (R270): WAIT,
slip, PAUSE, or FINISH, which holds those of ABORTING too. -/
def State.beamFlush (s : State) (k : Nat) : State :=
  let n := arrayCycles (s.now - (s.beam k).since)
  match s.beamState k with
  | 2 => s.beamTick k (A.mxeBeamCntWait k) n
  | 3 => s.beamSlip k (s.beam k).slipExt n
  | 4 => s.beamTick k (A.mxeBeamCntPause k) n
  | 5 | 6 => s.beamTick k (A.mxeBeamCntFinish k) n
  | _ => s

/-- A beam stops at its current word and becomes IDLE (R261, R262): its lends end, a reset sends none of its signals, a step
that waits replies ABORTED, and an abort that waits replies OK. STOP.ADDR is PC. DESIGN CHOICE (log entry 193): where END has
issued and no word is left to fail, that is 0x1FFFF. -/
def State.stopBeam (s : State) (k cause : Nat) : State :=
  if s.beamState k = 0 then s
  else
    let s := s.beamFlush k
    let b := s.beam k
    let s := s.endLends k
    let s := s.setFlds (A.beamStop k) [(F.beamStop_CAUSE, cause), (F.beamStop_ADDR, s.fld (A.beamStatus k) F.beamStatus_PC)]
    let s := s.setBeamState k 0
    let s := s.setFlag (A.beamBank k (s.fld (A.beamStatus k) F.beamStatus_BANK)) F.beamBank_IN_USE false
    let s := s.endWait (.beam k)
    let reset := cause = 12
    let s := s.modBeam k (fun x => { x with waiting := false, met := false, held := if reset then [] else b.held,
                                            out := if reset then [] else b.out, unitErr := none, aborting := [],
                                            stepLeft := 0, stepChan := none })
    let s := match b.stepChan with | some ch => s.reply ch St.aborted | none => s
    b.aborting.foldl (fun s ch => s.reply ch St.ok) s

/-- Banks of a sequencer whose context a test picks become invalid, and a load for such a context is cancelled (R256). -/
def State.clearBanks (s : State) (k : Nat) (p : Nat → Bool) : State :=
  let s := [0, 1].foldl (fun s b =>
    if p (s.fld (A.beamBank k b) F.beamBank_CONTEXT) then s.setFlag (A.beamBank k b) F.beamBank_VALID false else s) s
  match (s.beam k).load with
  | some l =>
    if p l.ctx then
      ((s.modBeam k (fun b => { b with load := none })).setFlag (A.beamStatus k) F.beamStatus_LOADING false).reply l.chan St.aborted
    else s
  | none => s

/-- Beams of the picked owners stop. -/
def State.stopBeams (s : State) (sel : Nat → Owner → Bool) (cause : Nat) : State :=
  (List.range 4).foldl (fun s k => if sel k (s.beam k).owner then s.stopBeam k cause else s) s

/-- Mover descriptors of the picked owners are cancelled, and a mover that stopped for one of them starts again. -/
def State.stopMovers (s : State) (sel : Nat → Owner → Bool) : State :=
  s.comp.movers.foldl (fun s e =>
    let q := e.2.queue.filter (fun d => !sel (e.1 / 16) d.owner)
    let keep := match e.2.stopped with | some o => if sel (e.1 / 16) o then none else some o | none => none
    s.setMover (e.1 / 16) (e.1 % 16) { e.2 with queue := q, stopped := keep }) s

/-- Groups of the picked owners are terminated and their slots freed; a launch with no group left to place and none resident
is gone. Lends that a terminated thread owns run on (R251). -/
def State.stopGroups (s : State) (sel : Nat → Owner → Bool) : State :=
  let s := s.comp.cores.foldl (fun s e =>
    e.2.slots.foldl (fun s g =>
      if sel (e.1 / 64) g.2.owner then
        let k := e.1 / 64
        let c := e.1 % 64
        let s := { s with syn := { s.syn with waits := s.syn.waits.filter (fun w => !w.who.inGroup k c g.1) } }
        s.freeSlot k c g.1
      else s) s) s
  { s with xlt := { s.xlt with walks := s.xlt.walks.filterMap (fun w =>
    let picked (o : Option Owner) : Bool := o.any (sel w.tower)
    match w.askers.filter (fun j => !picked j.owner) with
    | [] => none
    | j :: rest => some { w with cache := j.cache, acc := j.acc, owner := j.owner, unit := j.unit, miss := j.miss, joined := rest }) } }

/-- Launches of the picked owners are forgotten. -/
def State.stopLaunches (s : State) (sel : Owner → Bool) : State :=
  { s with comp := { s.comp with launches := s.comp.launches.filter (fun e => !sel e.2.owner) } }

/-- Lantern requests of the picked owners are cancelled (R461). -/
def State.stopLanterns (s : State) (sel : Nat → Owner → Bool) : State :=
  let keep (d : LntDisp) : Option LntDisp :=
    let left := d.left.filter (fun u => !sel (lntTower u) d.owner)
    if left.isEmpty then none else some { d with left := left }
  let s := { s with lnt := { s.lnt with disp := s.lnt.disp.filterMap keep } }
  s.lnt.units.foldl (fun s e =>
    s.setLunit e.1 { e.2 with queue := e.2.queue.filter (fun r => !sel (lntTower e.1) r.owner) }) s

/-- All work of the picked owners stops; beams take a cause. -/
def State.stopWork (s : State) (sel : Nat → Owner → Bool) (cause : Nat) : State :=
  ((((s.stopEngines sel).stopBeams sel cause).stopMovers sel).stopGroups sel).stopLanterns sel

/-- A unit of the module still works for an entry (R522): its beam, its launch, its descriptors or its requests. -/
def State.entryWorks (s : State) (q n : Nat) (kind : Nat) : Bool :=
  match kind with
  | 1 => (List.range 4).any (fun k => s.beamState k ≠ 0 && (s.beam k).owner.isEntry q n)
  | 2 => s.comp.launches.any (fun e => e.2.owner.isEntry q n)
  | 3 => s.comp.movers.any (fun e => e.2.queue.any (fun d => d.owner.isEntry q n))
  | 4 => s.lnt.disp.any (fun d => d.owner.isEntry q n) || s.lnt.units.any (fun e => e.2.queue.any (fun r => r.owner.isEntry q n))
  | _ => false

/-- A started entry whose work has all ended reads ended (R522). -/
def State.settleEntry (s : State) (o : Owner) : State :=
  match o.entry with
  | none => s
  | some (q, n) =>
    s.modEntry q n (fun e => if e.started && !s.entryWorks q n e.kind then { e with ended := true } else e)

/-! Stopping queues (R523, R524). -/

/-- A stopping queue whose entries before the stop are all done with reads STOPPED (R523); the recovery of the queue resolves
(R604). A stop that a QUEUE_STOP waits for takes its QUEUE_STOP_COMPLETE. -/
def State.settleStop (s : State) (q : Nat) : State :=
  match s.queue? q with
  | none => s
  | some v =>
    match v.stop with
    | some st =>
      if s.qState q = 2 && st.chans.isEmpty && v.entries.all (fun e => st.entry ≤ e.n) then
        let s := { s with err := { s.err with recov := s.err.recov.filter (fun r => !(r.level = 1 && r.unit = q)) } }
        s.setQState q 3
      else s
    | none => s

/-- SYN_Q_STOP given its fields (R529). -/
def State.setQStop (s : State) (q entry cause cancelled : Nat) : State :=
  s.setFlds (qStop q) [(F.synQStop_ENTRY, entry % 2 ^ 32), (F.synQStop_CAUSE, cause), (F.synQStop_CANCELLED, cancelled)]

/-- Entries from e on wait to run again from their beginning; those after it in its batch that had started are cancelled,
and the answer counts them (R523). DESIGN CHOICE (log entry 194): a beam so cancelled stops with CAUSE RESET. -/
def State.cancelFrom (s : State) (q e : Nat) : State × Nat :=
  match s.queue? q with
  | none => (s, 0)
  | some v =>
    let later := v.entries.filter (fun x => e < x.n && x.started && !x.completed)
    let gone := v.entries.filter (fun x => e ≤ x.n)
    let s := gone.foldl (fun s x =>
      let s := if x.started then
          (s.stopWork (fun _ o => o.isEntry q x.n) 12).stopLaunches (fun o => o.isEntry q x.n)
        else s
      s.endWait (.entry q x.n)) s
    match s.queue? q with
    | none => (s, 0)
    | some v =>
      (s.setQueue q { v with entries := v.entries.map (fun x => if e ≤ x.n then QEntry.fresh x.n x.w x.bad else x) }, later.length)

/-- An entry fails and its queue stops at it (R523). -/
def State.failEntry (s : State) (q e cause : Nat) : State :=
  match s.queue? q with
  | none => s
  | some v =>
    let earlier := match v.stop with | some st => s.qState q = 2 && st.cause ≠ 1 && st.entry < e | none => false
    if s.qState q = 3 || earlier then s
    else
      let tag := (v.entry? e).map (QEntry.word · 2)
      let chans := match v.stop with | some st => if s.qState q = 2 then st.chans else [] | none => []
      let (s, n) := s.cancelFrom q e
      let s := match s.queue? q with
        | some v => s.setQueue q { v with stop := some { entry := e, cause := cause, chans := chans }, tag := tag, skipping := false }
        | none => s
      let s := (s.traced 1 (some (s.qCtx q)) (q / 1024) none).setQStop q e cause n
      let s := s.setQState q 2
      s.settleStop q

/-- An operation of an entry has failed: the entry is marked (R613), and a KERNEL entry's launch places no further group. -/
def State.markEntry (s : State) (q e cause : Nat) : State :=
  let s := s.modEntry q e (fun x => if x.marked.isNone then { x with marked := some cause } else x)
  { s with comp := { s.comp with launches := s.comp.launches.map (fun l =>
    if l.2.owner.isEntry q e then (l.1, { l.2 with stop := true }) else l) } }

/-- A launch that will place no more groups and has none left is over (R306, R613): one that was not stopped signals
DONE_OBJ. -/
def State.settleLaunch (s : State) (l : Nat) : State :=
  match Assoc.get? s.comp.launches l with
  | none => s
  | some v =>
    let resident := s.comp.cores.any (fun e => e.2.slots.any (fun g => g.2.launch = l))
    let groups := bitsOf (v.w.getD 4 0) 0 25
    if resident || !(v.stop || v.next = groups) then s
    else
      let s := { s with comp := { s.comp with launches := Assoc.del s.comp.launches l } }
      let marked := match v.owner.entry with
        | some (q, n) => match (s.queue? q).bind (·.entry? n) with | some e => e.marked.isSome | none => true
        | none => false
      let w6 := v.w.getD 6 0
      let s := if !v.stop && !marked && bit w6 16 then
          s.signal (match v.owner.entry with | some (q, n) => .entry q n | none => .cc) (some v.owner.ctx) (some v.owner) (bitsOf w6 0 16) 1 1
        else s
      s.settleEntry v.owner

/-- Index of the next entry of a queue to start. -/
def Queue.nextStart (v : Queue) : Nat := match v.entries.find? (fun e => !e.started) with | some e => e.n | none => v.taken

/-- A running queue is asked to stop (R524): no further entry starts. -/
def State.requestStop (s : State) (q : Nat) (chans : List Nat) : State :=
  match s.queue? q with
  | none => s
  | some v =>
    let n := v.nextStart
    let s := (v.entries.filter (fun e => n ≤ e.n)).foldl (fun s e => s.endWait (.entry q e.n)) s
    let s := s.setQueue q { (v.modEntry n (fun e => { e with waitBegun := false })) with
                            stop := some { entry := n, cause := 1, chans := chans }, tag := none }
    let s := (s.setQStop q n 1 0).setQState q 2
    s.settleStop q

/-- A beam pauses before its next word (R259): it is PAUSED, with PC at the word that does not issue. -/
def State.pauseBeam (s : State) (k : Nat) : State :=
  let st := s.beamState k
  if 1 ≤ st && st ≤ 3 then
    let s := (s.beamFlush k).endWait (.beam k)
    let s := s.modBeam k (fun b => { b with waiting := false, met := false, since := s.now })
    let s := s.setFlds (A.beamStop k) [(F.beamStop_CAUSE, 2), (F.beamStop_ADDR, s.fld (A.beamStatus k) F.beamStatus_PC)]
    s.setBeamState k 4
  else s

/-- A running group halts (R329): STATE HALTED with a CAUSE; packed sets that hold it separate. -/
def State.haltGroup (s : State) (k c g cause : Nat) : State :=
  if s.slotState k c g = 1 then
    let s := s.setFlds (A.tcGroup0 k c g) [(F.tcGroup0_STATE, 2), (F.tcGroup0_CAUSE, cause)]
    let s := s.modCore k c (fun x => { x with packs := x.packs.filter (fun p => !p.any (fun e => e.1 = g)) })
    (s.standTimers k c g).showCore k c
  else s

/-! Context reset (R76, R80, R525). -/

/-- Every slot of a context's reductions is drained (R385, R391). -/
def State.drainWhere (s : State) (p : Nat → RedSlot → Bool) : State :=
  s.l2.slices.foldl (fun s e => (e.2.slots.filter (p e.1)).foldl (fun s r => s.drainSlot e.1 r.line) s) s

/-- A cache list without the entries that a test picks. -/
def dropXlt {β : Type} (l : List (Nat × List β)) (p : β → Bool) : List (Nat × List β) :=
  (l.map (fun e => (e.1, e.2.filter (fun x => !p x)))).filter (fun e => !e.2.isEmpty)

/-- Every cached translation and pointer of a context goes. -/
def State.dropCtxXlt (s : State) (c : Nat) : State :=
  { s with xlt := { s.xlt with
      cluster := dropXlt s.xlt.cluster (fun x => x.ctx = c),
      base := dropXlt s.xlt.base (fun x => x.ctx = c),
      tower := dropXlt s.xlt.tower (fun x => x.ctx = c),
      pointers := dropXlt s.xlt.pointers (fun x => x.ctx = c),
      walks := s.xlt.walks.filter (fun w => w.ctx ≠ c),
      faults := s.xlt.faults.filter (fun w => w.ctx ≠ c) } }

/-- Every cached translation and pointer of a tower goes, and what its walkers walk (R494). -/
def State.dropTowerXlt (s : State) (k : Nat) : State :=
  { s with xlt := { s.xlt with
      cluster := s.xlt.cluster.filter (fun e => e.1 / 4 ≠ k),
      base := s.xlt.base.filter (fun e => e.1 ≠ k),
      tower := s.xlt.tower.filter (fun e => e.1 ≠ k),
      pointers := s.xlt.pointers.filter (fun e => e.1 ≠ k),
      walks := s.xlt.walks.filter (fun w => w.tower ≠ k),
      faults := s.xlt.faults.filter (fun f => f.cache.tower ≠ k) } }

/-- The queues of a context stop at once with cause RESET at their lowest entry not completed; their started entries are
cancelled without signals. -/
def State.resetQueues (s : State) (c : Nat) : State :=
  s.syn.queues.foldl (fun s e =>
    let q := e.1
    if s.qCtx q ≠ c || s.qState q = 3 then s
    else
      match s.queue? q with
      | none => s
      | some v =>
        let first := match v.entries with | x :: _ => x.n | [] => v.taken
        let chans := match v.stop with | some st => if s.qState q = 2 then st.chans else [] | none => []
        let (s, n) := s.cancelFrom q first
        let s := match s.queue? q with
          | some v => s.setQueue q { v with stop := some { entry := first, cause := 6, chans := [] },
                                            tag := (v.entry? first).map (QEntry.word · 2), skipping := false }
          | none => s
        let s := (s.setQStop q first 6 n).setQState q 3
        chans.foldl (fun s ch => s.reply ch St.aborted) s) s

/-- The context's part of a context reset that takes effect at once; the reset is in progress until CONTEXT_RESET_DONE. -/
def State.beginCtxReset (s : State) (c : Nat) (chan : Option Nat) : State :=
  let held := s.comp.cores.filter (fun e => e.2.ctxs.contains c)
  let s := s.resetQueues c
  let s := s.stopWork (fun _ o => o.ctx = c) 12
  let s := s.stopLaunches (fun o => o.ctx = c)
  let s := s.drainWhere (fun _ r => r.ctx = c)
  let s := (s.dropCtxXlt c).failColls (fun _ x => x = c)
  let s := held.foldl (fun s e =>
    s.modCore (e.1 / 64) (e.1 % 64) (fun x => { x with l1 := [], ctxs := x.ctxs.filter (· ≠ c) })) s
  let s := { s with board := { s.board with ctxRst := Assoc.set s.board.ctxRst c chan } }
  let s := { s with err := { s.err with recov := s.err.recov.filter (fun r =>
    !(r.level = 1 && s.qCtx r.unit = c)) } }
  (List.range 4).foldl (fun s k => s.showRecovery k) s

/-! Tower reset (R76, R79). -/

/-- An entry has work on a tower. -/
def State.entryOn (s : State) (k q : Nat) (e : QEntry) : Bool :=
  e.started &&
  ((s.beamState k ≠ 0 && (s.beam k).owner.isEntry q e.n)
  || s.comp.movers.any (fun m => m.1 / 16 = k && m.2.queue.any (fun d => d.owner.isEntry q e.n))
  || s.comp.cores.any (fun m => m.1 / 64 = k && m.2.slots.any (fun g => g.2.owner.isEntry q e.n))
  || s.lnt.units.any (fun m => lntTower m.1 = k && m.2.queue.any (fun r => r.owner.isEntry q e.n))
  || s.lnt.disp.any (fun d => d.owner.isEntry q e.n && d.left.any (fun u => lntTower u = k)))

/-- Contexts with work on tower k: in its units, dispatched to them, or in its open slots (R82). -/
def State.towerCtxs (s : State) (k : Nat) : List Nat :=
  let on (l : List (Nat × Nat)) : List Nat := (l.filter (fun e => e.1 = k)).map (·.2)
  on (s.comp.tiles.flatMap (fun e => e.2.map (fun t => (e.1 / 17, t.owner.ctx))))
  ++ on (s.comp.chains.flatMap (fun e => e.2.map (fun x => (e.1 / 8, x.owner.ctx))))
  ++ (if s.beamState k ≠ 0 then [(s.beam k).owner.ctx] else [])
  ++ on (s.comp.movers.flatMap (fun e => e.2.queue.map (fun d => (e.1 / 16, d.owner.ctx))))
  ++ on (s.comp.cores.flatMap (fun e => e.2.ctxs.map (fun c => (e.1 / 64, c))))
  ++ on (s.lnt.units.flatMap (fun e => e.2.queue.map (fun r => (lntTower e.1, r.owner.ctx))))
  ++ on (s.lnt.disp.flatMap (fun d => d.left.map (fun u => (lntTower u, d.owner.ctx))))
  ++ on (s.l2.slices.flatMap (fun e => e.2.slots.map (fun r => (e.1 / 32, r.ctx))))

/-- Steps 1 to 3 of a tower reset (R79): work on the tower stops, entries that ran there fail with cause RESET, and open
reduction slots drain into their lines. The reset is in progress until its write-back ends. -/
def State.beginTowerReset (s : State) (k : Nat) (chan : Option Nat) : State :=
  let hit := s.syn.queues.filterMap (fun v => (v.2.entries.find? (s.entryOn k v.1)).map (fun e => (v.1, e.n)))
  let had := (s.towerCtxs k).eraseDups.map (fun c => (k, c))
  let s := s.stopWork (fun j _ => j = k) 12
  let s := (s.stopBeam k 12).clearBanks k (fun _ => true)
  let s := hit.foldl (fun s e => s.failEntry e.1 e.2 6) s
  let s := (s.drainWhere (fun key _ => key / 32 = k)).failColls (fun n _ => n % 4 = k)
  let s := s.dropTowerXlt k
  let s := { s with board := { s.board with towerRst := Assoc.set s.board.towerRst k chan,
                                            towerFrom := Assoc.set s.board.towerFrom k s.now,
                                            towerHad := s.board.towerHad.filter (fun e : Nat × Nat => e.1 ≠ k) ++ had } }
  s.showRecovery k

end Sys2Proof.Machine
end

