-- ==== Sys2Proof/Machine/Fences.lean ====
section
/-! DEFINITION. Fenced units and the spare: the fence record, the engine remap table, and what a fence or its end does to the
registers of a unit (R34, R252, R253, R273, R540, R676 to R680, R687). -/

namespace Sys2Proof.Machine

/-- Units of a kind on one tower (R680): 0 MXE, 1 VXE, 2 thread core, 3 mover, 4 lantern unit. -/
def fenceCount (kind : Nat) : Nat := [17, 8, 64, 16, 18].getD kind 0

/-- Where the fence record of tower k holds the fenced bits of a kind, and its pending bits (R687). -/
def fencedAt (k kind : Nat) : Nat × Fld :=
  match kind with
  | 0 => (A.fence0 k, F.fence0_MXE_FENCED)
  | 1 => (A.fence0 k, F.fence0_VXE_FENCED)
  | 2 => (A.fence1 k, F.fence1_TC_FENCED)
  | 3 => (A.fence3 k, F.fence3_TM_FENCED)
  | _ => (A.fenceLu k, F.fenceLu_LU_FENCED)
/-- The pending bits. -/
def pendAt (k kind : Nat) : Nat × Fld :=
  match kind with
  | 0 => (A.fence0 k, F.fence0_MXE_PEND)
  | 1 => (A.fence0 k, F.fence0_VXE_PEND)
  | 2 => (A.fence2 k, F.fence2_TC_PEND)
  | 3 => (A.fence3 k, F.fence3_TM_PEND)
  | _ => (A.fenceLu k, F.fenceLu_LU_PEND)

/-- The fence record names unit i of a kind on tower k as fenced. -/
def State.isFenced (s : State) (k kind i : Nat) : Bool := (s.fld (fencedAt k kind).1 (fencedAt k kind).2).testBit i
/-- Its fence is pending. -/
def State.isPending (s : State) (k kind i : Nat) : Bool := (s.fld (pendAt k kind).1 (pendAt k kind).2).testBit i

/-- The unit is out of service: the fence record names it, or the bond of its compute die has too few channels (R540). -/
def State.outOfService (s : State) (k kind i : Nat) : Bool :=
  s.isFenced k kind i || (kind ≠ 4 && s.flag (A.bondStatus k) F.bondStatus_FENCED)

/-- The two bits of a unit in the fence record. -/
def State.setFence (s : State) (k kind i : Nat) (fenced pend : Bool) : State :=
  let f := fencedAt k kind
  let p := pendAt k kind
  let s := s.setFld f.1 f.2 (putBit (s.fld f.1 f.2) i fenced)
  s.setFld p.1 p.2 (putBit (s.fld p.1 p.2) i pend)

/-- The unit is on the part: lantern units 16 and 17 of a tower are the buses'. -/
def State.unitPresent (s : State) (kind i : Nat) : Bool := kind ≠ 4 || i < 16 || s.part.hasCapacity

/-- The unit is at the boundary of its kind (R253, R676). -/
def State.atBoundary (s : State) (k kind i : Nat) : Bool :=
  match kind with
  | 0 | 1 => s.beamState k = 0 && (List.range 17).all (fun e => (s.tilesOf k e).isEmpty)
      && (List.range 4).all (fun j => s.rd (A.mxeLend k j) = 0)
  | 2 => (s.core k i).slots.isEmpty
  | 3 => (s.mover k i).queue.isEmpty
  | _ => (s.lunit (if i < 16 then 16 * k + i else 64 + 2 * k + (i - 16))).queue.isEmpty

/-- The logical position that physical engine e holds, if any. -/
def State.positionOf (s : State) (k e : Nat) : Option Nat :=
  (List.range 16).find? (fun p => s.physEngine k p = some e)

/-- The engine that can take over a position on tower k: one that holds none, is not fenced, not pending and not being reset;
the spare as built goes before an engine that has come back as a spare. -/
def State.spareOf (s : State) (k : Nat) : Option Nat :=
  (16 :: List.range 16).find? (fun e => (s.positionOf k e).isNone && !s.isFenced k 0 e && !s.isPending k 0 e
    && !s.unitResetting (unitMxe k e))

/-- CAP_DEV.MXE_SPARES: engines that hold no position and are not fenced (R34, R678 to R680). -/
def State.showSpares (s : State) : State :=
  let n := (List.range 68).countP (fun i => (s.positionOf (i / 17) (i % 17)).isNone && !s.isFenced (i / 17) 0 (i % 17))
  s.setFld A.capDev F.capDev_MXE_SPARES n

/-- MXE_STATUS of an engine brought up to the remap table and the fence record (R177). -/
def State.showEngine (s : State) (k e : Nat) : State :=
  let a := A.mxeStatus k e
  let s := match s.positionOf k e with
    | some p => s.setFlds a [(F.mxeStatus_ASSIGNED, 1), (F.mxeStatus_LOGICAL_MX, p % 4), (F.mxeStatus_LOGICAL_C, p / 4)]
    | none => s.setFld a F.mxeStatus_ASSIGNED 0
  s.setFld a F.mxeStatus_STATE
    (engineState (s.outOfService k 0 e) (s.flag a F.mxeStatus_ASSIGNED) (s.tilesOf k e))

/-- The status register of a unit brought up to the fence record (R677). -/
def State.showFence (s : State) (k kind i : Nat) : State :=
  let f := s.outOfService k kind i
  match kind with
  | 0 => s.showEngine k i
  | 1 =>
    let s := s.setFld (A.vxeStatus k i) F.vxeStatus_STATE (if f then 4 else 0)
    if f then s else s.setChains k i (s.chainsOf k i)
  | 2 => s.setFlag (A.tcStatus k i) F.tcStatus_FENCED f
  | 3 =>
    let s := s.setFld (A.tmStatus k i) F.tmStatus_STATE (if f then 4 else 0)
    if f then s else s.setMover k i (s.mover k i)
  | _ =>
    let n := if i < 16 then 16 * k + i else 64 + 2 * k + (i - 16)
    let s := s.setFld (lntStatusOf n) F.lntStatus_STATE (if f then 5 else 0)
    if f then s else s.setLunit n (s.lunit n)

/-- The registers of the V-F record of a die saved in the non-volatile store (R671, R686). -/
def State.saveRegs (s : State) (as : List Nat) : State :=
  { s with board := { s.board with nv := as.foldl (fun l a => Assoc.set l a (s.rd a)) s.board.nv } }

/-- A fence takes effect (R253, R678, R679): the unit reads fenced; the position of an engine goes to the spare, or has no engine
left; LMAX of the compute die becomes PEND_LMAX. -/
def State.applyFence (s : State) (k kind i : Nat) : State :=
  let pos := if kind = 0 then s.positionOf k i else none
  let s := s.setFence k kind i true false
  if kind ≠ 0 then s.showFence k kind i
  else
    let s : State := match pos with
      | none => s
      | some p =>
        match s.spareOf k with
        | some e => (s.setFlds (A.mxeRemap k p) [(F.mxeRemap_PHYS, e), (F.mxeRemap_VALID, 1)]).showEngine k e
        | none => s.setFlag (A.mxeRemap k p) F.mxeRemap_VALID false
    let s : State := if pos.isSome then (s.setFld (A.vf2 k) F.vf2_LMAX (s.fld (A.vf2 k) F.vf2_PEND_LMAX)).saveRegs [A.vf2 k] else s
    (s.showEngine k i).showSpares

/-- A fenced unit is back in service (R680): an engine takes back a position that has none, else it is an unassigned spare. -/
def State.endFence (s : State) (k kind i : Nat) : State :=
  let s := s.setFence k kind i false false
  if kind ≠ 0 then s.showFence k kind i
  else
    let own := (List.range 16).find? (fun p => (p = i || s.fld (A.mxeRemap k p) F.mxeRemap_PHYS = i) && !s.flag (A.mxeRemap k p) F.mxeRemap_VALID)
    let s := match own with | some p => s.setFlds (A.mxeRemap k p) [(F.mxeRemap_PHYS, i), (F.mxeRemap_VALID, 1)] | none => s
    (s.showEngine k i).showSpares

/-- The engine remap table of tower k as the fence record gives it (R273, R679): each engine not fenced serves its own position, and
the spare serves that of a fenced one. DEDUCED (log entry 200): of several fenced ones, the position that it serves already, else
the lowest. -/
def State.loadRemap (s : State) (k : Nat) : State :=
  let lost := (List.range 16).filter (fun p => s.isFenced k 0 p)
  let saved := if s.isFenced k 0 16 then none else (lost.find? (fun p => s.physEngine k p = some 16)).orElse (fun _ => lost.head?)
  (List.range 16).foldl (fun s p =>
    s.setFlds (A.mxeRemap k p) [(F.mxeRemap_PHYS, if saved = some p then 16 else p),
      (F.mxeRemap_VALID, b2n (!lost.contains p || saved = some p))]) s

/-- The remap tables are loaded, pending fences of every kind take effect at a module reset, and every unit's status shows the fence
record (R273, R681). -/
def State.loadFences (s : State) : State :=
  let s := (List.range 4).foldl (fun s k => s.loadRemap k) s
  let s := (List.range 4).foldl (fun s k => (List.range 5).foldl (fun s kind =>
    (List.range (fenceCount kind)).foldl (fun s i => if s.isPending k kind i then s.applyFence k kind i else s) s) s) s
  let s := (List.range 68).foldl (fun s i => s.showEngine (i / 17) (i % 17)) s
  let s := (List.range 4).foldl (fun s k => [1, 2, 3, 4].foldl (fun s kind =>
    (List.range (fenceCount kind)).foldl (fun s i => if s.isFenced k kind i then s.showFence k kind i else s) s) s) s
  s.showSpares

/-- A compute die whose bond has fewer than 8 channels up (R540): each of its units reads as fenced. -/
def State.fenceDie (s : State) (k : Nat) : State :=
  let s := s.setFlag (A.bondStatus k) F.bondStatus_FENCED true
  let s := (List.range 17).foldl (fun s e => s.setFld (A.mxeStatus k e) F.mxeStatus_STATE 4) s
  let s := (List.range 8).foldl (fun s x => s.setFld (A.vxeStatus k x) F.vxeStatus_STATE 4) s
  let s := (List.range 64).foldl (fun s c => s.setFlag (A.tcStatus k c) F.tcStatus_FENCED true) s
  (List.range 16).foldl (fun s m => s.setFld (A.tmStatus k m) F.tmStatus_STATE 4) s

end Sys2Proof.Machine
end

