-- ==== Sys2Proof/Machine/Store.lean ====
section
/-! DEFINITION. The non-volatile store: persistent registers and their wear (R14, R112, R127), mark records (R414, R415, R417),
the V-F and fence records (R670, R674, R687), and what becomes of a write that a reset or a loss of power interrupts (R41, R106,
R681). -/

namespace Sys2Proof.Machine

/-! Persistent registers (R14, R112, R127). -/

/-- Index of a persistent register (log entry 6). -/
def persIndex (a : Nat) : Option Nat :=
  if a = A.bootCfg then some 0 else if a = A.bootSvn then some 1 else if a = A.pwrBootLimits then some 2 else none

/-- A persistent register is at its wear limit (R14). -/
def State.worn (s : State) (a : Nat) : Bool :=
  match persIndex a with | some i => s.flag (A.persWear i) F.persWear_WORN | none => false

/-- One accepted write counted on a persistent register. -/
def State.wear (s : State) (a : Nat) : State :=
  match persIndex a with
  | some i =>
    let w := min 100000 (s.fld (A.persWear i) F.persWear_WEAR + 1)
    s.setFlds (A.persWear i) [(F.persWear_WEAR, w), (F.persWear_WORN, b2n (w = 100000))]
  | none => s

/-! Mark records (R415, R436). -/

/-- The marks in force on a controller's stack or bus, as positions of R417. -/
def State.marksOf (s : State) (k u : Nat) : List Nat :=
  (List.range (s.fld (A.memEraseStat k u) F.memEraseStat_MARKS)).map (fun m => s.fld (A.memEraseList k u m) F.memEraseList_POSITION)

/-- The controllers, as tower and u, whose records hold a position: one stack, or the four buses of a package (R407). -/
def posCtls (pos : Nat) : List (Nat × Nat) :=
  if pos % 4 = 0 then let st := bitsOf pos 4 4; [(st / 2, st % 2)]
  else (List.range 4).map (fun n => let b := n + (if bitsOf pos 24 6 < 18 then 0 else 4); (b / 2, 2 + b % 2))

/-- The list of marks of a controller rewritten. -/
def State.putMarks (s : State) (k u : Nat) (ms : List Nat) : State :=
  let s := (List.range 32).foldl (fun s m =>
    s.wr (A.memEraseList k u m) (match ms[m]? with | some p => BitVec.ofNat 64 (p + 2 ^ 63) | none => 0)) s
  let n := min 100000 (s.fld (A.memEraseStat k u) F.memEraseStat_CHANGES + 1)
  s.setFlds (A.memEraseStat k u) [(F.memEraseStat_MARKS, ms.length), (F.memEraseStat_CHANGES, n),
    (F.memEraseStat_WORN, b2n (decide (100000 ≤ n)))]

/-- A durable change takes effect in every record that holds the position; a record that is as it asks does not change. -/
def State.applyMark (s : State) (c : MarkChange) : State :=
  (posCtls c.pos).foldl (fun s x =>
    let ms := s.marksOf x.1 x.2
    if ms.contains c.pos = c.set then s
    else s.putMarks x.1 x.2 (if c.set then ms ++ [c.pos] else ms.filter (· ≠ c.pos))) s

/-! The V-F record and the fence record. -/

/-- Registers that show the V-F record (R685, R686). -/
def vfRegs : List Nat := (List.range 9).flatMap (fun d => [A.vf0 d, A.vf1 d, A.vf2 d])

/-- The V-F record is saved as its registers show it; BUSY is no part of it. -/
def State.saveVf (s : State) : State :=
  let s := s.saveRegs (vfRegs ++ [A.ageStatus0, A.ageStatus1])
  { s with board := { s.board with nv := Assoc.set s.board.nv A.ageStatus0 (F.ageStatus0_BUSY.set (s.rd A.ageStatus0) 0) } }

/-- One change of the V-F record counted (R670, R685). -/
def State.vfChange (s : State) : State :=
  let n := min 100000 (s.fld A.ageStatus1 F.ageStatus1_VF_CHANGES + 1)
  s.setFlds A.ageStatus1 [(F.ageStatus1_VF_CHANGES, n), (F.ageStatus1_VF_WORN, b2n (n = 100000))]

/-- One change of the fence record counted (R685); it is saved with the count. -/
def State.fenceChange (s : State) : State :=
  let n := min 100000 (s.fld A.ageStatus1 F.ageStatus1_FENCE_CHANGES + 1)
  (s.setFlds A.ageStatus1 [(F.ageStatus1_FENCE_CHANGES, n), (F.ageStatus1_FENCE_WORN, b2n (n = 100000))]).saveRegs [A.ageStatus1]

/-- The records of a re-plan take their new values (R674, R681): the registers always, the store unless the V-F record is worn. -/
def State.storeReplan (s : State) (r : Replan) : State :=
  let worn := s.flag A.ageStatus1 F.ageStatus1_VF_WORN
  let s := r.regs.foldl (fun s e => s.wr e.1 e.2) s
  let s := s.setFlag A.ageStatus0 F.ageStatus0_FIXED_MARGINAL r.fixed
  let s := if r.fixed || worn then s.alertBit 12 else s
  let s := if r.due then s.setFld A.ageStatus0 F.ageStatus0_LAST_H (s.fld A.ageStatus0 F.ageStatus0_POWERED_H) else s
  let s := r.pend.foldl (fun s e => s.setFence e.1 0 e.2 false true) s
  let s := ((List.range 4).filter r.dies.testBit).foldl (fun s k =>
    if (List.range 17).any (s.isPending k 0) then s else s.setFld (A.vf2 k) F.vf2_LMAX (s.fld (A.vf2 k) F.vf2_PEND_LMAX)) s
  let s := if !worn && (r.changed ≠ 0 || r.due) then s.vfChange.saveVf else s
  let s := r.atOnce.foldl (fun s e => s.applyFence e.1 0 e.2) s
  if r.pend.isEmpty && r.atOnce.isEmpty then s else s.fenceChange

/-! Writes cut short. -/

/-- Writes on their way to the store when everything stops: each is stored whole or not at all, and which is open (R41, R106,
R110, R415, R681): a free bit says. -/
def State.settleStore (s : State) : State :=
  let coin (s : State) : Bool × State := let v := s.free; (v.1.getLsbD 0, v.2)
  let s := s.ctl.chans.foldl (fun s e =>
    match e.2.durable with
    | some d =>
      let (yes, s) := coin s
      if yes then d.writes.foldl (fun s w => (s.wr w.1 w.2).wear w.1) s else s
    | none => s) s
  let s := s.memc.marks.foldl (fun s c => let (yes, s) := coin s; if yes then s.applyMark c else s) s
  let s : State := match s.age.replan with
    | some r => let (yes, s) := coin s; if yes then s.storeReplan r else s
    | none => s
  let s := s.age.changes.foldl (fun s c =>
    let (yes, s) := coin s
    if !yes then s
    else if c.fence then
      (s.setFence c.tower c.kind c.index (s.isFenced c.tower c.kind c.index) (!s.isFenced c.tower c.kind c.index)).fenceChange
    else (s.endFence c.tower c.kind c.index).fenceChange) s
  s.age.leaving.foldl (fun s u => s.endFence u.1 u.2.1 u.2.2) s

end Sys2Proof.Machine
end

