-- ==== Sys2Proof/Machine/Resets.lean ====
section
/-! DEFINITION. What a module reset, and a loss of power, does to the state at once (R10, R41, R52, R53, R58, R76 to R78,
R104, R107, R133, R692). -/

namespace Sys2Proof.Machine

/-- A register that a module reset leaves alone: persistent registers and their wear (R76, R104), CTL_SB_STATUS and
CTL_RESET_CAUSE (R61, R62, which the reset sets afresh), CTL_ALERT (R711), ERR_LAST_DEVICE (R631), the MCTP endpoint (R689),
the mark record (R416), the fence record with the engine remap table it carries (R273, R679, R687). -/
def keptReg (a : Nat) : Bool :=
  [A.bootCfg, A.bootSvn, A.pwrBootLimits, A.sbStatus, A.resetCause, A.alert, A.errLast0, A.errLast1, A.mctpStatus].contains a
  || (A.persWear 0 ≤ a && a < A.persWear 4096)
  || (A.fence0 0 ≤ a && a ≤ A.fenceLu 3)
  || (List.range 4).any (fun k => A.mxeRemap k 0 ≤ a && a ≤ A.mxeRemap k 15)
  || (List.range 4).any (fun k => (List.range 4).any (fun u => a = A.memEraseStat k u
      || (A.memEraseList k u 0 ≤ a && a ≤ A.memEraseList k u 31)))

/-- Every island except MGMT stops and loses its state, in POWER_HOLD (R128): registers return to their reset values but for those of keptReg and
the stored V-F record, memory is uninitialised, and nothing is queued, open, resident or cached. What the store was writing is whole
or absent. -/
def State.wipe (s : State) : State :=
  let s := s.settleStore
  let regs := s.regs.filter (fun e => keptReg e.1)
  let s := { s with
    regs := regs, mem := [], poison := [], undef := [{ lo := 0, hi := 0xC0300000000, gen := s.freeCtr, whole := false }],
    freeCtr := s.freeCtr + 1, ctl := Control.reset, err := Errors.reset, comp := Compute.reset, syn := Sync.reset,
    xlt := Xlt.reset, l2 := Cache.reset, memc := Mem.reset, lnt := Lantern.reset, fab := Fabric.reset, lnk := Links.reset, pwr := Power.reset,
    age := Ageing.reset, resv := [],
    mg := { s.mg with update := none, ctxDebug := [], nonce := none, sticky := 0, keys := [], trace := none, due := [] },
    board := { s.board with
      perst := true, refclkOut := false, trained := false, brakedLow := false, lossBrake := false, ccSvn := 0, stretch := [],
      stateFrom := if s.readiness = 0 then s.board.stateFrom else s.now, towerRst := [], towerHad := [], ctxRst := [], unitRst := [] } }
  let s := s.board.nv.foldl (fun s e => s.wr e.1 e.2) s
  let s := s.setFlag A.mctpStatus F.mctpStatus_UPDATING false
  s.setFlds A.pwrCfg [(F.pwrCfg_CAP_W, s.fld A.pwrBootLimits F.pwrBootLimits_BOOT_CAP_W),
    (F.pwrCfg_SLEW_WPS, s.fld A.pwrBootLimits F.pwrBootLimits_BOOT_SLEW_WPS)]

/-- CTL_SB_STATUS after a module reset: the inputs' bits and GEO stay, the brake's and the trip's clear (R56, R61). -/
def State.clearSb (s : State) : State :=
  s.setFlds A.sbStatus [(F.sbStatus_BRAKED, 0), (F.sbStatus_BRAKE_STUCK, 0), (F.sbStatus_THERM_TRIPPED, 0),
    (F.sbStatus_BRAKE_COUNT, 0)]

/-- A module reset begins (R77, t = 0): POWER_HOLD, the cause written, alert bit 4 cleared (R711), THERM_L released (R57). -/
def State.beginModuleReset (s : State) (cause : Nat) : State :=
  let s := s.wipe
  let s := s.clearSb
  let s := s.setFlds A.resetCause [(F.resetCause_CAUSE, cause), (F.resetCause_PIN_WIDTH_US, 0)]
  let v := (s.rd A.alert).toNat
  let s := s.wr A.alert (BitVec.ofNat 64 (putBit v 4 false))
  let s := { s with board := { s.board with
    modReset := some { cause := cause, locked := false, refWait := false, startTick := s.now },
    tripped := false, thermLow := false, refLost := false, brakedLow := false } }
  s.enter 0

/-- Every rail but MGMT's own goes down: all state but MGMT's is lost (R41, R58, R132, R133). -/
def State.railsDown (s : State) : State :=
  let s := s.wipe
  { s with board := { s.board with railRun := false, rails := 0, powered := false, modReset := none, refLost := false } }

end Sys2Proof.Machine
end

