-- ==== Sys2Proof/Machine/Faults.lean ====
section
/-! DEFINITION. Faults, recoveries and their escalation (R604 to R618): what every unit does when an operation fails. -/

namespace Sys2Proof.Machine

/-- Start of a recovery. -/
def State.addRecovery (s : State) (r : Recovery) : State :=
  let s := { s with err := { s.err with recov := s.err.recov ++ [{ r with since := s.now }] } }
  if r.tower < 4 then s.showRecovery r.tower else s

/-- End of the recoveries that a test picks. -/
def State.endRecovery (s : State) (p : Recovery → Bool) : State :=
  let s := { s with err := { s.err with recov := s.err.recov.filter (fun r => !p r) } }
  (List.range 4).foldl (fun s k => s.showRecovery k) s

/-- A module reset that a device recovery starts copies its record into ERR_LAST_DEVICE first (R617). -/
def State.deviceReset (s : State) (r : RecordReq) : State :=
  let ws := recordWords s r (s.fld (errQSeq r.queue) F.errQSeqT_NEXT_SEQ)
  let s := s.record r
  let s := s.wr A.errLast0 (BitVec.ofNat 64 (ws.getD 0 0))
  let s := s.wr A.errLast1 (BitVec.ofNat 64 (ws.getD 5 0))
  s.beginModuleReset 6

/-- Step 1 of a device recovery (R617): every running queue stops, every beam pauses, every running group halts; movers,
lantern units and collectives start nothing more while ERR_DEV_STATE is not 0. -/
def State.quiesce (s : State) (cls st : Nat) : State :=
  let qs := (s.syn.queues.map (·.1)).filter (fun q => s.qState q = 1)
  let bs := (List.range 4).filter (fun k => 1 ≤ s.beamState k && s.beamState k ≤ 3)
  let gs := s.comp.cores.flatMap (fun e => (e.2.slots.filter (fun g => s.slotState (e.1 / 64) (e.1 % 64) g.1 = 1)).map
    (fun g => (e.1 / 64, e.1 % 64, g.1)))
  let s := qs.foldl (fun s q => s.requestStop q []) s
  let s := bs.foldl (fun s k => s.pauseBeam k) s
  let s := gs.foldl (fun s g => s.haltGroup g.1 g.2.1 g.2.2 1) s
  let s := { s with err := { s.err with quiesced := some { queues := qs, beams := bs, groups := gs } } }
  s.setFlds A.errDevState [(F.errDevState_STATE, st), (F.errDevState_CLASS, cls)]

/-- A device recovery is in progress or held. -/
def State.deviceStopped (s : State) : Bool := s.fld A.errDevState F.errDevState_STATE ≠ 0

/-- A queue that the device recovery stopped runs on from its next entry (R617). -/
def State.resumeQueue (s : State) (q : Nat) : State :=
  match s.queue? q with
  | some v => if s.qState q = 2 || s.qState q = 3 then (s.setQueue q { v with stop := none }).setQState q 1 else s
  | none => s

/-- A recovery at a level begins with its action (R604): 1 the queue stops at the entry, 2 context reset, 3 tower reset,
4 device recovery, 5 module reset. -/
def State.runLevel (s : State) (level : Nat) (r : RecordReq) : State :=
  match level with
  | 1 => match r.owner with
    | some { entry := some (q, n), .. } => s.failEntry q n 2
    | _ => s
  | 2 => match r.owner with
    | some o => if s.board.ctxRst.any (fun e => e.1 = o.ctx) then s else s.beginCtxReset o.ctx none
    | none => s
  | 3 => if s.board.towerRst.any (fun e => e.1 = r.queue) then s else s.beginTowerReset r.queue none
  | 4 => if s.deviceStopped then s else s.quiesce r.cls 1
  | _ => s.deviceReset { r with queue := 4, domain := 4, action := 10 }

/-- ACTION of a recovery level (R604, R630). -/
def levelAction (level : Nat) : Nat := match level with | 0 => 5 | 1 => 6 | 2 => 7 | 3 => 8 | 4 => 9 | _ => 10

/-- The instance of a recovery level: queue, context, tower. -/
def levelUnit (level : Nat) (r : RecordReq) : Nat :=
  match level, r.owner with
  | 0, _ => r.unit
  | 1, some { entry := some (q, _), .. } => q
  | 2, some o => o.ctx
  | 3, _ => r.queue
  | _, _ => 0

/-- A fault contained at a level (R604, R607): its record, then its recovery. A reset it needs in eclipse mode is deferred
(R618). -/
def State.contain (s : State) (level related : Nat) (r : RecordReq) : State :=
  let rec5 := level = 5
  let id := s.nextRecordId r.queue
  let s := if rec5 then s
    else s.record { r with domain := min 4 level, action := levelAction level, related := related }
  let defer := 2 ≤ level && s.eclipse
  let v : Recovery := { level := level, unit := levelUnit level r, opref := r.opref, owner := r.owner, tower := r.queue,
                        cls := r.cls, own := none, related := id, deferred := defer, bounded := true }
  if rec5 then s.runLevel 5 { r with related := related }
  else
    let s := s.addRecovery v
    let s := if defer then s else s.runLevel level r
    match level, r.owner with
    | 1, some { entry := some (q, _), .. } =>
      if s.qState q = 3 then s.endRecovery (fun x => x.level = 1 && x.unit = q) else s
    | _, _ => s

/-- The recovery in progress that a fault lies within, smallest first (R616). -/
def State.enclosing (s : State) (r : RecordReq) : Option Recovery :=
  let own (v : Recovery) : Bool :=
    match v.level with
    | 0 => v.unit = r.unit && v.opref = r.opref && v.owner = r.owner
    | 1 => match r.owner with | some { entry := some (q, _), .. } => v.unit = q | _ => false
    | 2 => match r.owner with | some o => v.unit = o.ctx | none => false
    | 3 => v.unit = r.queue
    | _ => true
  (List.range 5).findSome? (fun l => s.err.recov.find? (fun v => v.level = l && own v))

/-- A recovery escalates by one level because of a second fault or its bound (R616): its own record is written first when it
is still to come (R621), then the escalation's. -/
def State.escalate (s : State) (v : Recovery) (r : RecordReq) : State :=
  let s := s.endRecovery (fun x => x = v)
  let (s, related) := match v.own with
    | some o => (s.record o, s.nextRecordId o.queue)
    | none => (s, v.related)
  let hasEntry := match r.owner with | some o => o.entry.isSome | none => false
  let next := if v.level = 0 then (if hasEntry then 1 else 2) else v.level + 1
  s.contain next related { r with escal := true }

/-- An operation fails (R607, R612, R613): within a recovery in progress it escalates that; otherwise its record is written
and its entry is marked, which begins the queue's recovery. -/
def State.opFail (s : State) (r : RecordReq) : State :=
  match s.enclosing r with
  | some v => s.escalate v r
  | none =>
    let id := s.nextRecordId r.queue
    let s := s.record { r with domain := 0, action := 5 }
    match r.owner with
    | some { entry := some (q, n), .. } =>
      if ((s.queue? q).bind (·.entry? n)).isSome then
        let s := s.markEntry q n 2
        s.addRecovery { level := 1, unit := q, opref := r.opref, owner := r.owner, tower := r.queue, cls := r.cls, own := none,
                        related := id, deferred := false, bounded := false }
      else s
    | _ => s

/-- An operation's recovery begins (R604, R611, R614); own is its record, written when it resolves. -/
def State.opRecover (s : State) (own : Option RecordReq) (r : RecordReq) (related : Nat) (bounded : Bool) : State :=
  s.addRecovery { level := 0, unit := r.unit, opref := r.opref, owner := r.owner, tower := r.queue, cls := r.cls, own := own,
                  related := related, deferred := false, bounded := bounded }

/-- An operation's recovery resolves: its record is written (R621). -/
def State.opResolve (s : State) (unit opref : Nat) (o : Option Owner) : State :=
  let p (v : Recovery) : Bool := v.level = 0 && v.unit = unit && v.opref = opref && v.owner = o
  match s.err.recov.find? p with
  | some v =>
    let s := s.endRecovery p
    match v.own with | some r => s.record r | none => s
  | none => s

/-- An entry itself fails with a cause (R523, R607: queue domain). -/
def State.entryFault (s : State) (q n cause : Nat) (r : RecordReq) : State :=
  match s.enclosing r with
  | some v => s.escalate v r
  | none =>
    let id := s.nextRecordId r.queue
    let s := s.record { r with domain := 1, action := 6 }
    let s := s.addRecovery { level := 1, unit := q, opref := r.opref, owner := r.owner, tower := r.queue, cls := r.cls,
                             own := none, related := id, deferred := false, bounded := false }
    let s := s.failEntry q n cause
    if s.qState q = 3 then s.endRecovery (fun x => x.level = 1 && x.unit = q) else s

/-- A fault of a context, a tower or the device (R607). -/
def State.levelFault (s : State) (level : Nat) (r : RecordReq) : State :=
  match (s.err.recov.find? (fun v => level ≤ v.level && (match v.level with
      | 2 => (match r.owner with | some o => v.unit = o.ctx | none => false)
      | 3 => v.unit = r.queue
      | _ => true))) with
  | some v => s.escalate v r
  | none => s.contain level 0 r

/-- An error that is recorded and starts no recovery (R605): poison, marks, repairs. -/
def State.note (s : State) (domain action : Nat) (r : RecordReq) : State :=
  s.record { r with domain := domain, action := action }

/-- The record a command's failure writes, and its ERROR reply with the record's identifier (R97, R612). -/
def State.commandFail (s : State) (n : Nat) (r : RecordReq) : State :=
  let id := s.nextRecordId r.queue
  let s := s.record { r with domain := 0, action := 5 }
  s.reply n St.error [id]

/-- An injection of a class on a unit for a context is used up, if one is armed (R625). -/
def State.takeInjected (s : State) (cls unit ctx : Nat) : State × Bool :=
  match s.armedAt cls unit ctx 0 with
  | some i => (s.disarm i, true)
  | none => (s, false)

/-- Context and tower resets that recoveries had deferred run on the return of main power, before any unit resumes (R618). -/
def State.runDeferred (s : State) : State :=
  (s.err.recov.filter (·.deferred)).foldl (fun s v =>
    let s := s.endRecovery (fun x => x = v)
    let s := s.addRecovery { v with deferred := false }
    s.runLevel v.level { queue := v.tower, cls := v.cls, domain := v.level, action := levelAction v.level, owner := v.owner,
                         opref := v.opref }) s

/-! Errors of the slices (R367). -/

/-- A sector of a slice that its check cannot correct: marked, counted and recorded for the requester (R367). -/
def State.l2Hit (s : State) (key a : Nat) (o : Option Owner) (injected : Bool) : State :=
  (s.l2Poison key a).note 0 4
    { queue := key / 32, cls := 0x19, domain := 0, action := 4, owner := o, unit := unitSlice key, addr := a, injected := injected }

/-- What a slice's check finds on a read of n bytes: errors injected (R625), and sectors it holds that have gone bad (R367). -/
def State.l2Find (s : State) (pa n : Nat) (o : Option Owner) : State :=
  if s.err.armed.isEmpty && s.l2.weak.isEmpty then s
  else (sectorsOf pa n).foldl (fun s a =>
    match s.homeKey a with
    | some key =>
      match s.armedAt 0x19 (unitSlice key) 0 a with
      | some i => (s.disarm i).l2Hit key a o true
      | none => if s.l2.weak.contains a then s.l2Hit key a o false else s
    | none => s) s

/-- Sectors that a slice holds go bad: the next check of any reader finds them. -/
def State.l2Upset (s : State) (key : Nat) (bad : List Nat) : State :=
  let held (a : Nat) : Bool := a % 64 = 0 && s.homeKey a = some key && !s.l2.weak.contains a &&
    (isPinnedLine (a / 128) || ((s.slice key).find (a / 128)).any (fun l => bitsOf l.valid (a % 128) 64 ≠ 0))
  if bad.isEmpty then s else { s with l2 := { s.l2 with weak := s.l2.weak ++ (bad.filter held).eraseDups } }

end Sys2Proof.Machine
end

