-- ==== Sys2Proof/Machine/Scratch.lean ====
section
/-! DEFINITION. Scratchpads (R340 to R345) and the holds of tiles (R155): tile descriptors as far as their ranges go, reads and
writes of a scratchpad, error detection. -/

namespace Sys2Proof.Machine

/-! Tile descriptors (R149). -/

/-- Word i of a descriptor. -/
def TileDesc.word (d : TileDesc) (i : Nat) : Nat := d.w.getD i 0
/-- OPC of a descriptor. -/
def TileDesc.opc (d : TileDesc) : Nat := bitsOf (d.word 0) 0 8
/-- FMT_A. -/
def TileDesc.fmtA (d : TileDesc) : Nat := bitsOf (d.word 0) 8 8
/-- FMT_B. -/
def TileDesc.fmtB (d : TileDesc) : Nat := bitsOf (d.word 0) 16 8
/-- FMT_C. -/
def TileDesc.fmtC (d : TileDesc) : Nat := bitsOf (d.word 0) 24 8
/-- RND. -/
def TileDesc.rnd (d : TileDesc) : Nat := bitsOf (d.word 0) 32 2
/-- SAT. -/
def TileDesc.satBit (d : TileDesc) : Bool := bit (d.word 0) 34
/-- ANCHOR_SRC. -/
def TileDesc.anchorSrc (d : TileDesc) : Bool := bit (d.word 0) 35
/-- SIG_EN. -/
def TileDesc.sigEn (d : TileDesc) : Bool := bit (d.word 0) 36
/-- EXPL_E. -/
def TileDesc.explE (d : TileDesc) : Int := sext 16 (bitsOf (d.word 0) 48 16)
/-- M, rows of A and C. -/
def TileDesc.m (d : TileDesc) : Nat := bitsOf (d.word 1) 0 9
/-- N, columns of B and C. -/
def TileDesc.n (d : TileDesc) : Nat := bitsOf (d.word 1) 16 9
/-- K, the reduction length. -/
def TileDesc.k (d : TileDesc) : Nat := bitsOf (d.word 1) 32 14
/-- SCALE_REC. -/
def TileDesc.scaleRec (d : TileDesc) : Nat := bitsOf (d.word 1) 48 14
/-- ADDR of array i: 2 A, 3 B, 4 C, 5 SA, 6 SB. -/
def TileDesc.addr (d : TileDesc) (i : Nat) : Nat := bitsOf (d.word i) 0 25
/-- LD of array i. -/
def TileDesc.ld (d : TileDesc) (i : Nat) : Nat := bitsOf (d.word i) 32 25
/-- SIGNAL. -/
def TileDesc.signal (d : TileDesc) : Nat := bitsOf (d.word 7) 0 16
/-- C = C + A × B. -/
def TileDesc.accum (d : TileDesc) : Bool := d.opc = 2
/-- A split tile (R164). -/
def TileDesc.split (d : TileDesc) : Bool := isSliced d.fmtA
/-- Planes of a split operand, 1 otherwise. -/
def TileDesc.planes (d : TileDesc) : Nat := if d.split then sliceCount (d.fmtA = 0x0E) else 1
/-- Bytes of n packed elements of a format. -/
def rowBytes (code n : Nat) : Nat := ceilDiv (n * storeBits code) 8

/-- The range of array i in its scratchpad, as offset and length (R155); none when the tile does not use it (R150). -/
def TileDesc.range (d : TileDesc) (i : Nat) : Option (Nat × Nat) :=
  match i with
  | 2 => some (d.addr 2, d.m * d.ld 2 * d.planes)
  | 3 => some (d.addr 3, d.k * d.ld 3 * d.planes)
  | 4 => some (d.addr 4, d.m * d.ld 4)
  | 5 => if d.split then some (d.addr 5, 2 * d.m) else if isMx d.fmtA then some (d.addr 5, d.m * d.ld 5) else none
  | _ => if d.split then some (d.addr 6, 2 * d.n) else if isMx d.fmtB then some (d.addr 6, d.k / 32 * d.ld 6) else none

/-- The ranges a tile holds from acceptance to commit (R155). -/
def TileDesc.held (d : TileDesc) : List (Nat × Nat) :=
  [2, 3, 5, 6].filterMap d.range ++ (if d.accum then [(d.addr 4, d.m * d.ld 4)] else [])

/-- Two ranges share a byte. -/
def meets (a b : Nat × Nat) : Bool := decide (a.1 < b.1 + b.2) && decide (b.1 < a.1 + a.2)

/-! Cluster ownership (R697). -/

/-- Cluster m is owned exclusively by another context. -/
def State.foreignCluster (s : State) (m ctx : Nat) : Bool :=
  s.flag (A.clusterOwn m) F.clusterOwn_EXCL && s.fld (A.clusterOwn m) F.clusterOwn_CONTEXT ≠ ctx

/-- An address of another context's exclusive cluster: a translated access to it takes an access fault. -/
def State.foreign (s : State) (pa ctx : Nat) : Bool :=
  match windowOf pa with
  | (.scratch m, _) => s.foreignCluster m ctx
  | _ => false

/-! Holds. -/

/-- The engine, as 17 * k + e, and its tile that holds a byte of a range of cluster cl's scratchpad (R155). A draining tile's own
holds do not stop it: it is the oldest of its engine. -/
def State.holdingTile (s : State) (cl off n : Nat) (who : Issuer) : Option (Nat × Tile) :=
  s.comp.tiles.findSome? (fun e =>
    let ts := match who with
      | .engine k x => if e.1 = 17 * k + x then e.2.drop 1 else e.2
      | _ => e.2
    (ts.find? (fun t => t.cluster = cl && t.desc.held.any (fun r => meets r (off, n)))).map (fun t => (e.1, t)))

/-- The engine at whose hold a write to a range stalls. -/
def State.holder (s : State) (cl off n : Nat) (who : Issuer) : Option Nat := (s.holdingTile cl off n who).map (·.1)

/-! Units and owners of issuers, for records. -/

/-- Unit code of an issuer (R630). -/
def Issuer.unit : Issuer → Nat
  | .thread k c g _ => unitGroup k c g
  | .beam k => unitSeq k
  | .engine k e => unitMxe k e
  | .vxe k x => unitVxe k x
  | .mover k m => unitMover k m
  | .lantern n => unitLnt n
  | .host => unitCode 14 0 0 0 0
  | .peer q => unitCode 14 0 0 q 0
  | .cc => unitCode 15 0 0 0 0
  | .fabric => unitCode 12 0 0 0 0
  | .coll k c => unitCode 12 k 0 c 0
  | .entry .. => 0

/-! Errors of scratchpad words (R345). -/

/-- An uncorrectable word is detected: its line is marked, counted and recorded in the operation domain of the reading unit. -/
def State.spDetect (s : State) (line : Nat) (who : Issuer) (o : Option Owner) (injected : Bool) : State :=
  if s.poison.contains line then s
  else
    match windowOf line with
    | (.lntBuf u, _) =>
      ((s.setPoison line true).bump (lntCnt u 4) 1).note 0 4
        { queue := lntTower u, cls := 0x1B, domain := 0, action := 4, owner := o, unit := who.unit, addr := line, injected := injected }
    | _ =>
      let m := (line - spBase 0) / 0x2000000
      let s := (s.setPoison line true).bump (A.tcSpCntUncorr (m / 4) (m % 4)) 1
      s.note 0 4 { queue := m / 4, cls := 0x1A, domain := 0, action := 4, owner := o, unit := who.unit, addr := line, injected := injected }

/-- A single-bit error of a word is corrected, in the store too, and counted. -/
def State.spCorrect (s : State) (w : Nat) : State :=
  let m := (8 * w - spBase 0) / 0x2000000
  let s := { s with comp := { s.comp with badWords := Assoc.del s.comp.badWords w } }
  match windowOf (8 * w) with
  | (.lntBuf u, _) => s.bump (lntCnt u 5) 1
  | _ => s.bump (A.tcSpCntCorr (m / 4) (m % 4)) 1

/-- A word that an access meets has its error corrected or detected. -/
def State.spMeet (s : State) (who : Issuer) (o : Option Owner) (e : Nat × Bool) : State :=
  if e.2 then s.spDetect (e.1 / 8 * 64) who o false else s.spCorrect e.1

/-- A read of bytes of a scratchpad or a lantern buffer by any agent finds the errors of their words and any injection armed on its
unit (R345, R443). -/
def State.spFind (s : State) (pa n : Nat) (who : Issuer) (o : Option Owner) : State :=
  if s.comp.badWords.isEmpty && s.err.armed.isEmpty then s
  else (sectorsOf pa n).foldl (fun s a =>
    let s : State := match s.armedAt (match windowOf a with | (.lntBuf _, _) => 0x1B | _ => 0x1A) who.unit 0 a with
      | some i => (s.disarm i).spDetect a who o true
      | none => s
    (s.comp.badWords.filter (fun e => a / 64 = e.1 / 8 && 8 * e.1 < pa + n && pa < 8 * e.1 + 8)).foldl (fun s e => s.spMeet who o e) s) s

/-- Scratchpad bytes stored: whole words lose a stored error, those of words written in part are met by the write's own read;
poisoned bytes mark their lines (R345). -/
def State.spStore (s : State) (pa : Nat) (bs : List Byte) (poison : Bool) (who : Issuer) (o : Option Owner) : State :=
  if s.comp.badWords.isEmpty then
    let s := s.wrBytes pa bs
    if poison then (sectorsOf pa bs.length).foldl (fun s a => s.setPoison a true) s else s
  else
  let n := bs.length
  let inWord (w : Nat) : Bool := decide (8 * w < pa + n) && decide (pa < 8 * w + 8)
  let whole (w : Nat) : Bool := decide (pa ≤ 8 * w) && decide (8 * w + 8 ≤ pa + n)
  let part := s.comp.badWords.filter (fun e => inWord e.1 && !whole e.1)
  let s := { s with comp := { s.comp with badWords := s.comp.badWords.filter (fun e => !whole e.1) } }
  let s := part.foldl (fun s e => s.spMeet who o e) s
  let s := s.wrBytes pa bs
  if poison then (sectorsOf pa n).foldl (fun s a => s.setPoison a true) s else s

/-- Bits of words have flipped where they are stored: one in each word of singles, two in each of doubles. -/
def State.spUpset (s : State) (singles doubles : List Nat) : State :=
  let l := singles.foldl (fun l a => if (Assoc.get? l (a / 8)).isSome then l else Assoc.set l (a / 8) false) s.comp.badWords
  { s with comp := { s.comp with badWords := doubles.foldl (fun l a => Assoc.set l (a / 8) true) l } }

/-! Writes against holds (R155, R156, R358). -/

/-- The engine and tile at whose hold a write of some chunks stalls: it stalls whole when any byte of it is held (R155). -/
def State.writeHeld (s : State) (who : Issuer) (cl : Nat) (w : List Chunk) : Option (Nat × Tile) :=
  w.findSome? (fun c => s.holdingTile cl (c.1 - spBase cl) (max 1 c.2.1.length) who)

/-- The operation whose writes an engine makes: its oldest tile, or the chain whose pass streams or has streamed. -/
def State.writer (s : State) (who : Issuer) : Option (Nat × WorkSrc × Nat) :=
  match who with
  | .engine k e => ((s.tilesOf k e)[0]?).map (fun t => (k, t.src, unitMxe k e))
  | .vxe k x => ((s.chainsOf k x).find? (·.closed)).map (fun c => (k, c.src, unitVxe k x))
  | _ => none

/-- A write stalls at the hold of tile t: that taints a beam's operation when the tile is a thread's or of an earlier stretch
(R246). -/
def State.stallTaints (s : State) (who : Issuer) (t : Tile) : State :=
  match s.writer who with
  | some (k, src, u) => if s.outside k t.src then s.taint k src u else s
  | none => s

/-- Writes made in order until one meets a hold, which stalls whole with all after it; true when a stall began. Writes of one ARRAY
cycle are made in the order of R343: MX0 to MX3, VX0, VX1, side plane (log entry 204). -/
def State.spWrite (s : State) (who : Issuer) (o : Owner) (item cl : Nat) : List (List Chunk) → State × Bool
  | [] => (s, false)
  | w :: rest =>
    match s.writeHeld who cl w with
    | some (e, t) =>
      let s := s.stallTaints who t
      ({ s with comp := { s.comp with stalls := s.comp.stalls ++
          [{ who := who, owner := o, item := item, cl := cl, eng := e, chunks := w :: rest }] } }, true)
    | none => (w.foldl (fun s c => s.spStore c.1 c.2.1 c.2.2 who (some o)) s).spWrite who o item cl rest

/-- A stalled write takes up again: it writes on until it meets a hold again; true when all of it is written. -/
def State.resumeStall (s : State) (w : Stall) : State × Bool :=
  let s := { s with comp := { s.comp with stalls := s.comp.stalls.erase w } }
  let (s, stalled) := s.spWrite w.who w.owner w.item w.cl w.chunks
  (s, !stalled)

/-- The unit has a stalled write. -/
def State.stalled (s : State) (who : Issuer) : Bool := s.comp.stalls.any (fun w => w.who = who)

/-- A mover's writes to a scratchpad go behind those of the same descriptor that stand stalled there. -/
def State.spWriteBehind (s : State) (who : Issuer) (o : Owner) (item cl : Nat) (ws : List (List Chunk)) : State :=
  match who, s.comp.stalls.find? (fun w => w.who = who && w.item = item && w.cl = cl) with
  | .mover .., some w =>
    { s with comp := { s.comp with stalls := s.comp.stalls.map (fun x => if x = w then { x with chunks := x.chunks ++ ws } else x) } }
  | _, _ => (s.spWrite who o item cl ws).1

/-- Bytes of cluster cl's scratchpad. -/
def State.spBytesAt (s : State) (cl off n : Nat) : List Byte := s.rdBytes (spBase cl + off) n

end Sys2Proof.Machine
end

