-- ==== Sys2Proof/Machine/SoftFloat.lean ====
section
/-! DEFINITION. IEEE 754-2019 arithmetic on exact values (R303, R286, R450 to R452): rounding with its flags, sums, products,
quotients, square roots, and correctly rounded elementary functions. A result that is not exact carries one extra low bit,
so that it rounds as the true value does. -/

namespace Sys2Proof.Machine

/-! Exact kernels. -/

/-- Newton's descent to the integer square root. -/
def isqrtFrom (n : Nat) : Nat → Nat → Nat
  | 0, x => x
  | k + 1, x => let y := (x + n / x) / 2; if y < x then isqrtFrom n k y else x

/-- floor of the square root. -/
def isqrt (n : Nat) : Nat := if n = 0 then 0 else isqrtFrom n (Nat.log2 n + 4) (2 ^ (Nat.log2 n / 2 + 1))

/-- A value known as m * 2^e and either exact or a little above it. -/
def sticky (neg : Bool) (m : Nat) (e : Int) (exact : Bool) : Dy :=
  if exact then ⟨neg, m, e⟩ else ⟨neg, 2 * m + 1, e - 1⟩

/-- The quotient a / b of magnitudes, b not 0, to at least 200 bits. -/
def divDy (a b : Dy) : Dy :=
  if a.m = 0 then ⟨a.neg != b.neg, 0, 0⟩
  else
    let k := 200 + Nat.log2 b.m
    let n := a.m * 2 ^ k
    sticky (a.neg != b.neg) (n / b.m) (a.e - b.e - k) (n % b.m = 0)

/-- The square root of a magnitude, to at least 200 bits. -/
def sqrtDy (a : Dy) : Dy :=
  if a.m = 0 then a
  else
    let k : Nat := 400 + (if (a.e % 2 = 0) then 0 else 1)
    let n := a.m * 2 ^ k
    let r := isqrt n
    sticky false r ((a.e - k) / 2) (r * r = n)

/-- The reciprocal square root of a magnitude that is not 0, to at least 200 bits. -/
def rsqrtDy (a : Dy) : Dy :=
  let odd := a.e % 2 ≠ 0
  let m := if odd then 2 * a.m else a.m
  let e := if odd then a.e - 1 else a.e
  let k := 2 * (220 + Nat.log2 m)
  let n := 2 ^ k / m
  let r := isqrt n
  sticky false r (-(e / 2) - (k / 2 : Nat)) (r * r * m = 2 ^ k)

/-- floor(x * 2^240) for x = 2^(2^-(i+1)), i rising, and the product of those that the bits of f (below 2^240) pick. -/
def exp2Bits (f : Nat) : Nat → Nat → Nat → Nat
  | 0, _, acc => acc
  | n + 1, r, acc =>
    let r' := isqrt (r * 2 ^ 240)
    exp2Bits f n r' (if f.testBit n then acc * r' / 2 ^ 240 else acc)

/-- 2^x of a finite value: exact for whole x, else to about 200 bits. -/
def exp2Dy (x : Dy) : Dy :=
  let n : Int := if 0 ≤ x.e then x.int * (2 : Int) ^ x.e.toNat else x.int / (2 : Int) ^ (-x.e).toNat
  let exact := decide (0 ≤ x.e) || decide (x.int % (2 : Int) ^ (-x.e).toNat = 0)
  if exact then ⟨false, 1, n⟩
  else
    let t := -x.e
    let r : Nat := (x.int % (2 : Int) ^ t.toNat).toNat
    let f := if t ≤ 220 then r * 2 ^ (220 - t).toNat else r / 2 ^ (t - 220).toNat
    sticky false (exp2Bits f 220 (2 * 2 ^ 240) (2 ^ 240)) (n - 240) false

/-- n bits of log2 of m / 2^p, 1 <= m / 2^p < 2, by squaring. -/
def log2Bits (p : Nat) : Nat → Nat → Nat → Nat
  | 0, _, acc => acc
  | n + 1, m, acc =>
    let q := m * m / 2 ^ p
    if 2 ^ (p + 1) ≤ q then log2Bits p n (q / 2) (2 * acc + 1) else log2Bits p n q (2 * acc)

/-- log2 of a positive value: exact for a power of two, else to about 220 bits after the point. -/
def log2Dy (x : Dy) : Dy :=
  let l := Nat.log2 x.m
  let e : Int := l + x.e
  if x.m = 2 ^ l then Dy.ofInt e 0
  else
    let p := 520 + l
    let f := log2Bits p 240 (x.m * 2 ^ (p - l)) 0
    let v : Int := e * 2 ^ 240 + f
    let w := 2 * v + 1
    Dy.ofInt w (-241)

/-! Rounding modes and flags of RISC-V's F and D (R303). -/

/-- Rounding modes: to nearest even, toward zero, down, up, to nearest with ties away. -/
inductive RMode where
  | rne | rtz | rdn | rup | rmm
  deriving DecidableEq, Repr, Inhabited

/-- Accrued exception bits: NV 16, DZ 8, OF 4, UF 2, NX 1. -/
abbrev FFlags := Nat

/-- A magnitude rounded to whole units of 2^ue, and whether that was inexact. -/
def roundMode (v : Dy) (ue : Int) (rm : RMode) : Nat × Bool :=
  let k := ue - v.e
  if k ≤ 0 then (v.m * 2 ^ (-k).toNat, false)
  else
    let d := 2 ^ k.toNat
    let n := v.m / d
    let r := v.m % d
    let up := match rm with
      | .rne => decide (2 * r > d) || (decide (2 * r = d) && n % 2 = 1)
      | .rtz => false
      | .rdn => v.neg && r ≠ 0
      | .rup => !v.neg && r ≠ 0
      | .rmm => decide (2 * r ≥ d)
    (if up then n + 1 else n, r ≠ 0)

/-- An exact value rounded into a format with infinities, under a mode: the encoding and the flags OF, UF, NX. Tininess is
judged after rounding, as RISC-V does. -/
def roundIeee (f : Fmt) (v : Dy) (rm : RMode) : Nat × FFlags :=
  if v.m = 0 then (f.zeroBits v.neg, 0)
  else
    let u := spacing v f
    let (n, nx) := roundMode v u rm
    if f.maxFinite.absLt ⟨false, n, u⟩ then
      let fin := match rm with | .rtz => true | .rdn => !v.neg | .rup => v.neg | _ => false
      (if fin then bound f v.neg else f.infBits v.neg, 5)
    else
      let free := roundMode v (v.flog - f.mant) rm
      let tiny := decide (v.flog < f.emin) && decide ((Nat.log2 free.1 : Int) + (v.flog - f.mant) < f.emin)
      (f.encode v.neg n u, if nx then (if tiny then 3 else 1) else 0)

/-- A number rounded to nearest even into a format with infinities, flags apart. -/
def Num.toFmt (f : Fmt) (x : Num) : Nat :=
  match x with
  | .nan => f.defaultNan
  | .inf s => f.infBits s
  | .fin d => (roundIeee f d .rne).1

/-! Operations on numbers, exact; NaN for the invalid ones. -/

/-- Sign of a number; a NaN has none. -/
def Num.negate : Num → Num
  | .nan => .nan
  | .inf s => .inf (!s)
  | .fin d => .fin d.negate

/-- x + y; the sign of an exact zero sum of unlike signs is minus only in rounding down. -/
def Num.add (x y : Num) (rm : RMode := .rne) : Num :=
  match x, y with
  | .nan, _ => .nan
  | _, .nan => .nan
  | .inf s, .inf t => if s = t then .inf s else .nan
  | .inf s, _ => .inf s
  | _, .inf t => .inf t
  | .fin a, .fin b =>
    let c := a.add b
    if c.m = 0 then .fin ⟨if a.m = 0 && b.m = 0 && a.neg = b.neg then a.neg else decide (rm = .rdn), 0, 0⟩
    else .fin c

/-- x * y. -/
def Num.mul (x y : Num) : Num :=
  match x, y with
  | .nan, _ => .nan
  | _, .nan => .nan
  | .inf s, .inf t => .inf (s != t)
  | .inf s, .fin d => if d.m = 0 then .nan else .inf (s != d.neg)
  | .fin d, .inf s => if d.m = 0 then .nan else .inf (s != d.neg)
  | .fin a, .fin b => .fin (a.mul b)

/-- x / y. -/
def Num.div (x y : Num) : Num :=
  match x, y with
  | .nan, _ => .nan
  | _, .nan => .nan
  | .inf _, .inf _ => .nan
  | .inf s, .fin d => .inf (s != d.neg)
  | .fin d, .inf s => .fin ⟨d.neg != s, 0, 0⟩
  | .fin a, .fin b => if b.m = 0 then (if a.m = 0 then .nan else .inf (a.neg != b.neg)) else .fin (divDy a b)

/-- The square root. -/
def Num.sqrt (x : Num) : Num :=
  match x with
  | .nan => .nan
  | .inf s => if s then .nan else .inf false
  | .fin d => if d.m = 0 then .fin d else if d.neg then .nan else .fin (sqrtDy d)

/-- 1 / x, with infinities for zeros. -/
def Num.recip (x : Num) : Num := Num.div (.fin ⟨false, 1, 0⟩) x

/-- 1 / sqrt x by clause 9.2: +inf or -inf for zeros of that sign, +0 for +inf, NaN below zero. -/
def Num.rsqrt (x : Num) : Num :=
  match x with
  | .nan => .nan
  | .inf s => if s then .nan else .fin ⟨false, 0, 0⟩
  | .fin d => if d.m = 0 then .inf d.neg else if d.neg then .nan else .fin (rsqrtDy d)

/-- 2^x: +0 for -inf. A value beyond the exponents of every format keeps only its side. -/
def Num.exp2 (x : Num) : Num :=
  match x with
  | .nan => .nan
  | .inf s => if s then .fin ⟨false, 0, 0⟩ else .inf false
  | .fin d =>
    if d.m = 0 then .fin ⟨false, 1, 0⟩
    else if 12 ≤ d.flog then .fin (if d.neg then ⟨false, 1, -5000⟩ else ⟨false, 1, 5000⟩)
    else .fin (exp2Dy d)

/-- log2 x: -inf for zeros, NaN below zero. -/
def Num.log2 (x : Num) : Num :=
  match x with
  | .nan => .nan
  | .inf s => if s then .nan else .inf false
  | .fin d => if d.m = 0 then .inf true else if d.neg then .nan else .fin (log2Dy d)

/-- x < y of numbers that are not NaNs. -/
def Num.lt (x y : Num) : Bool :=
  match x, y with
  | .nan, _ => false
  | _, .nan => false
  | .inf s, .inf t => s && !t
  | .inf s, .fin _ => s
  | .fin _, .inf t => !t
  | .fin a, .fin b => a.lt b

/-- x = y of numbers that are not NaNs; zeros are equal. -/
def Num.eqv (x y : Num) : Bool :=
  match x, y with
  | .nan, _ => false
  | _, .nan => false
  | .inf s, .inf t => s = t
  | .fin a, .fin b => a.eqv b
  | _, _ => false

/-- A NaN. -/
def Num.isNan : Num → Bool | .nan => true | _ => false

/-- IEEE 754-2019 maximum: a NaN gives NaN, and +0 is above -0. -/
def Num.maximum (x y : Num) : Num :=
  if x.isNan || y.isNan then .nan
  else if x.lt y then y
  else if y.lt x then x
  else match x with | .fin d => if d.m = 0 && d.neg then y else x | _ => x

/-- IEEE 754-2019 minimum. -/
def Num.minimum (x y : Num) : Num :=
  if x.isNan || y.isNan then .nan
  else if x.lt y then x
  else if y.lt x then y
  else match x with | .fin d => if d.m = 0 && !d.neg then y else x | _ => x

end Sys2Proof.Machine
end

