-- ==== Sys2Proof/Machine/Streams.lean ====
section
/-! DEFINITION. Rows of elements as bytes: packing (R162, R276), MX blocks (R187, R288), line-sized chunks. Shared by tensor
movers, vector engines and lantern units. -/

namespace Sys2Proof.Machine

/-- Elements packed in order as bytes: 4-bit elements two a byte, the even one low (R162). -/
def packRow (code : Nat) : List Nat → List Byte
  | [] => []
  | v :: vs =>
    if storeBits code = 4 then
      match vs with
      | [] => [BitVec.ofNat 8 (v % 16)]
      | w :: rest => BitVec.ofNat 8 (v % 16 + 16 * (w % 16)) :: packRow code rest
    else leBytes (storeBits code / 8) v ++ packRow code vs

/-- Element i of packed bytes; MXFP6's upper bits are ignored (R162). -/
def unpackAt (code : Nat) (bs : List Byte) (i : Nat) : Nat :=
  let w := storeBits code
  if w = 4 then bitsOf (bs.getD (i / 2) 0).toNat (4 * (i % 2)) 4
  else
    let v := leNat ((bs.drop (i * (w / 8))).take (w / 8))
    if code = 0x08 || code = 0x09 then v % 64 else v

/-- Element i of packed bytes as a number of its format. -/
def numAt (code : Nat) (bs : List Byte) (i : Nat) : Num :=
  match fmtOf code with
  | some f => f.decode (unpackAt code bs i)
  | none => .nan

/-- A number times two to a block's scale; none is a NaN scale (R187). -/
def Num.scaled (x : Num) (sc : Option Int) : Num :=
  match sc, x with
  | none, _ => .nan
  | some e, .fin d => .fin (d.scale e)
  | _, x => x

/-- emax of an MX element format (R288). -/
def mxEmax (code : Nat) : Int :=
  match code with
  | 0x06 => 8 | 0x07 => 15 | 0x08 => 2 | 0x09 => 4 | 0x0A => 2 | _ => 0

/-- A block of elements in an MX format (R288): its scale byte, its elements' encodings, and what the out-of-range counter
gains, to which the elements named in pads add nothing (R350). -/
def mxBlock (code : Nat) (rnd : Rnd) (xs : List Num) (pads : List Bool := []) : Nat × List Nat × Nat :=
  let odd (x : Num) : Bool := match x with | .fin _ => false | _ => true
  let special := xs.any odd
  let counted {α : Type} (p : α → Bool) (l : List α) : Nat :=
    (List.range l.length).countP (fun i => !pads.getD i false && (match l[i]? with | some x => p x | none => false))
  let top := xs.foldl (fun (m : Option Int) x => match x with
    | .fin d => if d.m = 0 then m else match m with | none => some d.flog | some t => some (max t d.flog)
    | _ => m) none
  if special then (0xFF, xs.map (fun _ => 0), min 1 (counted odd xs))
  else
    match top, fmtOf code with
    | some t, some f =>
      let e := max (-127) (min 127 (t - mxEmax code))
      let cs := xs.map (fun x => convert (x.scaled (some (-e))) f rnd true)
      ((e + 127).toNat, cs.map (·.1), counted (·.2) cs)
    | _, some f => (0x7F, xs.map (fun x => (convert x f rnd true).1), 0)
    | _, none => (0x7F, xs.map (fun _ => 0), 0)

/-- Bytes with their marks cut at 64-byte lines, from an address on. -/
def lineChunks (pa : Nat) (bs : List (Byte × Bool)) : Nat → List (Nat × List Byte × Bool)
  | 0 => []
  | f + 1 =>
    if bs.isEmpty then []
    else
      let n := 64 - pa % 64
      let here := bs.take n
      (pa, here.map (·.1), here.any (·.2)) :: lineChunks (pa + here.length) (bs.drop n) f

/-- Chunks of bytes of one mark. -/
def chunksOf (pa : Nat) (bs : List (Byte × Bool)) : List (Nat × List Byte × Bool) := lineChunks pa bs (bs.length / 64 + 2)

/-- Bytes cut into the writes of a port that carries n bytes a cycle. -/
def portWrites (n pa : Nat) (bs : List (Byte × Bool)) : List (List Chunk) :=
  (List.range (ceilDiv bs.length n)).map (fun i => chunksOf (pa + n * i) ((bs.drop (n * i)).take n))

/-- Groups of n in order. -/
def groupsOf {α : Type} (n : Nat) (l : List α) : Nat → List (List α)
  | 0 => []
  | f + 1 => if l.isEmpty then [] else l.take n :: groupsOf n (l.drop n) f

end Sys2Proof.Machine
end

