-- ==== Sys2Proof/Machine/Translate.lean ====
section
/-! DEFINITION. Address translation (R471 to R482): the caches, the walk, the checks of an entry, and the fault. -/

namespace Sys2Proof.Machine

/-- The context is open (R473). -/
def State.ctxOpen (s : State) (c : Nat) : Bool := s.flag (A.xltRoot c) F.xltRoot_OPEN

/-- ACCESS code of a fault (R499). -/
def AccessKind.code : AccessKind → Nat
  | .read => 0 | .write => 1 | .atomic => 2 | .fetch => 3 | .reduce => 4 | .lantern => 5

/-- The permissions that an access needs are in a leaf (R481). -/
def permits (leaf : Nat) : AccessKind → Bool
  | .read | .lantern => bit leaf 2
  | .write | .reduce => bit leaf 3
  | .atomic => bit leaf 2 && bit leaf 3
  | .fetch => bit leaf 4

/-- POLICY of a leaf. -/
def leafPolicy (leaf : Nat) : Nat := bitsOf leaf 6 2
/-- LC of a leaf: its reads are latency-critical (R421). -/
def leafCrit (leaf : Nat) : Bool := bit leaf 5
/-- RED of a leaf. -/
def leafRed (leaf : Nat) : Nat := bitsOf leaf 8 4

/-- An effective address of 64 bits is valid (R472). -/
def vaValid (ea : Nat) : Bool := let t := bitsOf ea 56 8; t = 0 || t = 255

/-! Caches: lists with the most recently used first. -/

/-- The runs a cache holds. -/
def State.xcache (s : State) : XCache → List XEntry
  | .cluster m => Assoc.getD s.xlt.cluster m []
  | .base k => Assoc.getD s.xlt.base k []

/-- The runs of a cache replaced. -/
def State.setXcache (s : State) (c : XCache) (l : List XEntry) : State :=
  match c with
  | .cluster m => { s with xlt := { s.xlt with cluster := Assoc.put s.xlt.cluster m l [] } }
  | .base k => { s with xlt := { s.xlt with base := Assoc.put s.xlt.base k l [] } }

/-- The runs of a tower cache. -/
def State.xtower (s : State) (k : Nat) : List XEntry := Assoc.getD s.xlt.tower k []
/-- The runs of a tower cache replaced. -/
def State.setXtower (s : State) (k : Nat) (l : List XEntry) : State :=
  { s with xlt := { s.xlt with tower := Assoc.put s.xlt.tower k l [] } }

/-- A run covers an address of a context. -/
def XEntry.covers (e : XEntry) (ctx va : Nat) : Bool := e.ctx = ctx && va / 2 ^ e.span = e.va / 2 ^ e.span
/-- The physical address a run gives (R478). -/
def XEntry.target (e : XEntry) (va : Nat) : Nat := e.pa + va % 2 ^ e.span

/-- A run put first, the same run once only, at most n runs. -/
def putRun (n : Nat) (l : List XEntry) (e : XEntry) : List XEntry :=
  (e :: l.filter (fun x => !(x.ctx = e.ctx && x.va = e.va && x.span = e.span))).take n

/-- A run put into a tower cache: 4,096 entries are kept for READ_MOSTLY, the other 12,288 displace one another (R479, R493). -/
def putTowerRun (l : List XEntry) (e : XEntry) : List XEntry :=
  let l := e :: l.filter (fun x => !(x.ctx = e.ctx && x.va = e.va && x.span = e.span))
  let k := (l.filter (·.kept)).take 4096
  let o := (l.filter (fun x => !x.kept)).take 12288
  l.filter (fun x => if x.kept then k.contains x else o.contains x)

/-- Runs a cache holds at most (R479). -/
def XCache.size : XCache → Nat | .cluster _ => 1024 | .base _ => 2048

/-- A run installed in the cache that asked and in its tower's cache. -/
def State.installRun (s : State) (c : XCache) (e : XEntry) : State :=
  let s := s.setXcache c (putRun c.size (s.xcache c) e)
  s.setXtower c.tower (putTowerRun (s.xtower c.tower) e)

/-- Every run that covers an address leaves the cache that asked and its tower's (R481). -/
def State.dropRun (s : State) (c : XCache) (ctx va : Nat) : State :=
  let s := s.setXcache c ((s.xcache c).filter (fun e => !e.covers ctx va))
  s.setXtower c.tower ((s.xtower c.tower).filter (fun e => !e.covers ctx va))

/-- Advice of a context that covers an address holds a kind (R493). -/
def State.advised (s : State) (ctx va kind : Nat) : Bool :=
  s.xlt.advice.any (fun a => a.ctx = ctx && a.va ≤ va && va < a.va + a.len && bit a.kinds kind)

/-- A lookup (R479): the cache that asks first, then its tower's; a hit in the tower's cache installs. -/
def State.xlookup (s : State) (c : XCache) (ctx va : Nat) : State × Option XEntry :=
  let s := s.bump (A.xltCntLookup c.tower) 1
  match (s.xcache c).find? (·.covers ctx va) with
  | some e => (s.setXcache c (putRun c.size (s.xcache c) e), some e)
  | none =>
    match (s.xtower c.tower).find? (·.covers ctx va) with
    | some e => (s.installRun c e, some e)
    | none => (s.bump (A.xltCntMiss c.tower) 1, none)

/-! Walks (R475 to R480). -/

/-- What a walk comes to: a run, a fault (kind, level, entry), or the next level and entry address. -/
inductive WalkOut where
  | run (e : XEntry)
  | fault (kind level entry : Nat)
  | next (level addr : Nat)
  | blocked
  deriving DecidableEq, Repr

/-- Lowest address bit that a level's index takes (R475). -/
def levelShift (l : Nat) : Nat := 12 + 9 * l

/-- Where a walk begins: at the deepest pointer the walk cache holds for the address, else at the root; RANGE beyond the
root's span (R475, R479). -/
def State.walkStart (s : State) (k ctx va : Nat) : WalkOut :=
  let root := s.rd (A.xltRoot ctx)
  if 2 ^ F.xltRoot_ROOT_LOG2.get root ≤ va / 2 ^ 39 then .fault 4 3 0
  else
    let ps := (Assoc.getD s.xlt.pointers k []).filter (fun p => p.ctx = ctx && va / 2 ^ p.span = p.va / 2 ^ p.span)
    match [0, 1, 2].findSome? (fun l => ps.find? (fun p => p.level = l)) with
    | some p => .next p.level (p.base + va / 2 ^ levelShift p.level % 512 * 8)
    | none => .next 3 (F.xltRoot_ROOT.get root * 4096 + va / 2 ^ 39 * 8)

/-- An entry judged at its level (R476 to R478); run and fault as its walk's end, next as its pointer. -/
def State.judgeEntry (s : State) (ctx va level ent : Nat) : WalkOut :=
  let leaf := bit ent 1
  let ppn := bitsOf ent 12 40
  let run := bitsOf ent 52 4
  if !bit ent 0 then .fault 1 level ent
  else if bitsOf ent 56 8 ≠ 0 then .fault 3 level ent
  else if leaf = (level = 3) && (level = 3 || level = 0) then .fault 3 level ent
  else if leaf then
    let sh := levelShift level
    let span := sh + run
    let pa := ppn * 4096
    if 9 < run || pa % 2 ^ sh ≠ 0 || pa % 2 ^ span ≠ va / 2 ^ sh * 2 ^ sh % 2 ^ span then .fault 3 level ent
    else .run { ctx := ctx, va := va / 2 ^ span * 2 ^ span, span := span, pa := pa / 2 ^ span * 2 ^ span, leaf := ent,
                kept := s.advised ctx va 2, evict := s.advised ctx va 4 }
  else if bitsOf ent 2 10 ≠ 0 || run ≠ 0 || !s.tierRange (ppn * 4096) 4096 then .fault 3 level ent
  else .next (level - 1) (ppn * 4096 + va / 2 ^ levelShift (level - 1) % 512 * 8)

/-- One entry read by a tower's walker as a class-1 read through its home slice (R480). -/
def State.walkStep (s : State) (k ctx va level addr : Nat) : State × WalkOut :=
  let (s, ok) := s.clearLines addr 8 false
  if !ok || !s.pathOpen (.tower k) (s.owningDie addr) addr then (s, .blocked)
  else
    let s := ((s.l2Find addr 8 (some { ctx := ctx, entry := none })).homeRead addr 8 0).bump (A.xltCntWalk k) 1
    if s.poisoned addr 8 then (s, .fault 5 level (s.rd64 addr))
    else
      let out := s.judgeEntry ctx va level (s.rd64 addr)
      match out with
      | .next l a =>
        let sh := levelShift level
        let p : XPointer := { ctx := ctx, level := l, va := va / 2 ^ sh * 2 ^ sh, span := sh, base := a / 4096 * 4096 }
        let old := (Assoc.getD s.xlt.pointers k []).filter (fun x => !(x.ctx = ctx && x.level = l && x.va = p.va))
        ({ s with xlt := { s.xlt with pointers := Assoc.set s.xlt.pointers k ((p :: old).take 512) } }, out)
      | _ => (s, out)

/-- A walk to its end, at most four entries. -/
def State.walkOn (s : State) (k ctx va : Nat) : Nat → WalkOut → State × WalkOut
  | 0, o => (s, o)
  | n + 1, .next l a => let (s, o) := s.walkStep k ctx va l a; s.walkOn k ctx va n o
  | _, o => (s, o)

/-- A walk made at once. -/
def State.walkAll (s : State) (k ctx va : Nat) : State × WalkOut := s.walkOn k ctx va 4 (s.walkStart k ctx va)

/-! Accesses. -/

/-- A range meets a run or pointer span. -/
def overlaps (va len lo span : Nat) : Bool := decide (lo < va + len) && decide (va < lo + span)

/-- A migration of the context covers part of a range. -/
def State.migrating (s : State) (ctx va len : Nat) : Bool :=
  s.xlt.migrates.any (fun m => m.mode = 1 && m.ctx = ctx && overlaps m.va m.len va len)

/-- Accesses that wait at their translation cache while a migration covers their page (R489 step 1). -/
def AccessKind.writes : AccessKind → Bool
  | .write | .atomic | .reduce => true
  | .read | .fetch | .lantern => false

/-- A store that lacks its permission in a leaf with a reduction entry was a reduce write (R499, R387). -/
def AccessKind.shown (acc : AccessKind) (kind ent : Nat) : AccessKind :=
  if acc = .write && kind = 2 && leafRed ent ≠ 0 then .reduce else acc

/-- A translation fault is counted and shown (R482, R499); its record is the caller's. -/
def State.showXltFault (s : State) (k ctx va : Nat) (acc : AccessKind) (agent kind level ent : Nat) : State :=
  let acc := acc.shown kind ent
  let a := A.xltFault ctx
  let s := s.bump (A.xltCntFault k) 1
  let s := s.setFlds a [(F.xltFault_KIND, kind), (F.xltFault_LEVEL, level), (F.xltFault_ACCESS, acc.code), (F.xltFault_AGENT, agent)]
  let s := s.bumpFld a F.xltFault_COUNT 1
  s.setFld (A.xltFaultVa ctx) F.xltFaultVa_VA va

/-- The record of a translation fault (R482, R630): the address, kind and level in DETAIL's place of its class, the entry in
AUX. -/
def xltRecord (k va entry : Nat) (o : Option Owner) (unit opref : Nat) : RecordReq :=
  { queue := k, cls := 0x10, domain := 0, action := 5, owner := o, unit := unit, opref := opref, addr := va, aux := entry }

/-- What a translation comes to. -/
inductive XOut where
  | ok (e : XEntry)
  | fault (kind level entry : Nat)
  | wait
  deriving DecidableEq, Repr

/-- A walk's end for an access: the run is installed and its permission judged (R481). -/
def State.endWalk (s : State) (c : XCache) (acc : AccessKind) (o : WalkOut) : State × XOut :=
  match o with
  | .run e =>
    let s := s.installRun c e
    if permits e.leaf acc then (s, .ok e) else (s, .fault 2 (if e.span < 21 then 0 else if e.span < 30 then 1 else 2) e.leaf)
  | .fault k l e => (s, .fault k l e)
  | _ => (s, .wait)

/-- A translation whose walk, if it needs one, is made at once: for movers, lantern units, arrivals and commands. One that must wait
leaves what its walk has read, and looks up anew. -/
def State.translate (s : State) (c : XCache) (ctx va : Nat) (acc : AccessKind) : State × XOut :=
  if acc.writes && s.migrating ctx va 1 then (s, .wait)
  else
    let (u, hit) := s.xlookup c ctx va
    let walk (u : State) : State × XOut :=
      match u.walkAll c.tower ctx va with
      | (_, .next ..) | (_, .blocked) => ((s.walkAll c.tower ctx va).1, .wait)
      | (u, o) => u.endWalk c acc o
    match hit with
    | some e =>
      if permits e.leaf acc then (u, .ok e) else walk ((u.dropRun c ctx va).bump (A.xltCntRewalk c.tower) 1)
    | none => walk u

/-- A walk of a command, which takes no fault (R482, R488): the run that maps an address. -/
def State.probe (s : State) (k ctx va : Nat) : State × Option XEntry :=
  match s.walkAll k ctx va with
  | (s, .run e) => (s, some e)
  | (s, _) => (s, none)

/-- A walk asks for an access already. -/
def Walk.asked (w : Walk) (c : XCache) (acc : AccessKind) (unit : Nat) : Bool :=
  (w.cache = c && w.acc = acc && w.unit = unit) || w.joined.any (fun j => j.cache = c && j.acc = acc && j.unit = unit)

/-- A thread's miss, or its missing permission: it joins the walk of its page that its tower's walker makes, or begins one; a tower
has 64 in flight (R479). -/
def State.startWalk (s : State) (c : XCache) (ctx va : Nat) (acc : AccessKind) (agent : Nat) (o : Option Owner) (unit : Nat)
    (miss : Bool) : State × XOut :=
  match s.xlt.walks.find? (fun w => w.tower = c.tower && w.ctx = ctx && w.va / 4096 = va / 4096) with
  | some w =>
    let j : WalkAsker := { cache := c, acc := acc, owner := o, unit := unit, miss := miss }
    (if w.asked c acc unit then s
     else { s with xlt := { s.xlt with walks := s.xlt.walks.map (fun x => if x = w then { w with joined := w.joined ++ [j] } else x) } }, .wait)
  | none =>
    match s.walkStart c.tower ctx va with
    | .next l a =>
      let w : Walk := { tower := c.tower, cache := c, ctx := ctx, va := va, acc := acc, agent := agent, level := l, addr := a,
                        began := s.fld (A.xltEpoch ctx) F.xltEpoch_ISSUED, owner := o, unit := unit, miss := miss }
      (if 64 ≤ (s.xlt.walks.filter (fun w => w.tower = c.tower)).length then s
       else { s with xlt := { s.xlt with walks := s.xlt.walks ++ [w] } }, .wait)
    | .fault k l e => (if miss then (s.bump (A.xltCntLookup c.tower) 1).bump (A.xltCntMiss c.tower) 1 else s, .fault k l e)
    | _ => (s, .wait)

/-- A thread's translation (R471, R479, R481): a hit, a fault that its walk has come to, or a wait for the walk. The lookup counts
when the access goes on (R500). -/
def State.translateThread (s : State) (m ctx va : Nat) (acc : AccessKind) (o : Option Owner) (unit : Nat) : State × XOut :=
  let c := XCache.cluster m
  let ended := s.xlt.faults.find? (fun f => f.cache = c && f.ctx = ctx && f.va / 4096 = va / 4096 && f.acc = acc && f.unit = unit)
  let missed (s : State) : State := if ended.any (·.miss) then s.bump (A.xltCntMiss c.tower) 1 else s
  if acc.writes && s.migrating ctx va 1 then (s, .wait)
  else
    match ended.filter (fun f => f.kind ≠ 0) with
    | some f => (missed (s.bump (A.xltCntLookup c.tower) 1), .fault f.kind f.level f.entry)
    | none =>
      let (u, hit) := s.xlookup c ctx va
      match hit with
      | some e =>
        if permits e.leaf acc then (missed u, .ok e)
        else ((s.dropRun c ctx va).bump (A.xltCntRewalk c.tower) 1).startWalk c ctx va acc 0 o unit false
      | none => s.startWalk c ctx va acc 0 o unit true

/-- What a walk came to, kept for an access that asked (R482). -/
def State.walkEnded (s : State) (w : Walk) (c : XCache) (acc : AccessKind) (unit : Nat) (miss : Bool) (kind level ent : Nat) : State :=
  { s with xlt := { s.xlt with faults := s.xlt.faults ++
      [{ cache := c, ctx := w.ctx, va := w.va, acc := acc, kind := kind, level := level, entry := ent, record := 0, unit := unit, miss := miss }] } }

/-- A walk ends in a fault for all that asked. -/
def State.walkFails (s : State) (w : Walk) (kind level ent : Nat) : State :=
  w.askers.foldl (fun s j => s.walkEnded w j.cache j.acc j.unit j.miss kind level ent) s

/-- A walk ends at a run for all that asked: each cache installs it, and each access has its permission judged (R481). -/
def State.walkLands (s : State) (w : Walk) (e : XEntry) : State :=
  w.askers.foldl (fun s j =>
    match s.endWalk j.cache j.acc (.run e) with
    | (s, .fault kind level ent) => s.walkEnded w j.cache j.acc j.unit j.miss kind level ent
    | (s, _) => s.walkEnded w j.cache j.acc j.unit j.miss 0 0 0) s

/-- XLT_WALK: walk i of tower k reads its next entry and goes on, installs its run, or faults (R480 to R482). Every walk of the tower
that its run covers ends with it (R479). -/
def State.walkTick (s : State) (k i : Nat) : State :=
  match (s.xlt.walks.filter (fun w => w.tower = k))[i]? with
  | none => s
  | some w =>
    let (s, o) := s.walkStep k w.ctx w.va w.level w.addr
    match o with
    | .next l a => { s with xlt := { s.xlt with walks := s.xlt.walks.map (fun x => if x = w then { w with level := l, addr := a } else x) } }
    | .blocked => s
    | .fault kind level ent => { s with xlt := { s.xlt with walks := s.xlt.walks.erase w } }.walkFails w kind level ent
    | .run e =>
      let met (x : Walk) : Bool := x.tower = k && e.covers x.ctx x.va
      (s.xlt.walks.filter met).foldl (fun s x => s.walkLands x e) { s with xlt := { s.xlt with walks := s.xlt.walks.filter (fun x => !met x) } }

/-- XLT_WALK. -/
def execXltWalk (k i : Nat) (s : State) : Res := onUnit (k < 4) (s.walkTick k i)

/-! Invalidation (R484, R485). -/

/-- The entries of a list that an invalidation covers go; the answer counts them. -/
def dropRange {β : Type} (p : β → Bool) (l : List (Nat × List β)) : List (Nat × List β) × Nat :=
  (dropXlt l p, (l.map (fun e => (e.2.filter p).length)).foldl (· + ·) 0)

/-- Every cache drops the entries of a context that an invalidation covers, counting them by tower. -/
def State.invalidate (s : State) (e : Epoch) : State :=
  let hitE (x : XEntry) : Bool := x.ctx = e.ctx && (e.all || overlaps e.va e.len x.va (2 ^ x.span))
  let hitP (x : XPointer) : Bool := x.ctx = e.ctx && (e.all || overlaps e.va e.len x.va (2 ^ x.span))
  let s := (List.range 4).foldl (fun s k =>
    let own := (List.range 4).foldl (fun n j => n + ((s.xcache (.cluster (4 * k + j))).filter hitE).length) 0
    let n := own + ((s.xcache (.base k)).filter hitE).length + ((s.xtower k).filter hitE).length
      + ((Assoc.getD s.xlt.pointers k []).filter hitP).length
    s.bump (A.xltCntInval k) n) s
  { s with xlt := { s.xlt with cluster := dropXlt s.xlt.cluster hitE, base := dropXlt s.xlt.base hitE,
                               tower := dropXlt s.xlt.tower hitE, pointers := dropXlt s.xlt.pointers hitP,
                               faults := s.xlt.faults.filter (fun f => !(f.ctx = e.ctx && (e.all || overlaps e.va e.len f.va 1))) } }

/-- An access of a context on its way to its home whose address an invalidation covers. -/
def State.inFlight (s : State) (e : Epoch) : Bool :=
  let hit (r : HomeReq) : Bool := r.owner.ctx = e.ctx && (e.all || overlaps e.va e.len r.va (max 1 r.len))
  s.l2.flying.any hit || s.l2.slices.any (fun c => c.2.waiting.any hit || c.2.misses.any (fun m => m.reqs.any hit))

/-- A new epoch of a context is issued (R484). -/
def State.issueEpoch (s : State) (ctx va len : Nat) (all : Bool) (done chan : Option Nat) (towers : Nat) : State × Nat :=
  let e := (s.fld (A.xltEpoch ctx) F.xltEpoch_ISSUED + 1) % 2 ^ 32
  let s := s.setFld (A.xltEpoch ctx) F.xltEpoch_ISSUED e
  let x : Epoch := { ctx := ctx, e := e, va := va, len := len, all := all, done := done, chan := chan,
                     tail := [], towers := towers }
  ({ s with xlt := { s.xlt with epochs := s.xlt.epochs ++ [x] } }, e)

/-- A run installed in every cluster cache of a tower, and in its tower cache. -/
def State.installTower (s : State) (k : Nat) (e : XEntry) : State :=
  (List.range 4).foldl (fun s j => s.installRun (.cluster (4 * k + j)) e) s

/-! The tables as they stand, for commands (R480, R488, R493). -/

/-- The leaf that maps an address, from an entry on, as the tables stand: its level, its address and its value (R475 to R478). -/
def State.leafFrom (s : State) (ctx va : Nat) : Nat → Nat → Nat → Option (Nat × Nat × Nat)
  | 0, _, _ => none
  | n + 1, level, addr =>
    let ent := s.rd64 addr
    if s.poisoned addr 8 then none
    else
      match s.judgeEntry ctx va level ent with
      | .run _ => some (level, addr, ent)
      | .next l a => s.leafFrom ctx va n l a
      | _ => none

/-- The addresses of the entries that a walk for an address reads, from one on. -/
def State.pathFrom (s : State) (ctx va : Nat) : Nat → Nat → Nat → List Nat
  | 0, _, _ => []
  | n + 1, level, addr =>
    addr :: (match s.judgeEntry ctx va level (s.rd64 addr) with
      | .next l a => s.pathFrom ctx va n l a
      | _ => [])

/-- The root entry of an address, when the root spans it. -/
def State.rootEntry (s : State) (ctx va : Nat) : Option Nat :=
  let root := s.rd (A.xltRoot ctx)
  if 2 ^ F.xltRoot_ROOT_LOG2.get root ≤ va / 2 ^ 39 then none else some (F.xltRoot_ROOT.get root * 4096 + va / 2 ^ 39 * 8)

/-- The leaf that maps an address of a context. -/
def State.leafAt (s : State) (ctx va : Nat) : Option (Nat × Nat × Nat) := (s.rootEntry ctx va).bind (s.leafFrom ctx va 4 3)

/-- The lines of the entries that the walks of a range read, page by page. -/
def State.tableLines (s : State) (ctx hi va : Nat) : Nat → List Nat
  | 0 => []
  | n + 1 =>
    if hi ≤ va then []
    else
      let next := match s.leafAt ctx va with | some (l, _, _) => (va / 2 ^ levelShift l + 1) * 2 ^ levelShift l | none => va + 4096
      (match s.rootEntry ctx va with | some a => (s.pathFrom ctx va 4 3 a).map (· / 128) | none => []) ++ s.tableLines ctx hi next n

/-- A range's tables are read as they stand in L2 (R480): false while a host copy of one of their lines is recalled. -/
def State.tablesClear (s : State) (ctx va len : Nat) : State × Bool :=
  (s.tableLines ctx (va + len) va (len / 4096)).eraseDups.foldl (fun (r : State × Bool) l =>
    let (s, ok) := r.1.clearLines (l * 128) 8 false
    (s, r.2 && ok)) (s, true)

/-- ACCESSED_BY (R493): the walker of a tower walks a range, from an address on, and installs its runs; the answer counts the
pages skipped. -/
def State.accessedBy (s : State) (ctx k va len : Nat) : Nat → Nat → State × Nat
  | 0, bad => (s, bad)
  | n + 1, bad =>
    if len = 0 then (s, bad)
    else
      match s.probe k ctx va with
      | (s, some e) =>
        let step := 2 ^ e.span - va % 2 ^ e.span
        (s.installTower k e).accessedBy ctx k (va + step) (len - step) n bad
      | (s, none) => s.accessedBy ctx k (va + 4096) (len - 4096) n (bad + 1)

/-- The named towers walk in turn; each skips the same pages. -/
def State.accessedByTowers (s : State) (ctx towers va len : Nat) : State × Nat :=
  (List.range 4).foldl (fun (r : State × Nat) k =>
    if towers.testBit k then r.1.accessedBy ctx k va len (len / 4096) 0 else r) (s, 0)

/-- The oldest epoch of a context completes (R485): its entries drop, DONE advances, its object is signalled, and its waiting
command replies. -/
def State.completeEpoch (s : State) (x : Epoch) : State :=
  let s := s.invalidate x
  let s := { s with xlt := { s.xlt with epochs := s.xlt.epochs.erase x } }
  let s := s.setFld (A.xltEpoch x.ctx) F.xltEpoch_DONE x.e
  let s := match x.done with | some o => s.signalDone (some x.ctx) o | none => s
  let (s, tail) :=
    if x.towers = 0 then (s, x.tail)
    else
      let r := s.accessedByTowers x.ctx x.towers x.va x.len
      (r.1, [r.2])
  match x.chan with | some ch => s.reply ch St.ok (x.e :: tail) | none => s

/-- What R485 asks before the oldest epoch of a context may complete; for ACCESSED_BY, its walkers reach the tables. -/
def State.epochReady (s : State) (x : Epoch) : Bool :=
  !s.inFlight x && (List.range 4).all (fun k => !x.towers.testBit k ||
    (s.tableLines x.ctx (x.va + x.len) x.va (x.len / 4096)).all (fun l => s.pathOpen (.tower k) (s.owningDie (l * 128)) (l * 128)))
    && !s.xlt.walks.any (fun w => w.ctx = x.ctx && (x.e + 2 ^ 32 - w.began) % 2 ^ 32 - 1 < 2 ^ 31 && w.began ≠ x.e)

/-- XLT_EPOCH_COMPLETE. -/
def execXltEpochComplete (ctx : Nat) (s : State) : Res :=
  onUnit (ctx < 256)
    (match s.xlt.epochs.find? (fun x => x.ctx = ctx) with
     | some x =>
       if !s.epochReady x then s
       else if x.towers = 0 then s.completeEpoch x
       else
         let (u, ok) := s.tablesClear x.ctx x.va x.len
         if ok then s.completeEpoch x else u
     | none => s)

/-- Epochs of a context issued and not completed. -/
def State.epochsOpen (s : State) (ctx : Nat) : Nat := (s.xlt.epochs.filter (fun x => x.ctx = ctx)).length

/-- XLT_INVALIDATE (0x0300, R484). -/
def execXltInvalidate (ch : Nat) (p : Packet) (s : State) : Res :=
  cmd ch 0x300 p s fun s =>
    let w0 := pword p 0
    let c := bitsOf w0 0 8
    let all := bit w0 8
    let va := pword p 1
    let len := pword p 2
    let obj := bitsOf w0 16 16
    s.orFail ch (checkWords p [0xFFFF07FF, 2 ^ 64 - 1, 2 ^ 64 - 1]) fun s =>
    s.orFail ch (firstFail
      [(if all then decide (va ≠ 0 ∨ len ≠ 0)
        else decide (va % 4096 ≠ 0 ∨ len % 4096 ≠ 0 ∨ len < 4096 ∨ 2 ^ 57 < len ∨ 2 ^ 57 < va + len), St.invalid),
        (!s.ctxOpen c, St.notFound),
        (bit w0 10 && !s.objBoundTo obj c, St.notFound),
        (decide (16 ≤ s.epochsOpen c), St.busy) ]) fun s =>
    let wait := bit w0 9
    let (s, e) := s.issueEpoch c va len all (if bit w0 10 then some obj else none) (if wait then some ch else none) 0
    if wait then s else s.reply ch St.ok [e]

/-- XLT_EPOCH_STATUS (0x0301, R486). -/
def execXltEpochStatus (ch : Nat) (p : Packet) (s : State) : Res :=
  cmd ch 0x301 p s fun s =>
    let c := bitsOf (pword p 0) 0 8
    let e := bitsOf (pword p 1) 0 32
    let issued := s.fld (A.xltEpoch c) F.xltEpoch_ISSUED
    let done := s.fld (A.xltEpoch c) F.xltEpoch_DONE
    let d := (e + 2 ^ 32 - done) % 2 ^ 32
    s.orFail ch (checkWords p [0xFF, 0xFFFFFFFF]) fun s =>
    if !s.ctxOpen c then s.reply ch St.notFound
    else if d = 0 || 2 ^ 31 ≤ d then s.reply ch St.ok [issued, done]
    else if d ≤ (issued + 2 ^ 32 - done) % 2 ^ 32 then s.reply ch St.epochPending [issued, done]
    else s.reply ch St.invalid [issued, done]

end Sys2Proof.Machine
end

