-- ==== Sys2Proof/Machine/Access.lean ====
section
/-! DEFINITION. Accesses by physical address of the agents that wait for them (R29, R30, R33, R353, R443, R477, R547): the
judgement of a window, reads, and writes at the owner. -/

namespace Sys2Proof.Machine

/-- An access of n bytes faults by its physical address (R30, R90, R443, R477): reserved or unpopulated space, control space,
the object window, a store to a program area. -/
def State.physFaults (s : State) (pa n : Nat) (isWrite : Bool) : Bool :=
  let (w, o) := windowOf pa
  !s.rangeIn pa n ||
    (match w with
     | .control | .objects | .reserved => true
     | .lntBuf _ => isWrite && decide (0x3F000 < o + n)
     | _ => false)

/-- What an access comes to: its bytes and their mark, a fault, or a wait: for a host copy, a miss entry, or a link that retrains. -/
inductive PhysOut where
  | ok (bs : List Byte) (poison : Bool)
  | fault
  | wait
  deriving DecidableEq, Repr

/-- A store into a lantern unit's work area spoils a started request whose areas it meets (R444). -/
def State.spoil (s : State) (unit off n : Nat) : State :=
  let u := s.lunit unit
  if u.queue.any (fun r => r.started && r.areas.any (fun a => meets a (off, n))) then
    s.setLunit unit { u with queue := u.queue.map (fun r =>
      if r.started && r.areas.any (fun a => meets a (off, n)) then { r with spoilt := true } else r) }
  else s

/-- A packet leaves on a PCIe port. -/
def State.sendTlp (s : State) (t : Tlp) : State := { s with lnk := { s.lnk with sent := t :: s.lnk.sent } }

/-- What port q took at its last link training (R555). -/
def State.portSet (s : State) (q : Nat) : PortSet := Assoc.getD s.lnk.ports q { p2p := false, out := 0, msi := 0 }

/-- The root port itself: bus 0, device 0, function 0 of its ECAM space (R547). Its registers are those of its standard. -/
def isRootPort (o : Nat) : Bool := o < 4096

/-- An outbound request on PCIe port q at offset o of its window (R547): ECAM below 256 MiB, memory space above. Poisoned bytes
leave with the poisoned indication, and a record in the device queue (R619). -/
def State.outbound (s : State) (q o len : Nat) (write : Bool) (bs : List Byte) (poison : Bool) : State :=
  if isRootPort o then s
  else
    let ecam := decide (o < 2 ^ 28)
    let addr := if ecam then o else (s.portSet q).out + (o - 2 ^ 28)
    let s := s.sendTlp { port := q, ecam := ecam, write := write, compl := false, ur := false, addr := addr, len := len, bytes := bs,
                         poison := poison }
    if write && poison then
      s.note 0 4 { queue := 4, cls := 0x12, domain := 0, action := 4, unit := unitCode 14 0 0 q 0,
                   addr := (0xF0000000000 + q * 0x4000000000 + o) / 64 * 64 }
    else s

/-- The port completes what is sent at offset o of its window: the link is up, or it is the root port's own (R547). -/
def State.portCompletes (s : State) (q o : Nat) : Bool := isRootPort o || s.flag (A.peStatus q) F.peStatus_UP

/-- A request that a port does not complete, or refuses, counts (R547, R548). -/
def State.countUr (s : State) (q : Nat) : State := s.bumpFld (A.peStatus q) F.peStatus_UR_COUNT 1

/-- n free bytes. -/
def State.freeBytes (s : State) : Nat → State × List Byte
  | 0 => (s, [])
  | n + 1 =>
    let (v, s) := s.free
    let (s, bs) := s.freeBytes n
    (s, BitVec.ofNat 8 v.toNat :: bs)

/-- A read of n bytes by physical address, by an agent that waits for it. -/
def State.physRead (s : State) (pa n : Nat) (who : Issuer) (o : Option Owner) (policy : Nat := 0) (evict : Bool := false) :
    State × PhysOut :=
  if s.physFaults pa n false then (s, .fault)
  else if !s.crosses who pa then (s, .wait)
  else
    match windowOf pa with
    | (.scratch _, _) | (.lntBuf _, _) =>
      let s := s.spFind pa n who o
      (s, .ok (s.rdBytes pa n) (s.poisoned pa n))
    | (.pcie q, off) =>
      if s.portCompletes q off then
        let s := s.outbound q off n false [] false
        let (s, bs) := s.freeBytes n
        (s, .ok bs false)
      else (s.countUr q, .ok (List.replicate n 0xFF) false)
    | _ =>
      let (s, ok) := s.clearLines pa n false
      if !ok then (s, .wait)
      else
        let s := (s.l2Find pa n o).homeRead pa n policy evict
        (s, .ok (s.rdBytes pa n) (s.poisoned pa n))

/-- A write by physical address at its owner; scratchpad chunks that meet a hold stall. -/
def State.physWrite (s : State) (pa : Nat) (bs : List Byte) (poison : Bool) (who : Issuer) (o : Owner) (policy : Nat := 0)
    (evict : Bool := false) (item : Nat := 0) : State × PhysOut :=
  let n := bs.length
  if s.physFaults pa n true then (s, .fault)
  else if !s.crosses who pa then (s, .wait)
  else
    match windowOf pa with
    | (.scratch cl, _) => (s.spWriteBehind who o item cl ((chunksOf pa (bs.map (·, poison))).map ([·])), .ok [] false)
    | (.lntBuf u, off) =>
      ((s.spStore pa bs poison who (some o)).spoil u off n, .ok [] false)
    | (.pcie q, off) =>
      if s.portCompletes q off then (s.outbound q off n true bs poison, .ok [] false)
      else (s.countUr q, .ok [] false)
    | _ =>
      let (s, ok) := s.clearLines pa n true
      if !ok then (s, .wait) else (s.homeWrite pa bs poison policy evict, .ok [] false)

/-- CC's own read, or a dispatcher's, of a range that it has found populated (R33, R392): false while a host copy of its lines is
awaited, or a link that it crosses does not carry traffic. -/
def State.ccRead (s : State) (pa n : Nat) (who : Issuer := .cc) : State × Bool :=
  let (s, ok) := s.clearLines pa n false
  if ok && (linePieces pa n).all (fun p => s.crosses who p.1) then ((s.l2Find pa n none).homeRead pa n 0, true) else (s, false)

/-- CC's reads of some ranges in order. -/
def State.ccReads (s : State) : List (Nat × Nat) → State × Bool
  | [] => (s, true)
  | r :: rest =>
    match s.ccRead r.1 r.2 with
    | (s, true) => s.ccReads rest
    | (s, false) => (s, false)

/-! Accesses by virtual address of the agents that wait for them. -/

/-- What an access by virtual address comes to: its bytes with their marks; a translation fault (kind, level, entry, address);
an access fault at a physical address; a wait for a host copy. -/
inductive VaOut where
  | ok (bs : List (Byte × Bool))
  | xlt (kind level entry va : Nat)
  | acc (pa : Nat)
  | wait
  deriving DecidableEq, Repr

/-- Pieces of a range that lie within one 4 KiB page each; virtual addresses wrap at 57 bits. -/
def pagePieces (va n : Nat) : List (Nat × Nat) :=
  if n = 0 then []
  else (rangeFrom (va / 4096) ((va + n - 1) / 4096 - va / 4096 + 1)).map (fun p =>
    let lo := max va (p * 4096)
    (lo % 2 ^ 57, min (va + n) ((p + 1) * 4096) - lo))

/-- A page piece resolved: its physical address, length and run. -/
abbrev Piece := Nat × Nat × XEntry

/-- The pieces of a range translated in order; the first fault ends it. -/
def State.resolve (s : State) (c : XCache) (ctx : Nat) (acc : AccessKind) : List (Nat × Nat) → State × (List Piece × VaOut)
  | [] => (s, [], .ok [])
  | (va, n) :: rest =>
    match s.translate c ctx va acc with
    | (s, .ok e) =>
      if s.foreign (e.target va) ctx then (s, [], .acc (e.target va))
      else
        let (s, ps, o) := s.resolve c ctx acc rest
        (s, (e.target va, n, e) :: ps, o)
    | (s, .fault kind level ent) => (s, [], .xlt kind level ent va)
    | (s, .wait) => (s, [], .wait)

/-- The marks of n bytes by their sectors. -/
def State.marks (s : State) (pa n : Nat) : List Bool := (List.range n).map (fun i => s.poison.contains ((pa + i) / 64 * 64))

/-- Resolved pieces read in order. -/
def State.readPieces (s : State) (who : Issuer) (o : Option Owner) : List Piece → State × VaOut
  | [] => (s, .ok [])
  | (pa, n, e) :: rest =>
    match s.physRead pa n who o (leafPolicy e.leaf) e.evict with
    | (s, .ok bs p) =>
      let ms := if p then s.marks pa n else List.replicate n false
      match s.readPieces who o rest with
      | (s, .ok more) => (s, .ok (bs.zip ms ++ more))
      | r => r
    | (s, .fault) => (s, .acc pa)
    | (s, .wait) => (s, .wait)

/-- An access whose translation must wait: the walk that waits goes on, and the access looks up anew. -/
def State.keepWalk (s : State) (c : XCache) (ctx : Nat) (acc : AccessKind) (l : List (Nat × Nat)) : State :=
  match (l.map (fun p => s.translate c ctx p.1 acc)).find? (fun r => match r.2 with | .wait => true | _ => false) with
  | some r => r.1
  | none => s

/-- A reduce write at its home, whose slice checks what it reads unless it refuses (R367, R387). -/
def State.redApply (s : State) (key pa ctx red : Nat) (bs : List Byte) (poison : Bool) (o : Option Owner) : RedOut :=
  (if s.redRefused key pa ctx red bs.length then s else s.l2Find pa bs.length o).reduceLine key pa ctx red bs poison

/-- The bytes a read asks its slice for: the line, when the L1 takes it. -/
def HomeReq.asks (r : HomeReq) : Nat × Nat := if r.l1 then (r.pa / 128 * 128, 128) else (r.pa, r.len)

/-- A reduce write begins to wait at its slice, under the limit in force (R390, R399). -/
def State.redWait (s : State) (key : Nat) (r : HomeReq) : State :=
  s.modSlice key (fun c => { c with waiting := c.waiting ++ [{ r with limit := s.fld (A.l2Cfg (key / 32)) F.l2Cfg_RED_STALL_LOG2 }] })

/-- A reduce write of a unit that does not wait for it, line by line (R387); a line that has no slot or way keeps it waiting
at its slice, under the name item of what it belongs to. False when it is refused. -/
def State.reducePieces (s : State) (ctx red : Nat) (who : Issuer) (o : Owner) (item : Nat) (e : XEntry) :
    List (Nat × List Byte × Bool) → State × Bool
  | [] => (s, true)
  | (pa, bs, p) :: rest =>
    match s.homeKey pa with
    | none => (s, false)
    | some key =>
      match s.redApply key pa ctx red bs p (some o) with
      | .applied s => s.reducePieces ctx red who o item e rest
      | .refused s => (s, false)
      | .waits s =>
        let r : HomeReq := { who := who, owner := o, kind := .reduce, pa := pa, len := bs.length, bytes := bs, policy := leafPolicy e.leaf,
                             red := red, rd := b2n p, op := 0, l1 := false, evict := false, va := e.va + (pa - e.pa), pc := item }
        (s.redWait key r).reducePieces ctx red who o item e rest

/-- Bytes with one mark each cut at 128-byte lines. -/
def lineParts (pa : Nat) (bs : List (Byte × Bool)) : List (Nat × List Byte × Bool) :=
  (linePieces pa bs.length).map (fun p =>
    let part := (bs.drop (p.1 - pa)).take p.2
    (p.1, part.map (·.1), part.any (·.2)))

/-- Host copies of the lines of resolved pieces recalled before any byte is read or written: false while one is awaited, or a link on
the way does not carry traffic. A reduce write that its home refuses recalls nothing (R387). -/
def State.clearPieces (s : State) (isWrite : Bool) (ps : List Piece) (ctx : Nat) (who : Issuer) : State × Bool :=
  if !(ps.all (fun p => (linePieces p.1 p.2.1).all (fun l => s.crosses who l.1))) then (s, false)
  else
  ps.foldl (fun (r : State × Bool) p =>
    if (windowOf p.1).1.isTier || (match windowOf p.1 with | (.pinned .., _) => true | _ => false) then
      let (s, ok) :=
        if !isWrite || leafRed p.2.2.leaf = 0 then r.1.clearLines p.1 p.2.1 isWrite
        else (linePieces p.1 p.2.1).foldl (fun (r : State × Bool) l =>
          match r.1.homeKey l.1 with
          | some key => let (s, ok) := r.1.redMeets key l.1 ctx (leafRed p.2.2.leaf) l.2; (s, r.2 && ok)
          | none => r) (r.1, true)
      (s, r.2 && ok)
    else r) (s, true)

/-- A read by virtual address, made at once (R353, R471); nothing is read while a piece must wait. -/
def State.readVa (s : State) (c : XCache) (ctx va n : Nat) (acc : AccessKind) (who : Issuer) (o : Option Owner) : State × VaOut :=
  match s.resolve c ctx acc (pagePieces va n) with
  | (u, ps, .ok _) =>
    match s.clearPieces false ps ctx who with
    | (s, false) => (s, .wait)
    | _ => u.readPieces who o ps
  | (_, _, .wait) => (s.keepWalk c ctx acc (pagePieces va n), .wait)
  | (u, _, r) => (u, r)

/-- Bytes written over resolved pieces in order. -/
def State.writePieces (s : State) (ctx : Nat) (who : Issuer) (o : Owner) (item : Nat) : List Piece → List (Byte × Bool) → State × VaOut
  | [], _ => (s, .ok [])
  | (pa, n, e) :: rest, bs =>
    let part := bs.take n
    let red := leafRed e.leaf
    let (s, ok) : State × Bool :=
      if red ≠ 0 then
        if s.physFaults pa n true then (s, false) else s.reducePieces ctx red who o item e (lineParts pa part)
      else if s.physFaults pa n true then (s, false)
      else ((chunksOf pa part).foldl (fun s c => (s.physWrite c.1 c.2.1 c.2.2 who o (leafPolicy e.leaf) e.evict item).1) s, true)
    if ok then s.writePieces ctx who o item rest (bs.drop n) else (s, .acc pa)

/-- A write by virtual address, made at once: nothing is written while a host copy is awaited or a page does not translate. -/
def State.writeVa (s : State) (c : XCache) (ctx va : Nat) (bs : List (Byte × Bool)) (who : Issuer) (o : Owner) (item : Nat := 0) :
    State × VaOut :=
  match s.resolve c ctx .write (pagePieces va bs.length) with
  | (u, ps, .ok _) =>
    match s.clearPieces true ps ctx who with
    | (s, false) => (s, .wait)
    | _ => (u.clearPieces true ps ctx who).1.writePieces ctx who o item ps bs
  | (_, _, .wait) => (s.keepWalk c ctx .write (pagePieces va bs.length), .wait)
  | (u, _, r) => (u, r)

end Sys2Proof.Machine
end

