-- ==== Sys2Proof/Machine/Movers.lean ====
section
/-! DEFINITION. Tensor movers (R346 to R358): descriptors, their checks, the transfer with its conversion, completion and stops. -/

namespace Sys2Proof.Machine

/-! Descriptors (R347). -/

/-- Word i of a descriptor. -/
def Move.word (d : Move) (i : Nat) : Nat := d.w.getD i 0
/-- DIR: true for a store. -/
def Move.dir (d : Move) : Bool := bit (d.word 0) 2
/-- M_KIND. -/
def Move.mKind (d : Move) : Nat := bitsOf (d.word 0) 3 2
/-- FMT_SRC. -/
def Move.fmtS (d : Move) : Nat := bitsOf (d.word 0) 5 5
/-- FMT_DST. -/
def Move.fmtD (d : Move) : Nat := bitsOf (d.word 0) 10 5
/-- RND. -/
def Move.rnd (d : Move) : Rnd := Rnd.ofCode (bitsOf (d.word 0) 15 2)
/-- SAT. -/
def Move.sat (d : Move) : Bool := bit (d.word 0) 17
/-- SIG_EN. -/
def Move.sigEn (d : Move) : Bool := bit (d.word 0) 18
/-- SCOPE. -/
def Move.scope (d : Move) : Nat := bitsOf (d.word 0) 19 3
/-- ORDER. -/
def Move.order (d : Move) : Bool := bit (d.word 0) 22
/-- PRIO. -/
def Move.prio (d : Move) : Nat := bitsOf (d.word 0) 23 2
/-- PAD_KIND. -/
def Move.padKind (d : Move) : Nat := bitsOf (d.word 0) 25 2
/-- GROUPDIM. -/
def Move.groupDim (d : Move) : Bool := bit (d.word 0) 27
/-- CHAIN. -/
def Move.chain (d : Move) : Bool := bit (d.word 0) 28
/-- NEXT. -/
def Move.nextOff (d : Move) : Nat := bitsOf (d.word 0) 32 19
/-- M_ADDR. -/
def Move.mAddr (d : Move) : Nat := bitsOf (d.word 1) 0 57
/-- SP_ADDR. -/
def Move.sp (d : Move) : Nat := bitsOf (d.word 2) 0 25
/-- COUNT of dimension i. -/
def Move.count (d : Move) (i : Nat) : Nat := if i < 4 then bitsOf (d.word 3) (16 * i) 16 else bitsOf (d.word 4) 0 16
/-- VALID0 and VALID1 as written. -/
def Move.validRaw (d : Move) (i : Nat) : Nat := bitsOf (d.word 4) (16 + 16 * i) 16
/-- VALID0 and VALID1, 0 taken as the full count (R350). -/
def Move.valid (d : Move) (i : Nat) : Nat := if d.validRaw i = 0 then d.count i else d.validRaw i
/-- SIGNAL. -/
def Move.signal (d : Move) : Nat := bitsOf (d.word 4) 48 16
/-- M_STRIDE of dimension i, 1 to 4. -/
def Move.stride (d : Move) (i : Nat) : Int := sext 32 (bitsOf (d.word (5 + (i - 1) / 2)) (32 * ((i - 1) % 2)) 32)
/-- REMOTE_ID. -/
def Move.remote (d : Move) : Nat := bitsOf (d.word 7) 0 22
/-- SBASE. -/
def Move.sbase (d : Move) : Nat := bitsOf (d.word 7) 32 25
/-- Format of the scratchpad side. -/
def Move.spFmt (d : Move) : Nat := if d.dir then d.fmtS else d.fmtD
/-- Format of the M side. -/
def Move.mFmt (d : Move) : Nat := if d.dir then d.fmtD else d.fmtS
/-- Bytes of a packed scratchpad row of COUNT0 elements. -/
def Move.spRow (d : Move) : Nat := rowBytes d.spFmt (d.count 0)
/-- Bytes of a packed M-side row. -/
def Move.mRow (d : Move) : Nat := rowBytes d.mFmt (d.count 0)
/-- SP_PITCH, 0 taken as packed (R348). -/
def Move.pitch (d : Move) : Nat := let p := bitsOf (d.word 2) 25 25; if p = 0 then d.spRow else p
/-- R, the number of scratchpad rows. -/
def Move.rows (d : Move) : Nat := d.count 1 * d.count 2 * d.count 3 * d.count 4
/-- The extent of q (R348). -/
def Move.qs (d : Move) : Nat := d.count 2 * d.count 3 * d.count 4
/-- Planes of the scratchpad side. -/
def Move.planes (d : Move) : Nat := if isSliced d.spFmt then sliceCount (d.spFmt = 0x0E) else 1

/-- M-side byte offset of row r from M_ADDR (R348). -/
def Move.mOff (d : Move) (r : Nat) : Int :=
  let i1 := r % d.count 1
  let q := r / d.count 1
  let i2 := q % d.count 2
  let i3 := q / d.count 2 % d.count 3
  let i4 := q / d.count 2 / d.count 3
  (i1 * d.stride 1 + i2 * d.stride 2 + i3 * d.stride 3 + i4 * d.stride 4) * (storeBits d.mFmt : Nat) / 8

/-- M-side address of row r; a virtual address wraps at 57 bits. -/
def Move.mRowAddr (d : Move) (r : Nat) : Nat := (((d.mAddr : Int) + d.mOff r) % (2 ^ 57 : Int)).toNat

/-- Bytes of the scratchpad range (R349): elements and planes, then scale or exponent bytes, as offset and length. -/
def Move.spRanges (d : Move) : List (Nat × Nat) :=
  [(d.sp, (d.planes * d.rows - 1) * d.pitch + d.spRow)] ++
  (if isMx d.spFmt then
     [(d.sbase, if d.groupDim then d.count 1 / 32 * d.qs * d.count 0 else d.rows * (d.count 0 / 32))]
   else if isSliced d.spFmt then [(d.sbase, 2 * (if d.groupDim then d.count 0 * d.qs else d.rows))]
   else [])

/-- The M-side range of a move within the scratchpad, as signed first byte and length. -/
def Move.mRange (d : Move) : Int × Int :=
  let z : Int := (storeBits d.mFmt : Nat)
  let ext (i : Nat) : Int := ((d.count i : Int) - 1) * d.stride i * z / 8
  let lo := (List.range 4).foldl (fun a i => a + min 0 (ext (i + 1))) (d.mAddr : Int)
  let hi := (List.range 4).foldl (fun a i => a + max 0 (ext (i + 1))) ((d.mAddr : Int) + d.mRow)
  (lo, hi - lo)

/-- The checks of R349. -/
def State.moveOk (s : State) (d : Move) : Bool :=
  let w0 := d.word 0
  let sb := max 1 (storeBits d.spFmt / 8)
  let mb := max 1 (storeBits d.mFmt / 8)
  let four := storeBits d.fmtS = 4 || storeBits d.fmtD = 4
  let counts := (List.range 5).map d.count
  let mr := d.mRange
  bitsOf w0 0 2 = 1 && d.mKind ≠ 3 && d.padKind ≤ 1 && d.scope ≤ 5
  && bitsOf w0 29 3 = 0 && bitsOf w0 51 13 = 0 && bitsOf (d.word 1) 57 7 = 0 && bitsOf (d.word 2) 50 14 = 0
  && bitsOf (d.word 7) 22 10 = 0 && bitsOf (d.word 7) 57 7 = 0
  && (fmtOf d.fmtS).isSome && (fmtOf d.fmtD).isSome && !isMx d.mFmt && !isSliced d.mFmt && !isSliced d.fmtS
  && (if d.fmtD = 0x0D then d.fmtS = 0x11 else if d.fmtD = 0x0E then d.fmtS = 0x12 else true)
  && counts.all (fun c => 1 ≤ c) && decide (counts.foldl (· * ·) 1 ≤ 2 ^ 40)
  && decide (d.validRaw 0 ≤ d.count 0) && decide (d.validRaw 1 ≤ d.count 1) && (!d.dir || (d.validRaw 0 = 0 && d.validRaw 1 = 0))
  && (!four || (d.count 0 % 2 = 0 && [1, 2, 3, 4].all (fun i => d.stride i % 2 = 0)))
  && (!isMx d.spFmt || (if d.groupDim then d.count 1 else d.count 0) % 32 = 0)
  && d.sp % sb = 0 && bitsOf (d.word 2) 25 25 % sb = 0 && d.sbase % sb = 0 && d.mAddr % mb = 0
  && (!isSliced d.spFmt || d.sbase % 2 = 0) && decide (d.spRow ≤ d.pitch)
  && d.spRanges.all (fun r => decide (r.1 + r.2 ≤ spBytes))
  && (d.mKind ≠ 2 || (0 ≤ mr.1 && mr.1 + mr.2 ≤ (spBytes : Int)
        && d.spRanges.all (fun r => !meets r (mr.1.toNat, mr.2.toNat))))
  && (!d.sigEn || (s.objBoundTo d.signal d.owner.ctx && (d.mKind ≠ 1 || d.scope = 5)))

/-! Conversion (R350, R351, R357). -/

/-- An element on its way: its encoding in the source format, its value, its mark, and whether it is padding. -/
structure MoveElem where
  raw  : Nat
  val  : Num
  mark : Bool
  pad  : Bool
  deriving Inhabited

/-- The mark of element i of marked bytes. -/
def markAt (code : Nat) (ms : List Bool) (i : Nat) : Bool :=
  let w := storeBits code
  (List.range (max 1 (w / 8))).any (fun j => ms.getD (i * w / 8 + j) false)

/-- Elements of one source row. -/
def rowElems (code n : Nat) (bs : List (Byte × Bool)) : List MoveElem :=
  let b := bs.map (·.1)
  let m := bs.map (·.2)
  (List.range n).map (fun i => { raw := unpackAt code b i, val := numAt code b i, mark := markAt code m i, pad := false })

/-- The padding element of a destination format (R350). -/
def Move.pad (d : Move) : MoveElem :=
  let f := match d.fmtD with | 0x0D => Fmt.f32 | 0x0E => Fmt.f64 | c => (fmtOf c).getD Fmt.int8
  if d.padKind = 0 then { raw := 0, val := .fin ⟨false, 0, 0⟩, mark := false, pad := true }
  else
    let b := if f.hasInf && !isSliced d.fmtD then infOr f true else bound f true
    { raw := b, val := f.decode b, mark := false, pad := true }

/-- Row r of a load as COUNT0 elements, padded outside the valid part. -/
def Move.loadRow (d : Move) (r : Nat) (bs : List (Byte × Bool)) : List MoveElem :=
  if d.valid 1 ≤ r % d.count 1 then List.replicate (d.count 0) d.pad
  else
    let es := rowElems d.fmtS (d.valid 0) bs
    es ++ List.replicate (d.count 0 - d.valid 0) d.pad

/-- Marks of packed elements by byte. -/
def packMarks (code : Nat) (ms : List Bool) : List Bool :=
  if storeBits code = 4 then (groupsOf 2 ms ms.length).map (fun g => g.any id)
  else ms.flatMap (fun m => List.replicate (storeBits code / 8) m)

/-- A row of plain elements converted: its bytes with marks, and the out-of-range count. -/
def Move.plainRow (d : Move) (pad0 : Nat) (es : List MoveElem) : List (Byte × Bool) × Nat :=
  let f := (fmtOf d.fmtD).getD Fmt.int8
  let cs := (List.range es.length).map (fun i =>
    let e := es.getD i default
    if d.fmtS = d.fmtD || pad0 ≤ i then (e.raw, false) else convert e.val f d.rnd d.sat)
  ((packRow d.fmtD (cs.map (·.1))).zip (packMarks d.fmtD (es.map (·.mark))), (cs.filter (·.2)).length)

/-- What a load writes: pieces of the scratchpad as offset and marked bytes, the out-of-range count. -/
abbrev MoveOut := List (Nat × List (Byte × Bool)) × Nat

/-- Groups of an MX or sliced destination (R351): along rows, or down the columns of dimension 1; each as its elements with
their row and column. g is the group's length. -/
def Move.groups (d : Move) (g : Nat) : List (List (Nat × Nat)) :=
  let c0 := d.count 0
  let c1 := d.count 1
  if d.groupDim then
    (List.range (c1 / g * d.qs)).flatMap (fun bq => (List.range c0).map (fun i0 => (List.range g).map (fun j =>
      (bq % (c1 / g) * g + j + c1 * (bq / (c1 / g)), i0))))
  else (List.range d.rows).flatMap (fun r => (List.range (c0 / g)).map (fun b => (List.range g).map (fun j => (r, b * g + j))))

/-- Cell values by row and column laid out as rows. -/
def rowsOf (rows c0 : Nat) (cells : List ((Nat × Nat) × (Nat × Bool))) : List (List (Nat × Bool)) :=
  (List.range rows).map (fun r => (List.range c0).map (fun i =>
    match cells.find? (fun c => c.1 = (r, i)) with | some c => c.2 | none => (0, false)))

/-- The rows of a load converted into what it writes. -/
def Move.loadOut (d : Move) (es : List (List MoveElem)) : MoveOut :=
  let at' (rc : Nat × Nat) : MoveElem := (es.getD rc.1 []).getD rc.2 default
  if isMx d.fmtD then
    let gs := (d.groups 32).map (fun g =>
      let xs := g.map at'
      let b := mxBlock d.fmtD d.rnd (xs.map (·.val)) (xs.map (·.pad))
      (g, b, xs.any (·.mark)))
    let cells := gs.flatMap (fun g => (g.1.zip g.2.1.2.1).map (fun c => (c.1, (c.2, g.2.2))))
    let rows := rowsOf d.rows (d.count 0) cells
    let data := (List.range d.rows).map (fun r =>
      let row := rows.getD r []
      (d.sp + r * d.pitch, (packRow d.fmtD (row.map (·.1))).zip (packMarks d.fmtD (row.map (·.2)))))
    (data ++ [(d.sbase, gs.map (fun g => (BitVec.ofNat 8 g.2.1.1, g.2.2)))],
     (gs.map (fun g => g.2.1.2.2)).foldl (· + ·) 0)
  else if isSliced d.fmtD then
    let wide := d.fmtD = 0x0E
    let n := sliceCount wide
    let gs := (d.groups (if d.groupDim then d.count 1 else d.count 0)).map (fun g =>
      let xs := g.map at'
      let e := sliceExp wide (xs.map (·.val))
      (g, e, xs.map (fun x => match x.val with
        | .fin v => if e = 0x7FFF then List.replicate n 0 else slice v e n
        | _ => List.replicate n 0), xs.any (·.mark)))
    let plane (p : Nat) : List (Nat × List (Byte × Bool)) :=
      let cells := gs.flatMap (fun g => (g.1.zip g.2.2.1).map (fun c => (c.1, (ofInt 8 (c.2.getD p 0), g.2.2.2))))
      let rows := rowsOf d.rows (d.count 0) cells
      (List.range d.rows).map (fun r =>
        (d.sp + (p * d.rows + r) * d.pitch, (rows.getD r []).map (fun c => (BitVec.ofNat 8 c.1, c.2))))
    ((List.range n).flatMap plane
      ++ [(d.sbase, gs.flatMap (fun g => (leBytes 2 (ofInt 16 g.2.1)).map (·, g.2.2.2)))], 0)
  else
    let rs := (List.range d.rows).map (fun r =>
      let pad0 := if d.valid 1 ≤ r % d.count 1 then 0 else d.valid 0
      (r, d.plainRow pad0 (es.getD r [])))
    (rs.map (fun r => (d.sp + r.1 * d.pitch, r.2.1)), (rs.map (fun r => r.2.2)).foldl (· + ·) 0)

/-- One row of a store converted into its M-side bytes: MX elements take their block's scale, whose address is SBASE's. -/
def State.storeRow (s : State) (cl : Nat) (d : Move) (r : Nat) : List (Byte × Bool) × Nat :=
  let pa := spBase cl + d.sp + r * d.pitch
  let bs := (s.rdBytes pa d.spRow).zip (s.marks pa d.spRow)
  let es := rowElems d.fmtS (d.count 0) bs
  let es := if isMx d.fmtS then
      (List.range es.length).map (fun i0 =>
        let i1 := r % d.count 1
        let q := r / d.count 1
        let o := if d.groupDim then (i1 / 32 + d.count 1 / 32 * q) * d.count 0 + i0 else r * (d.count 0 / 32) + i0 / 32
        let a := spBase cl + d.sbase + o
        let e := es.getD i0 default
        { e with val := e.val.scaled (mxScale (s.rdByte a).toNat), mark := e.mark || s.poison.contains (a / 64 * 64) })
    else es
  d.plainRow (d.count 0) es

/-! Running descriptors. -/

/-- A move of a mover replaced, by its number. -/
def State.setMove (s : State) (k m : Nat) (d : Move) : State :=
  let v := s.mover k m
  s.setMover k m { v with queue := v.queue.map (fun x => if x.id = d.id then d else x) }

/-- A descriptor read whole and queued (R346); a poisoned one is a descriptor error when it starts (R619). -/
def State.moveQueue (s : State) (k m off : Nat) (o : Owner) : State :=
  let v := s.mover k m
  let pa := spBase (4 * k + m / 4) + 64 * off
  let s := s.spFind pa 64 (.mover k m) (some o)
  let d : Move := { id := v.next, w := s.rdWords pa 8, off := off, owner := o, pos := 0, started := false, done := false,
                    fail := if s.poisoned pa 64 then some (0x12, pa, 0) else none, got := [], row := 0, marked := false, elems := 0 }
  s.setMover k m { v with queue := v.queue ++ [d], next := v.next + 1 }

/-- Elements of a move still to be written, with n bytes of it held back: what is written last is scale or exponent bytes, and
before them the last plane. -/
def Move.elemsLeft (d : Move) (n : Nat) : Nat :=
  let fmt := if d.dir then d.mFmt else d.spFmt
  let tail := if d.dir then 0 else match d.spRanges with | [_, r] => r.2 | _ => 0
  min (d.rows * d.count 0) ((n - tail) * 8 / storeBits fmt)

/-- The bytes that stalled writes of a move have still to write. -/
def State.heldBytes (s : State) (k m id : Nat) : Nat :=
  ((s.comp.stalls.filter (fun w => w.who = .mover k m && w.item = id)).map (fun w =>
    (w.chunks.flatten.map (fun c => c.2.1.length)).foldl (· + ·) 0)).foldl (· + ·) 0

/-- A write of the move stands stalled. -/
def State.moveStalled (s : State) (k m id : Nat) : Bool := s.comp.stalls.any (fun w => w.who = .mover k m && w.item = id)

/-- Elements of a move that are written once all but n bytes of its first rows are (R361); those of a remote store are written when
they are acknowledged. -/
def State.moveWritten (s : State) (k m : Nat) (d : Move) (rows : Nat) : Nat :=
  if d.dir && d.mKind = 1 then d.elems
  else rows * d.count 0 - min (rows * d.count 0) (d.elemsLeft (s.heldBytes k m d.id))

/-- A move's issue is over: its progress shows every element but those that a stalled write holds back. -/
def State.moveIssued (s : State) (k m : Nat) (d : Move) : State :=
  s.setMove k m { d with started := true, elems := s.moveWritten k m d d.rows }

/-- A row of a store is written, or stands stalled: the next one is to come. -/
def State.moveRowDone (s : State) (k m : Nat) (d : Move) : State := s.setMove k m { d with elems := s.moveWritten k m d d.row }

/-- The progress of a mover's moves whose writes had stalled, brought up to what is written. -/
def State.moveProgress (s : State) (k m : Nat) : State :=
  (s.mover k m).queue.foldl (fun s d =>
    if d.done || d.fail.isSome then s
    else if d.started then (if d.got.isEmpty && !d.dir && d.mKind = 1 then s else s.moveIssued k m d)
    else if d.row ≠ 0 then s.moveRowDone k m d else s) s

/-- An acknowledged WRITE of a remote store: its elements are written (R355, R361). -/
def State.moveAcked (s : State) (k m id bytes : Nat) : State :=
  match (s.mover k m).queue.find? (fun d => d.id = id) with
  | some d => s.setMove k m { d with elems := min (d.rows * d.count 0) (d.elems + bytes * 8 / storeBits d.mFmt) }
  | none => s

/-- A move fails for good (R356): it stops its mover at MOVE_STOP. -/
def State.moveFail (s : State) (k m : Nat) (d : Move) (cls addr aux elems : Nat) : State :=
  s.setMove k m { d with started := true, fail := some (cls, addr, aux), elems := elems }

/-- The rows of a load that are read, with their M-side address and length. -/
def Move.readRows (d : Move) : List (Nat × Nat × Nat) :=
  ((List.range d.rows).filter (fun r => r % d.count 1 < d.valid 1)).map (fun r =>
    (r, d.mRowAddr r, rowBytes d.fmtS (d.valid 0)))

/-- A load's rows, once read, converted and written to the scratchpad; counted (R351, R357, R362). -/
def State.moveLoadWrite (s : State) (k m : Nat) (d : Move) (rows : List (Nat × List (Byte × Bool))) : State :=
  let cl := 4 * k + m / 4
  let es := (List.range d.rows).map (fun r =>
    d.loadRow r (match rows.find? (fun x => x.1 = r) with | some x => x.2 | none => []))
  let (out, oor) := d.loadOut es
  let twice := if isMx d.fmtD || isSliced d.fmtD then 2 else 1
  let s := s.bump (A.tcTmCntBytesRd k m) (twice * (rows.map (fun r => r.2.length)).foldl (· + ·) 0)
  let s := s.bump (A.tcTmCntBytesWr k m) ((out.map (fun p => p.2.length)).foldl (· + ·) 0)
  let s := s.bump (A.tcTmCntOor k m) oor
  let s := if rows.any (fun r => r.2.any (·.2)) then s.bump (A.tcTmCntPoison k m) 1 else s
  let chunks := out.flatMap (fun p => chunksOf (spBase cl + p.1) p.2)
  let s := (s.spWrite (.mover k m) d.owner d.id cl (chunks.map ([·]))).1
  s.moveIssued k m d

/-- Rows read over the M side in order, with those read; the first that does not succeed ends them. -/
def State.readRowsVa (s : State) (k m : Nat) (d : Move) :
    List (Nat × Nat × Nat) → State × (List (Nat × List (Byte × Bool)) × VaOut)
  | [] => (s, [], .ok [])
  | (r, va, n) :: rest =>
    match s.readVa (.cluster (4 * k + m / 4)) d.owner.ctx va n .read (.mover k m) (some d.owner) with
    | (s, .ok bs) =>
      let (s, rs, o) := s.readRowsVa k m d rest
      (s, (r, bs) :: rs, o)
    | (s, o) => (s, [], o)

/-- A fault of an access by virtual address ends the move; a wait leaves it for later. -/
def State.moveVaFault (s : State) (k m : Nat) (d : Move) (acc : AccessKind) (elems : Nat) : VaOut → State
  | .xlt kind level ent va =>
    (s.showXltFault k d.owner.ctx va acc 1 kind level ent).moveFail k m d 0x10 va ent elems
  | .acc pa => s.moveFail k m d 0x11 pa elems elems
  | _ => s

/-- A range cut into requests of at most 4,096 bytes, by whole 8 bytes (R561). -/
def requestPieces (va n : Nat) : List (Nat × Nat) :=
  let lo := va / 8 * 8
  let hi := ceilDiv (va + n) 8 * 8
  (List.range (ceilDiv (hi - lo) 4096)).map (fun i => (lo + 4096 * i, min 4096 (hi - (lo + 4096 * i))))

/-- Bits of a poison mask: bit j marks bytes 64j to 64j + 63 (R561). -/
def maskOf (ms : List Bool) : Nat :=
  (List.range (ceilDiv ms.length 64)).foldl (fun a j => if ((ms.drop (64 * j)).take 64).any id then a + 2 ^ j else a) 0

/-- A marked row stored to a remote device as WRITE packets (R353, R357). -/
def State.remoteWrite (s : State) (die dst tag va : Nat) (use : FabUse) (o : Owner) (bs : List (Byte × Bool)) : State :=
  (List.range (ceilDiv bs.length 4096)).foldl (fun s i =>
    let part := (bs.drop (4096 * i)).take 4096
    s.sendMsg die dst tag 1 ((va + 4096 * i) % 2 ^ 57) (maskOf (part.map (·.2))) (part.map (·.1)) use o) s

/-- READ packets for a remote range. -/
def State.remoteRead (s : State) (die dst tag va n : Nat) (use : FabUse) (o : Owner) : State :=
  (requestPieces va n).foldl (fun s p => s.sendMsg die dst tag 2 (p.1 % 2 ^ 57) p.2 [] use o) s

/-- What a store reads of the scratchpad beside its rows: MX scales, found and counted once. -/
def State.storeScales (s : State) (k m : Nat) (d : Move) : State :=
  match d.spRanges with
  | [_, r] => (s.spFind (spBase (4 * k + m / 4) + r.1) r.2 (.mover k m) (some d.owner)).bump (A.tcTmCntBytesRd k m) r.2
  | _ => s

/-- A store within the scratchpad (M_KIND 2): its rows are read, converted and written in order. -/
def State.moveStoreSp (s : State) (k m : Nat) (d : Move) : State :=
  let cl := 4 * k + m / 4
  let rs := List.range d.rows
  let s := rs.foldl (fun s r => s.spFind (spBase cl + d.sp + r * d.pitch) d.spRow (.mover k m) (some d.owner)) (s.storeScales k m d)
  let out := rs.map (fun r => (r, s.storeRow cl d r))
  let s := s.bump (A.tcTmCntBytesRd k m) (d.rows * d.spRow)
  let s := s.bump (A.tcTmCntBytesWr k m) ((out.map (fun x => x.2.1.length)).foldl (· + ·) 0)
  let s := s.bump (A.tcTmCntOor k m) ((out.map (fun x => x.2.2)).foldl (· + ·) 0)
  let s := if out.any (fun x => x.2.1.any (·.2)) then s.bump (A.tcTmCntPoison k m) 1 else s
  (s.spWrite (.mover k m) d.owner d.id cl
    ((out.flatMap (fun x => chunksOf (spBase cl + d.mRowAddr x.1) x.2.1)).map ([·]))).1.moveIssued k m d

/-- The rows of a store from row d.row on, one after another; a wait keeps the row for later. -/
def State.moveStoreRows (s : State) (k m : Nat) (d : Move) : Nat → State
  | 0 => s
  | f + 1 =>
    let r := d.row
    if d.rows ≤ r then s.moveIssued k m d
    else
      let cl := 4 * k + m / 4
      let s := s.spFind (spBase cl + d.sp + r * d.pitch) d.spRow (.mover k m) (some d.owner)
      let (bs, oor) := s.storeRow cl d r
      let count (s : State) : State :=
        let s := (s.bump (A.tcTmCntBytesRd k m) d.spRow).bump (A.tcTmCntBytesWr k m) bs.length
        let s := s.bump (A.tcTmCntOor k m) oor
        if bs.any (·.2) && !d.marked then s.bump (A.tcTmCntPoison k m) 1 else s
      let d' := { d with row := r + 1, marked := d.marked || bs.any (·.2) }
      match d.mKind with
      | 1 =>
        let tag := (s.jobTag d.owner.ctx).getD 0
        ((count s).remoteWrite k d.remote tag (d.mRowAddr r) (.move k m d.id) d.owner bs).moveStoreRows k m d' f
      | _ =>
        match s.writeVa (.cluster cl) d.owner.ctx (d.mRowAddr r) bs (.mover k m) d.owner d.id with
        | (s, .ok _) => if s.moveStalled k m d.id then (count s).moveRowDone k m d' else (count s).moveStoreRows k m d' f
        | (s, .wait) => s.setMove k m d
        | (s, o) => s.moveVaFault k m d .write (r * d.count 0) o

/-- A checked descriptor begins its transfer (R350 to R353). -/
def State.moveRun (s : State) (k m : Nat) (d : Move) : State :=
  let cl := 4 * k + m / 4
  if d.dir then
    if d.mKind = 2 then s.moveStoreSp k m d
    else (if d.row = 0 then s.storeScales k m d else s).moveStoreRows k m d (d.rows + 1)
  else
    match d.mKind with
    | 1 =>
      let tag := (s.jobTag d.owner.ctx).getD 0
      let s := d.readRows.foldl (fun s r => s.remoteRead k d.remote tag r.2.1 r.2.2 (.move k m d.id) d.owner) s
      s.setMove k m { d with started := true }
    | 2 =>
      let s := d.readRows.foldl (fun s r => s.spFind (spBase cl + r.2.1) r.2.2 (.mover k m) (some d.owner)) s
      s.moveLoadWrite k m d (d.readRows.map (fun r =>
        let pa := spBase cl + r.2.1
        (r.1, (s.rdBytes pa r.2.2).zip (s.marks pa r.2.2))))
    | _ =>
      match s.readRowsVa k m d d.readRows with
      | (s, rs, .ok _) => s.moveLoadWrite k m d rs
      | (s, _, .wait) => s
      | (s, rs, o) =>
        (s.bump (A.tcTmCntBytesRd k m) ((rs.map (fun r => r.2.length)).foldl (· + ·) 0)).moveVaFault k m d .read 0 o

/-- Movers start nothing while the device is stopped or in eclipse mode (R617, R652). -/
def State.unitsHeld (s : State) : Bool := s.deviceStopped || s.eclipse

/-- A started descriptor of a chain has its successor right behind it, in its own queue place (R354). -/
def State.moveLink (s : State) (k m id : Nat) : State :=
  let v := s.mover k m
  if v.queue.any (fun d => d.id = id && d.started && d.fail.isNone && d.chain) then
    s.setMover k m { v with next := v.next + 1, queue := v.queue.flatMap (fun d => if d.id = id then
      [d, { id := v.next, w := [], off := d.nextOff, owner := d.owner, pos := d.pos + 1, started := false, done := false, fail := none,
            got := [], row := 0, marked := false, elems := 0 }] else [d]) }
  else s

/-- The next descriptor of a mover starts, when R354 lets it, and is checked (R349). -/
def State.moveStart (s : State) (k m : Nat) : State :=
  let v := s.mover k m
  let before := v.queue.takeWhile (fun d => d.started)
  match v.queue.find? (fun d => !d.started) with
  | none => s
  | some d =>
    if s.unitsHeld || v.stopped.isSome || s.fld (A.tmStatus k m) F.tmStatus_STATE = 4 || s.stalled (.mover k m)
      || before.any (fun x => x.fail.isSome) || (d.order && before.any (fun x => !x.done)) then s
    else
      let pa := spBase (4 * k + m / 4) + 64 * d.off
      let (s, d) : State × Move :=
        if d.w.isEmpty then
          let s := s.spFind pa 64 (.mover k m) (some d.owner)
          (s, { d with w := s.rdWords pa 8, fail := if s.poisoned pa 64 then some (0x12, pa, 0) else none })
        else (s, d)
      match d.fail with
      | some (cls, addr, aux) => s.moveFail k m d cls addr aux 0
      | none =>
        if 4096 ≤ d.pos || !s.moveOk d then s.moveFail k m d 0x06 pa 0 0
        else if d.mKind = 1 then
          let (s, inj) := s.takeInjected 0x20 (unitMover k m) d.owner.ctx
          if inj then s.moveFail k m d 0x120 (d.mRowAddr 0) 0 0 else (s.moveRun k m d).moveLink k m d.id
        else (s.moveRun k m d).moveLink k m d.id

/-- MOVE_DESC_START. -/
def execMoveDescStart (k m : Nat) (s : State) : Res := onUnit (k < 4 && m < 16) (s.moveStart k m)

/-- The bytes a remote load has received, by virtual address. -/
def gotBytes (got : List (Nat × List Byte × Nat)) (va n : Nat) : List (Byte × Bool) :=
  (List.range n).map (fun i =>
    let a := (va + i) % 2 ^ 57
    match got.find? (fun g => g.1 ≤ a && a < g.1 + g.2.1.length) with
    | some g => (g.2.1.getD (a - g.1) 0, g.2.2.testBit ((a - g.1) / 64))
    | none => (0, false))

/-- Bytes of a remote load come back; the last of them are converted and written (R351, R353). -/
def State.moveGot (s : State) (k m id va : Nat) (bs : List Byte) (mask : Nat) (last : Bool) : State :=
  match (s.mover k m).queue.find? (fun d => d.id = id) with
  | none => s
  | some d =>
    let d := { d with got := d.got ++ [(va, bs, mask)] }
    if last then s.moveLoadWrite k m d (d.readRows.map (fun r => (r.1, gotBytes d.got r.2.1 r.2.2))) else s.setMove k m d

/-- The head descriptor, complete, signals and leaves; those behind it that are done follow (R354, R355). -/
def State.moveLeave (s : State) (k m : Nat) : Nat → State
  | 0 => s
  | f + 1 =>
    let v := s.mover k m
    match v.queue with
    | d :: rest =>
      if !d.done then s
      else
        let s := if d.sigEn then s.signal (.mover k m) (some d.owner.ctx) (some d.owner) d.signal 1 1 else s
        let s := s.dropUses (fun u => u = .move k m d.id)
        let s := s.setMover k m { v with queue := rest }
        (if d.chain then s else s.settleEntry d.owner).moveLeave k m f
    | [] => s

/-- Requests of a mover that wait at a slice. -/
def State.sliceWaits (s : State) (who : Issuer) : Bool := s.l2.slices.any (fun c => c.2.waiting.any (fun r => r.who = who))

/-- Descriptor i of a mover completes once every read has returned and every write has reached its home (R355), and counts (R362). -/
def State.moveComplete (s : State) (k m i : Nat) : State :=
  let v := s.mover k m
  match v.queue[i]? with
  | none => s
  | some d =>
    if !d.started || d.done || d.fail.isSome || s.moveStalled k m d.id || s.sliceWaits (.mover k m)
      || !s.usesDone (fun u => u = .move k m d.id) then s
    else ((s.bump (A.tcTmCntDesc k m) 1).setMove k m { d with done := true }).moveLeave k m (v.queue.length + 1)

/-- MOVE_DESC_COMPLETE. -/
def execMoveDescComplete (k m i : Nat) (s : State) : Res := onUnit (k < 4 && m < 16) (s.moveComplete k m i)

/-- A mover stops at a descriptor that has failed for good, once every earlier one has signalled (R356): the later ones are
cancelled, and the operation fails (R612, R613). -/
def State.moveStop (s : State) (k m : Nat) : State :=
  let v := s.mover k m
  match v.queue with
  | d :: rest =>
    match d.fail with
    | none => s
    | some (cls, addr, aux) =>
      let s := { s with comp := { s.comp with stalls := s.comp.stalls.filter (fun w => !decide (w.who = Issuer.mover k m)) } }
      let s := s.setMover k m { v with queue := [], stopped := some d.owner }
      let s := s.dropUses (fun u => match u with | .move a b _ => a = k && b = m | _ => false)
      let s := s.setFlds (A.tmStatus k m) [(F.tmStatus_CONTEXT, d.owner.ctx), (F.tmStatus_CUR_DESC, d.off),
        (F.tmStatus_CHAIN_POS, d.pos)]
      let s := s.setFld (A.tmProgress k m) F.tmProgress_ELEMS_DONE d.elems
      let s := (rest.filter (fun x => x.owner.entry ≠ d.owner.entry)).foldl (fun s x =>
        match x.owner.entry with | some (q, e) => s.markEntry q e 2 | none => s) s
      let s := s.opFail { queue := k, cls := cls % 256, domain := 0, action := 5, injected := decide (256 ≤ cls), owner := some d.owner,
                          unit := unitMover k m, opref := d.off, addr := addr, aux := aux,
                          detail := if cls % 256 = 0x20 then d.remote + (if d.dir then 1 else 2) * 2 ^ 24 else 0 }
      (d :: rest).foldl (fun s x => s.settleEntry x.owner) s
  | [] => s

/-- MOVE_STOP. -/
def execMoveStop (k m : Nat) (s : State) : Res := onUnit (k < 4 && m < 16) (s.moveStop k m)

/-- MOVE_REQUEST_RETRY: a repeated request stores or reads the same bytes, and counts (R356, R609). -/
def execMoveRequestRetry (k m : Nat) (s : State) : Res :=
  onUnit (k < 4 && m < 16)
    (if (s.mover k m).queue.any (fun d => d.started && !d.done) then s.bump (A.tcTmCntRetry k m) 1 else s)

end Sys2Proof.Machine
end

