-- ==== Sys2Proof/Machine/Fabric.lean ====
section
/-! DEFINITION. Fabric ports, packets, delivery, routes and tags (R557 to R576): the commands and events of 19_fabric.md but
for flares, collectives and reports. -/

namespace Sys2Proof.Machine

/-! Ports (R557 to R564). -/

/-- A port leaves its link: what it holds is discarded (R564). -/
def State.clearPort (s : State) (n : Nat) : State :=
  let s := s.setFport n FabPort.idle
  { s with fab := { s.fab with inbox := s.fab.inbox.filter (fun d => d.port ≠ n) } }

/-- The unit code of a fabric port (R630). -/
def unitPort (n : Nat) : Nat := unitCode 12 (n / 4) 0 n 0

/-- STATE and FAILED of a port. -/
def State.setPortState (s : State) (n st lanes : Nat) : State :=
  let s := if s.portState n = st then s else { s with fab := { s.fab with portFrom := Assoc.put s.fab.portFrom n s.now 0 } }
  s.setFlds (portStatusOf n) [(F.portStatus_STATE, st), (F.portStatus_FAILED, b2n (st ≠ 2)), (F.portStatus_LANES_UP, lanes)]

/-- A port leaves UP, or whatever it was in, for another state: what it holds is discarded, and a record of the tower domain
says that it left UP (R557, R564, R607). -/
def State.dropPort (s : State) (n st : Nat) : State :=
  let up := s.portState n = 2
  let s := (s.clearPort n).setPortState n st 0
  if up then s.note 3 0 { queue := n / 4, cls := 0x22, domain := 3, action := 0, unit := unitPort n } else s

/-- The port is kept in eclipse mode (R593, R596). -/
def State.eclPort (s : State) (n : Nat) : Bool :=
  s.fld A.fabCfg F.fabCfg_ECL_PORT0 = n || s.fld A.fabCfg F.fabCfg_ECL_PORT1 = n

/-- PORT_TRAIN: a port that trains comes up with the lanes named, or goes on training (R557). -/
def execPortTrain (port lanes : Nat) (ok : Bool) (s : State) : Res :=
  onUnit (port < 16 && s.part.portPresent port)
    (let st := s.portState port
     if (st = 1 || st = 3) && 2 ≤ s.readiness && s.readiness ≤ 4 && !(s.eclipse && !s.eclPort port) then
       if ok then (s.setFport port FabPort.idle).setPortState port 2 0xFF
       else s.setPortState port st lanes
     else s)

/-- PORT_TRAIN_RETRY: a port not trained in 1.000 s reads DOWN, and tries again 1.000 s later (R557). -/
def execPortTrainRetry (port : Nat) (s : State) : Res :=
  onUnit (port < 16 && s.part.portPresent port)
    (let st := s.portState port
     let due := s.notBefore (Assoc.getD s.fab.portFrom port 0 + 200000000)
     if st = 1 || st = 3 then due.setPortState port 0 0
     else if st = 0 && !(s.eclipse && !s.eclPort port) then due.setPortState port 1 0
     else s)

/-- PORT_DOWN: a port leaves UP and trains again (R557, R564); a record of the tower domain says so (R607). -/
def execPortDown (port : Nat) (s : State) : Res :=
  onUnit (port < 16 && s.part.portPresent port)
    (if s.portState port = 2 then s.dropPort port 3 else s)

/-- LINK_PACKET: the far end acknowledges every LSEQ before ack, returns credits, and names itself (R562, R564). -/
def execLinkPacket (port ack : Nat) (credits : List Nat) (peer : Nat) (s : State) : Res :=
  onUnit (port < 16 && s.part.portPresent port)
    (if s.portState port = 2 then
       let f := s.fport port
       let kept := f.replay.filter (fun e => (e.1 + 65536 - ack % 65536) % 65536 < 32768)
       let s := s.setFport port { f with
         replay := kept,
         credits := (List.range 4).map (fun v => min (fullCredits.getD v 0) (f.credits.getD v 0 + credits.getD v 0)),
         resends := if kept.head? = f.replay.head? then f.resends else 0 }
       let s := s.setFld (portStatusOf port) F.portStatus_PEER_ID peer
       s.flushPort port
     else s)

/-- LINK_REPLAY: the sender resends from an LSEQ on, in order; after 32 resends of one packet the port retrains (R564). -/
def execLinkReplay (port lseq : Nat) (s : State) : Res :=
  onUnit (port < 16 && s.part.portPresent port)
    (let f := s.fport port
     if s.portState port = 2 && f.replay.any (fun e => e.1 = lseq) then
       if 32 ≤ f.resends then s.dropPort port 3
       else
         let again := f.replay.dropWhile (fun e : Nat × FabPkt => decide (e.1 ≠ lseq))
         let s := s.setFport port { f with resends := f.resends + 1 }
         let s := { s with fab := { s.fab with sent := (again.map (fun e : Nat × FabPkt => (port, e.2))).reverse ++ s.fab.sent } }
         let s := s.bump (portCnt port 4) again.length
         (s.bump (portCnt port 0) again.length).bump (portCnt port 2) ((again.map (fun e : Nat × FabPkt => pktSize e.2)).foldl (· + ·) 0)
     else s)

/-- A packet that has arrived whole and in order: it is counted, its lifetime is charged, and it is routed (R565, R570). -/
def State.arrive (s : State) (port units : Nat) (p : FabPkt) : State :=
  let s := ((s.tracePkt port p).bump (portCnt port 1) 1).bump (portCnt port 3) (pktSize p)
  let mine := p.dst = s.ownId
  if !mine && p.life ≤ max 1 units then s.bump (portCnt port 7) 1
  else s.route { p with life := if mine then p.life else p.life - max 1 units } (some port) (port / 4)

/-- TYPE and LEN are in their ranges (R561). -/
def pktValid (p : FabPkt) : Bool := [1, 2, 3, 4, 6, 7, 8, 9, 10].contains p.typ && decide (p.payload.length ≤ 4096)

/-- FAB_PACKET_FORWARD: a received transport packet (R561 to R565, R570). A CRC failure, a reserved TYPE or a LEN above 512 is
discarded as a CRC error; a gap in LSEQ is discarded and asked for again. -/
def execFabPacketForward (port lseq : Nat) (good : Bool) (units : Nat) (pkt : FabPkt) (s : State) : Res :=
  onUnit (port < 16 && s.part.portPresent port)
    (if s.portState port ≠ 2 || s.portEth port then s
     else
       let f := s.fport port
       if !good || !pktValid pkt then s.bump (portCnt port 8) 1
       else if lseq ≠ f.rxSeq then s
       else (s.setFport port { f with rxSeq := (lseq + 1) % 65536 }).arrive port units pkt)

/-- The address 02-49-4D with an ID in its low 24 bits (R559). -/
def ethAddress (id : Nat) : Nat := 0x02494D000000 + id

/-- ETH_FRAME_RECEIVE: an Ethernet-mode port takes a frame addressed to it, of EtherType 0x88B5, with a good FCS and a length of
64 to 9,216 bytes; every other frame is dropped and counted (R559). -/
def execEthFrameReceive (port dest etherType len : Nat) (fcsOk : Bool) (units : Nat) (pkt : FabPkt) (s : State) : Res :=
  onUnit (port < 16 && s.part.portPresent port)
    (if s.portState port ≠ 2 || !s.portEth port then s
     else if fcsOk && dest = ethAddress s.ownId && etherType = 0x88B5 && 64 ≤ len && len ≤ 9216 && pktValid pkt then
       s.arrive port units pkt
     else s.bump (portCnt port 8) 1)

/-- PAUSE_FRAME: an Ethernet-mode port sends nothing for so many quanta of 512 bit times, 0.320 ns each at 1.6 Tb/s (R559). -/
def execPauseFrame (port quanta : Nat) (s : State) : Res :=
  onUnit (port < 16 && s.part.portPresent port)
    (if s.portState port = 2 && s.portEth port then
       let f := s.fport port
       (s.setFport port { f with paused := if quanta = 0 then 0 else s.now + ceilDiv (quanta * 64) 1000 }).flushPort port
     else s)

/-- PACKET_LIFE_EXPIRED: packet i of those that wait on a port runs out its lifetime (R562, R565). -/
def execPacketLifeExpired (port i : Nat) (s : State) : Res :=
  onUnit (port < 16 && s.part.portPresent port)
    (let f := s.fport port
     match f.waiting[i]? with
     | some w => (s.setFport port { f with waiting := f.waiting.eraseIdx i }).dropPkt w.2 (port / 4) 7
     | none => s)

/-! Delivery end to end (R566 to R568). -/

/-- A delivered packet leaves the inbox. -/
def State.takeIn (s : State) (d : Delivered) : State := { s with fab := { s.fab with inbox := s.fab.inbox.erase d } }

/-- Delivered packet i of a type, of a PHASE or KIND when one is named. -/
def State.inboxAt (s : State) (typ : Nat) (sub : Option Nat) (i : Nat) : Option Delivered :=
  (s.fab.inbox.filter (fun d => d.pkt.typ = typ && (match sub with | none => true | some k => d.pkt.opa % 8 = k)))[i]?

/-- An ACK for a packet. -/
def State.ackPkt (s : State) (d : Delivered) (status expected : Nat) : State :=
  s.answerPkt d 4 (d.pkt.seq % 2 ^ 32 + status * 2 ^ 32) expected (2 ^ 31) []

/-- What an ordered packet is to its stream at the receiver (R566). -/
inductive Turn where
  | apply | again | gap (expected : Nat) | noStream | full
  deriving DecidableEq, Repr

/-- The turn of an ordered packet. -/
def State.turnOf (s : State) (d : Delivered) : Turn :=
  match s.fab.rx.find? (fun r => r.src = d.pkt.src && r.tag = d.pkt.tag) with
  | none => if !d.pkt.first then .noStream else if 65536 ≤ s.fab.rx.length then .full else .apply
  | some r =>
    let ahead := (d.pkt.seq + 2 ^ 32 - r.next) % 2 ^ 32
    if ahead = 0 then .apply else if ahead < 2 ^ 31 then .gap r.next else .again

/-- A stream's next packet is taken: the stream expects the one after it. -/
def State.advanceRx (s : State) (d : Delivered) : State :=
  let r : RxStream := { src := d.pkt.src, tag := d.pkt.tag, next := (d.pkt.seq + 1) % 2 ^ 32, last := s.now }
  { s with fab := { s.fab with rx := s.fab.rx.filter (fun x => !(x.src = r.src && x.tag = r.tag)) ++ [r] } }

/-- An ordered packet meets its stream (R566): in its turn it leaves the inbox, is acknowledged with the status its effect
gives, and the effect stands; out of turn, or where its effect answers FULL, it is answered and changes nothing. -/
def State.inOrder (s : State) (d : Delivered) (effect : State → State × Nat) : State :=
  match s.turnOf d with
  | .apply =>
    let (t, st) := effect ((s.takeIn d).advanceRx d)
    if st = 6 then ((s.takeIn d).ackPkt d 6 0).bump (A.fabCntPeerFull (d.port / 4)) 1 else t.ackPkt d st 0
  | .again => (s.takeIn d).ackPkt d 0 0
  | .gap e => (s.takeIn d).ackPkt d 4 e
  | .noStream => (s.takeIn d).ackPkt d 5 0
  | .full => ((s.takeIn d).ackPkt d 6 0).bump (A.fabCntPeerFull (d.port / 4)) 1

/-- The operation that waits for a message fails (R482, R568): a mover at its descriptor, a copy's command. The class is that
of the answer, or FABRIC_LOSS. -/
def State.useFail (s : State) (m : FabMsg) (cls : Nat) : State :=
  match m.use with
  | .move k mv id =>
    let s := s.dropUses (fun u => u = m.use)
    match (s.mover k mv).queue.find? (fun d => d.id = id) with
    | some d => s.moveFail k mv d cls m.pkt.opa d.elems d.elems
    | none => s
  | .copy ch _ =>
    let s := s.dropUses (fun u => match u with | .copy c _ => c = ch | _ => false)
    let s := { s with fab := { s.fab with copies := s.fab.copies.filter (fun c => c.chan ≠ ch) } }
    s.commandFail ch { queue := m.die, cls := cls, domain := 0, action := 5, owner := some m.owner,
                       unit := unitCode 12 m.die 0 0 0, addr := m.pkt.opa, detail := m.pkt.dst + m.pkt.typ * 2 ^ 24 }

/-- A PUSH or PULL whose messages are all over completes (R491). -/
def State.copyDone (s : State) (ch : Nat) : State :=
  match s.fab.copies.find? (fun c => c.chan = ch) with
  | some c =>
    let mine (u : FabUse) : Bool := match u with | .copy x _ => x = ch | _ => false
    if c.left.isEmpty && s.usesDone mine then
      let s := s.dropUses mine
      let s := { s with fab := { s.fab with copies := s.fab.copies.filter (fun x => x.chan ≠ ch) } }
      let s := match c.doneObj with
        | some o => s.signalDone (some c.ctx) o
        | none => s
      s.reply ch St.ok [c.bytes, 0]
    else s
  | none => s

/-- A message is answered. -/
def State.markAcked (s : State) (m : FabMsg) : State :=
  { s with fab := { s.fab with msgs := s.fab.msgs.map (fun x => if x = m then { x with acked := true } else x) } }

/-- FAB_CFG.E2E_US in MGMT cycles (R566). -/
def State.e2eTicks (s : State) : Nat := s.fld A.fabCfg F.fabCfg_E2E_US * 200

/-- E2E_RESEND_TIMEOUT: message or stream i sends again, or fails once it has been sent again E2E_RETRIES times (R566, R568). -/
def execE2eResendTimeout (ordered : Bool) (i : Nat) (s : State) : Res :=
  let max := s.fld A.fabCfg F.fabCfg_E2E_RETRIES
  .next (if ordered then
      match (s.fab.tx.filter (fun t => !t.unacked.isEmpty))[i]? with
      | none => s
      | some t =>
        let s := s.notBefore (t.since + s.e2eTicks)
        if t.sent < max then
          let t' := { t with sent := t.sent + 1, last := s.now, since := s.now }
          let s := { s with fab := { s.fab with tx := s.fab.tx.map (fun x => if x = t then t' else x) } }
          let s := s.bump (A.fabCntE2eRetx t.die) t.unacked.length
          t.unacked.foldl (fun s p => s.route { p with life := s.fabLife } none t.die) s
        else
          let s := { s with fab := { s.fab with tx := s.fab.tx.filter (fun x => x ≠ t) } }
          let s := s.bump (A.fabCntE2eFail t.die) 1
          let s := s.failColls (fun n _ => n % 4 = t.die && (match Assoc.get? s.fab.colls n with
            | some c => s.tagCtx t.tag = some c.ctx && (c.parent = t.dst || c.kids.contains t.dst)
            | none => false))
          let first := t.unacked.headD default
          s.note 0 5 { queue := t.die, cls := 0x20, domain := 0, action := 5, unit := unitCode 12 t.die 0 0 0,
                       owner := (s.tagCtx t.tag).map (fun c => { ctx := c, entry := none }), detail := t.dst + first.typ * 2 ^ 24 }
    else
      match (s.fab.msgs.filter (fun m => !m.acked))[i]? with
      | none => s
      | some m =>
        let s := s.notBefore (m.last + s.e2eTicks)
        if m.sent < max then
          let m' := { m with sent := m.sent + 1, last := s.now }
          let s := { s with fab := { s.fab with msgs := s.fab.msgs.map (fun x => if x = m then m' else x) } }
          (s.bump (A.fabCntE2eRetx m.die) 1).route { m.pkt with life := s.fabLife } none m.die
        else (s.bump (A.fabCntE2eFail m.die) 1).useFail m 0x20)

/-- The sending streams replaced. -/
def State.setTx (s : State) (l : List TxStream) : State := { s with fab := { s.fab with tx := l } }

/-- STREAM_IDLE_FREE: a stream with no packet for 1.000 s is freed (R566). -/
def execStreamIdleFree (sender : Bool) (i : Nat) (s : State) : Res :=
  .next (if sender then
      match (s.fab.tx.filter (fun t => t.unacked.isEmpty))[i]? with
      | some t => (s.notBefore (t.last + 200000000)).setTx (s.fab.tx.filter (fun x => x ≠ t))
      | none => s
    else
      match s.fab.rx[i]? with
      | some r => { s.notBefore (r.last + 200000000) with fab := { s.fab with rx := s.fab.rx.filter (fun x => x ≠ r) } }
      | none => s)

/-- A stream at its sender renumbered from 0, its first packet FIRST (R566, NO_STREAM). -/
def restartTx (t : TxStream) : TxStream :=
  let ps := (List.range t.unacked.length).map (fun i => { t.unacked.getD i default with seq := i, first := i = 0 })
  { t with unacked := ps, next := ps.length }

/-- FAB_ACK: an ACK completes, refuses or redirects an outstanding message (R566, R567). -/
def execFabAck (i : Nat) (s : State) : Res :=
  .next (match s.inboxAt 4 none i with
    | none => s
    | some d =>
      let s := s.takeIn d
      let seq := d.pkt.opa % 2 ^ 32
      let st := bitsOf d.pkt.opa 32 4
      match s.fab.msgs.find? (fun m => m.pkt.seq = seq && m.pkt.dst = d.pkt.src && m.pkt.tag = d.pkt.tag && !m.acked) with
      | some m =>
        if st = 0 then
          let s := s.markAcked m
          match m.use with | .copy ch _ => s.copyDone ch | .move k mv id => s.moveAcked k mv id m.pkt.payload.length
        else if st = 6 then s
        else s.useFail m (match st with | 1 => 0x10 | 2 => 0x11 | _ => 0x0A)
      | none =>
        match s.fab.tx.find? (fun t => t.dst = d.pkt.src && t.tag = d.pkt.tag) with
        | none => s
        | some t =>
          let put (s : State) (t' : TxStream) : State :=
            { s with fab := { s.fab with tx := s.fab.tx.map (fun x => if x = t then t' else x) } }
          if st = 4 then
            let e := d.pkt.opb % 2 ^ 32
            let rest := t.unacked.dropWhile (fun p => p.seq ≠ e)
            (rest.foldl (fun s p => s.route p none t.die) s).bump (A.fabCntE2eRetx t.die) rest.length
          else if st = 5 then
            let t' := restartTx t
            let s := put s t'
            t'.unacked.foldl (fun s p => s.route p none t.die) s
          else if st = 6 then s
          else put s { t with unacked := t.unacked.filter (fun p => 2 ^ 31 ≤ (seq + 2 ^ 32 - p.seq) % 2 ^ 32), sent := 0 })

/-! Arrivals at homes (R567). -/

/-- The tower whose home an arrival goes to is under reset (R593). -/
def State.homeUnderReset (s : State) (ps : List Piece) : Bool :=
  ps.any (fun p => match s.home p.1 with
    | some (k, _) => s.board.towerRst.any (fun e => e.1 = k)
    | none => false)

/-- An arrival reaches the homes of its pieces from the base die it came to (R539, R567). -/
def State.arrivalReaches (s : State) (k : Nat) (ps : List Piece) : Bool :=
  ps.all (fun p => s.pathOpen (.tower k) (s.owningDie p.1) p.1)

/-- Some piece of a write meets a hold. -/
def State.piecesHeld (s : State) (ps : List Piece) : Bool :=
  ps.any (fun p => match windowOf p.1 with
    | (.scratch cl, o) => (s.holder cl o p.2.1 .fabric).isSome
    | _ => false)

/-- A translation fault of an arrival is shown and recorded (R482). -/
def State.arrivalFault (s : State) (k ctx : Nat) (acc : AccessKind) (kind level ent va : Nat) : State :=
  let s := s.showXltFault k ctx va acc 3 kind level ent
  s.note 0 5 (xltRecord k va ent (some { ctx := ctx, entry := none }) (unitCode 12 k 0 0 0) 0)

/-- A part of the reduce WRITE of a name waits at a slice. -/
def State.redWaiting (s : State) (id : Nat) : Bool :=
  s.l2.slices.any (fun c => c.2.waiting.any (fun r => r.who = .fabric && r.pc = id))

/-- A name that no reduce WRITE has. -/
def State.redName (s : State) : Nat :=
  1 + ((s.fab.reds.map (·.1)) ++ s.l2.slices.flatMap (fun c => (c.2.waiting.filter (·.who = .fabric)).map (·.pc))).foldl max 0

/-- FAB_WRITE: a WRITE is translated in the context that holds its tag and applied at its home (R567); a reduce WRITE is applied
once (R610), and answered when no part of it waits at a slice (R390). It waits while its home is under reset, its bytes are held or
a host copy is awaited. -/
def execFabWrite (i : Nat) (s : State) : Res :=
  .next (match s.inboxAt 1 none i with
    | none => s
    | some d =>
      match s.tagCtx d.pkt.tag with
      | none => (s.takeIn d).bump (portCnt d.port 5) 1
      | some ctx =>
        let k := d.port / 4
        let o : Owner := { ctx := ctx, entry := none }
        let bs := (List.range d.pkt.payload.length).map (fun j => (d.pkt.payload.getD j 0, d.pkt.opb.testBit (j / 64)))
        let s0 := s
        match s.resolve (.base k) ctx .write (pagePieces d.pkt.opa bs.length) with
        | (s, ps, .ok _) =>
          let reduce := ps.any (fun p => leafRed p.2.2.leaf ≠ 0)
          let live := s.fab.applied.filter (fun e => s.now < e.2.2.2 + 32 * s.fabLife)
          let s := { s with fab := { s.fab with applied := live } }
          if reduce && s.fab.reds.any (fun e => e.2.port / 4 = k && e.2.pkt.src = d.pkt.src && e.2.pkt.seq = d.pkt.seq) then s.takeIn d
          else if reduce && live.any (fun e => e.1 = k && e.2.1 = d.pkt.src && e.2.2.1 = d.pkt.seq) then (s.takeIn d).ackPkt d 0 0
          else if reduce && 4096 ≤ (live.filter (fun e => e.1 = k)).length then
            ((s.takeIn d).ackPkt d 6 0).bump (A.fabCntPeerFull k) 1
          else if ps.any (fun p => s.physFaults p.1 p.2.1 true) then (s.takeIn d).ackPkt d 2 0
          else if s.homeUnderReset ps || !s.arrivalReaches k ps || s.piecesHeld ps then s0
          else
            match s.clearPieces true ps ctx .fabric with
            | (_, false) => (s0.clearPieces true ps ctx .fabric).1
            | (s, true) =>
              let id := if reduce then s.redName else 0
              match s.writePieces ctx .fabric o id ps bs with
              | (s, .ok _) =>
                let s := if reduce then
                    { s with fab := { s.fab with applied := s.fab.applied ++ [(k, d.pkt.src, d.pkt.seq, s.now)] } } else s
                if reduce && s.redWaiting id then { s.takeIn d with fab := { (s.takeIn d).fab with reds := s.fab.reds ++ [(id, d)] } }
                else (s.takeIn d).ackPkt d 0 0
              | (s, _) => (s.takeIn d).ackPkt d 2 0
        | (s, _, .xlt kind level ent va) => ((s.arrivalFault k ctx .write kind level ent va).takeIn d).ackPkt d 1 0
        | (s, _, .acc _) => (s.takeIn d).ackPkt d 2 0
        | _ => s0.keepWalk (.base k) ctx .write (pagePieces d.pkt.opa bs.length))

/-- FAB_READ: a READ is translated, served at its home and answered with READ_RSP, or refused (R566, R567). -/
def execFabRead (i : Nat) (s : State) : Res :=
  .next (match s.inboxAt 2 none i with
    | none => s
    | some d =>
      match s.tagCtx d.pkt.tag with
      | none => (s.takeIn d).bump (portCnt d.port 5) 1
      | some ctx =>
        let k := d.port / 4
        let n := bitsOf d.pkt.opb 0 13
        let s0 := s
        match s.resolve (.base k) ctx .read (pagePieces d.pkt.opa n) with
        | (s, ps, .ok _) =>
          if s.homeUnderReset ps || !s.arrivalReaches k ps then s0
          else
            match s0.clearPieces false ps ctx .fabric with
            | (z, false) => z
            | _ =>
              match s.readPieces .fabric (some { ctx := ctx, entry := none }) ps with
              | (s, .ok bs) => (s.takeIn d).answerPkt d 3 d.pkt.opa (maskOf (bs.map (·.2))) d.pkt.seq (bs.map (·.1))
              | (s, .acc _) => (s.takeIn d).ackPkt d 2 0
              | (s, _) => s
        | (s, _, .xlt kind level ent va) => ((s.arrivalFault k ctx .read kind level ent va).takeIn d).ackPkt d 1 0
        | (s, _, .acc _) => (s.takeIn d).ackPkt d 2 0
        | _ => s0.keepWalk (.base k) ctx .read (pagePieces d.pkt.opa n))

/-- FAB_READ_RSP: a READ_RSP completes an outstanding read (R566); a duplicate is discarded. -/
def execFabReadRsp (i : Nat) (s : State) : Res :=
  .next (match s.inboxAt 3 none i with
    | none => s
    | some d =>
      match s.fab.msgs.find? (fun m => m.pkt.seq = d.pkt.seq && m.pkt.dst = d.pkt.src && m.pkt.typ = 2 && !m.acked) with
      | none => s.takeIn d
      | some m =>
        match m.use with
        | .move k mv id =>
          let s := (s.takeIn d).markAcked m
          let last := s.fab.msgs.all (fun x => x.use ≠ m.use || x.acked)
          s.moveGot k mv id m.pkt.opa d.pkt.payload d.pkt.opb last
        | .copy ch va =>
          let bs := (List.range d.pkt.payload.length).map (fun j => (d.pkt.payload.getD j 0, d.pkt.opb.testBit (j / 64)))
          match s.writeVa (.base m.die) m.owner.ctx va bs .fabric m.owner with
          | (s, .ok _) => ((s.takeIn d).markAcked m).copyDone ch
          | (s, .wait) => s
          | (s, .xlt kind level ent x) =>
            ((s.takeIn d).showXltFault m.die m.owner.ctx x .write 3 kind level ent).useFail { m with pkt := { m.pkt with opa := x, opb := ent } } 0x10
          | (s, .acc pa) => (s.takeIn d).useFail { m with pkt := { m.pkt with opa := pa } } 0x11)

/-- FAB_SIGNAL: a SIGNAL acts on its object in the context of its tag, once and in order (R510 to R513, R566, R567). -/
def execFabSignal (i : Nat) (s : State) : Res :=
  .next (match s.inboxAt 6 none i with
    | none => s
    | some d =>
      let obj := bitsOf d.pkt.opa 0 16
      if s.board.towerRst.any (fun e => e.1 = objTower obj)
        || !s.pathOpen (.tower (d.port / 4)) (.tower (objTower obj)) (64 * obj) then s
      else s.inOrder d (fun s =>
        match s.objOp (s.tagCtx d.pkt.tag) obj (bitsOf d.pkt.opa 16 2) (d.pkt.opb % 2 ^ 32) with
        | (s, true) => (s, 0)
        | (s, false) => (s, 3)))

/-! PUSH and PULL (R487, R491). -/

/-- MEM_PREFETCH commands in progress, at most 4 (R487). -/
def State.prefetches (s : State) : Nat := s.xlt.migrates.length + s.fab.copies.length

/-- What a copy's local fault is reported with: the address and the entry a remote one would name. -/
def copyFault (ch die : Nat) (o : Owner) (opa opb : Nat) : FabMsg :=
  let pkt : FabPkt := { (default : FabPkt) with opa := opa, opb := opb }
  { (default : FabMsg) with use := .copy ch 0, die := die, owner := o, pkt := pkt }

/-- The pieces of a copy's source that are still to be read. -/
def State.setLeft (s : State) (ch : Nat) (ps : List (Nat × Nat)) : State :=
  { s with fab := { s.fab with copies := s.fab.copies.map (fun c => if c.chan = ch then { c with left := ps } else c) } }

/-- A PUSH's source is read and sent piece by piece; the first fault ends it, and a piece whose host copy is awaited waits with
those after it. -/
def State.pushPages (s : State) (c : FabCopy) : List (Nat × Nat) → State
  | [] => (s.setLeft c.chan []).copyDone c.chan
  | (va, n) :: rest =>
    let o : Owner := { ctx := c.ctx, entry := none }
    match s.readVa (.base 0) c.ctx va n .read .fabric (some o) with
    | (s, .ok bs) => (s.remoteWrite 0 c.dst c.tag ((c.rva + (va + 2 ^ 57 - c.va)) % 2 ^ 57) (.copy c.chan 0) o bs).pushPages c rest
    | (s, .xlt kind level ent x) => (s.showXltFault 0 c.ctx x .read 3 kind level ent).useFail (copyFault c.chan 0 o x ent) 0x10
    | (s, .acc pa) => s.useFail (copyFault c.chan 0 o pa 0) 0x11
    | (s, .wait) => s.setLeft c.chan ((va, n) :: rest)

/-- What goes on with time alone: a copy whose source waits is read again, and one whose messages are over completes (R568). -/
def State.tick (s : State) : State :=
  s.fab.copies.foldl (fun s c => if c.left.isEmpty then s.copyDone c.chan else s.pushPages c c.left) { s with now := s.now + 1 }

/-- MEM_PREFETCH with MODE PUSH or PULL (R487, R491): checked, then every page's packets leave. -/
def State.copyBody (s : State) (ch : Nat) (p : Packet) (pull : Bool) : State :=
  let w0 := pword p 0
  let ctx := bitsOf w0 0 8
  let va := pword p 1
  let n := pword p 2
  let rva := pword p 3
  let obj := if bit w0 12 then some (bitsOf w0 16 16) else none
  s.orFail ch ((checkWords p [0x003FFFFFFFFF3FFF, 2 ^ 57 - 1, 2 ^ 58 - 1, 2 ^ 57 - 1]).orElse (fun _ => firstFail [
      (va % 64 ≠ 0 || n % 64 ≠ 0 || rva % 64 ≠ 0 || 2 ^ 57 < va + n || bitsOf w0 8 2 ≠ (if pull then 3 else 2), St.invalid),
      (!s.ctxOpen ctx || (s.jobTag ctx).isNone
        || (match obj with | some o => !s.objBoundTo o ctx | none => false), St.notFound),
      (decide (4 ≤ s.prefetches) || s.eclipse, St.busy)])) fun s =>
    let o : Owner := { ctx := ctx, entry := none }
    let tag := (s.jobTag ctx).getD 0
    let dst := bitsOf w0 32 22
    let (s, inj) := s.takeInjected 0x20 (unitCode 12 0 0 0 0) ctx
    if inj then
      s.commandFail ch { queue := 0, cls := 0x20, domain := 0, action := 5, injected := true, owner := some o,
                         unit := unitCode 12 0 0 0 0, addr := va, detail := dst + (if pull then 2 else 1) * 2 ^ 24 }
    else
    let c : FabCopy := { pull := pull, ctx := ctx, chan := ch, bytes := n, dst := dst, tag := tag, rva := rva, va := va, left := [],
                         doneObj := obj }
    let s := { s with fab := { s.fab with copies := s.fab.copies ++ [c] } }
    if pull then
      let s := (List.range (ceilDiv n 4096)).foldl (fun s i =>
        s.sendMsg 0 dst tag 2 ((rva + 4096 * i) % 2 ^ 57) (min 4096 (n - 4096 * i)) [] (.copy ch ((va + 4096 * i) % 2 ^ 57)) o) s
      s.copyDone ch
    else s.pushPages c (pagePieces va n)

/-- MEM_PREFETCH_PUSH. -/
def execMemPrefetchPush (ch : Nat) (p : Packet) (s : State) : Res := cmd ch 0x302 p s fun s => s.copyBody ch p false
/-- MEM_PREFETCH_PULL. -/
def execMemPrefetchPull (ch : Nat) (p : Packet) (s : State) : Res := cmd ch 0x302 p s fun s => s.copyBody ch p true

/-! Identity, routes and tags (R569 to R575). -/

/-- FAB_ID_SET (R569). -/
def execFabIdSet (ch : Nat) (p : Packet) (s : State) : Res :=
  cmd ch 0xA00 p s fun s =>
    s.orFail ch ((checkWords p [2 ^ 22 - 1]).orElse (fun _ => firstFail [
      (pword p 0 = idUnset, St.invalid),
      (s.partState ≠ 0 || (rangeFrom 1 63).any (fun i => s.fld (A.fabTag i) F.fabTag_ROLE = 1), St.busy)])) fun s =>
    (s.setFld A.fabDevStatus F.fabDevStatus_ID (pword p 0)).reply ch St.ok

/-- ENTRIES of every slot recounted (R598). -/
def State.countEntries (s : State) : State :=
  (rangeFrom 1 63).foldl (fun s i =>
    s.setFld (A.fabTag i) F.fabTag_ENTRIES ((s.fab.table.filter (fun e => bitsOf e.2 10 6 = i)).length)) s

/-- FAB_ROUTE_WRITE (R572): checked; the entries stand when ROUTE_WRITE_DONE has written every replica. -/
def execFabRouteWrite (ch : Nat) (p : Packet) (s : State) : Res :=
  cmd ch 0xA01 p s fun s =>
    let first := bitsOf (pword p 0) 0 22
    let count := bitsOf (pword p 0) 32 11
    let tag := pword p 1
    let slot := if tag = 0 then some 0 else s.slotOf tag
    s.orFail ch (firstFail [
      (p.length < 32 || p.length ≠ 32 + 8 * ceilDiv count 4, St.badLength),
      (bitsOf (pword p 0) 22 10 ≠ 0 || bitsOf (pword p 0) 43 21 ≠ 0 || 2 ^ 20 ≤ tag || count = 0 || 2016 < count
        || 2 ^ 22 < first + count, St.invalid),
      (slot.isNone, St.notFound)]) fun s =>
    let es := (List.range count).map (fun i =>
      let e := bitsOf (pword p (2 + i / 4)) (16 * (i % 4)) 16
      if bitsOf e 8 2 = 0 then 0 else e % 1024 + slot.getD 0 * 1024)
    { s with fab := { s.fab with writes := s.fab.writes ++ [(ch, first, es)] } }

/-- ROUTE_WRITE_DONE. -/
def execRouteWriteDone (ch : Nat) (s : State) : Res :=
  .next (match s.fab.writes.find? (fun w => w.1 = ch) with
    | none => s
    | some w =>
      let es := w.2.2
      let tbl := (List.range es.length).foldl (fun t i => Assoc.put t (w.2.1 + i) (es.getD i 0) 0) s.fab.table
      let s := { s with fab := { s.fab with writes := s.fab.writes.erase w, table := tbl } }
      (s.countEntries).reply ch St.ok [es.length])

/-- A free slot of the tag table (R573). -/
def State.freeTagSlot (s : State) : Option Nat :=
  (rangeFrom 1 63).find? (fun i => s.fld (A.fabTag i) F.fabTag_ROLE = 0 && !s.flag (A.fabTag i) F.fabTag_CLEARING)

/-- A slot given a tag with a role and a context. -/
def State.setTag (s : State) (slot tag role ctx : Nat) : State :=
  s.setFlds (A.fabTag slot) [(F.fabTag_TAG, tag), (F.fabTag_ROLE, role), (F.fabTag_CONTEXT, ctx)]

/-- The partition state with its member tag, slot and context (R597). -/
def State.setPart (s : State) (part tag slot ctx : Nat) : State :=
  s.setFlds A.fabDevStatus [(F.fabDevStatus_PART, part), (F.fabDevStatus_MEMBER_TAG, tag), (F.fabDevStatus_MEMBER_SLOT, slot),
    (F.fabDevStatus_CONTEXT, ctx)]

/-- FAB_TAG_ADD (R574). -/
def execFabTagAdd (ch : Nat) (p : Packet) (s : State) : Res :=
  cmd ch 0xA02 p s fun s =>
    let w := pword p 0
    let tag := bitsOf w 0 20
    let role := bitsOf w 20 2
    let ctx := bitsOf w 24 8
    let held := s.slotOf tag
    let same : Bool := match held with | some i => s.fld (A.fabTag i) F.fabTag_ROLE = role | none => false
    s.orFail ch ((checkWords p [0xFF3FFFFF]).orElse (fun _ => firstFail [
      (tag = 0 || role = 0 || role = 2, St.invalid),
      (s.ownId = idUnset || (role = 3 && s.partState ≠ 0) || (held.isNone && s.freeTagSlot.isNone), St.busy),
      (role = 3 && !s.ctxOpen ctx, St.notFound)])) fun s =>
    if same then s.reply ch St.ok
    else
      match held with
      | some i =>
        let wasMember := s.fld A.fabDevStatus F.fabDevStatus_MEMBER_SLOT = i && s.partState ≠ 0
        let s := s.setTag i tag role (if role = 3 then ctx else 0)
        let s := if role = 3 then s.setPart 3 tag i ctx else if wasMember && s.fab.teardown.isNone then s.setPart 0 0 0 0
        else s
        s.reply ch St.ok
      | none =>
        match s.freeTagSlot with
        | none => s.reply ch St.busy
        | some i =>
          let s := s.setTag i tag role (if role = 3 then ctx else 0)
          let s := if role = 3 then s.setPart 3 tag i ctx else s
          s.reply ch St.ok [i]

/-- A slot stops matching at once (R574): its streams are freed, its unacknowledged operations fail, and its entries are to be
walked, after which a channel is answered. -/
def State.removeSlot (s : State) (slot : Nat) (chan : Option Nat) : State :=
  let tag := s.fld (A.fabTag slot) F.fabTag_TAG
  let s := (s.setTag slot 0 0 0).setFlag (A.fabTag slot) F.fabTag_CLEARING true
  let s := { s with fab := { s.fab with tx := s.fab.tx.filter (fun t => t.tag ≠ tag),
                                        rx := s.fab.rx.filter (fun r => r.tag ≠ tag),
                                        walks := s.fab.walks ++ [(slot, chan)] } }
  (s.fab.msgs.filter (fun m => m.pkt.tag = tag && !m.acked)).foldl (fun s m =>
    if s.fab.msgs.contains m then (s.bump (A.fabCntE2eFail m.die) 1).useFail m 0x20 else s) s

/-- FAB_TAG_REMOVE (R574). -/
def execFabTagRemove (ch : Nat) (p : Packet) (s : State) : Res :=
  cmd ch 0xA03 p s fun s =>
    let tag := pword p 0
    let held := if tag = 0 then none else s.slotOf tag
    s.orFail ch ((checkWords p [2 ^ 20 - 1]).orElse (fun _ => firstFail [
      (tag = 0, St.invalid),
      (held.isNone, St.notFound),
      (match held with | some i => s.fld (A.fabTag i) F.fabTag_ROLE ≠ 1 | none => false, St.busy)])) fun s =>
    match held with
    | some i => s.removeSlot i (some ch)
    | none => s

/-! Teardown (R576). -/

/-- The end of a teardown (R576): the state becomes FREE, and its command is answered. -/
def State.endTeardown (s : State) (t : Teardown) : State :=
  let s := { s with fab := { s.fab with teardown := none } }
  let s := (s.setPart 0 0 0 0).setFlag A.fabDevStatus F.fabDevStatus_FORCED t.forced
  s.reply t.chan St.ok [b2n t.forced, (s.now - t.start) / 200]

/-- TAG_REMOVE_WALK_DONE: the entries a slot owned take TSLOT 0, the slot is free, and the command or the teardown goes on
(R574, R576). -/
def State.walkDone (s : State) (slot : Nat) : State :=
  match s.fab.walks.find? (fun w => w.1 = slot) with
  | none => s
  | some w =>
    let tbl := s.fab.table.map (fun e => if bitsOf e.2 10 6 = slot then (e.1, e.2 % 1024) else e)
    let s := { s with fab := { s.fab with walks := s.fab.walks.erase w, table := tbl } }
    let s := (s.setFlag (A.fabTag slot) F.fabTag_CLEARING false).countEntries
    let s := match w.2 with | some ch => s.reply ch St.ok | none => s
    match s.fab.teardown with
    | some t => if t.fence = some slot then s.endTeardown t else s
    | none => s

/-- A context's teardown is drained (R576): its queues have stopped, its fabric operations are over, no ordered stream of the
tag has an unacknowledged packet, no collective of it runs, no reset of it is in progress. -/
def State.drained (s : State) (t : Teardown) : Bool :=
  s.syn.queues.all (fun e => s.qCtx e.1 ≠ t.ctx || s.qState e.1 = 3)
  && s.fab.msgs.all (fun m => m.owner.ctx ≠ t.ctx || s.msgOver m)
  && s.fab.copies.all (fun c => c.ctx ≠ t.ctx)
  && s.fab.tx.all (fun x => x.tag ≠ t.tag || x.unacked.isEmpty)
  && s.fab.colls.all (fun c => c.2.ctx ≠ t.ctx || !c.2.running)
  && s.board.ctxRst.all (fun e => e.1 ≠ t.ctx)

/-- The teardown is forced: the context is reset and FORCED is set (R576). -/
def State.forceTeardown (s : State) : State :=
  match s.fab.teardown with
  | some t =>
    if t.fence.isSome || t.forced then s
    else
      let s := { s with fab := { s.fab with teardown := some { t with forced := true } } }
      if s.board.ctxRst.any (fun e => e.1 = t.ctx) then s else s.beginCtxReset t.ctx none
  | none => s

/-- QUIESCE_DRAIN_TIMEOUT: the drain has taken DRAIN_MS (R576). -/
def execQuiesceDrainTimeout (s : State) : Res :=
  .next (match s.fab.teardown with
    | some t =>
      if t.fence.isSome || t.forced then s
      else (s.notBefore (t.start + s.fld A.fabCfg F.fabCfg_DRAIN_MS * 200000)).forceTeardown
    | none => s)

end Sys2Proof.Machine
end

