-- ==== Sys2Proof/Machine/Flare.lean ====
section
/-! DEFINITION. Flare (19_fabric.md, R577 to R583) and PART_QUIESCE (R576), with the end of a tag's walk that a held flare
waits for. -/

namespace Sys2Proof.Machine

/-! The descriptor (R577, R578). -/

/-- Word i of a descriptor. -/
def dword (d : List Nat) (i : Nat) : Nat := d.getD i 0
/-- TAG. -/
def descTag (d : List Nat) : Nat := bitsOf (dword d 0) 0 20
/-- CONTEXT. -/
def descCtx (d : List Nat) : Nat := bitsOf (dword d 0) 20 8
/-- FANOUT. -/
def descFanout (d : List Nat) : Nat := bitsOf (dword d 0) 28 5
/-- FLARE_ID. -/
def descId (d : List Nat) : Nat := bitsOf (dword d 1) 0 32
/-- LEVEL_TO in MGMT cycles: units of 100 µs, 0 for 50. -/
def descLevel (d : List Nat) : Nat := (let n := bitsOf (dword d 1) 32 16; if n = 0 then 50 else n) * 20000
/-- ELASTIC. -/
def descElastic (d : List Nat) : Bool := bit (dword d 1) 48
/-- MEMBERS. -/
def descMembers (d : List Nat) : Nat := bitsOf (dword d 2) 0 24
/-- MIN_MEMBERS. -/
def descMin (d : List Nat) : Nat := bitsOf (dword d 2) 24 24
/-- RANGES. -/
def descRanges (d : List Nat) : Nat := bitsOf (dword d 2) 48 9
/-- FIRST and COUNT of the ranges. -/
def descSpans (d : List Nat) : List (Nat × Nat) := (d.drop 4).map (fun w => (bitsOf w 0 22, bitsOf w 32 22))

/-- No ID stands in two ranges. -/
def spansApart : List (Nat × Nat) → Bool
  | [] => true
  | (a, n) :: l => l.all (fun e => n = 0 || e.2 = 0 || a + n ≤ e.1 || e.1 + e.2 ≤ a) && spansApart l

/-- A descriptor is valid (R577). -/
def descValid (d : List Nat) : Bool :=
  d.length = 4 + descRanges d && 1 ≤ descRanges d && descRanges d ≤ 256
  && dword d 0 < 2 ^ 33 && dword d 1 < 2 ^ 49 && dword d 2 < 2 ^ 57 && dword d 3 = 0
  && (d.drop 4).all (fun w => w &&& 0xFFC00000FFC00000 = 0)
  && descTag d ≠ 0 && 1 ≤ descFanout d && descFanout d ≤ 16 && bitsOf (dword d 1) 32 16 ≤ 1000
  && 1 ≤ descMembers d && descMembers d < 2 ^ 22 && descMin d ≤ descMembers d
  && ((descSpans d).map (·.2)).foldl (· + ·) 0 = descMembers d
  && (descSpans d).all (fun e => e.1 + e.2 ≤ 0x3FFFFF) && spansApart (descSpans d)

/-- The ID at an index in range order. -/
def spanId : List (Nat × Nat) → Nat → Option Nat
  | [], _ => none
  | (a, n) :: l, i => if i < n then some (a + i) else spanId l (i - n)

/-- The global ID of member i (R578). -/
def memberId (d : List Nat) (i : Nat) : Option Nat := spanId (descSpans d) i

/-- Children of member i (R578). -/
def childrenOf (d : List Nat) (i : Nat) : List Nat :=
  (rangeFrom (descFanout d * i + 1) (descFanout d)).filter (fun c => decide (c < descMembers d))

/-- Levels below an index along its first children, with fuel for a tree of fan-out 2 or more. -/
def levelsFrom (f members : Nat) : Nat → Nat → Nat
  | 0, _ => 1
  | n + 1, i => if f * i + 1 < members then 1 + levelsFrom f members n (f * i + 1) else 1

/-- h(i): the levels of the subtree of i (R578). -/
def heightOf (d : List Nat) (i : Nat) : Nat :=
  if descFanout d ≤ 1 then descMembers d - i else levelsFrom (descFanout d) (descMembers d) 24 i

/-! Flares in State. -/

/-- The flare of an ID. -/
def State.flare? (s : State) (id : Nat) : Option Flare := s.fab.flares.find? (fun f => f.id = id)

/-- FAB_FLARE_STATUS shows a flare (R599). -/
def State.showFlare (s : State) (f : Flare) : State :=
  let s := s.setFlds A.flareStatus0 [(F.flareStatus0_FLARE_ID, f.id), (F.flareStatus0_PHASE, f.phase),
    (F.flareStatus0_ROOT, b2n f.parent.isNone), (F.flareStatus0_TAG, descTag f.desc)]
  s.setFld A.flareStatus1 F.flareStatus1_MEMBERS (descMembers f.desc)

/-- A flare replaced and shown. -/
def State.putFlare (s : State) (f : Flare) : State :=
  ({ s with fab := { s.fab with flares := s.fab.flares.map (fun x : Flare => if x.id = f.id then f else x) } }).showFlare f

/-- A flare taken up: the finished ones before it are forgotten, and the unreached entries of an earlier one are cleared. -/
def State.addFlare (s : State) (f : Flare) : State :=
  let old := s.fab.flares.filter (fun x => decide (x.phase < 5) && x.id ≠ f.id)
  let s := { s with fab := { s.fab with flares := old ++ [f] } }
  let s := (List.range 64).foldl (fun s i => s.wr (A.flareUnreached i) 0) s
  let s := s.setFlds A.flareStatus0 [(F.flareStatus0_OVERFLOW, 0), (F.flareStatus0_NENT, 0)]
  (s.setFld A.flareStatus1 F.flareStatus1_REACHED 0).showFlare f

/-- A FLARE packet leaves for a member (R561). -/
def State.sendFlare (s : State) (dst phase id index : Nat) (payload : List Byte) : State :=
  s.sendOrdered 0 dst 0 0x9 (phase + id * 2 ^ 32) index payload

/-- The bytes of a descriptor. -/
def descBytes (d : List Nat) : List Byte := d.flatMap (leBytes 8)

/-- A packet of a phase goes to children by index, with the descriptor when the phase carries it. -/
def State.sendKids (s : State) (f : Flare) (phase : Nat) (kids : List Nat) : State :=
  kids.foldl (fun s c => match memberId f.desc c with
    | some g => s.sendFlare g phase f.id c (if phase = 6 then [] else descBytes f.desc)
    | none => s) s

/-- An unreached entry (R579): the subtree of an index, for a reason (1 TIMEOUT, 2 REFUSED). -/
def unreachedEntry (d : List Nat) (index reason : Nat) : Nat := (memberId d index).getD 0 + reason * 2 ^ 22 + index * 2 ^ 24

/-- An entry put into entries sorted by index. -/
def insertEntry (e : Nat) : List Nat → List Nat
  | [] => [e]
  | x :: l => if e / 2 ^ 24 ≤ x / 2 ^ 24 then e :: x :: l else x :: insertEntry e l

/-- The summary of a subtree (R579): REACHED, unreached entries of the lowest indices, OVERFLOW. -/
def Flare.summary (f : Flare) : Nat × List Nat × Bool :=
  let got := f.kids.filterMap (·.answer)
  let all := (got.flatMap (fun a => a.2.1)).foldr insertEntry []
  (1 + (got.map (·.1)).foldl (· + ·) 0, all.take 64, decide (64 < all.length) || got.any (fun a => a.2.2))

/-- A summary as a payload (R579). -/
def summaryBytes (m : Nat × List Nat × Bool) : List Byte :=
  leBytes 8 (m.1 + m.2.1.length * 2 ^ 24 + b2n m.2.2 * 2 ^ 31) ++ m.2.1.flatMap (leBytes 8)

/-- A summary read from a payload. -/
def summaryOf (bs : List Byte) : Nat × List Nat × Bool :=
  let w := leNat (bs.take 8)
  let n := bitsOf w 24 7
  (bitsOf w 0 24, (List.range n).map (fun i => leNat ((bs.drop (8 + 8 * i)).take 8)), bit w 31)

/-- A summary shown in FAB_FLARE_STATUS, and in FAB_FLARE_UNREACHED at the root (R599). -/
def State.showSummary (s : State) (f : Flare) (m : Nat × List Nat × Bool) : State :=
  let s := s.setFlds A.flareStatus0 [(F.flareStatus0_OVERFLOW, b2n m.2.2), (F.flareStatus0_NENT, m.2.1.length)]
  let s := s.setFld A.flareStatus1 F.flareStatus1_REACHED m.1
  if f.parent.isNone then
    (List.range 64).foldl (fun s i => match m.2.1[i]? with
      | some e => s.setFlds (A.flareUnreached i) [(F.flareUnreached_ENTRY, e), (F.flareUnreached_VALID, 1)]
      | none => s.wr (A.flareUnreached i) 0) s
  else s

/-- The waiting command of a root is answered with a summary (R583). -/
def State.answerFlare (s : State) (f : Flare) (ok : Bool) (m : Nat × List Nat × Bool) : State :=
  match f.chan with
  | some ch => s.reply ch (if ok then St.ok else St.unreached) ([m.1, m.2.1.length + b2n m.2.2 * 128] ++ m.2.1)
  | none => s

/-- DONE_OBJ receives ADD 1 at the resolution of the prepare (R583). -/
def State.signalFlare (s : State) (f : Flare) : State :=
  match f.doneObj with
  | some o => s.signal .cc (some (descCtx f.desc)) none o 1 1
  | none => s

/-- The JOINING slot of a flare is freed and the state is FREE (R582); entries it owned are walked before it is used again
(R573). -/
def State.leaveJoining (s : State) : State :=
  let slot := s.fld A.fabDevStatus F.fabDevStatus_MEMBER_SLOT
  let s := if s.fab.table.any (fun e => bitsOf e.2 10 6 = slot) then s.removeSlot slot none else s.setTag slot 0 0 0
  s.setPart 0 0 0 0

/-- The module is JOINING for a flare. -/
def State.joiningFor (s : State) (f : Flare) : Bool :=
  s.partState = 2 && s.fld A.fabDevStatus F.fabDevStatus_MEMBER_TAG = descTag f.desc && decide (f.phase ≤ 4) && !f.held

/-- The children that acknowledged. -/
def Flare.acked (f : Flare) : List Nat :=
  (f.kids.filter (fun k => match k.answer with | some a => decide (0 < a.1) | none => false)).map (·.index)

/-- A flare is aborted here: ABORT descends to the children that acknowledged when asked, a root's waiting command is answered,
and the module leaves JOINING when asked (R576, R581, R582). -/
def State.abortFlare (s : State) (f : Flare) (forward leave : Bool) : State :=
  let s := if forward then s.sendKids f 6 f.acked else s
  let s := if leave && s.joiningFor f then s.leaveJoining else s
  let m := f.summary
  let s := s.putFlare { f with phase := 6, held := false, chan := none, doneObj := none }
  let s := if f.parent.isNone then s.showSummary f m else s
  let s := if f.parent.isNone && decide (f.phase ≤ 2) then s.signalFlare f else s
  s.answerFlare f false m

/-- A flare whose every child has answered or passed its deadline goes on: a member answers its parent; the root resolves
(R579, R581, R582). -/
def State.settleFlare (s : State) (f : Flare) : State :=
  if f.held || f.kids.any (fun k => k.answer.isNone) then s
  else
    let m := f.summary
    let commit := f.phase = 4
    match f.parent with
    | some up =>
      let s := s.putFlare { f with phase := if commit then 5 else 3 }
      (s.showSummary f m).sendFlare up (if commit then 5 else 2) f.id f.index (summaryBytes m)
    | none =>
      if commit then
        let s := s.putFlare { f with phase := 5, chan := none }
        (s.showSummary f m).answerFlare f m.2.1.isEmpty m
      else if m.1 = descMembers f.desc || (descElastic f.desc && decide (descMin f.desc ≤ m.1)) then
        let s := s.putFlare { f with phase := 3, chan := none, doneObj := none }
        ((s.showSummary f m).signalFlare f).answerFlare f true m
      else s.abortFlare f true true

/-- Whether a prepare can be taken (R579, the FREE row). -/
def State.mayJoin (s : State) (d : List Nat) : Bool :=
  s.partState = 0 && !s.eclipse && s.ctxOpen (descCtx d)
  && (match s.slotOf (descTag d) with
      | some i => s.fld (A.fabTag i) F.fabTag_ROLE = 1
      | none => s.freeTagSlot.isSome)

/-- A prepare is taken (R579): the tag is held as JOINING, PREPARE goes to the children and each gets its deadline. -/
def State.takePrepare (s : State) (f : Flare) : State :=
  let d := f.desc
  match (s.slotOf (descTag d)).orElse (fun _ => s.freeTagSlot) with
  | none => s
  | some slot =>
    let s := s.setTag slot (descTag d) 2 (descCtx d)
    let s := s.setPart 2 (descTag d) slot (descCtx d)
    let kids := childrenOf d f.index
    let f : Flare := { f with phase := 1, held := false, since := s.now, kids := kids.map (fun c =>
      { index := c, deadline := s.now + descLevel d * heightOf d c, answer := none }) }
    let s := (s.addFlare f).sendKids f 1 kids
    s.settleFlare f

/-- A prepare is refused (R579): a member answers ACK, refused; the root's own refusal resolves the flare with nothing
reached. -/
def State.refuseFlare (s : State) (f : Flare) : State :=
  match f.parent with
  | some up =>
    let s := { s with fab := { s.fab with flares := s.fab.flares.filter (fun x : Flare => x.id ≠ f.id || decide (5 ≤ x.phase)) } }
    s.sendFlare up 2 f.id f.index (summaryBytes (0, [], false))
  | none =>
    let m : Nat × List Nat × Bool := (0, [unreachedEntry f.desc 0 2], false)
    let s := s.addFlare { f with phase := 6, held := false, chan := none, doneObj := none }
    ((s.showSummary f m).signalFlare f).answerFlare f false m

/-- The bound a HELD names while this module is QUIESCING, in microseconds (R579): its remaining drain time and 2 ms. -/
def State.holdBound (s : State) : Nat :=
  match s.fab.teardown with
  | some t => (t.start + s.fld A.fabCfg F.fabCfg_DRAIN_MS * 200000 - s.now) / 200 + 2000
  | none => 2000

/-- A module acts on a prepare by its state (R579). -/
def State.onPrepare (s : State) (f : Flare) : State :=
  if s.partState = 1 && !s.eclipse then
    let s := s.addFlare { f with phase := 2, held := true }
    match f.parent with
    | some up => s.sendFlare up 3 f.id f.index (leBytes 8 s.holdBound)
    | none => s
  else if s.mayJoin f.desc then s.takePrepare f
  else s.refuseFlare f

/-- Held prepares go on once the state is FREE (R579), in the order they came. -/
def State.releaseFlares (s : State) : State :=
  (s.fab.flares.filter (·.held)).foldl (fun s f =>
    if s.partState = 1 then s else if s.mayJoin f.desc then s.takePrepare f else s.refuseFlare f) s

/-- FLARE_PREPARE_PKT: a PREPARE (R579, R593). -/
def execFlarePreparePkt (i : Nat) (s : State) : Res :=
  .next (match s.inboxAt 9 (some 1) i with
    | none => s
    | some d => s.inOrder d (fun s =>
      let desc := (List.range (d.pkt.payload.length / 8)).map (fun j => leNat ((d.pkt.payload.drop (8 * j)).take 8))
      let id := bitsOf d.pkt.opa 32 32
      let idx := bitsOf d.pkt.opb 0 24
      let f : Flare := { id := id, desc := desc, index := idx, parent := some d.pkt.src, kids := [], phase := 1, held := false,
                         chan := none, doneObj := none }
      if s.fab.flares.any (fun x => x.id = id && decide (x.phase ≤ 4)) then (s, 0)
      else if !descValid desc || memberId desc idx ≠ some s.ownId then (s.refuseFlare f, 0)
      else (s.onPrepare f, 0)))

/-- A child's answer is taken in (R579, R582): a refusal is one entry for its subtree. A prepare's ACK that comes after its
deadline, or to a flare that is over, is answered ABORT. -/
def State.flareAnswer (s : State) (phase : Nat) (d : Delivered) : State :=
  let id := bitsOf d.pkt.opa 32 32
  let idx := bitsOf d.pkt.opb 0 24
  match s.flare? id with
  | none => s
  | some f =>
    let waits := (if phase = 2 then decide (f.phase ≤ 2) else decide (f.phase = 4)) && !f.held
      && f.kids.any (fun k => k.index = idx && k.answer.isNone && decide (s.now ≤ k.deadline))
    if waits then
      let m := summaryOf d.pkt.payload
      let a := if m.1 = 0 then (0, [unreachedEntry f.desc idx 2], false) else m
      let f := { f with kids := f.kids.map (fun k => if k.index = idx then { k with answer := some a } else k) }
      (s.putFlare f).settleFlare f
    else if phase = 2 then s.sendKids f 6 [idx]
    else s

/-- FLARE_ACK_PKT. -/
def execFlareAckPkt (i : Nat) (s : State) : Res :=
  .next (match s.inboxAt 9 (some 2) i with
    | none => s
    | some d => s.inOrder d (fun s => (s.flareAnswer 2 d, 0)))

/-- FLARE_COMMIT_ACK_PKT. -/
def execFlareCommitAckPkt (i : Nat) (s : State) : Res :=
  .next (match s.inboxAt 9 (some 5) i with
    | none => s
    | some d => s.inOrder d (fun s => (s.flareAnswer 5 d, 0)))

/-- FLARE_HELD_PKT: a child's hold moves its deadline, and this module's parent hears of it (R580). -/
def execFlareHeldPkt (i : Nat) (s : State) : Res :=
  .next (match s.inboxAt 9 (some 3) i with
    | none => s
    | some d => s.inOrder d (fun s =>
      let idx := bitsOf d.pkt.opb 0 24
      match s.flare? (bitsOf d.pkt.opa 32 32) with
      | none => (s, 0)
      | some f =>
        if 2 < f.phase || f.held || !f.kids.any (fun k => k.index = idx && k.answer.isNone) then (s, 0)
        else
          let b := leNat (d.pkt.payload.take 8) * 200
          let kids := f.kids.map (fun k => if k.index = idx then
            { k with deadline := max k.deadline (s.now + b + descLevel f.desc * heightOf f.desc idx) } else k)
          let f := { f with kids := kids, phase := 2 }
          let s := s.putFlare f
          match f.parent with
          | none => (s, 0)
          | some up =>
            let last := (kids.filter (fun k => k.answer.isNone)).foldl (fun m k => max m k.deadline) 0
            (s.sendFlare up 3 f.id f.index (leBytes 8 (ceilDiv (last - s.now) 200)), 0)))

/-- FLARE_DEADLINE: a child passes its deadline (R579, R581). -/
def execFlareDeadline (id child : Nat) (s : State) : Res :=
  .next (match s.flare? id with
    | none => s
    | some f =>
      if (f.phase ≤ 2 || f.phase = 4) && !f.held && f.kids.any (fun k => k.index = child && k.answer.isNone) then
        let s := s.notBefore (match f.kids.find? (fun k => k.index = child) with | some k => k.deadline | none => 0)
        let a := (0, [unreachedEntry f.desc child 1], false)
        let f := { f with kids := f.kids.map (fun k => if k.index = child then { k with answer := some a } else k) }
        (s.putFlare f).settleFlare f
      else s)

/-- A commit descends (R582): the JOINING slot becomes MEMBER, the commit goes to the children that acknowledged, under new
deadlines. -/
def State.commitHere (s : State) (f : Flare) (chan : Option Nat) : State :=
  let slot := s.fld A.fabDevStatus F.fabDevStatus_MEMBER_SLOT
  let tag := descTag f.desc
  let ctx := descCtx f.desc
  let s := s.setTag slot tag 3 ctx
  let s := s.setPart 3 tag slot ctx
  let kids := f.acked
  let f : Flare := { f with phase := 4, chan := chan, kids := kids.map (fun c =>
    { index := c, deadline := s.now + descLevel f.desc * heightOf f.desc c, answer := none }) }
  let s := (s.putFlare f).sendKids f 4 kids
  s.settleFlare f

/-- FLARE_COMMIT_PKT: a COMMIT; a module that is not JOINING for it, prepared, answers refused (R582, R593). -/
def execFlareCommitPkt (i : Nat) (s : State) : Res :=
  .next (match s.inboxAt 9 (some 4) i with
    | none => s
    | some d => s.inOrder d (fun s =>
      let id := bitsOf d.pkt.opa 32 32
      let refuse := s.sendFlare d.pkt.src 5 id (bitsOf d.pkt.opb 0 24) (summaryBytes (0, [], false))
      match s.flare? id with
      | none => (refuse, 0)
      | some f => if f.phase = 3 && s.joiningFor f then (s.commitHere f none, 0) else (refuse, 0)))

/-- FLARE_ABORT_PKT: an ABORT (R581, R582). A prepare that this module holds is dropped. -/
def execFlareAbortPkt (i : Nat) (s : State) : Res :=
  .next (match s.inboxAt 9 (some 6) i with
    | none => s
    | some d => s.inOrder d (fun s =>
      match s.flare? (bitsOf d.pkt.opa 32 32) with
      | none => (s, 0)
      | some f => if f.phase ≤ 3 then (s.abortFlare f true true, 0) else (s, 0)))

/-- JOIN_TIMEOUT: a member left JOINING returns to FREE on its own (R582). -/
def execJoinTimeout (s : State) : Res :=
  .next (if s.partState = 2 then
      match s.fab.flares.find? (fun f => s.joiningFor f) with
      | some f => (s.notBefore (f.since + s.fld A.fabCfg F.fabCfg_JOIN_MS * 200000)).abortFlare f false true
      | none => s.leaveJoining
    else s)

/-! The commands (R583). -/

/-- FLARE_PREPARE. -/
def execFlarePrepare (ch : Nat) (p : Packet) (s : State) : Res :=
  cmd ch 0xA05 p s fun s =>
    let w := pword p 0
    let d := (p.params.drop 1).map (·.toNat)
    let id := descId d
    let obj := if bit w 1 then some (bitsOf w 16 16) else none
    s.orFail ch (firstFail [
      (p.length < 56 || p.length ≠ 56 + 8 * descRanges d, St.badLength),
      (w &&& 0xFFFFFFFF0000FFFC ≠ 0 || !descValid d, St.invalid),
      (decide (s.ownId = idUnset), St.busy),
      (memberId d 0 ≠ some s.ownId, St.invalid),
      (s.fab.flares.any (fun f => f.parent.isNone && decide (f.phase ≤ 2)), St.busy),
      (match obj with | some o => !s.objBoundTo o (descCtx d) | none => false, St.notFound)]) fun s =>
    let wait := bit w 0
    let s : State := if wait then s else s.reply ch (if s.partState = 1 && !s.eclipse then St.held else St.ok)
    let f : Flare := { id := id, desc := d, index := 0, parent := none, kids := [], phase := 1, held := false,
                       chan := if wait then some ch else none, doneObj := obj }
    s.onPrepare f

/-- The flare rooted here of an ID. -/
def State.rooted (s : State) (id : Nat) : Option Flare := s.fab.flares.find? (fun f => f.id = id && f.parent.isNone)

/-- FLARE_COMMIT. -/
def execFlareCommit (ch : Nat) (p : Packet) (s : State) : Res :=
  cmd ch 0xA06 p s fun s =>
    let f? := s.rooted (pword p 0)
    s.orFail ch ((checkWords p [2 ^ 32 - 1]).orElse (fun _ => firstFail [
      (f?.isNone, St.notFound),
      (match f? with | some f => f.phase ≠ 3 | none => false, St.invalid)])) fun s =>
    match f? with
    | some f => s.commitHere f (some ch)
    | none => s

/-- FLARE_ABORT. -/
def execFlareAbort (ch : Nat) (p : Packet) (s : State) : Res :=
  cmd ch 0xA07 p s fun s =>
    let f? := s.rooted (pword p 0)
    s.orFail ch ((checkWords p [2 ^ 32 - 1]).orElse (fun _ => firstFail [
      (f?.isNone, St.notFound),
      (match f? with | some f => f.phase = 5 | none => false, St.invalid)])) fun s =>
    match f? with
    | some f => (if f.phase ≤ 4 then s.abortFlare f true true else s).reply ch St.ok
    | none => s

/-! Teardown (R576). -/

/-- PART_QUIESCE. -/
def execPartQuiesce (ch : Nat) (p : Packet) (s : State) : Res :=
  cmd ch 0xA04 p s fun s =>
    let w := pword p 0
    let tag := bitsOf w 0 20
    let v := s.rd A.fabDevStatus
    s.orFail ch ((checkWords p [0x10FFFFF]).orElse (fun _ => firstFail [
      (tag = 0 || F.fabDevStatus_PART.get v = 0 || F.fabDevStatus_MEMBER_TAG.get v ≠ tag, St.notFound),
      (F.fabDevStatus_PART.get v = 1, St.busy)])) fun s =>
    let ctx := F.fabDevStatus_CONTEXT.get v
    let live := s.fab.flares.filter (fun f => descTag f.desc = tag && decide (f.phase ≤ 4) && !f.held)
    let s := live.foldl (fun s f => s.abortFlare f false false) s
    let s := s.setFld A.fabDevStatus F.fabDevStatus_PART 1
    let t : Teardown := { tag := tag, ctx := ctx, chan := ch, start := s.now, forced := false, fence := none }
    let s := { s with fab := { s.fab with teardown := some t } }
    let qs := (s.syn.queues.map (·.1)).filter (fun q => s.qCtx q = ctx && s.qState q = 1)
    let s := qs.foldl (fun s q => s.requestStop q []) s
    if bit w 24 then s.forceTeardown else s

/-- QUIESCE_DRAIN_DONE: the drain has ended and the tag is fenced: its slot stops matching and the context is no longer bound to a
tag (R576). -/
def execQuiesceDrainDone (s : State) : Res :=
  .next (match s.fab.teardown with
    | some t =>
      if t.fence.isNone && s.drained t then
        match s.slotOf t.tag with
        | some i =>
          let s := { s with fab := { s.fab with teardown := some { t with fence := some i } } }
          (s.setPart 1 0 0 0).removeSlot i none
        | none => (s.endTeardown t).releaseFlares
      else s
    | none => s)

/-- TAG_REMOVE_WALK_DONE. -/
def execTagRemoveWalkDone (slot : Nat) (s : State) : Res :=
  onUnit (slot < 64) (let t := s.walkDone slot; if t.partState = 0 then t.releaseFlares else t)

end Sys2Proof.Machine
end

