-- ==== Sys2Proof/Machine/Collective.lean ====
section
/-! DEFINITION. Collectives (19_fabric.md, R584 to R589) and the management packets and aggregators (R590 to R592). -/

namespace Sys2Proof.Machine

/-! Collectives in State. -/

/-- Collective n, when it is set up. -/
def State.coll? (s : State) (n : Nat) : Option Coll := Assoc.get? s.fab.colls n
/-- Collective n replaced. -/
def State.setColl (s : State) (n : Nat) (c : Coll) : State :=
  { s with fab := { s.fab with colls := Assoc.set s.fab.colls n c } }
/-- Bytes of an element. -/
def Coll.esize (c : Coll) : Nat := storeBits c.fmt / 8
/-- Elements of a whole segment (R585). -/
def Coll.segElems (c : Coll) : Nat := if c.mode = 2 then 240 else 4096 / c.esize
/-- Segments of a step. -/
def Coll.segCount (c : Coll) : Nat := ceilDiv c.elems c.segElems
/-- Elements of a segment: the last may be short. -/
def Coll.elemsIn (c : Coll) (seg : Nat) : Nat := min c.segElems (c.elems - seg * c.segElems)
/-- The wait of a collective for its next step. -/
def collWaiter (n : Nat) : Issuer := .coll (n % 4) (n / 4)

/-- The record of a collective's failure at its base die. -/
def collRecord (n : Nat) (c : Coll) (cls addr aux : Nat) : RecordReq :=
  { queue := n % 4, cls := cls, domain := 0, action := 5, owner := some { ctx := c.ctx, entry := none },
    unit := unitCode 12 (n % 4) 0 (n / 4) 0, opref := c.step, addr := addr, aux := aux }

/-! Combination (R586, R587). -/

/-- One step of an ORDERED combination of two encodings of a format (R586): OP 0 SUM, 1 MIN, 2 MAX, 3 AND, 4 OR, 5 XOR. A sum
beyond the format is a free value. -/
def orderedStep (fmt op rnd a b : Nat) : Nat :=
  if fmt = 0x10 then
    match op with
    | 0 => (a + b) % 2 ^ 32
    | 1 => if sext 32 a ≤ sext 32 b then a else b
    | 2 => if sext 32 a ≤ sext 32 b then b else a
    | 3 => a &&& b
    | 4 => a ||| b
    | _ => a ^^^ b
  else
    match fmtOf fmt with
    | none => a
    | some f =>
      let x := f.decode a
      let y := f.decode b
      match op with
      | 0 =>
        match x.add y (if rnd = 3 then .rdn else .rne) with
        | .fin d =>
          if d.m = 0 then f.zeroBits d.neg
          else
            let (n, u) := roundTo d f (Rnd.ofCode rnd)
            if beyond f d.neg n u then (Config.collSum fmt rnd a b).toNat % 2 ^ f.bits
            else if n = 0 then f.zeroBits d.neg else f.encode d.neg n u
        | z => Num.toFmt f z
      | 1 => Num.toFmt f (x.minimum y)
      | _ => Num.toFmt f (x.maximum y)

/-- An element's accumulator at an anchor: it enters as its product with one does (R587). -/
def exactOwn (fmt : Nat) (anchor : Int) (v : Nat) : ApRec :=
  match fmtOf fmt with
  | some f => (Acc.zero.product anchor 0 (f.decode v) (.fin ⟨false, 1, 0⟩)).toRec anchor
  | none => Acc.zero.toRec anchor

/-- An EXACT payload (R587): 240 words of 16 bytes, then 120 bytes of flags, 4 bits an element. -/
def exactPayload (rs : List ApRec) : List Byte :=
  let rs := rs ++ List.replicate (240 - rs.length) { w := 0, anchor := 0, flags := 0 }
  rs.flatMap (fun r => leBytes 16 r.w) ++
    (List.range 120).map (fun i =>
      BitVec.ofNat 8 ((rs.getD (2 * i) default).flags % 16 + 16 * ((rs.getD (2 * i + 1) default).flags % 16)))

/-- The records of an EXACT payload. -/
def exactRecs (anchor : Int) (n : Nat) (bs : List Byte) : List ApRec :=
  (List.range n).map (fun i => { w := leNat ((bs.drop (16 * i)).take 16), anchor := anchor,
                                 flags := bitsOf (bs.getD (3840 + i / 2) 0).toNat (4 * (i % 2)) 4 })

/-- Bytes padded to whole words. -/
def padWords (bs : List Byte) : List Byte := bs ++ List.replicate ((8 - bs.length % 8) % 8) 0

/-- A segment's combination: the module's own contribution first, then its children's in the order of the list (R586, R587). -/
def Coll.combine (c : Coll) (n : Nat) (parts : List (List Byte)) : List Byte :=
  match parts with
  | [] => []
  | own :: kids =>
    if c.mode = 2 then
      exactPayload (kids.foldl (fun (acc : List ApRec) k =>
        (acc.zip (exactRecs c.anchor n k)).map (fun e => e.1.add e.2)) (exactRecs c.anchor n own))
    else
      let es := c.esize
      padWords ((List.range n).flatMap (fun i =>
        leBytes es (kids.foldl (fun a k => orderedStep c.fmt c.op c.rnd a (leNat ((k.drop (i * es)).take es)))
          (leNat ((own.drop (i * es)).take es)))))

/-- The result of a combination at the root: in EXACT mode each record converts with RND and X = 0 (R587). -/
def Coll.result (c : Coll) (n : Nat) (bs : List Byte) : List Byte :=
  if c.mode = 2 then
    padWords ((exactRecs c.anchor n bs).flatMap (fun r => leBytes c.esize (match fmtOf c.fmt with
      | some f => (r.convert 0 f (Rnd.ofCode c.rnd)).1
      | none => 0)))
  else bs

/-! Steps (R585). -/

/-- A COLL or COLL_RES packet leaves for a member. -/
def State.sendColl (s : State) (n typ dst seg : Nat) (c : Coll) (bs : List Byte) (bad : Bool) : State :=
  match s.jobTag c.ctx with
  | some tag =>
    s.sendOrdered (n % 4) dst tag typ (n + seg * 2 ^ 8 + c.step % 2 ^ 24 * 2 ^ 40) (if bad then 2 ^ (ceilDiv bs.length 64) - 1 else 0) bs
  | none => s

/-- A step fails locally, by a translation or access fault of its own access (R588, R612). -/
def State.collFault (s : State) (n : Nat) (c : Coll) (cls addr aux : Nat) : State :=
  (s.opFail (collRecord n c cls addr aux)).failColl n

/-- Bytes of a result segment written at DST_VA: true when they are written; false while a host copy is awaited or when the
step has failed. -/
def State.writeResult (s : State) (n seg : Nat) (c : Coll) (bs : List Byte) (bad : Bool) : State × Bool :=
  let va := (c.dst + seg * c.segElems * c.esize) % 2 ^ 57
  let marked := (bs.take (c.elemsIn seg * c.esize)).map (fun b => (b, bad))
  let o : Owner := { ctx := c.ctx, entry := none }
  match s.writeVa (.base (n % 4)) c.ctx va marked .fabric o with
  | (s, .ok _) => (s, true)
  | (s, .wait) => (s, false)
  | (s, .xlt kind level ent x) => ((s.showXltFault (n % 4) c.ctx x .write 3 kind level ent).collFault n c 0x10 x ent, false)
  | (s, .acc pa) => (s.collFault n c 0x11 pa 0, false)

/-- A result segment that is written leaves for the children and is no longer in flight. -/
def State.resultDone (s : State) (n seg : Nat) (bs : List Byte) (bad : Bool) : State :=
  match s.coll? n with
  | some c =>
    let s := c.kids.foldl (fun s k => s.sendColl n 8 k seg c bs bad) s
    s.setColl n { c with written := c.written + 1, segs := c.segs.filter (fun g => !(g.step = c.step && g.seg = seg)) }
  | none => s

/-- A segment of the running step that has every contribution is combined and leaves: upward, or as the root's result. -/
def State.combineSeg (s : State) (n seg : Nat) : State :=
  match s.coll? n with
  | none => s
  | some c =>
    match c.segs.find? (fun g => g.step = c.step && g.seg = seg) with
    | none => s
    | some g =>
      if !c.running || g.up || g.parts.length ≠ c.kids.length + 1 then s
      else
        let part (i : Nat) : List Byte := match g.parts.find? (fun p => p.1 = i) with | some p => p.2.1 | none => []
        let bs := c.combine (c.elemsIn seg) ((List.range (c.kids.length + 1)).map part)
        let bad := g.parts.any (fun p => p.2.2 ≠ 0)
        if c.root then
          let res := c.result (c.elemsIn seg) bs
          match s.writeResult n seg c res bad with
          | (s, true) => s.resultDone n seg res bad
          | (s, false) => s
        else
          let s := s.setColl n { c with segs := c.segs.map (fun x : CollSeg =>
            if x.step = c.step && x.seg = seg then { x with up := true, parts := x.parts.map (fun p => (p.1, [], p.2.2)) } else x) }
          s.sendColl n 7 c.parent seg c bs bad

/-- Lag counters of a source that arrives (R589). -/
def CollLag.arrive (l : CollLag) (us : Nat) (isLast : Bool) : CollLag :=
  { last := min (2 ^ 32 - 1) (l.last + b2n isLast), total := min (2 ^ 32 - 1) (l.total + us), max := min (2 ^ 32 - 1) (Nat.max l.max us) }

/-- Source i's contribution to a segment arrives (0 the module itself): false when 64 segments are in flight. -/
def State.addPart (s : State) (n step seg i : Nat) (bs : List Byte) (mask : Nat) : State × Bool :=
  match s.coll? n with
  | none => (s, true)
  | some c =>
    match c.segs.find? (fun g => g.step = step && g.seg = seg) with
    | none =>
      if 64 ≤ c.segs.length then (s, false)
      else
        let g : CollSeg := { step := step, seg := seg, first := s.now, parts := [(i, bs, mask)], up := false }
        let lag := c.lag.set i ((c.lag.getD i default).arrive 0 c.kids.isEmpty)
        (s.setColl n { c with segs := c.segs ++ [g], lag := lag }, true)
    | some g =>
      if g.parts.any (fun p => p.1 = i) then (s, true)
      else
        let g' := { g with parts := g.parts ++ [(i, bs, mask)] }
        let lag := c.lag.set i ((c.lag.getD i default).arrive ((s.now - g.first) / 200) (g'.parts.length = c.kids.length + 1))
        (s.setColl n { c with segs := c.segs.map (fun x : CollSeg => if x = g then g' else x), lag := lag }, true)

/-- The module's own contributions enter while segments may be in flight, with fuel. -/
def State.injectOwn (s : State) (n : Nat) : Nat → State
  | 0 => s
  | fuel + 1 =>
    match s.coll? n with
    | none => s
    | some c =>
      let seg := c.inject
      if !c.running || c.segCount ≤ seg then s
      else if 64 ≤ c.segs.length && !c.segs.any (fun g => g.step = c.step && g.seg = seg) then s
      else
        let k := c.elemsIn seg
        let o : Owner := { ctx := c.ctx, entry := none }
        match s.readVa (.base (n % 4)) c.ctx ((c.src + seg * c.segElems * c.esize) % 2 ^ 57) (k * c.esize) .read .fabric (some o) with
        | (s, .ok bs) =>
          let raw := bs.map (·.1)
          let own := if c.mode = 2 then
              exactPayload ((List.range k).map (fun i => exactOwn c.fmt c.anchor (leNat ((raw.drop (i * c.esize)).take c.esize))))
            else padWords raw
          match s.addPart n c.step seg 0 own (b2n (bs.any (·.2))) with
          | (s, true) =>
            let s : State := match s.coll? n with | some c => s.setColl n { c with inject := seg + 1 } | none => s
            (s.combineSeg n seg).injectOwn n fuel
          | (s, false) => s
        | (s, .wait) => s
        | (s, .xlt kind level ent x) => (s.showXltFault (n % 4) c.ctx x .read 3 kind level ent).collFault n c 0x10 x ent
        | (s, .acc pa) => s.collFault n c 0x11 pa 0

/-- A running step goes on as far as it can. -/
def State.advanceColl (s : State) (n : Nat) : State :=
  match s.coll? n with
  | some c =>
    let s := c.segs.foldl (fun s g => if g.step = c.step then s.combineSeg n g.seg else s) s
    s.injectOwn n (c.segCount + 1)
  | none => s

/-- No new step may start (R593, R617). -/
def State.collsHeld (s : State) (ctx : Nat) : Bool :=
  s.eclipse || s.deviceStopped || match s.fab.teardown with | some t => t.ctx = ctx | none => false

/-- COLL_STEP_START: a step begins once TRIG satisfies GE s + 1, or a step that waits goes on (R585). -/
def execCollStepStart (n : Nat) (s : State) : Res :=
  onUnit (n < 256) (match s.coll? n with
    | none => s
    | some c =>
      if c.running then s.advanceColl n
      else
        match s.waitOf (collWaiter n) with
        | some w =>
          if w.met && !s.collsHeld c.ctx then
            let s := s.endWait (collWaiter n)
            let s := s.setColl n { c with running := true, start := s.now, inject := 0, written := 0 }
            (s.setFld (collStatusOf n) F.collStatus_STATE 1).advanceColl n
          else s
        | none => s)

/-- COLL_STEP_COMPLETE: every result segment is written: DONE receives ADD 1 and the next step waits for TRIG (R585). -/
def execCollStepComplete (n : Nat) (s : State) : Res :=
  onUnit (n < 256) (match s.coll? n with
    | none => s
    | some c =>
      if c.running && c.written = c.segCount then
        let step := (c.step + 1) % 2 ^ 32
        let s := s.setColl n { c with running := false, step := step }
        let s := s.setFlds (collStatusOf n) [(F.collStatus_STATE, 0), (F.collStatus_STEPS, step)]
        let s := s.signal (collWaiter n) (some c.ctx) none c.done 1 1
        s.beginWait (collWaiter n) c.ctx c.trig 3 ((step + 1) % 2 ^ 32)
      else s)

/-- COLL_STEP_TIMEOUT: a step that has not completed in time fails, with a record that names the children still missing
(R588). -/
def execCollStepTimeout (n : Nat) (s : State) : Res :=
  onUnit (n < 256) (match s.coll? n with
    | none => s
    | some c =>
      if c.running then
        let s := s.notBefore (c.start + (if c.timeout = 0 then 1000 else c.timeout) * 200000)
        let miss := (List.range c.kids.length).foldl (fun m i =>
          if c.segs.any (fun g => g.step = c.step && !g.parts.any (fun p => p.1 = i + 1)) then m + 2 ^ i else m) 0
        s.collFault n c 0x21 0 (miss * 2 ^ 32 + n)
      else s)

/-- The step a packet's 24-bit step number names, when it is not past. -/
def Coll.stepOf (c : Coll) (p : Nat) : Option Nat :=
  let ahead := (p + 2 ^ 24 - c.step % 2 ^ 24) % 2 ^ 24
  if ahead < 2 ^ 23 then some ((c.step + ahead) % 2 ^ 32) else none

/-- FAB_COLL: a child's contribution arrives (R585, R586). It waits while 64 segments are in flight; one that names no
collective that runs here is acknowledged and dropped. -/
def execFabColl (i : Nat) (s : State) : Res :=
  .next (match s.inboxAt 7 none i with
    | none => s
    | some d =>
      let n := bitsOf d.pkt.opa 0 8
      let seg := bitsOf d.pkt.opa 8 32
      match s.coll? n with
      | none => s.inOrder d (fun s => (s, 0))
      | some c =>
        match c.stepOf (bitsOf d.pkt.opa 40 24), c.kids.idxOf? d.pkt.src with
        | some step, some j =>
          if s.fld (collStatusOf n) F.collStatus_STATE = 2 || c.segCount ≤ seg then s.inOrder d (fun s => (s, 0))
          else if 64 ≤ c.segs.length && !c.segs.any (fun g => g.step = step && g.seg = seg) then s
          else s.inOrder d (fun s => (((s.addPart n step seg (j + 1) d.pkt.payload d.pkt.opb).1).combineSeg n seg, 0))
        | _, _ => s.inOrder d (fun s => (s, 0)))

/-- FAB_COLL_RES: a result arrives from the parent, is written and goes on to the children (R585). -/
def execFabCollRes (i : Nat) (s : State) : Res :=
  .next (match s.inboxAt 8 none i with
    | none => s
    | some d =>
      let n := bitsOf d.pkt.opa 0 8
      let seg := bitsOf d.pkt.opa 8 32
      match s.coll? n with
      | none => s.inOrder d (fun s => (s, 0))
      | some c =>
        let mine := c.running && c.stepOf (bitsOf d.pkt.opa 40 24) = some c.step && d.pkt.src = c.parent && !c.root
          && c.segs.any (fun g => g.step = c.step && g.seg = seg && g.up)
        if !mine || s.turnOf d ≠ .apply then s.inOrder d (fun s => (s, 0))
        else
          match s.writeResult n seg c d.pkt.payload (d.pkt.opb ≠ 0) with
          | (s, true) => s.inOrder d (fun s => (s.resultDone n seg d.pkt.payload (d.pkt.opb ≠ 0), 0))
          | (s, false) =>
            match s.coll? n with
            | some c => if c.running then s else s.inOrder d (fun s => (s, 0))
            | none => s)

/-! The commands (R584, R589). -/

/-- COLL_SETUP. -/
def execCollSetup (ch : Nat) (p : Packet) (s : State) : Res :=
  cmd ch 0xA08 p s fun s =>
    let w i := pword p i
    let n := bitsOf (w 0) 0 8
    let ctx := bitsOf (w 0) 8 8
    let mode := bitsOf (w 0) 16 2
    let op := bitsOf (w 0) 18 4
    let fmt := bitsOf (w 0) 22 5
    let trig := bitsOf (w 1) 16 16
    let done := bitsOf (w 1) 32 16
    let ms := bitsOf (w 1) 48 16
    let root := bit (w 5) 22
    let nch := bitsOf (w 5) 24 5
    let runs := match s.coll? n with | some c => c.running | none => false
    let member := s.partState = 3 && s.fld A.fabDevStatus F.fabDevStatus_CONTEXT = ctx
    let bad := 5 < op || !([0x04, 0x05, 0x10, 0x11, 0x12].contains fmt) || (3 ≤ op && fmt ≠ 0x10) || mode = 3
      || (mode = 2 && (op ≠ 0 || fmt = 0x10)) || (root && bitsOf (w 5) 0 22 ≠ 0) || 16 < nch || w 4 = 0
    s.orFail ch ((checkWords p ([0x1FFFFFFF, 2 ^ 64 - 1, 2 ^ 57 - 1, 2 ^ 57 - 1, 2 ^ 32 - 1, 0x1F7FFFFF]
        ++ List.replicate 8 0x003FFFFF003FFFFF)).orElse (fun _ => firstFail [
      (mode ≠ 0 && bad, St.invalid),
      ((mode ≠ 0 && !member) || runs, St.busy),
      (mode ≠ 0 && (!s.objBoundTo trig ctx || !s.objBoundTo done ctx), St.notFound)])) fun s =>
    let s := s.endWait (collWaiter n)
    if mode = 0 then
      ({ s with fab := { s.fab with colls := Assoc.del s.fab.colls n } }.wr (collStatusOf n) 0).reply ch St.ok
    else
      let kids := (List.range nch).map (fun i => bitsOf (w (6 + i / 2)) (32 * (i % 2)) 22)
      let c : Coll := {
        ctx := ctx, mode := mode, op := op, fmt := fmt, rnd := bitsOf (w 0) 27 2, anchor := sext 16 (bitsOf (w 1) 0 16),
        trig := trig, done := done, timeout := if ms = 0 then 1000 else ms, src := w 2, dst := w 3, elems := w 4,
        parent := bitsOf (w 5) 0 22, root := root, kids := kids, step := 0, running := false, start := 0, inject := 0,
        written := 0, segs := [], lag := List.replicate (nch + 1) { last := 0, total := 0, max := 0 } }
      let s := (s.setColl n c).wr (collStatusOf n) 0
      let s := s.setFlds (collStatusOf n) [(F.collStatus_MODE, mode), (F.collStatus_CONTEXT, ctx), (F.collStatus_NCHILD, nch)]
      (s.beginWait (collWaiter n) ctx trig 3 1).reply ch St.ok

/-- COLL_LAG_READ (R589). -/
def execCollLagRead (ch : Nat) (p : Packet) (s : State) : Res :=
  cmd ch 0xA09 p s fun s =>
    let n := bitsOf (pword p 0) 0 8
    s.orFail ch ((checkWords p [0x1FF]).orElse (fun _ => if (s.coll? n).isNone then some St.notFound else none)) fun s =>
    match s.coll? n with
    | none => s
    | some c =>
      let words := ((s.ownId :: c.kids).zip c.lag).flatMap (fun e => [e.1 + e.2.last * 2 ^ 32, e.2.total + e.2.max * 2 ^ 32])
      let s := s.reply ch St.ok (s.fld (collStatusOf n) F.collStatus_STEPS :: words)
      if bit (pword p 0) 8 then s.setColl n { c with lag := c.lag.map (fun _ => { last := 0, total := 0, max := 0 }) } else s

/-! Management packets (R590 to R592). -/

/-- Delivered packet i of MGMT and a KIND, in the order of its stream. -/
def State.onMgmt (s : State) (kind i : Nat) (effect : Delivered → State → State × Nat) : State :=
  match s.inboxAt 10 (some kind) i with
  | none => s
  | some d => s.inOrder d (effect d)

/-- The channel that takes a command packet from a source (R590). -/
def State.mgmtChan (s : State) (src : Nat) : Option Nat :=
  let takes (f : Fld) : Bool := let v := s.fld A.fabMgmtCfg f; v = idUnset || v = src
  if takes F.fabMgmtCfg_SRC62 then some 62 else if takes F.fabMgmtCfg_SRC63 then some 63 else none

/-- MGMT_COMMAND_PKT: a command packet for channel 62 or 63; one from another source is dropped, counted and not answered (R590). -/
def execMgmtCommandPkt (i : Nat) (s : State) : Res :=
  .next (match s.inboxAt 10 (some 1) i with
    | none => s
    | some d =>
      match s.mgmtChan d.pkt.src with
      | none => (s.takeIn d).bump (portCnt d.port 5) 1
      | some c => s.inOrder d (fun s =>
        if 8 ≤ (s.chan c).arrived.length then (s, 6)
        else
          let s := s.modChan c (fun x => { x with arrived := x.arrived ++ [d.pkt.payload] })
          ({ s with fab := { s.fab with cmdFrom := s.fab.cmdFrom ++ [(c, d.pkt.src)] } }, 0)))

/-- MGMT_REPLY_PKT: a reply to a command of a module elsewhere; nothing here waits for it. -/
def execMgmtReplyPkt (i : Nat) (s : State) : Res := .next (s.onMgmt 2 i fun _ s => (s, 0))

/-- The 64 bytes of a HEALTH report (R591). The order of its fields is log entry 21. -/
def State.healthReport (s : State) : List Byte :=
  let v := s.rd A.fabDevStatus
  let die := (List.range 4).foldl (fun m i => max m (max (bitsOf (s.fld A.pwrTemp F.pwrTemp_COMPUTE_C) (8 * i) 8)
    (bitsOf (s.fld A.pwrTemp F.pwrTemp_BASE_C) (8 * i) 8))) (s.fld A.pwrTempAux F.pwrTempAux_HOST_C)
  let ovf := (List.range 4).foldl (fun m k => m + (s.fld (errQStatus k) F.errQStatusT_OVERFLOW) * 2 ^ k) 0
  let lag := s.fab.colls.foldl (fun m e => e.2.lag.foldl (fun m l => max m l.max) m) 0
  leBytes 4 (F.fabDevStatus_ID.get v) ++ leBytes 1 s.readiness ++ leBytes 1 (F.fabDevStatus_PART.get v) ++ leBytes 2 0
    ++ leBytes 4 (F.fabDevStatus_MEMBER_TAG.get v) ++ leBytes 4 (s.fld A.alert F.alert_ALERTS)
    ++ leBytes 2 (s.fld A.pwrSenseP F.pwrSenseP_MAIN_W) ++ leBytes 1 die ++ leBytes 1 (s.fld A.pwrTempAux F.pwrTempAux_STACK_C)
    ++ leBytes 1 ovf ++ leBytes 1 (s.fld A.capDev F.capDev_MXE_SPARES) ++ leBytes 2 0
    ++ leBytes 4 lag ++ leBytes 4 s.fab.reports ++ leBytes 32 0

/-- HEALTH_PERIOD: the module's report leaves for its aggregator (R591). -/
def execHealthPeriod (s : State) : Res :=
  .next (let up := s.fld A.fabMgmtStatus F.fabMgmtStatus_AGG_ID
    if up = idUnset || s.fab.period = 0 then s
    else
      let s := s.notBefore (s.fab.reported + s.fab.period * 200000)
      let s := s.sendOrdered 0 up 0 0xA 3 0 s.healthReport
      { s with fab := { s.fab with reports := (s.fab.reports + 1) % 2 ^ 32, reported := s.now } })

/-- MGMT_HEALTH_PKT: a child's report arrives at its aggregator (R592). -/
def execMgmtHealthPkt (i : Nat) (s : State) : Res :=
  .next (s.onMgmt 3 i fun d s =>
    match s.fab.agg with
    | none => (s, 0)
    | some a =>
      if a.kids.any (fun k => k.1 = d.pkt.src) then
        let lost := a.lost.erase d.pkt.src
        let alert := leNat ((d.pkt.payload.drop 12).take 4) ≠ 0
        let al := a.alerting.erase d.pkt.src
        let a' : Aggregator := { a with
          kids := a.kids.map (fun k : Nat × List Byte × Nat => if k.1 = d.pkt.src then (k.1, d.pkt.payload, s.now) else k),
          answered := if a.answered.contains d.pkt.src then a.answered else a.answered ++ [d.pkt.src],
          lost := lost, alerting := if alert then al ++ [d.pkt.src] else al }
        let s := { s with fab := { s.fab with agg := some a' } }
        (s.setFld A.fabMgmtStatus F.fabMgmtStatus_LOST lost.length, 0)
      else (s, 0))

/-- MGMT_ATTACH_PKT: this module reports to the sender from now on, every PERIOD_MS (R591, R592). Its first report answers. -/
def execMgmtAttachPkt (i : Nat) (s : State) : Res :=
  .next (s.onMgmt 4 i fun d s =>
    let s := { s with fab := { s.fab with period := leNat (d.pkt.payload.take 8) } }
    let s := s.setFld A.fabMgmtStatus F.fabMgmtStatus_AGG_ID d.pkt.src
    let s := s.sendOrdered 0 d.pkt.src 0 0xA 3 0 s.healthReport
    ({ s with fab := { s.fab with reports := (s.fab.reports + 1) % 2 ^ 32, reported := s.now } }, 0))

/-- MGMT_DETACH_PKT: the sender no longer aggregates this module (R592). -/
def execMgmtDetachPkt (i : Nat) (s : State) : Res :=
  .next (s.onMgmt 5 i fun d s =>
    if s.fld A.fabMgmtStatus F.fabMgmtStatus_AGG_ID = d.pkt.src then
      let s := { s with fab := { s.fab with period := 0 } }
      (s.setFld A.fabMgmtStatus F.fabMgmtStatus_AGG_ID idUnset, 0)
    else (s, 0))

/-- MGMT_AGG_PKT: an aggregator's summary reaches its upstream, which only acknowledges it. -/
def execMgmtAggPkt (i : Nat) (s : State) : Res := .next (s.onMgmt 6 i fun _ s => (s, 0))

/-- AGG_ATTACH (R592). -/
def execAggAttach (ch : Nat) (p : Packet) (s : State) : Res :=
  cmd ch 0xA0A p s fun s =>
    let w := pword p 0
    let n := bitsOf w 16 7
    let per := bitsOf w 0 16
    let pa := pword p 1
    let ids := (List.range n).map (fun i => pword p (2 + i))
    s.orFail ch (firstFail [
      (p.length ≠ 32 + 8 * n, St.badLength),
      (w &&& 0xFFC00000FF800000 ≠ 0 || ids.any (fun g => 2 ^ 22 ≤ g), St.invalid),
      (s.fab.agg.isSome, St.busy),
      (per < 10 || 10000 < per || n < 1 || 64 < n || pa % 64 ≠ 0 || !s.rangeIn pa (64 * n), St.invalid)]) fun s =>
    let a : Aggregator := { period := per, upstream := bitsOf w 32 22, pa := pa, kids := ids.map (fun g => (g, [], s.now)),
                            answered := [], lost := [], alerting := [], since := s.now, chan := some ch }
    let s := { s with fab := { s.fab with agg := some a } }
    let s := s.setFlds A.fabMgmtStatus [(F.fabMgmtStatus_AGGREGATING, 1), (F.fabMgmtStatus_CHILDREN, n), (F.fabMgmtStatus_LOST, 0)]
    ids.foldl (fun s g => s.sendOrdered 0 g 0 0xA 4 0 (leBytes 8 per)) s

/-- A 64-bit mask of the children that a test picks, by their place in the list. -/
def Aggregator.mask (a : Aggregator) (p : Nat → Bool) : Nat :=
  (List.range a.kids.length).foldl (fun m j => if p (a.kids.getD j (0, [], 0)).1 then m + 2 ^ j else m) 0

/-- AGG_DETACH (R592). -/
def execAggDetach (ch : Nat) (p : Packet) (s : State) : Res :=
  cmd ch 0xA0B p s fun s =>
    s.orFail ch (checkWords p []) fun s =>
    let s : State := match s.fab.agg with
      | some a =>
        let s := (a.kids.map (·.1)).foldl (fun (s : State) (g : Nat) => s.sendOrdered 0 g 0 0xA 5 0 []) s
        match a.chan with | some c => s.reply c St.ok [a.mask a.answered.contains] | none => s
      | none => s
    let s := { s with fab := { s.fab with agg := none } }
    (s.setFlds A.fabMgmtStatus [(F.fabMgmtStatus_AGGREGATING, 0), (F.fabMgmtStatus_CHILDREN, 0), (F.fabMgmtStatus_LOST, 0)]).reply
      ch St.ok

/-- AGG_PERIOD: the aggregator writes its children's latest reports, marks the lost, answers the command that began it and
reports upstream (R592). -/
def execAggPeriod (s : State) : Res :=
  .next (match s.fab.agg with
    | none => s
    | some a =>
      let o : Owner := { ctx := 0, entry := none }
      let s := s.notBefore (a.since + a.period * 200000)
      let s := (List.range a.kids.length).foldl (fun s j =>
        let r := (a.kids.getD j (0, [], 0)).2.1
        if r.isEmpty then s
        else match s.physWrite (a.pa + 64 * j) r false .cc o with
          | (s, .wait) => s.storeHome (a.pa + 64 * j) r
          | (s, _) => s) s
      let gone := (a.kids.filter (fun k => decide (k.2.2 + 3 * a.period * 200000 ≤ s.now) && !a.lost.contains k.1)).map (·.1)
      let s := if gone.isEmpty then s else s.alertBit 11
      let a := { a with lost := a.lost ++ gone, since := s.now }
      let s := { s with fab := { s.fab with agg := some { a with chan := none } } }
      let s := s.setFld A.fabMgmtStatus F.fabMgmtStatus_LOST a.lost.length
      let s : State := match a.chan with
        | some ch => s.reply ch St.ok [a.mask a.answered.contains]
        | none => s
      s.sendOrdered 0 a.upstream 0 0xA 6 0 (s.healthReport ++ leBytes 8 (a.mask (fun g => !a.lost.contains g))
        ++ leBytes 8 (a.mask a.alerting.contains) ++ leBytes 8 (a.mask a.lost.contains)))

end Sys2Proof.Machine
end

