-- ==== Sys2Proof/Machine/Engines.lean ====
section
/-! DEFINITION. Matrix engines (06_matrix_engines.md) and scale records (08_scaling_rounding.md): descriptor checks, acceptance,
passes, overflow and error replay, drain, commit, and the scale commands. -/

namespace Sys2Proof.Machine

/-! Descriptor checks (R150). -/

/-- Reserved bits of a descriptor's words (R149). -/
def descReserved (d : TileDesc) : Bool :=
  d.word 0 &&& 0x0000FFE000000000 ≠ 0 || d.word 1 &&& 0xC000C000FE00FE00 ≠ 0
  || [2, 3, 4, 5, 6].any (fun i => d.word i &&& 0xFE000000FE000000 ≠ 0) || d.word 7 &&& 0xFFFFFFFFFFFF0000 ≠ 0

/-- Bytes of one row of array i. -/
def TileDesc.rowLen (d : TileDesc) (i : Nat) : Nat :=
  match i with
  | 2 => rowBytes d.fmtA d.k
  | 3 => rowBytes d.fmtB d.n
  | 4 => rowBytes d.fmtC d.n
  | 5 => d.k / 32
  | _ => d.n

/-- The arrays a tile uses (R150). -/
def TileDesc.uses (d : TileDesc) : List Nat := [2, 3, 4, 5, 6].filter (fun i => (d.range i).isSome)

/-- FMT_A, FMT_B, FMT_C and OPC may stand together (R146, R148, R150). -/
def TileDesc.pairing (d : TileDesc) : Bool :=
  allowedAB d.fmtA && allowedAB d.fmtB && allowedC d.fmtC && (d.opc = 1 || d.opc = 2)
  && (if isSliced d.fmtA || isSliced d.fmtB then
        d.fmtA = d.fmtB && d.opc = 1 && d.fmtC = (if d.fmtA = 0x0E then 0x12 else 0x11)
      else d.fmtC ≠ 0x12)

/-- Array i keeps to its alignment, pitch and bounds. -/
def TileDesc.arrayFits (d : TileDesc) (i : Nat) : Bool :=
  let exps := d.split && (i = 5 || i = 6)
  d.addr i % 64 = 0 && (exps || (d.ld i % 64 = 0 && d.rowLen i ≤ d.ld i))
  && (match d.range i with | some r => decide (r.1 + r.2 ≤ spBytes) | none => true)

/-- A descriptor is accepted on tower k for a context (R150). -/
def State.descOk (s : State) (k ctx : Nat) (d : TileDesc) : Bool :=
  d.pairing && 1 ≤ d.m && d.m ≤ 256 && 1 ≤ d.n && d.n ≤ 320 && 1 ≤ d.k
  && (!(isMx d.fmtA || isMx d.fmtB) || d.k % 32 = 0)
  && d.uses.all d.arrayFits
  && d.uses.all (fun i => i = 4 || (match d.range i, d.range 4 with | some r, some c => !meets r c | _, _ => true))
  && (d.split || d.anchorSrc || d.scaleRec / 4096 = k)
  && (!d.sigEn || s.objBoundTo d.signal ctx)
  && !descReserved d

/-! Passes (R145 to R147, R167). -/

/-- K_pass of a format code (R145). -/
def kPassOf (code : Nat) : Nat := match storeBits code with | 4 => 640 | 16 => 160 | _ => 320

/-- K_pass of a tile: that of the wider class (R146). -/
def TileDesc.kPass (d : TileDesc) : Nat := min (kPassOf d.fmtA) (kPassOf d.fmtB)

/-- Plane pairs of a split tile, B's plane first: by B's plane, then by A's (R167). -/
def planePairs (s : Nat) : List (Nat × Nat) :=
  (List.range s).flatMap (fun t => (List.range (s - t)).map (fun p => (t, p)))

/-- Passes of a tile (R147, R167). -/
def TileDesc.passes (d : TileDesc) : Nat :=
  if d.split then ceilDiv d.k 320 * (planePairs d.planes).length else ceilDiv d.k d.kPass

/-- The elements of K pass p covers, from 0: first and count; with its planes of A and B. -/
def TileDesc.passSpan (d : TileDesc) (p : Nat) : Nat × Nat × Nat × Nat :=
  if d.split then
    let pairs := planePairs d.planes
    let b := p / pairs.length
    let (t, a) := pairs.getD (p % pairs.length) (0, 0)
    (320 * b, min 320 (d.k - 320 * b), a, t)
  else (d.kPass * p, min d.kPass (d.k - d.kPass * p), 0, 0)

/-- Offset of row r of plane pl of array A or B. -/
def TileDesc.rowAt (d : TileDesc) (i pl r : Nat) : Nat := d.addr i + (pl * (if i = 2 then d.m else d.k) + r) * d.ld i

/-- Scratchpad ranges that pass p reads (R160): activations, the weight block, their scales, and with the first pass C and the
exponents. -/
def TileDesc.reads (d : TileDesc) (p : Nat) : List (Nat × Nat) :=
  let (k0, kn, pa, pb) := d.passSpan p
  let a := (List.range d.m).map (fun r =>
    (d.rowAt 2 pa r + k0 * storeBits d.fmtA / 8, ceilDiv ((k0 + kn) * storeBits d.fmtA) 8 - k0 * storeBits d.fmtA / 8))
  let b := (List.range kn).map (fun r => (d.rowAt 3 pb (k0 + r), rowBytes d.fmtB d.n))
  let sa := if !d.split && isMx d.fmtA then (List.range d.m).map (fun r => (d.addr 5 + r * d.ld 5 + k0 / 32, ceilDiv kn 32)) else []
  let sb := if !d.split && isMx d.fmtB then
    (List.range (ceilDiv kn 32)).map (fun r => (d.addr 6 + (k0 / 32 + r) * d.ld 6, d.n)) else []
  let first := if p = 0 then
      (if d.accum then (List.range d.m).map (fun r => (d.addr 4 + r * d.ld 4, rowBytes d.fmtC d.n)) else [])
        ++ (if d.split then [(d.addr 5, 2 * d.m), (d.addr 6, 2 * d.n)] else [])
    else []
  a ++ b ++ sa ++ sb ++ first

/-- A row of packed elements as numbers, each times its scale. -/
def rowNums (code : Nat) (bs : List Byte) (k0 kn : Nat) (scale : Nat → Option Int) : List Num :=
  (List.range kn).map (fun i =>
    let x := numAt code bs (k0 + i)
    if isMx code then x.scaled (scale (k0 + i)) else x)

/-- Element (r, c) of a list of rows. -/
def cell (rows : List (List Num)) (r c : Nat) : Num := (rows.getD r []).getD c (.fin ⟨false, 0, 0⟩)

/-- The rows of A a pass streams. -/
def State.passA (s : State) (cl : Nat) (d : TileDesc) (p : Nat) : List (List Num) :=
  let (k0, kn, pa, _) := d.passSpan p
  (List.range d.m).map (fun r =>
    let sc := if isMx d.fmtA then s.spBytesAt cl (d.addr 5 + r * d.ld 5) (d.k / 32) else []
    rowNums d.fmtA (s.spBytesAt cl (d.rowAt 2 pa r) (rowBytes d.fmtA d.k)) k0 kn (fun e => mxScale (sc.getD (e / 32) 0).toNat))

/-- The rows of B a pass holds. -/
def State.passB (s : State) (cl : Nat) (d : TileDesc) (p : Nat) : List (List Num) :=
  let (k0, kn, _, pb) := d.passSpan p
  (List.range kn).map (fun r =>
    let sc := if isMx d.fmtB then s.spBytesAt cl (d.addr 6 + (k0 + r) / 32 * d.ld 6) d.n else []
    let row := s.spBytesAt cl (d.rowAt 3 pb (k0 + r)) (rowBytes d.fmtB d.n)
    (List.range d.n).map (fun c =>
      let x := numAt d.fmtB row c
      if isMx d.fmtB then x.scaled (mxScale (sc.getD c 0).toNat) else x))

/-- A slice as an integer. -/
def sliceInt (x : Num) : Int :=
  match x with
  | .fin v => if 0 ≤ v.e then v.int * (2 : Int) ^ v.e.toNat else v.int / (2 : Int) ^ (-v.e).toNat
  | _ => 0

/-- The accumulators after pass p (R167, R188 to R191): row by row. -/
def State.passAcc (s : State) (t : Tile) (p : Nat) : List Acc × Option Int :=
  let d := t.desc
  let a := s.passA t.cluster d p
  let b := s.passB t.cluster d p
  let (_, kn, pa, pb) := d.passSpan p
  let old (i j : Nat) : Acc := if p = 0 then Acc.zero else t.acc.getD (i * d.n + j) Acc.zero
  if d.split then
    ((List.range (d.m * d.n)).map (fun x =>
      let i := x / d.n
      let j := x % d.n
      let sum := (List.range kn).foldl (fun (w : Int) k => w + sliceInt (cell a i k) * sliceInt (cell b k j)) 0
      let o := old i j
      { o with w := o.w + sum * (2 : Int) ^ (88 - 8 * (pa + pb)) }), none)
  else
    let accs := (List.range (d.m * d.n)).map (fun x =>
      let i := x / d.n
      let j := x % d.n
      let o := old i j
      let o := if p = 0 && d.accum then
          o.entry t.anchor t.shift (numAt d.fmtC (s.spBytesAt t.cluster (d.addr 4 + i * d.ld 4) (rowBytes d.fmtC d.n)) j)
        else o
      let o := (List.range kn).foldl (fun (o : Acc) k => o.product t.anchor 0 (cell a i k) (cell b k j)) o
      if guardDiffers o.w then { o with ovf := true } else o)
    let top := (List.range (d.m * d.n)).foldl (fun (m : Option Int) x =>
      (List.range kn).foldl (fun (m : Option Int) k =>
        match productLog 0 (cell a (x / d.n) k) (cell b k (x % d.n)), m with
        | some l, some t => some (max l t)
        | some l, none => some l
        | none, m => m) m) t.pmax
    (accs, top)

/-- Row exponents of A or column exponents of B of a split tile (R164). -/
def State.splitExp (s : State) (t : Tile) (i r : Nat) : Int := sext 16 (leNat (s.spBytesAt t.cluster (t.desc.addr i + 2 * r) 2))

/-- An element of A or B whose slices encode more than 2^f in magnitude (R165). -/
def State.splitExponentError (s : State) (t : Tile) : Bool :=
  let d := t.desc
  let f := 8 * d.planes - 2
  let past (i rows cols : Nat) : Bool := (List.range rows).any (fun r => (List.range cols).any (fun c =>
    let ds := (List.range d.planes).map (fun pl => sext 8 (s.spBytesAt t.cluster (d.rowAt i pl r + c) 1 |> leNat))
    decide (2 ^ f < (unslice ds).natAbs)))
  past 2 d.m d.k || past 3 d.k d.n

/-! Outputs (R166, R167, R195 to R199). -/

/-- The stored element (i, j) of a checked tile and whether it counts as saturated. -/
def State.tileOut (s : State) (t : Tile) (i j : Nat) : Nat × Bool :=
  let d := t.desc
  match fmtOf d.fmtC with
  | none => (0, false)
  | some f =>
    let a := t.acc.getD (i * d.n + j) Acc.zero
    if d.split then
      let e := s.splitExp t 5 i
      let g := s.splitExp t 6 j
      if e = 0x7FFF || g = 0x7FFF then (f.defaultNan, false) else a.output (e + g) 0 f (Rnd.ofCode d.rnd) true
    else a.output t.anchor t.shift f (Rnd.ofCode d.rnd) false

/-- Some element of a non-split tile overflows its output (R197). -/
def outputOverflow (t : Tile) : Bool :=
  match fmtOf t.desc.fmtC with
  | some f => t.acc.any (fun a => a.outputOverflows t.anchor t.shift f (Rnd.ofCode t.desc.rnd))
  | none => false

/-- omax (R209). -/
def tileOmax (t : Tile) : Option Int :=
  t.acc.foldl (fun (m : Option Int) (a : Acc) =>
    if a.nan || a.pinf || a.ninf || a.ovf || decide (a.w = 0) then m
    else
      let l := (a.value t.anchor 0).flog
      match m with | some x => some (max x l) | none => some l) none

/-! Scale records (R205 to R212). -/

/-- The four words of record r. -/
def scaleAddr (r i : Nat) : Nat := A.scale0 (r / 4096) (r % 4096) + 8 * i

/-- top of an output format (R208). -/
def topOf (fmt : Nat) : Int := match fmtOf fmt with | some f => f.top | none => 0

/-- The history byte of a binade (R206). -/
def histByte (m : Option Int) : Nat := match m with | some e => (max (-127) (min 127 e) + 128).toNat | none => 0

/-- maxdec of a history (R211). -/
def maxdec (h : Nat) : Int :=
  (List.range 4).foldl (fun (m : Int) i => let b := bitsOf h (8 * i) 8; if b = 0 then m else max m ((b : Int) - 128)) (-128)

/-- A signed 16-bit field of a record. -/
def State.scaleInt (s : State) (a : Nat) (f : Fld) : Int := sext 16 (s.fld a f)
/-- A signed 16-bit field given a value. -/
def State.setScaleInt (s : State) (a : Nat) (f : Fld) (v : Int) : State := s.setFld a f (Machine.ofInt 16 v)

/-- advance of R211. -/
def State.scaleAdvance (s : State) (r : Nat) : State :=
  let w0 := scaleAddr r 0
  let w1 := scaleAddr r 1
  let w2 := scaleAddr r 2
  let s := s.setFlds w0 [(F.scale0_LAST_REPLAYED, s.fld w0 F.scale0_REPLAYED), (F.scale0_LAST_RERUN, s.fld w0 F.scale0_RERUN),
    (F.scale0_LAST_SAT, s.fld w0 F.scale0_SAT)]
  let ph := (s.fld w1 F.scale1_PHIST * 256 + s.fld w2 F.scale2_STEP_PMAX) % 2 ^ 32
  let oh := (s.fld w1 F.scale1_OHIST * 256 + s.fld w2 F.scale2_STEP_OMAX) % 2 ^ 32
  let s := s.setFlds w1 [(F.scale1_PHIST, ph), (F.scale1_OHIST, oh)]
  let margin : Int := s.fld w0 F.scale0_MARGIN
  let s : State :=
    if s.fld w0 F.scale0_MODE = 2 then s
    else
      let s := if ph ≠ 0 then s.setScaleInt w0 F.scale0_ANCHOR (maxdec ph + margin) else s
      let s := if s.flag w2 F.scale2_EREQ_V then
          s.setScaleInt w0 F.scale0_ANCHOR (max (s.scaleInt w0 F.scale0_ANCHOR) (s.scaleInt w2 F.scale2_STEP_EREQ)) else s
      let s := if oh ≠ 0 then s.setScaleInt w0 F.scale0_OANCH (maxdec oh + margin) else s
      if s.flag w2 F.scale2_OREQ_V then
        s.setScaleInt w0 F.scale0_OANCH (max (s.scaleInt w0 F.scale0_OANCH) (s.scaleInt w2 F.scale2_STEP_OREQ)) else s
  let s := s.wr w2 0
  s.setFlds w0 [(F.scale0_REPLAYED, 0), (F.scale0_RERUN, 0), (F.scale0_SAT, 0),
    (F.scale0_STEPS, (s.fld w0 F.scale0_STEPS + 1) % 65536)]

/-- The tile names record r (R212). -/
def TileDesc.names (d : TileDesc) (r : Nat) : Bool := !d.split && !d.anchorSrc && d.scaleRec = r

/-- An accepted, uncommitted tile names the record (R212). -/
def State.recordNamed (s : State) (r : Nat) : Bool := s.comp.tiles.any (fun e => e.2.any (fun t => t.desc.names r))

/-- commit_update of R209. DESIGN CHOICE (log entry 187): a sum X_need + top(FMT_C) beyond 32,767 wraps modulo 2^16 in STEP_OREQ
and OANCH. -/
def State.commitUpdate (s : State) (t : Tile) : State :=
  let r := t.desc.scaleRec
  let w0 := scaleAddr r 0
  let w2 := scaleAddr r 2
  let w3 := scaleAddr r 3
  let s := s.setFld w3 F.scale3_TILES (min (2 ^ 48 - 1) (s.fld w3 F.scale3_TILES + 1))
  let s := s.setFlds w2 [(F.scale2_STEP_PMAX, max (s.fld w2 F.scale2_STEP_PMAX) (histByte t.pmax)),
    (F.scale2_STEP_OMAX, max (s.fld w2 F.scale2_STEP_OMAX) (histByte (tileOmax t)))]
  let need (s : State) (v f : Fld) (x : Int) : State :=
    let y := if s.flag w2 v then max (s.scaleInt w2 f) x else x
    (s.setScaleInt w2 f y).setFlag w2 v true
  let oNeed := t.xNeed + topOf t.desc.fmtC
  let s : State :=
    if t.attempt = 0 then s
    else
      let s := s.setFlag w0 F.scale0_REPLAYED true
      let s := if t.e0 < t.eNeed then need s F.scale2_EREQ_V F.scale2_STEP_EREQ t.eNeed else s
      let s := if t.x0 < t.xNeed then need s F.scale2_OREQ_V F.scale2_STEP_OREQ oNeed else s
      if s.flag w0 F.scale0_STRICT then s.setFlag w0 F.scale0_RERUN true
      else if s.fld w0 F.scale0_MODE ≠ 2 then
        let s := s.setScaleInt w0 F.scale0_ANCHOR (max (s.scaleInt w0 F.scale0_ANCHOR) t.eNeed)
        if s.flag w0 F.scale0_XEN then s.setScaleInt w0 F.scale0_OANCH (max (s.scaleInt w0 F.scale0_OANCH) oNeed) else s
      else s
  let s := if t.sat then s.setFlag w0 F.scale0_SAT true else s
  if s.fld w0 F.scale0_MODE = 1 then s.scaleAdvance r else s

/-! Acceptance (R170, R207, R208). -/

/-- Cluster whose scratchpad a physical engine uses (R172). -/
def State.engineCluster (s : State) (k e : Nat) : Nat := 4 * k + s.fld (A.mxeStatus k e) F.mxeStatus_LOGICAL_C

/-- An engine accepts a tile. -/
def State.acceptTile (s : State) (k e : Nat) (d : TileDesc) (src : WorkSrc) (o : Owner) (opref : Nat) : State :=
  let w0 := scaleAddr d.scaleRec 0
  let named := !d.split && !d.anchorSrc
  let e0 : Int := if d.split then 0 else if d.anchorSrc then d.explE else s.scaleInt w0 F.scale0_ANCHOR
  let xen := named && s.flag w0 F.scale0_XEN
  let x0 : Int := if xen then s.scaleInt w0 F.scale0_OANCH - topOf d.fmtC else 0
  let t : Tile := {
    desc := d, src := src, owner := o, cluster := s.engineCluster k e, step := s.fld (A.mxeDieCfg k) F.mxeDieCfg_REPLAY_STEP,
    holdLog2 := s.fld (A.mxeDieCfg k) F.mxeDieCfg_HOLD_TIMEOUT_LOG2, xen := xen, e0 := e0, x0 := x0, anchor := e0, shift := x0,
    eNeed := e0, xNeed := x0, attempt := 0, started := 0, ended := 0, acc := [], pmax := none, errRec := false,
    injected := false, checked := false, draining := false, sat := false, opref := opref }
  (s.setFlag (A.mxeStatus k e) F.mxeStatus_IDLE_PASS false).setTiles k e (s.tilesOf k e ++ [t])

/-! Passes and their ends (R152, R158 to R160, R215 to R217, R611). -/

/-- A tile taken back to its first pass. -/
def Tile.again (t : Tile) : Tile :=
  { t with started := 0, ended := 0, acc := [], pmax := none, checked := false }

/-- The tile after the oldest is squashed when it has started a pass (R159), which taints it when the oldest is a thread's or of
an earlier stretch (R246). -/
def State.squashNext (s : State) (k e : Nat) : State :=
  match s.tilesOf k e with
  | z :: t :: _ =>
    if t.started = 0 then s
    else
      let s := if s.outside k z.src then s.taint k t.src (unitMxe k e) else s
      (s.setTile k e 1 t.again).bump (A.mxeCntSquash k e) 1
  | _ => s

/-- Tiles behind a tainted tile are tainted as its drain ends, where they have waited for it (R152, R246): the next when it has
passed its check point or is to read C first, and the one after that when only the bank keeps it from starting. -/
def State.taintWaiters (s : State) (k e : Nat) : State :=
  match s.tilesOf k e with
  | z :: t :: rest =>
    if !s.isTainted k z.src (unitMxe k e) then s
    else
      let s := if t.checked || (t.desc.accum && t.started = 0) then s.taint k t.src (unitMxe k e) else s
      match rest with
      | w :: _ => if t.started = t.desc.passes then s.taint k w.src (unitMxe k e) else s
      | [] => s
  | _ => s

/-- The record of a tile's failure. -/
def tileRecord (k e : Nat) (t : Tile) (cls addr detail : Nat) : RecordReq :=
  { queue := k, cls := cls, domain := 0, action := 5, owner := some t.owner, unit := unitMxe k e, opref := t.opref, addr := addr,
    detail := detail }

/-- The beam whose tile or chain failed stops before its next word (R261, R612); held signals that cover the operation are
never sent (R615). -/
def State.beamUnitError (s : State) (k : Nat) (src : WorkSrc) (cls : Nat) : State :=
  match src with
  | .port .. => s
  | .beam n =>
    let s := s.modBeam k (fun b => { b with held := b.held.filter (fun x => !(x.after && x.first < n && n ≤ x.seq)) })
    if s.beamState k ≠ 0 && (s.beam k).first < n then s.modBeam k (fun b => { b with unitErr := some cls }) else s

/-- The oldest tile of an engine fails: it is abandoned before its drain (R157) and its issuer acts (R612). -/
def State.tileFail (s : State) (k e : Nat) (t : Tile) (r : RecordReq) : State :=
  let s := s.dropTile k e 0
  let s := s.beamUnitError k t.src r.cls
  s.opFail r

/-- A residue mismatch on the oldest tile at a pass (R611): the first is replayed at the same anchor; a second before the
recovery resolves escalates. -/
def State.arrayCheck (s : State) (k e : Nat) (t : Tile) (pass : Nat) (injected : Bool) : State :=
  let r : RecordReq := { tileRecord k e t 0x01 0 (t.attempt + pass * 2 ^ 8) with injected := injected, action := 3 }
  match s.enclosing r with
  | some v =>
    let s := s.dropTile k e 0
    let s := s.beamUnitError k t.src 0x01
    s.escalate v r
  | none =>
    let s := s.squashNext k e
    let s := s.setTile k e 0 { t.again with errRec := true }
    let s := s.bump (errCounter k 1) 1
    s.opRecover (some r) r 0 true

/-- An overflow replay of the oldest tile for an anchor cause, an output cause or both (R215, R217). -/
def State.overflowReplay (s : State) (k e : Nat) (t : Tile) (anchor output : Bool) : State :=
  let e' := t.anchor + t.step
  let rises := output && !t.desc.anchorSrc && t.xen
  let x' := if rises then t.shift + t.step else t.shift
  let s := s.squashNext k e
  let t' : Tile := { t.again with anchor := e', shift := x', attempt := t.attempt + 1,
                                  eNeed := if anchor then e' else t.eNeed, xNeed := if rises then x' else t.xNeed }
  (s.setTile k e 0 t').bump (A.mxeCntReplay k e) 1

/-- A tile may still replay (R215, R216). -/
def Tile.mayReplay (t : Tile) : Bool := !t.desc.split && !t.desc.satBit && decide (t.attempt < 3) && decide (t.anchor + t.step ≤ 32767)

/-- An ARRAY_CHECK fault counted for the engine's re-plan period (R678). -/
def State.countCheck (s : State) (k e : Nat) : State :=
  { s with age := { s.age with checks := Assoc.set s.age.checks (17 * k + e) (Assoc.getD s.age.checks (17 * k + e) 0 + 1) } }

/-- TILE_PASS_START: the oldest tile with passes to start starts one; the tile after it follows, and none beyond the two banks
(R152). busy and waitW are the ARRAY cycles that BUSY and WAIT_W gain; scaleBad: the tile's record was found uncorrectable when
its first pass was scheduled, and is set to its reset value (R607). -/
def execTilePassStart (k e busy waitW : Nat) (scaleBad : Bool) (s : State) : Res :=
  onUnit (k < 4 && e < 17)
    (let ts := s.tilesOf k e
     match [0, 1].find? (fun i => match ts[i]? with | some t => decide (t.started < t.desc.passes) | none => false) with
     | none => s
     | some i =>
       let t := ts.getD i default
       if scaleBad && i = 0 && t.started = 0 && !t.desc.split && !t.desc.anchorSrc then
         let s := (List.range 4).foldl (fun s j => s.wr (scaleAddr t.desc.scaleRec j) (if j = 0 then 0x200000000 else 0)) s
         s.tileFail k e t (tileRecord k e t 0x04 0 0)
       else
         let s := s.setTile k e i { t with started := t.started + 1 }
         let s := (s.bump (A.mxeCntBusy k e) busy).bump (A.mxeCntWaitW k e) waitW
         s.bump (A.mxeCntProd k e) (t.desc.m * t.desc.n * (t.desc.passSpan t.started).2.1))

/-- PASS_END: every result of the oldest tile's next started pass has been added; poison, then a residue mismatch, then an
overflow acts (R158, R160, R611). The last pass ends at the check point (R152), which judges its overflow. -/
def execPassEnd (k e : Nat) (mismatch : Bool) (s : State) : Res :=
  onUnit (k < 4 && e < 17)
    (match (s.tilesOf k e).find? (fun t => decide (t.ended < t.started)) with
     | none => s
     | some t =>
       let p := t.ended
       let i := (s.tilesOf k e).idxOf t
       if i ≠ 0 && match (s.tilesOf k e)[0]? with | some z => decide (z.ended < z.desc.passes) | none => false then s
       else
         let reads := t.desc.reads p
         let s := reads.foldl (fun s r => s.spFind (spBase t.cluster + r.1) r.2 (.engine k e) (some t.owner)) s
         match reads.findSome? (fun r => s.firstPoison (spBase t.cluster + r.1) r.2) with
         | some a =>
           let s := s.dropTile k e i
           let s := s.beamUnitError k t.src 0x12
           s.opFail (tileRecord k e t 0x12 a 0)
         | none =>
           let (s, inj) := s.takeInjected 0x01 (unitMxe k e) t.owner.ctx
           let (acc, top) := s.passAcc t p
           if mismatch || inj then
             let s := s.countCheck k e
             if i = 0 then s.arrayCheck k e t p inj
             else
               let r : RecordReq := { tileRecord k e t 0x01 0 (t.attempt + p * 2 ^ 8) with injected := inj, action := 3 }
               match s.enclosing r with
               | some v => ((s.dropTile k e i).beamUnitError k t.src 0x01).escalate v r
               | none => ((s.setTile k e i { t.again with errRec := true }).bump (errCounter k 1) 1).opRecover (some r) r 0 true
           else
             let t' := { t with ended := p + 1, acc := acc, pmax := top }
             if acc.any (·.ovf) && t.mayReplay && decide (p + 1 < t.desc.passes) then
               if i = 0 then s.overflowReplay k e t true false
               else
                 let e' := t.anchor + t.step
                 (s.setTile k e i { t.again with anchor := e', attempt := t.attempt + 1, eNeed := e' }).bump (A.mxeCntReplay k e) 1
             else s.setTile k e i t')

/-- CHECK_POINT: every product of the oldest tile has been added (R152): a split-exponent error, a residue mismatch of the
rounding path, an overflow of the anchor, of the output or of both, or the tile passes and its error replay resolves. -/
def execCheckPoint (k e : Nat) (mismatch : Bool) (s : State) : Res :=
  onUnit (k < 4 && e < 17)
    (match (s.tilesOf k e)[0]? with
     | none => s
     | some t =>
       if t.checked || t.ended < t.desc.passes then s
       else if t.desc.split && s.splitExponentError t then s.tileFail k e t (tileRecord k e t 0x07 0 0)
       else if mismatch then (s.countCheck k e).arrayCheck k e t (t.desc.passes - 1) false
       else
         let s := if t.errRec then s.opResolve (unitMxe k e) t.opref (some t.owner) else s
         let t := { t with errRec := false }
         let anchor := t.acc.any (·.ovf)
         let output := outputOverflow t
         if !t.desc.split && (anchor || output) && t.mayReplay then s.overflowReplay k e t anchor output
         else s.setTile k e 0 { t with checked := true })

/-- The rows of C a checked tile writes, 640 bytes a cycle (R152); rows from bad on carry the poison mark (R611). -/
def State.drainChunks (s : State) (t : Tile) (bad : Option Nat) : List (List Chunk) :=
  (List.range t.desc.m).flatMap (fun i =>
    let row := packRow t.desc.fmtC ((List.range t.desc.n).map (fun j => (s.tileOut t i j).1))
    let p := match bad with | some b => decide (b ≤ i) | none => false
    portWrites 640 (spBase t.cluster + t.desc.addr 4 + i * t.desc.ld 4) (row.map (fun b => (b, p))))

/-- DRAIN_START: the oldest tile's results are written, row by row (R152, R155). badRow: a residue mismatch was found in the
drain at that row, and what it writes from there on is poisoned (R611). -/
def execDrainStart (k e : Nat) (badRow : Option Nat) (s : State) : Res :=
  onUnit (k < 4 && e < 17)
    (match (s.tilesOf k e)[0]? with
     | none => s
     | some t =>
       if !t.checked || t.draining then s
       else
         let sat := (List.range (t.desc.m * t.desc.n)).any (fun x => (s.tileOut t (x / t.desc.n) (x % t.desc.n)).2)
         let chunks := s.drainChunks t badRow
         let s := s.setTile k e 0 { t with draining := true, sat := sat }
         let s : State := match badRow with
           | some _ => s.note 0 4 { tileRecord k e t 0x01 0 (t.attempt + (t.desc.passes - 1) * 2 ^ 8) with action := 4 }
           | none => s
         (s.spWrite (.engine k e) t.owner 0 t.cluster chunks).1)

/-- TILE_COMMIT: the oldest tile commits once its drain has ended (R153): its record is updated, its holds go, it signals. Commits
of one cycle come in ascending order of e (R210; log entry 185). -/
def execTileCommit (k e : Nat) (s : State) : Res :=
  onUnit (k < 4 && e < 17)
    (match (s.tilesOf k e)[0]? with
     | none => s
     | some t =>
       if !t.draining || s.stalled (.engine k e) then s
       else
         let named := !t.desc.split && !t.desc.anchorSrc
         let s := if named then s.commitUpdate t else s
         let s := (s.taintWaiters k e).dropTile k e 0
         let s := s.bump (A.mxeCntTiles k e) 1
         let s := if t.sat then s.bump (A.mxeCntSat k e) 1 else s
         let s := if t.desc.split then s else s.setFld (A.mxeStatus k e) F.mxeStatus_LAST_ANCHOR (Machine.ofInt 16 t.anchor)
         if t.desc.sigEn then s.signal (.engine k e) (some t.owner.ctx) (some t.owner) t.desc.signal 1 1 else s)

/-! The scale commands (R213, R214). -/

/-- The four words of a record. -/
def State.scaleWords (s : State) (r : Nat) : List Nat := (List.range 4).map (fun i => (s.rd (scaleAddr r i)).toNat)

/-- SCALE_READ. -/
def execScaleRead (ch : Nat) (p : Packet) (s : State) : Res :=
  cmd ch 0x604 p s fun s =>
    let w := pword p 0
    let first := bitsOf w 0 14
    let n := bitsOf w 16 7
    s.orFail ch ((checkWords p [0x7F3FFF]).orElse (fun _ =>
      if n < 1 || 64 < n || first / 4096 ≠ (first + n - 1) / 4096 then some St.invalid else none)) fun s =>
    s.reply ch St.ok ((rangeFrom first n).flatMap s.scaleWords)

/-- SCALE_WRITE: its OP decides (R214). -/
def State.scaleWrite (s : State) (ch : Nat) (p : Packet) : State :=
  let w := pword p 0
  let r := bitsOf w 0 14
  let op := bitsOf w 16 2
  let old := s.scaleWords r
  let masks := [0x3FFFFFFFFFFF, 2 ^ 64 - 1, 0xFFFFFFFF0003FFFF, 0]
  let new := (List.range 4).map (fun i =>
    let m := pword p (5 + i) &&& masks.getD i 0
    (old.getD i 0 &&& ((2 ^ 64 - 1) ^^^ m)) ||| (pword p (1 + i) &&& m))
  s.orFail ch (firstFail [
    (op = 3, St.invalid),
    (p.length ≠ (if op = 0 then 88 else 24), St.badLength),
    (w &&& 0xFFFFFFFFFFFCC000 ≠ 0 || (op = 0 && bitsOf (new.getD 0 0) 36 2 = 3), St.invalid),
    (op = 1 && s.recordNamed r, St.busy)]) fun s =>
  let s : State := match op with
    | 0 => (List.range 4).foldl (fun s i => s.wr (scaleAddr r i) (BitVec.ofNat 64 (new.getD i 0))) s
    | 1 => s.scaleAdvance r
    | _ => (List.range 4).foldl (fun s i => s.wr (scaleAddr r i) (if i = 0 then 0x200000000 else 0)) s
  s.reply ch St.ok old

/-- SCALE_WRITE with OP WRITE. -/
def execScaleWriteWrite (ch : Nat) (p : Packet) (s : State) : Res := cmd ch 0x605 p s fun s => s.scaleWrite ch p
/-- SCALE_WRITE with OP ADVANCE. -/
def execScaleWriteAdvance (ch : Nat) (p : Packet) (s : State) : Res := cmd ch 0x605 p s fun s => s.scaleWrite ch p
/-- SCALE_WRITE with OP CLEAR. -/
def execScaleWriteClear (ch : Nat) (p : Packet) (s : State) : Res := cmd ch 0x605 p s fun s => s.scaleWrite ch p

end Sys2Proof.Machine
end

