-- ==== Sys2Proof/Machine/Vxe.lean ====
section
/-! DEFINITION. Vector engines (10_vector_engines.md): streams, chains, the checks of an instruction at issue, a pass over its
elements, and its completion. -/

namespace Sys2Proof.Machine

/-! Stream descriptors (R275 to R277). A descriptor is its eight words. -/

/-- A stream descriptor. -/
abbrev Strm := List Nat

/-- Word i. -/
def Strm.word (d : Strm) (i : Nat) : Nat := d.getD i 0
/-- BASE. -/
def Strm.base (d : Strm) : Nat := bitsOf (Strm.word d 0) 0 25
/-- FMT. -/
def Strm.fmt (d : Strm) : Nat := bitsOf (Strm.word d 0) 32 8
/-- MXDIM. -/
def Strm.mxDim (d : Strm) : Bool := bit (Strm.word d 0) 40
/-- COUNT of dimension n. -/
def Strm.count (d : Strm) (n : Nat) : Nat := bitsOf (Strm.word d 1) (16 * n) 16
/-- Bytes of an element; a 4-bit element counts as one. -/
def Strm.size (d : Strm) : Nat := max 1 (storeBits (Strm.fmt d) / 8)
/-- Elements of 4 bits, two a byte. -/
def Strm.nibble (d : Strm) : Bool := storeBits (Strm.fmt d) = 4
/-- Byte stride of dimension n; 0 in dimension 0 is the element's size (R276). -/
def Strm.stride (d : Strm) (n : Nat) : Int :=
  let v := sext 32 (bitsOf (Strm.word d (if n = 2 then 3 else 2)) (if n = 1 then 32 else 0) 32)
  if n = 0 && v = 0 then Strm.size d else v
/-- PLANE. -/
def Strm.plane (d : Strm) : Nat := bitsOf (Strm.word d 3) 32 32
/-- SBASE. -/
def Strm.sbase (d : Strm) : Nat := bitsOf (Strm.word d 4) 0 25
/-- KEY_BASE. -/
def Strm.keyBase (d : Strm) : Nat := bitsOf (Strm.word d 5) 0 57
/-- STEP. -/
def Strm.step (d : Strm) : Nat := bitsOf (Strm.word d 6) 0 32
/-- Elements of the stream. -/
def Strm.elems (d : Strm) : Nat := Strm.count d 0 * Strm.count d 1 * Strm.count d 2
/-- Planes of its elements. -/
def Strm.planes (d : Strm) : Nat := if isSliced (Strm.fmt d) then sliceCount (Strm.fmt d = 0x0E) else 1
/-- Bytes of its scales or row exponents. -/
def Strm.scales (d : Strm) : Nat :=
  if isMx (Strm.fmt d) then Strm.elems d / 32
  else if isSliced (Strm.fmt d) then 2 * (Strm.count d 1 * Strm.count d 2) else 0

/-- Byte offset of element (i0, i1, i2) in plane 0 (R276). -/
def Strm.at (d : Strm) (i0 i1 i2 : Nat) : Int :=
  (Strm.base d : Int) + (if Strm.nibble d then ((i0 / 2 : Nat) : Int) else (i0 : Int) * Strm.stride d 0) + i1 * Strm.stride d 1
    + i2 * Strm.stride d 2
/-- Offset of the scale byte that governs an element of an MX stream (R276). -/
def Strm.scaleAt (d : Strm) (i0 i1 i2 : Nat) : Nat :=
  Strm.sbase d +
    (if Strm.mxDim d then (i1 / 32 + Strm.count d 1 / 32 * i2) * Strm.count d 0 + i0
     else (i1 + Strm.count d 1 * i2) * (Strm.count d 0 / 32) + i0 / 32)

/-- Coordinates of the element with logical index i (R276). -/
def Strm.coords (c0 c1 i : Nat) : Nat × Nat × Nat := (i % c0, i / c0 % c1, i / (c0 * c1))

/-- Lowest and highest byte of the elements, as offsets. -/
def Strm.span (d : Strm) : Int × Int :=
  let ext (n : Nat) : Int := ((if n = 0 && Strm.nibble d then Strm.count d 0 / 2 else Strm.count d n) : Nat) - 1
  let str (n : Nat) : Int := if n = 0 && Strm.nibble d then 1 else Strm.stride d n
  let reach (f : Int → Int → Int) : Int := [0, 1, 2].foldl (fun (v : Int) n => v + f 0 (ext n * str n)) (Strm.base d : Int)
  (reach min, reach max + Strm.size d - 1 + (Strm.planes d - 1 : Nat) * Strm.plane d)

/-- The bytes of the stream as ranges, each an offset and a length (R277). -/
def Strm.range (d : Strm) : List (Nat × Nat) :=
  let rows := (List.range (Strm.count d 1 * Strm.count d 2)).flatMap (fun r =>
    let i1 := r % Strm.count d 1
    let i2 := r / Strm.count d 1
    if Strm.nibble d then [((Strm.at d 0 i1 i2).toNat, Strm.count d 0 / 2)]
    else if Strm.stride d 0 = Strm.size d then [((Strm.at d 0 i1 i2).toNat, Strm.count d 0 * Strm.size d)]
    else (List.range (Strm.count d 0)).map (fun i0 => ((Strm.at d i0 i1 i2).toNat, Strm.size d)))
  (List.range (Strm.planes d)).flatMap (fun p => rows.map (fun r => (r.1 + p * Strm.plane d, r.2)))
    ++ (if Strm.scales d = 0 then [] else [(Strm.sbase d, Strm.scales d)])

/-- Two sets of ranges share a byte. -/
def rangesMeet (a b : List (Nat × Nat)) : Bool := a.any (fun r => b.any (meets r))

/-- What a descriptor must hold by itself (R275, R276, R295). A sliced stream may have a STRIDE0, as R290 uses one (log entry
32). -/
def Strm.ok (d : Strm) : Bool :=
  let f := Strm.fmt d
  let e := Strm.size d
  let c := Strm.count d
  let raw0 := bitsOf (Strm.word d 2) 0 32
  let (lo, hi) := Strm.span d
  Strm.word d 0 &&& 0xFFFFFE00FE000000 = 0 && Strm.word d 1 / 2 ^ 48 = 0 && Strm.word d 4 / 2 ^ 25 = 0
  && Strm.word d 5 / 2 ^ 57 = 0 && Strm.word d 6 / 2 ^ 32 = 0 && Strm.word d 7 = 0
  && (f ≤ 0x0E || (0x10 ≤ f && f ≤ 0x12))
  && 1 ≤ c 0 && 1 ≤ c 1 && 1 ≤ c 2 && Strm.elems d ≤ 16777216
  && (!(Strm.nibble d || isMx f) || raw0 = 0) && (!Strm.nibble d || c 0 % 2 = 0)
  && (!isMx f || (if Strm.mxDim d then c 1 % 32 = 0 else c 0 % 32 = 0))
  && Strm.base d % e = 0 && Strm.sbase d % e = 0 && [0, 1, 2].all (fun n => Strm.stride d n % (e : Int) = 0)
  && (!isSliced f || Strm.sbase d % 2 = 0)
  && decide (0 ≤ lo) && decide (hi < (spBytes : Int))
  && (Strm.scales d = 0 || decide (Strm.sbase d + Strm.scales d ≤ spBytes))

/-! Instructions (R281 to R283). -/

namespace VInstr

def long (v : VInstr) : Bool := bit v.lo 0
def opc (v : VInstr) : Nat := bitsOf v.lo 1 7
def typ (v : VInstr) : Nat := bitsOf v.lo 8 3
def dst (v : VInstr) : Nat := bitsOf v.lo 11 2
/-- SRC n, n from 1. -/
def src (v : VInstr) (n : Nat) : Nat := bitsOf v.lo (11 + 2 * n) 2
def rnd (v : VInstr) : Nat := bitsOf v.lo 19 3
def sat (v : VInstr) : Bool := bit v.lo 22
def imm2 (v : VInstr) : Bool := bit v.lo 23
def modf (v : VInstr) : Nat := bitsOf v.lo 24 8
def imm32 (v : VInstr) : Nat := bitsOf v.lo 32 32
/-- The immediate's bits (R281). -/
def immBits (v : VInstr) : Nat := if v.long then v.hi else v.imm32
/-- Weight-update class. -/
def wu (v : VInstr) : Bool := 0x0A ≤ v.opc && v.opc ≤ 0x0C
/-- LOAD or LOADR. -/
def loads (v : VInstr) : Bool := v.opc = 0x01 || v.opc = 0x02
/-- A closing store. -/
def closing (v : VInstr) : Bool := 0x08 ≤ v.opc && v.opc ≤ 0x0C
/-- A multiplying instruction. -/
def multiplies (v : VInstr) : Bool := v.opc = 0x10 || v.opc = 0x11
/-- A function instruction. -/
def function (v : VInstr) : Bool := 0x18 ≤ v.opc && v.opc ≤ 0x1C
/-- It names a stream. -/
def streams (v : VInstr) : Bool := v.loads || v.closing
/-- Scratchpad address of its stream descriptor (R282, R291). -/
def descAt (v : VInstr) : Nat := 64 * (if v.wu then bitsOf v.imm32 0 19 else bitsOf v.immBits 0 19)

end VInstr

/-- The format of a TYPE (R281). -/
def vtype (t : Nat) : Option Fmt :=
  match t with
  | 0 => some Fmt.int8 | 1 => some Fmt.int32 | 2 => some Fmt.f16 | 3 => some Fmt.bf16 | 4 => some Fmt.f32 | 5 => some Fmt.f64
  | _ => none

/-- The format of a TYPE that is assigned. -/
def vfmt (t : Nat) : Fmt := (vtype t).getD Fmt.int8

/-- Width of an integer TYPE. -/
def vwidth (t : Nat) : Nat := if t = 0 then 8 else 32

/-- What an opcode's fields are for: sources used, the immediate in place of SRC2 allowed, a value immediate always, RND and SAT
used, DST used, TYPE floating only or integer only. -/
structure VOp where
  srcs : List Nat
  imm2 : Bool
  imm  : Bool
  rnd  : Bool
  sat  : Bool
  dst  : Bool
  flt  : Bool
  int  : Bool
  deriving DecidableEq, Repr, Inhabited

/-- The opcode table (R283). -/
def vop (opc : Nat) : Option VOp :=
  let simple (srcs : List Nat) (imm2 rnd sat : Bool) : VOp :=
    { srcs := srcs, imm2 := imm2, imm := false, rnd := rnd, sat := sat, dst := true, flt := false, int := false }
  match opc with
  | 0x01 | 0x02 => some (simple [] false true true)
  | 0x03 => some { simple [] false false false with imm := true }
  | 0x08 => some { simple [1, 2] false true true with dst := false }
  | 0x09 => some { simple [1] false true true with dst := false }
  | 0x0A | 0x0B | 0x0C => some { simple [1, 2, 3] false true true with dst := false }
  | 0x10 => some (simple [1, 2] true true true)
  | 0x11 => some (simple [1, 2, 3] true true true)
  | 0x18 | 0x19 | 0x1A | 0x1B | 0x1C => some { simple [1] false true true with flt := true }
  | 0x20 | 0x21 => some (simple [1, 2] true true true)
  | 0x22 | 0x23 => some (simple [1, 2] true false false)
  | 0x24 | 0x25 => some (simple [1] false false true)
  | 0x26 | 0x27 | 0x28 => some (simple [1, 2] true false false)
  | 0x29 => some (simple [1, 2, 3] true false false)
  | 0x2A => some (simple [1] false true true)
  | 0x2B | 0x2C | 0x2D => some { simple [1, 2] true false false with int := true }
  | 0x2E => some { simple [1] false false true with imm := true, int := true }
  | 0x2F => some { simple [1] false false false with imm := true, int := true }
  | 0x30 => some { simple [] false false false with dst := false }
  | _ => none

/-- The immediate as a number of TYPE, none when TYPE does not hold it (R282). A shift's amount lies from 0 to width - 1. -/
def VInstr.immNum (v : VInstr) : Option Num :=
  if v.typ < 2 then
    let i := sext (if v.long then 64 else 32) v.immBits
    let w := vwidth v.typ
    let fits := if v.opc = 0x2E || v.opc = 0x2F then decide (0 ≤ i) && decide (i < (w : Int))
      else decide (-(2 : Int) ^ (w - 1) ≤ i) && decide (i < (2 : Int) ^ (w - 1))
    if fits then some (.fin (Dy.ofInt i 0)) else none
  else
    let x := (if v.long then Fmt.f64 else Fmt.f32).decode v.immBits
    match x with
    | .fin d => if (roundIeee (vfmt v.typ) d .rne).2 = 0 then some x else none
    | x => some x

/-- The lowest bit of the first field that fails the checks on an instruction's own bits (R283, R295), in ascending order;
issued by a beam, CSIG is none of its opcodes. Every opcode takes an assigned TYPE, which sets its lane count (R274; log entry 33). -/
def VInstr.badBit (v : VInstr) (beam : Bool) : Option Nat :=
  match vop v.opc with
  | none => some 1
  | some o =>
    let unused (n : Nat) : Bool := !o.srcs.contains n || (n = 2 && v.imm2)
    let value := o.imm || (o.imm2 && v.imm2)
    let extBad := v.long && !v.wu && v.imm32 ≠ 0
    (([ (1, beam && v.opc = 0x30),
        (0, v.opc = 0x30 && v.long),
        (8, 5 < v.typ || (o.flt && v.typ < 2) || (o.int && 1 < v.typ) || (v.wu && v.typ ≠ 4)),
        (11, !o.dst && v.dst ≠ 0),
        (13, unused 1 && v.src 1 ≠ 0),
        (15, unused 2 && v.src 2 ≠ 0),
        (17, unused 3 && v.src 3 ≠ 0),
        (19, 4 < v.rnd || (v.rnd = 4 && !(v.wu && v.long)) || (!o.rnd && v.rnd ≠ 0)),
        (22, !o.sat && v.sat),
        (23, !o.imm2 && v.imm2),
        (24, if v.opc = 0x09 then decide (7 < v.modf) || (bit v.modf 2 && v.modf % 4 ≠ 3) else decide (v.modf ≠ 0)),
        (32, extBad),
        (51, (v.wu && decide (2 ^ 19 ≤ v.imm32)) || (v.streams && !v.wu && !v.long && decide (2 ^ 19 ≤ v.imm32))),
        (83, v.streams && !v.wu && v.long && decide (2 ^ 19 ≤ v.hi)),
        (64, v.wu && v.long && v.rnd ≠ 4 && v.hi ≠ 0),
        (48, v.opc = 0x30 && decide (2 ^ 16 ≤ v.imm32)),
        (if v.long then 64 else 32, if value then v.immNum.isNone
          else !v.streams && v.opc ≠ 0x30 && v.immBits ≠ 0)] : List (Nat × Bool)).find? (·.2)).map (·.1)

/-! Chains at issue (R278, R279, R294, R295). -/

/-- The TYPE each latch holds after some instructions; none where it is undefined (R279). -/
def latchTypes (ins : List VInstr) : List (Option Nat) :=
  ins.foldl (fun l v => if (vop v.opc).any (·.dst) then l.set v.dst (some v.typ) else l) [none, none, none, none]

/-- A source of an instruction is defined and of a TYPE the table allows (R283, R290, R291). -/
def sourceOk (l : List (Option Nat)) (v : VInstr) (n : Nat) : Bool :=
  if n = 2 && v.imm2 then true
  else
    match l.getD (v.src n) none with
    | none => n = 2 && v.opc = 0x08 && !isSliced (Strm.fmt v.desc) && v.src 2 = 0
    | some t =>
      if v.opc = 0x08 then
        let f := Strm.fmt v.desc
        if n = 1 then (if f = 0x0D then t = 4 else if f = 0x0E then t = 5 else true)
        else if isSliced f then t = 1 else v.src 2 = 0
      else if v.wu then 2 ≤ t && t ≤ 4
      else if v.opc = 0x2A || (v.opc = 0x29 && n = 1) then true
      else t = v.typ

/-- Counts of a stream. -/
def Strm.counts (d : Strm) : Nat × Nat × Nat := (Strm.count d 0, Strm.count d 1, Strm.count d 2)

/-- The shape of a chain: the counts of its first LOAD, or of its store when it has none (R295). -/
def chainShape (ins : List VInstr) : Option (Nat × Nat × Nat) :=
  match ins.find? (fun v => v.opc = 0x01) with
  | some v => some (Strm.counts v.desc)
  | none => (ins.find? (fun v => v.opc = 0x08 || v.wu)).map (fun v => Strm.counts v.desc)

/-- A stream keeps to a shape. -/
def keepsShape (sh : Nat × Nat × Nat) (v : VInstr) : Bool :=
  if v.opc = 0x02 || v.opc = 0x09 then Strm.counts v.desc = (1, sh.2.1, sh.2.2)
  else !v.streams || Strm.counts v.desc = sh

/-- A format suits the instruction that names its stream (R286, R288 to R291). -/
def formatSuits (v : VInstr) : Bool :=
  let f := Strm.fmt v.desc
  if v.loads then !isSliced f
  else if v.wu then f = 0x04 || f = 0x05 || f = 0x11
  else if v.opc = 0x09 then !isSliced f && !isMx f && (v.modf % 4 ≠ 3 || f = 0x10)
  else true

/-- An output stream may lie over an input stream only in place (R294). -/
def overlapOk (out inp : Strm) : Bool :=
  let same := Strm.base out = Strm.base inp && Strm.counts out = Strm.counts inp && Strm.size out = Strm.size inp
    && Strm.nibble out = Strm.nibble inp && [0, 1, 2].all (fun n => Strm.stride out n = Strm.stride inp n)
  same || !rangesMeet (Strm.range out) (Strm.range inp)

/-- An instruction joins the recorded ones of its chain without a chain error (R295). -/
def chainAccepts (ins : List VInstr) (v : VInstr) (beam : Bool) : Bool :=
  let all := ins ++ [v]
  let l := latchTypes ins
  let n (p : VInstr → Bool) : Nat := (all.filter p).length
  (v.badBit beam).isNone
  && (match vop v.opc with | some o => o.srcs.all (sourceOk l v) | none => false)
  && all.length ≤ 16 && n (·.loads) ≤ 4 && n (·.multiplies) ≤ 1 && n (·.function) ≤ 1
  && (!v.streams || (Strm.ok v.desc && formatSuits v
        && (!(v.opc = 0x02 || v.opc = 0x09) || Strm.count v.desc 0 = 1)))
  && (match chainShape all with
      | some sh => all.all (keepsShape sh)
      | none => !v.closing)
  && (!v.closing || (ins.filter (·.loads)).all (fun u => overlapOk v.desc u.desc))

/-- Cluster of vector engine x of tower k. -/
def vxeCluster (k x : Nat) : Nat := 4 * k + x / 2

/-- An instruction's words with its descriptor as the engine reads it at issue; none when the descriptor lies outside the
scratchpad or is poisoned (R295, R619). -/
def State.vxeFetch (s : State) (k x lo hi : Nat) : State × Option VInstr :=
  let v : VInstr := { lo := lo, hi := if bit lo 0 then hi else 0, desc := [] }
  if !v.streams then (s, some v)
  else if spBytes < v.descAt + 64 then (s, none)
  else
    let pa := spBase (vxeCluster k x) + v.descAt
    let s := s.spFind pa 64 (.vxe k x) none
    if s.poisoned pa 64 then (s, none) else (s, some { v with desc := s.rdWords pa 8 })

/-! Lanes (R274). -/

/-- Element class of a format code: bits, 8 to 64. -/
def fmtClass (code : Nat) : Nat :=
  match code with | 0x0D => 32 | 0x0E => 64 | c => max 8 (storeBits c)

/-- λ of a chain (R274). -/
def chainLanes (ins : List VInstr) : Nat :=
  let w := ins.foldl (fun m v =>
    let m := max m (vfmt v.typ).bits
    let m := if v.wu then max m 32 else m
    if v.streams then max m (fmtClass (Strm.fmt v.desc)) else m) 8
  match w with | 8 => 1024 | 16 => 512 | 32 => 256 | _ => 64

/-- Elements of a chain's shape. -/
def chainLen (ins : List VInstr) : Nat := match chainShape ins with | some (a, b, c) => a * b * c | none => 0

/-- An instruction is recorded; a closing store closes its chain and starts the pass (R278). -/
def State.vxeRecord (s : State) (k x : Nat) (v : VInstr) (src : WorkSrc) (o : Owner) (opref : Nat) : State :=
  let cs := s.chainsOf k x
  let c : Chain := (openChain cs).getD
    { src := src, owner := o, ins := [], closed := false, streamed := false, opref := opref, elems := 0, lanes := 1, out := [],
      wrote := false, oor := [], sr := 0 }
  let rest := cs.filter (·.closed)
  let ins := c.ins ++ [v]
  s.setChains k x (rest ++ [{ c with ins := ins, closed := v.closing, src := if v.closing then src else c.src,
                                     elems := if v.closing then chainLen ins else 0,
                                     lanes := if v.closing then chainLanes ins else 1 }])

/-! A pass (R280, R284 to R292). -/

/-- A latch in a pass: its TYPE, its value, whether poison has met it. -/
structure Latch where
  typ : Nat
  v   : Num
  p   : Bool
  deriving DecidableEq, Repr, Inhabited

/-- The integer that an integer latch holds. -/
def Num.toInt (x : Num) : Int :=
  match x with
  | .fin d => if 0 ≤ d.e then d.int * (2 : Int) ^ d.e.toNat else d.int / (2 : Int) ^ (-d.e).toNat
  | _ => 0

/-- An exact integer result in an integer TYPE (R285): wrapped or saturated, and the count. -/
def intResult (t : Nat) (sat : Bool) (i : Int) : Num × Nat :=
  let w := vwidth t
  let out := decide (i < -(2 : Int) ^ (w - 1)) || decide ((2 : Int) ^ (w - 1) ≤ i)
  if out && sat then (.fin (Dy.ofInt (if i < 0 then -(2 : Int) ^ (w - 1) else (2 : Int) ^ (w - 1) - 1) 0), 1)
  else (.fin (Dy.ofInt (sext w (Machine.ofInt w i)) 0), 0)

/-- A result rounded once into a floating TYPE, or a converter into any (R284, R286). -/
def typeResult (t : Nat) (rnd : Nat) (sat : Bool) (x : Num) : Num × Nat :=
  let (b, o) := convert x (vfmt t) (Rnd.ofCode rnd) sat
  ((vfmt t).decode b, b2n o)

/-- The value of an operation on operands a, b, c and the count (R283 to R285). -/
def vexec (v : VInstr) (a b c : Num) : Num × Nat :=
  let t := v.typ
  let isInt := decide (t < 2)
  let rm : RMode := if v.rnd = 3 then .rdn else .rne
  let fl (x : Num) : Num × Nat := typeResult t v.rnd v.sat x
  let it (i : Int) : Num × Nat := intResult t v.sat i
  let x := a.toInt
  let y := b.toInt
  let bits (n : Num) : Nat := Machine.ofInt (vwidth t) n.toInt
  let truth (p : Bool) : Num × Nat := (.fin ⟨false, b2n p, 0⟩, 0)
  match v.opc with
  | 0x10 => if isInt then it (x * y) else fl (a.mul b)
  | 0x11 => if isInt then it (x * y + c.toInt) else fl ((a.mul b).add c rm)
  | 0x18 => fl a.recip
  | 0x19 => fl a.sqrt
  | 0x1A => fl a.rsqrt
  | 0x1B => fl a.exp2
  | 0x1C => fl a.log2
  | 0x20 => if isInt then it (x + y) else fl (a.add b rm)
  | 0x21 => if isInt then it (x - y) else fl (a.add b.negate rm)
  | 0x22 => (a.minimum b, 0)
  | 0x23 => (a.maximum b, 0)
  | 0x24 => if isInt then it x.natAbs else (match a with | .fin d => .fin { d with neg := false } | .inf _ => .inf false | .nan => .nan, 0)
  | 0x25 => if isInt then it (-x) else (a.negate, 0)
  | 0x26 => truth (a.lt b)
  | 0x27 => truth (a.lt b || a.eqv b)
  | 0x28 => truth (a.eqv b)
  | 0x29 => (match a with | .fin d => if d.m = 0 then c else b | _ => b, 0)
  | 0x2A => fl a
  | 0x2B => (.fin (Dy.ofInt (sext (vwidth t) (bits a &&& bits b)) 0), 0)
  | 0x2C => (.fin (Dy.ofInt (sext (vwidth t) (bits a ||| bits b)) 0), 0)
  | 0x2D => (.fin (Dy.ofInt (sext (vwidth t) (bits a ^^^ bits b)) 0), 0)
  | 0x2E => it (x * (2 : Int) ^ y.toNat)
  | 0x2F => it (x / (2 : Int) ^ y.toNat)
  | _ => (a, 0)

/-- One element of an input stream: its exact value, its scale applied, and its poison (R276, R286, R297). -/
def State.streamElem (s : State) (cl : Nat) (d : Strm) (i0 i1 i2 : Nat) : Num × Bool :=
  let off := (Strm.at d i0 i1 i2).toNat
  let bs := s.spBytesAt cl off (Strm.size d)
  let x := numAt (Strm.fmt d) bs (if Strm.nibble d then i0 % 2 else 0)
  let p := s.poisoned (spBase cl + off) (Strm.size d)
  if isMx (Strm.fmt d) then
    let so := Strm.scaleAt d i0 i1 i2
    (x.scaled (mxScale (leNat (s.spBytesAt cl so 1))), p || s.poisoned (spBase cl + so) 1)
  else (x, p)

/-- The latches of one element after its chain's instructions, and the out-of-range count; a LOADR's conversion counts with
the first element of its row (log entry 34). -/
def State.runElem (s : State) (cl : Nat) (ins : List VInstr) (i0 i1 i2 : Nat) : List Latch × Nat :=
  ins.foldl (fun (acc : List Latch × Nat) v =>
    let (l, n) := acc
    let get (k : Nat) : Latch :=
      if k = 2 && v.imm2 then { typ := v.typ, v := v.immNum.getD .nan, p := false } else l.getD (v.src k) default
    match v.opc with
    | 0x01 =>
      let (x, p) := s.streamElem cl v.desc i0 i1 i2
      let (y, o) := typeResult v.typ v.rnd v.sat x
      (l.set v.dst { typ := v.typ, v := y, p := p }, n + o)
    | 0x02 =>
      let (x, p) := s.streamElem cl v.desc 0 i1 i2
      let (y, o) := typeResult v.typ v.rnd v.sat x
      (l.set v.dst { typ := v.typ, v := y, p := p }, if i0 = 0 then n + o else n)
    | 0x03 => (l.set v.dst { typ := v.typ, v := v.immNum.getD .nan, p := false }, n)
    | _ =>
      match vop v.opc with
      | some o =>
        if o.dst then
          let b := if o.imm then { typ := v.typ, v := v.immNum.getD .nan, p := false } else get 2
          let (y, c) := vexec v (get 1).v b.v (get 3).v
          let p := o.srcs.any (fun k => (get k).p)
          (l.set v.dst { typ := v.typ, v := y, p := p }, n + c)
        else acc
      | none => acc) ([default, default, default, default], 0)

/-- floor(log2) of the largest finite magnitude of some values. -/
def topLog (xs : List Num) : Option Int :=
  xs.foldl (fun (m : Option Int) x => match x with
    | .fin d => if d.m = 0 then m else match m with | some t => some (max t d.flog) | none => some d.flog
    | _ => m) none

/-- A sum of terms in aperture arithmetic: every term placed at an anchor extra above the largest, rounded once (R289, R291). -/
def apertureSum (xs : List Num) (extra : Int) (f : Fmt) (rnd : Rnd) (sat : Bool) : Nat × Bool :=
  let nan := xs.any (·.isNan)
  let pinf := xs.contains (.inf false)
  let ninf := xs.contains (.inf true)
  if nan || (pinf && ninf) then convert .nan f rnd sat
  else if pinf then convert (.inf false) f rnd sat
  else if ninf then convert (.inf true) f rnd sat
  else
    let e := (topLog xs).getD 0 + extra
    let w := xs.foldl (fun (w : Int) x => match x with | .fin d => w + (place d e).1 | _ => w) 0
    if w = 0 then (f.zeroBits (rnd = .down), false) else convert (.fin (Dy.ofInt w (e - 100))) f rnd sat

/-- ceil(log2 n). -/
def ceilLog2 (n : Nat) : Nat := if n ≤ 1 then 0 else Nat.log2 (n - 1) + 1

/-- A row reduced by RSTORE and converted (R289). -/
def reduceRow (v : VInstr) (xs : List Num) (f : Fmt) : Nat × Bool :=
  let rnd := Rnd.ofCode v.rnd
  match v.modf % 4 with
  | 0 =>
    if v.typ < 2 then convert (.fin (Dy.ofInt (xs.foldl (fun (i : Int) x => i + x.toInt) 0) 0)) f rnd v.sat
    else apertureSum xs (1 + ceilLog2 xs.length) f rnd v.sat
  | 1 => convert (xs.tail.foldl Num.maximum (xs.headD .nan)) f rnd v.sat
  | 2 => convert (xs.tail.foldl Num.minimum (xs.headD .nan)) f rnd v.sat
  | _ => (Machine.ofInt 32 (sliceExp (bit v.modf 2) xs), false)

/-- The terms of a weight update (R283, R291). -/
def wuTerms (opc : Nat) (a b c : Num) : List Num :=
  match opc with
  | 0x0A => [a, b.mul c]
  | 0x0B => [a, c.mul b, (c.mul a).negate]
  | _ => [a, (c.mul b).mul b, (c.mul a).negate]

/-- What a pass writes: pieces of bytes, each with the logical index of the element that brings it (R276); out-of-range events by
logical index; stochastically rounded elements, free values drawn. -/
structure PassOut where
  pieces : List (Nat × List Chunk)
  oor    : List (Nat × Nat)
  sr     : Nat
  drawn  : Nat
  deriving DecidableEq, Repr, Inhabited

/-- A run of output elements of a row from i0 on as chunks of bytes: packed when it is dense, one element at a time otherwise. -/
def rowChunks (cl : Nat) (d : Strm) (i0 i1 i2 plane : Nat) (es : List (Nat × Bool)) : List Chunk :=
  let base := (Strm.at d i0 i1 i2).toNat + plane * Strm.plane d + spBase cl
  if Strm.nibble d then
    let bs := packRow (Strm.fmt d) (es.map (·.1))
    chunksOf base ((List.range bs.length).map (fun j =>
      (bs.getD j 0, (es.getD (2 * j) (0, false)).2 || (es.getD (2 * j + 1) (0, false)).2)))
  else if Strm.stride d 0 = Strm.size d then
    chunksOf base (es.flatMap (fun e => (packRow (Strm.fmt d) [e.1]).map (fun b => (b, e.2))))
  else
    (List.range es.length).flatMap (fun j =>
      let e := es.getD j (0, false)
      chunksOf ((Strm.at d (i0 + j) i1 i2).toNat + plane * Strm.plane d + spBase cl)
        ((packRow (Strm.fmt d) [e.1]).map (fun b => (b, e.2))))

/-- A row of output elements cut where the elements of a cycle, lam of them, end (R242, R276). -/
def rowPieces (cl lam : Nat) (d : Strm) (i1 i2 plane : Nat) (es : List (Nat × Bool)) : List (Nat × List Chunk) :=
  let start := es.length * (i1 + Strm.count d 1 * i2)
  (List.range (es.length / lam + 2)).filterMap (fun j =>
    let lo := max start ((start / lam + j) * lam) - start
    let hi := min es.length ((start / lam + j + 1) * lam - start)
    if hi ≤ lo then none else some (start + lo, rowChunks cl d lo i1 i2 plane ((es.drop lo).take (hi - lo))))

/-- Rows of a shape, each as (i1, i2) and its elements' final latches; the events of each element. -/
def State.passRows (s : State) (cl : Nat) (ins : List VInstr) (sh : Nat × Nat × Nat) :
    List (Nat × Nat × List (List Latch)) × List (Nat × Nat) :=
  let rows := (List.range (sh.2.1 * sh.2.2)).map (fun r =>
    (r % sh.2.1, r / sh.2.1, (List.range sh.1).map (fun i0 => s.runElem cl ins i0 (r % sh.2.1) (r / sh.2.1))))
  let evs := rows.flatMap (fun r => r.2.2.map (·.2))
  (rows.map (fun r => (r.1, r.2.1, r.2.2.map (·.1))), (List.range evs.length).zip evs)

/-- The events of rows of elements, by logical index. -/
def rowEvents (rows : List (List Bool)) : List (Nat × Nat) :=
  let evs := rows.flatten
  (List.range evs.length).zip (evs.map b2n)

/-- A plain STORE: every element converted (R287). -/
def storePlain (cl lam : Nat) (v : VInstr) (rows : List (Nat × Nat × List (List Latch))) : PassOut :=
  let d := v.desc
  let f := (fmtOf (Strm.fmt d)).getD Fmt.int8
  let outs := rows.map (fun r => (r.1, r.2.1, r.2.2.map (fun l =>
    let x := l.getD (v.src 1) default
    let (b, o) := convert x.v f (Rnd.ofCode v.rnd) v.sat
    (b, x.p, o))))
  { pieces := outs.flatMap (fun r => rowPieces cl lam d r.1 r.2.1 0 (r.2.2.map (fun e => (e.1, e.2.1)))),
    oor := rowEvents (outs.map (fun r => r.2.2.map (·.2.2))), sr := 0, drawn := 0 }

/-- A STORE into an MX format (R288): blocks of 32 along the stream's dimension, each brought by its last element. -/
def storeMx (cl lam : Nat) (v : VInstr) (rows : List (Nat × Nat × List (List Latch))) : PassOut :=
  let d := v.desc
  let f := Strm.fmt d
  let c0 := Strm.count d 0
  let c1 := Strm.count d 1
  let at' (i0 i1 i2 : Nat) : Latch := (((rows.getD (i1 + c1 * i2) (0, 0, [])).2.2).getD i0 []).getD (v.src 1) default
  let member (b t : Nat) : Nat × Nat × Nat :=
    if Strm.mxDim d then
      let j := b / c0
      (b % c0, 32 * (j % (c1 / 32)) + t, j / (c1 / 32))
    else
      let r := b / (c0 / 32)
      (32 * (b % (c0 / 32)) + t, r % c1, r / c1)
  let members (b : Nat) : List Latch := (List.range 32).map (fun t => let m := member b t; at' m.1 m.2.1 m.2.2)
  let last (b : Nat) : Nat := let m := member b 31; m.1 + c0 * (m.2.1 + c1 * m.2.2)
  let blocks := (List.range (Strm.scales d)).map (fun b =>
    let ls := members b
    (mxBlock f (Rnd.ofCode v.rnd) (ls.map (·.v)), ls.any (·.p)))
  let elem (i0 i1 i2 : Nat) : Nat × Bool :=
    let b := blocks.getD (Strm.scaleAt d i0 i1 i2 - Strm.sbase d) default
    (b.1.2.1.getD (if Strm.mxDim d then i1 % 32 else i0 % 32) 0, b.2)
  let n := blocks.length
  { pieces := rows.flatMap (fun r => rowPieces cl lam d r.1 r.2.1 0 ((List.range c0).map (fun i0 => elem i0 r.1 r.2.1)))
      ++ (List.range n).map (fun b => let x := blocks.getD b default
          (last b, [(spBase cl + Strm.sbase d + b, [BitVec.ofNat 8 x.1.1], x.2)])),
    oor := (List.range n).map (fun b => (last b, (blocks.getD b default).1.2.2)), sr := 0, drawn := 0 }

/-- A STORE into a sliced format (R290): a row that holds an infinity or a NaN, or an element that its exponent does not bound, takes
the exponent 0x7FFF and slices of 0 (R166). A row whose exponent is not one value of 16 bits is free: the spec states none (log
entry 35). A row's exponent goes with its last element. -/
def storeSliced (cl lam ctr : Nat) (v : VInstr) (rows : List (Nat × Nat × List (List Latch))) : PassOut :=
  let d := v.desc
  let np := Strm.planes d
  let c0 := Strm.count d 0
  let c1 := Strm.count d 1
  let free (n : Nat) : Nat := (Config.freeValue (ctr + n)).toNat
  let outs := rows.map (fun r =>
    let row := r.1 + c1 * r.2.1
    let es : List (Latch × Latch) := r.2.2.map (fun l => ((l.getD (v.src 1) default), (l.getD (v.src 2) default)))
    let e := ((es.headD (default, default)).2.v).toInt
    let one := es.all (fun x => x.2.v.toInt = e) && decide (-32768 ≤ e) && decide (e ≤ 32767)
    let past : Bool := es.any (fun x => match x.1.v with
      | .fin a => a.m ≠ 0 && decide (x.2.v.toInt ≤ a.flog)
      | .inf _ => true
      | .nan => false)
    let none' := es.any (fun x => x.1.v = .nan)
    let zero := (one && e = 32767) || past || none'
    let planes := (List.range np).map (fun p => (List.range es.length).map (fun i0 =>
      let x := es.getD i0 (default, default)
      let b : Nat := if zero then 0 else match x.1.v with
        | .fin a => Machine.ofInt 8 ((slice a x.2.v.toInt np).getD p 0)
        | _ => free (8 * (i0 + c0 * row) + p) % 256
      (b, x.1.p || x.2.p)))
    let pois := es.any (fun x => x.2.p) || ((past || none') && es.any (fun x => x.1.p))
    let ex : Nat := if past || none' then 0x7FFF else if one then Machine.ofInt 16 e else free (8 * Strm.elems d + row) % 65536
    (r.1, r.2.1, planes, ex, pois, past))
  let last (r : Nat) : Nat := c0 * (r + 1) - 1
  { pieces := outs.flatMap (fun r => (List.range np).flatMap (fun p => rowPieces cl lam d r.1 r.2.1 p (r.2.2.1.getD p [])))
      ++ (List.range outs.length).map (fun i => let r := outs.getD i default
          (last i, chunksOf (spBase cl + Strm.sbase d + 2 * i) ((leBytes 2 r.2.2.2.1).map (fun b => (b, r.2.2.2.2.1))))),
    oor := (List.range outs.length).map (fun i => (last i, b2n (outs.getD i default).2.2.2.2.2)), sr := 0,
    drawn := 9 * Strm.elems d }

/-- RSTORE (R289): a row's result goes with its last element. -/
def storeReduced (cl : Nat) (v : VInstr) (rows : List (Nat × Nat × List (List Latch))) : PassOut :=
  let d := v.desc
  let f := (fmtOf (Strm.fmt d)).getD Fmt.int8
  let outs := rows.map (fun r =>
    let ls := r.2.2.map (fun l => l.getD (v.src 1) default)
    (r.1, r.2.1, reduceRow v (ls.map (·.v)) f, ls.any (·.p)))
  let c0 := (rows.headD default).2.2.length
  let last (r : Nat) : Nat := c0 * (r + 1) - 1
  { pieces := (List.range outs.length).map (fun i => let r := outs.getD i default
      (last i, rowChunks cl d 0 r.1 r.2.1 0 [(r.2.2.1.1, r.2.2.2)])),
    oor := (List.range outs.length).map (fun i => (last i, b2n (outs.getD i default).2.2.1.2)), sr := 0, drawn := 0 }

/-- A weight-update store (R291, R292). -/
def storeUpdate (cl lam : Nat) (v : VInstr) (rows : List (Nat × Nat × List (List Latch))) : PassOut :=
  let d := v.desc
  let f := (fmtOf (Strm.fmt d)).getD Fmt.f32
  let outs := rows.map (fun r => (r.1, r.2.1, (List.range r.2.2.length).map (fun i0 =>
    let l := r.2.2.getD i0 []
    let g (n : Nat) : Latch := l.getD (v.src n) default
    let i := i0 + Strm.count d 0 * (r.1 + Strm.count d 1 * r.2.1)
    let rnd : Rnd := if v.rnd = 4 then .sr (srBits v.hi ((Strm.keyBase d + i) % 2 ^ 57) (Strm.step d)) else Rnd.ofCode v.rnd
    let (b, o) := apertureSum (wuTerms v.opc (g 1).v (g 2).v (g 3).v) 2 f rnd v.sat
    (b, (g 1).p || (g 2).p || (g 3).p, o))))
  { pieces := outs.flatMap (fun r => rowPieces cl lam d r.1 r.2.1 0 (r.2.2.map (fun e => (e.1, e.2.1)))),
    oor := rowEvents (outs.map (fun r => r.2.2.map (·.2.2))),
    sr := if v.rnd = 4 then Strm.elems d else 0, drawn := 0 }

/-- The whole pass of a closed chain over its cluster's scratchpad. -/
def State.runPass (s : State) (cl : Nat) (c : Chain) : PassOut :=
  match c.ins.getLast?, chainShape c.ins with
  | some v, some sh =>
    let (rows, evs) := s.passRows cl c.ins sh
    let o := if v.opc = 0x09 then storeReduced cl v rows
      else if v.wu then storeUpdate cl c.lanes v rows
      else if isMx (Strm.fmt v.desc) then storeMx cl c.lanes v rows
      else if isSliced (Strm.fmt v.desc) then storeSliced cl c.lanes s.freeCtr v rows
      else storePlain cl c.lanes v rows
    { o with oor := evs ++ o.oor }
  | _, _ => default

/-- The cycles of a chain's pass. -/
def Chain.cycles (c : Chain) : Nat := ceilDiv c.elems c.lanes

/-- A closed chain with what its pass writes in each cycle and the events of each (R293, R301). -/
def Chain.withOut (c : Chain) (o : PassOut) : Chain :=
  { c with
    out := (List.range c.cycles).map (fun g => (o.pieces.filter (fun p => p.1 / c.lanes = g)).flatMap (·.2)),
    oor := (List.range c.cycles).map (fun g => ((o.oor.filter (fun p => p.1 / c.lanes = g)).map (·.2)).foldl (· + ·) 0),
    sr := o.sr }

/-- The ranges of a chain, read and written (R277). -/
def chainRanges (ins : List VInstr) : List (Nat × Nat) := ins.flatMap (fun v => if v.streams then Strm.range v.desc else [])

/-! The rows. -/

/-- A chain of an engine replaced. -/
def State.putChain (s : State) (k x i : Nat) (c : Chain) : State := s.setChains k x ((s.chainsOf k x).set i c)

/-- The pass of chain i has streamed its last element in: its buffer is free, and its elements count (R278, R301). -/
def State.streamed (s : State) (k x i : Nat) (c : Chain) : State :=
  let s := s.putChain k x i { c with streamed := true }
  (s.bump (A.vxeCntStream k x) c.cycles).bump (A.vxeCntElems k x) c.elems

/-- A chain of a beam has closed, and not completed: a thread's pass waits for it (R296). -/
def beamFirst (cs : List Chain) (c : Chain) : Bool := !c.src.isBeam && cs.any (fun x => x.closed && x.src.isBeam)

/-- VXE_PASS_STREAMED: the oldest streaming pass has streamed its last element in; its buffer is free (R278). What it will
write is settled. A write that meets a hold before the last element is in stops the pass (R293): the writes before it are made,
and the pass has streamed once they all are. -/
def execVxePassStreamed (k x : Nat) (s : State) : Res :=
  onUnit (k < 4 && x < 8)
    (let cs := s.chainsOf k x
     match streaming cs with
     | none => s
     | some c =>
       if s.stalled (.vxe k x) || beamFirst cs c then s
       else if c.wrote then s.streamed k x (cs.idxOf c) c
       else
         let cl := vxeCluster k x
         let s := (c.ins.filter (·.loads)).foldl (fun s v =>
           (Strm.range v.desc).foldl (fun s r => s.spFind (spBase cl + r.1) r.2 (.vxe k x) (some c.owner)) s) s
         let o := s.runPass cl c
         let s := { s with freeCtr := s.freeCtr + o.drawn }
         let c' := c.withOut o
         let stops := (c'.out.take (c'.cycles - (c.ins.length + 15))).any (fun w => (s.writeHeld (.vxe k x) cl w).isSome)
         if stops then
           let s := (s.spWrite (.vxe k x) c.owner 0 cl c'.out).1
           s.putChain k x (cs.idxOf c) { c' with wrote := true }
         else s.streamed k x (cs.idxOf c) c')

/-- A chain fails with some of its cycles' writes left: it is dropped with them, the events of the written ones count (R201), and
its issuer acts (R612). -/
def State.chainFail (s : State) (k x : Nat) (c : Chain) (left cls detail : Nat) (injected : Bool) : State :=
  let s := s.bump (A.vxeCntOor k x) (if c.wrote then (c.oor.take (c.out.length - left)).foldl (· + ·) 0 else 0)
  let s := { s with comp := { s.comp with stalls := s.comp.stalls.filter (fun w : Stall => w.who ≠ Issuer.vxe k x) } }
  let s := s.setChains k x ((s.chainsOf k x).erase c)
  let s := s.beamUnitError k c.src cls
  s.opFail { queue := k, cls := cls, domain := 0, action := 5, owner := some c.owner, unit := unitVxe k x, opref := c.opref,
             detail := detail, injected := injected }

/-- CHAIN_COMPLETE: the oldest streamed chain writes its results and, when no write stalls, completes (R242, R296, R297, R301).
parity: a datapath parity error was found in its pass. -/
def execChainComplete (k x : Nat) (parity : Bool) (s : State) : Res :=
  onUnit (k < 4 && x < 8)
    (let cs := s.chainsOf k x
     match cs.find? (·.streamed) with
     | none => s
     | some c =>
       if s.stalled (.vxe k x) then s
       else
         let (s, inj) := if c.wrote then (s, false) else s.takeInjected 0x02 (unitVxe k x) c.owner.ctx
         if parity || inj then s.chainFail k x c 0 0x02 0 inj
         else
           let (s, waits) := if c.wrote then (s, false) else s.spWrite (.vxe k x) c.owner 0 (vxeCluster k x) c.out
           if waits then s.putChain k x (cs.idxOf c) { c with wrote := true }
           else
             let s := s.setChains k x (cs.erase c)
             let s := s.bump (A.vxeCntChains k x) 1
             let s := s.bump (A.vxeCntOor k x) (c.oor.foldl (· + ·) 0)
             let s := s.bump (A.vxeCntSr k x) c.sr
             let s := if c.out.flatten.any (·.2.2) then s.bump (A.vxeCntPoison k x) 1 else s
             (c.ins.filter (fun v => v.opc = 0x30)).foldl (fun s v =>
               s.signal (.vxe k x) (some c.owner.ctx) (some c.owner) (v.imm32 % 65536) 1 1) s)

end Sys2Proof.Machine
end

