-- ==== Sys2Proof/Machine/Beam.lean ====
section
/-! DEFINITION. The beam (09_beam.md): words and their slots, images and their checks, starting, waiting, issuing, lending,
signals, and how a beam ends. -/

namespace Sys2Proof.Machine

/-! Words (R228 to R238). -/

/-- Bits [pos + n - 1 : pos] of a list of 64-bit units (R228). -/
def unitBits (w : List Nat) (pos n : Nat) : Nat :=
  let u := (List.range (n / 64 + 2)).foldl (fun a i => a + w.getD (pos / 64 + i) 0 * 2 ^ (64 * i)) 0
  bitsOf u (pos % 64) n

/-- Kinds of slot (R229). -/
inductive SlotKind where
  | mxe | vxe | tm | cl | sy | wait | seq
  deriving DecidableEq, Repr, Inhabited

/-- The kind and the index of a mask bit (R229). -/
def slotKind (b : Nat) : SlotKind × Nat :=
  if b < 16 then (.mxe, b) else if b < 24 then (.vxe, b - 16) else if b < 40 then (.tm, b - 24)
  else if b < 44 then (.cl, b - 40) else if b < 48 then (.sy, b - 44) else if b = 48 then (.wait, 0) else (.seq, 0)

/-- A slot of a word: kind, index, bit offset in the word, and its bits. -/
structure BSlot where
  kind : SlotKind
  idx  : Nat
  pos  : Nat
  len  : Nat
  v    : Nat
  deriving DecidableEq, Repr, Inhabited

/-- OP of a slot; a VXE slot has none. -/
def BSlot.op (s : BSlot) : Nat := s.v % 16
/-- A field of a slot. -/
def BSlot.f (s : BSlot) (lo w : Nat) : Nat := bitsOf s.v lo w

/-- Length of a slot by its kind and first four bits; none for an unassigned OP (R230 to R238). -/
def slotLen (k : SlotKind) (low : Nat) : Option Nat :=
  let op := low % 16
  match k with
  | .mxe => if op = 1 then some 384 else if op = 2 then some 96 else if op = 3 then some 32 else none
  | .vxe => some (if low % 2 = 1 then 128 else 64)
  | .tm => if op = 1 then some 32 else none
  | .cl => if op = 1 then some 64 else if 2 ≤ op && op ≤ 4 then some 32 else none
  | .sy => if 1 ≤ op && op ≤ 3 then some 64 else none
  | .wait => if op = 1 then some 64 else none
  | .seq => if 1 ≤ op && op ≤ 5 then some 64 else none

/-- The lowest failing bit among a slot's own fields (R231 to R238, R255). -/
def BSlot.badBit (s : BSlot) : Option Nat :=
  let rsv (l : List (Nat × Nat)) : List (Nat × Bool) := l.map (fun e => (e.1, s.f e.1 e.2 ≠ 0))
  let groups : List (Nat × Nat) := (List.range 5).flatMap (fun i => [(128 + 48 * i + 19, 5), (128 + 48 * i + 43, 5)])
  let bads : List (Nat × Bool) := match s.kind with
    | .mxe =>
      if s.op = 1 then rsv ([(26, 6), (110, 18)] ++ groups ++ [(368, 16)])
      else if s.op = 2 then rsv [(18, 14), (80, 16)] else rsv [(4, 28)]
    | .vxe =>
      let v : VInstr := { lo := s.f 0 64, hi := s.f 64 64, desc := [] }
      match v.badBit true with | some b => [(b, true)] | none => []
    | .tm => rsv [(23, 9)]
    | .cl => match s.op with | 1 => rsv [(23, 9)] | 2 => rsv [(10, 22)] | 3 => rsv [(18, 14)] | _ => rsv [(20, 12)]
    | .sy => [(4, decide (5 < s.f 4 3))] ++ rsv [(24, 8)]
    | .wait => [(4, decide (3 < s.f 4 3)), (7, decide (5 < s.f 7 3)),
        (10, let t := s.f 10 6; t ≠ 0 && (decide (t < 16) || decide (40 < t)))]
    | .seq => match s.op with
      | 1 => rsv [(4, 2), (23, 9), (32, 16), (48, 16)]
      | 2 => rsv [(23, 9), (48, 16)]
      | 3 => rsv [(4, 2), (6, 17), (23, 9), (48, 16)]
      | _ => rsv [(4, 2), (6, 17), (23, 9), (32, 16), (48, 16)]
  (bads.find? (·.2)).map (·.1)

/-- A parsed word: its address, its length in units, its slots in mask order. -/
structure BWord where
  at'   : Nat
  units : Nat
  slots : List BSlot
  deriving DecidableEq, Repr, Inhabited

/-- The slots that mask bits name from bit offset o on, or the bit that fails; lim is the bits the word may take (R228). -/
def parseSlots (area : List Nat) (at' lim o : Nat) : List Nat → Except Nat (List BSlot × Nat)
  | [] => .ok ([], o)
  | b :: bs =>
    let (k, i) := slotKind b
    match slotLen k (unitBits area (64 * at' + o) 4) with
    | none => .error o
    | some n =>
      if lim < o + n then .error o
      else
        let s : BSlot := { kind := k, idx := i, pos := o, len := n, v := unitBits area (64 * at' + o) n }
        match s.badBit with
        | some f => .error (o + f)
        | none =>
          match parseSlots area at' lim (o + n) bs with
          | .error e => .error e
          | .ok (l, e) => .ok (s :: l, e)

/-- A word of an area of units at an address, or the failing bit of it (R228, R230, R255). -/
def parseWord (area : List Nat) (at' : Nat) : Except Nat BWord :=
  let mask := area.getD at' 0
  if 2 ^ 50 ≤ mask then .error 50
  else
    let lim := 64 * min 64 (area.length - at')
    match parseSlots area at' lim 64 ((List.range 50).filter mask.testBit) with
    | .error e => .error e
    | .ok (l, e) =>
      let u := ceilDiv e 64
      if unitBits area (64 * at' + e) (64 * u - e) ≠ 0 then .error e else .ok { at' := at', units := u, slots := l }

/-- The words of an area in ascending address, or the image offset of the first failing field of the first pass (R255). -/
def parseArea (area : List Nat) (at' : Nat) : Nat → Except Nat (List BWord)
  | 0 => .ok []
  | f + 1 =>
    if area.length ≤ at' then .ok []
    else
      match parseWord area at' with
      | .error e => .error (0x40 + 8 * at' + e / 8)
      | .ok w =>
        match parseArea area (at' + w.units) f with
        | .error e => .error e
        | .ok ws => .ok (w :: ws)

/-- Image offset of a bit of a slot. -/
def slotOff (w : BWord) (s : BSlot) (b : Nat) : Nat := 0x40 + 8 * w.at' + (s.pos + b) / 8

/-- The first failing field of the second pass (R255). DESIGN CHOICE (log entry 195): a last word without a sequencer slot fails
at its own first byte; in the first pass a reserved mask bit fails at byte 6 of the mask, and padding that is not zero at its
first byte. -/
def secondPass (ws : List BWord) (entry descs : Nat) : Option Nat :=
  let begins (a : Nat) : Bool := ws.any (fun w => w.at' = a)
  let fields : List (Nat × Bool) := ws.flatMap (fun w => w.slots.flatMap (fun s : BSlot =>
    if s.kind = .mxe && s.op = 2 then [(slotOff w s 4, decide (descs ≤ s.f 4 12))]
    else if s.kind = .seq then
      (if s.op = 1 || s.op = 2 then [(slotOff w s 6, !begins (s.f 6 17))] else [])
        ++ (if s.op = 2 || s.op = 3 then [(slotOff w s 32, decide (s.f 32 16 = 0))] else [])
    else []))
  let last : Nat × Bool := match ws.getLast? with
    | none => (0x40, true)
    | some w => match w.slots.find? (fun s => s.kind = .seq) with
      | none => (0x40 + 8 * w.at', true)
      | some s => (slotOff w s 0, decide (s.op ≠ 1) && decide (s.op ≠ 4))
  (((0x0C, !begins entry) :: fields ++ [last]).find? (·.2)).map (·.1)

/-! Loading (R254 to R256). -/

/-- The lowest failing field of an image's header but for ENTRY (R254). -/
def headerBad (h : List Byte) : Option Nat :=
  let f (o n : Nat) : Nat := leNat ((h.drop o).take n)
  let wb := f 8 4
  (([(0, f 0 4 ≠ 0x45424D49), (4, f 4 2 ≠ 1), (6, f 6 2 ≠ 0), (8, wb % 8 ≠ 0 || wb < 8 || 786432 < wb),
     (0x10, decide (4096 < f 0x10 2)), (0x12, f 0x12 46 ≠ 0)] : List (Nat × Bool)).find? (·.2)).map (·.1)

/-- BEAM_LOAD: steps 1 to 3; the image is then read and checked (R256). -/
def execBeamLoad (ch : Nat) (p : Packet) (s : State) : Res :=
  cmd ch 0x600 p s fun s =>
    let w := pword p 0
    let k := bitsOf w 0 2
    let b := bitsOf w 2 1
    let c := bitsOf w 8 8
    if p.length ≠ 32 then s.reply ch St.badLength
    else if w &&& 0xFFFFFFFFFFFF00F8 ≠ 0 || pword p 1 % 64 ≠ 0 then s.reply ch St.invalid [2 ^ 64 - 1]
    else if s.eclipse || s.flag (A.beamBank k b) F.beamBank_IN_USE || (s.beam k).load.isSome then s.reply ch St.busy
    else if !s.ctxOpen c then s.reply ch St.notFound
    else
      let s := s.setFlds (A.beamBank k b) [(F.beamBank_VALID, 0), (F.beamBank_CONTEXT, c)]
      let s := s.modBeam k (fun x => { x with load := some { bank := b, ctx := c, addr := pword p 1, chan := ch } })
      s.setFlag (A.beamStatus k) F.beamStatus_LOADING true

/-- BEAM_LOAD_COMPLETE: steps 4 to 7 (R256). A poisoned image replies ERROR (R619). -/
def execBeamLoadComplete (k : Nat) (s : State) : Res :=
  onUnit (k < 4)
    (match (s.beam k).load with
     | none => s
     | some l =>
       let head := if s.rangeIn l.addr 64 then s.ccRead l.addr 64 else (s, true)
       let h := head.1.rdBytes l.addr 64
       let wb := leNat ((h.drop 8).take 4)
       let dc := leNat ((h.drop 16).take 2)
       let dAt := 64 * ceilDiv (0x40 + wb) 64
       let len := dAt + 64 * dc
       let whole := if head.2 && s.rangeIn l.addr 64 && headerBad h = none && s.rangeIn l.addr len then
           head.1.ccRead (l.addr + 64) (len - 64) else head
       if !whole.2 then whole.1
       else
       let s := (whole.1.modBeam k (fun x => { x with load := none })).setFlag (A.beamStatus k) F.beamStatus_LOADING false
       let bad (o : Nat) : State := s.reply l.chan St.invalid [o]
       let poisoned (n : Nat) : State :=
         let o : Owner := { ctx := l.ctx, entry := none }
         let a := (s.firstPoison l.addr n).getD 0
         s.commandFail l.chan
           { queue := k, cls := 0x12, domain := 0, action := 5, owner := some o, unit := unitSeq k, opref := 0x600, addr := a }
       if !s.rangeIn l.addr 64 then bad (2 ^ 64 - 1)
       else if s.poisoned l.addr 64 then poisoned 64
       else
         match headerBad h with
         | some o => bad o
         | none =>
           if !s.rangeIn l.addr len then bad (2 ^ 64 - 1)
           else if s.poisoned l.addr len then poisoned len
           else
             let area := s.rdWords (l.addr + 0x40) (wb / 8)
             match parseArea area 0 (wb / 8) with
             | .error o => bad o
             | .ok ws =>
               match secondPass ws (leNat ((h.drop 12).take 4)) dc with
               | some o => bad o
               | none =>
                 let descs := (List.range dc).map (fun i => s.rdWords (l.addr + dAt + 64 * i) 8)
                 let bank : Bank := { words := area, descs := descs, entry := leNat ((h.drop 12).take 4) }
                 let s := s.modBeam k (fun x => { x with banks := x.banks.set l.bank bank })
                 let s := s.setFlds (A.beamBank k l.bank)
                   [(F.beamBank_VALID, 1), (F.beamBank_WORD_BYTES, wb), (F.beamBank_DESC_COUNT, dc)]
                 s.reply l.chan St.ok [wb, dc])

/-! Cycles and stretches (R245, R269, R270). -/

/-- The present stretch ends: MXE_BEAM_STRETCH shows it, and a trace records it (R705). -/
def State.endStretch (s : State) (k : Nat) : State :=
  (s.traced 0 (some (s.beam k).owner.ctx) k none).setFlds (A.beamStretch k)
    [(F.beamStretch_CYCLES, min (s.beam k).cycles 0xFFFFFFFF), (F.beamStretch_EXT, min (s.beam k).ext 0xFFFFFFFF)]

/-- A wait point: a new stretch begins, and what has been issued stands in an earlier one (R245, R246). -/
def State.waitPoint (s : State) (k : Nat) : State :=
  ((s.endStretch k).modBeam k (fun b => { b with cycles := 0, ext := 0, mark := b.seq, tainted := [] })).setFlag (A.beamStatus k)
    F.beamStatus_STRETCH_EXT false

/-- PC of a sequencer. -/
def State.beamPc (s : State) (k : Nat) : Nat := s.fld (A.beamStatus k) F.beamStatus_PC
/-- Bank of the current beam. -/
def State.beamBankOf (s : State) (k : Nat) : Bank := (s.beam k).banks.getD (s.fld (A.beamStatus k) F.beamStatus_BANK) default
/-- The next word to issue. -/
def State.beamWord (s : State) (k : Nat) : Option BWord :=
  match parseWord (s.beamBankOf k).words (s.beamPc k) with | .ok w => some w | .error _ => none
/-- Loop counter n. -/
def State.beamLc (s : State) (k n : Nat) : Nat := s.fld (A.beamLc k) ⟨16 * n, 16⟩

/-! Ends (R258 to R262). -/

/-- Class of a beam error's record by its CAUSE (R261). -/
def beamClass (cause : Nat) : Nat := match cause with | 6 => 0x06 | 8 => 0x0B | 9 => 0x0A | _ => 0x0F

/-- A beam error at the word at PC (R261): the beam is IDLE with its CAUSE, its entry is marked, and a step replies ERROR with the
record's identifier. A unit's own error has its record already. DESIGN CHOICE (log entry 196): for it the step's identifier is 0. -/
def State.beamError (s : State) (k cause : Nat) (cls : Option Nat) : State :=
  let b := s.beam k
  let r : RecordReq := { queue := k, cls := cls.getD (beamClass cause), domain := 0, action := 5, owner := some b.owner,
                         unit := unitSeq k, opref := s.beamPc k }
  let id := s.nextRecordId k
  let s : State := match b.stepChan with
    | some ch => (s.reply ch St.error [if cause = 13 then 0 else id]).modBeam k (fun x => { x with stepChan := none })
    | none => s
  let s := s.stopBeam k cause
  let s := if cause = 13 && cls ≠ some 0x03 then s else s.opFail r
  s.settleEntry b.owner

/-- CAUSE of a stop that an issued operation's failure of a class asks for (R261, R513). -/
def unitErrCause (cls : Nat) : Nat := if cls = 0x0A then 9 else 13

/-- The word at PC becomes eligible (R239, R249): one with a wait begins to wait, on an object of the beam's context. -/
def State.beamEligible (s : State) (k : Nat) : State :=
  match (s.beamWord k).bind (fun w => w.slots.find? (fun x => x.kind = .wait)) with
  | none => (s.setBeamState k 1).modBeam k (fun b => { b with waiting := false, met := false, waited := 0 })
  | some x =>
    let obj := x.f 16 16
    if !s.objBoundTo obj (s.beamCtx k) then s.beamError k 9 none
    else
      let s := s.setFlds (A.beamWait k) [(F.beamWait_OBJ, obj), (F.beamWait_COND, x.f 4 3), (F.beamWait_VALUE, x.f 32 32)]
      let s := (s.setBeamState k 2).modBeam k (fun b => { b with waiting := true, met := false, waited := 0 })
      s.beginWait (.beam k) (s.beamCtx k) obj (x.f 4 3) (x.f 32 32)

/-- A tile or chain that the words after number lo up to number hi issued is still at work (R244). -/
def State.beamOps (s : State) (k lo hi : Nat) : Bool :=
  let mine (w : WorkSrc) : Bool := match w with | .beam n => decide (lo < n) && decide (n ≤ hi) | .port .. => false
  (List.range 17).any (fun e => (s.tilesOf k e).any (fun t => mine t.src))
  || (List.range 8).any (fun x => (s.chainsOf k x).any (fun c => c.closed && mine c.src))

/-- Time limit of the present word's wait (R237, R249, R264). -/
def State.waitLimit (s : State) (k : Nat) : Nat :=
  let t := match (s.beamWord k).bind (fun w => w.slots.find? (fun x => x.kind = .wait)) with | some x => x.f 10 6 | none => 0
  2 ^ (if t = 0 then F.beamCfg_WAIT_TIMEOUT_LOG2.get (s.beam k).cfg else t)

/-- Cycles of the present word's wait pass; none count beyond its limit. -/
def State.beamWaits (s : State) (k n : Nat) : State :=
  let n := min n (s.waitLimit k - (s.beam k).waited)
  (s.beamTick k (A.mxeBeamCntWait k) n).modBeam k (fun b => { b with waited := b.waited + n })

/-- BEAM_WAIT_ANSWER: a query's answer returns, cycles after the last of the word; MXE_BEAM_CNT_WAIT gains them, and past the time
limit the beam stops (R249). An answer that the home refused the wait stops the beam (R513). -/
def execBeamWaitAnswer (k cycles : Nat) (s : State) : Res :=
  onUnit (k < 4)
    (match s.waitOf (.beam k) with
     | none => s
     | some w =>
       let late := decide (s.waitLimit k < (s.beam k).waited + cycles)
       let s := s.beamWaits k cycles
       if late then s.beamError k 8 none
       else if w.refused || !condAccepted (s.objType w.obj) w.cond || !s.objBoundTo w.obj w.ctx then
         ((s.endWait (.beam k)).opRefused w.obj).beamError k 9 none
       else if w.met then
         ((s.endWait (.beam k)).setBeamState k 1).modBeam k (fun b => { b with waiting := false, met := true })
       else s)

/-- BEAM_WAIT_TIMEOUT: with cycles more, the word has waited for its whole time limit (R249). -/
def execBeamWaitTimeout (k cycles : Nat) (s : State) : Res :=
  onUnit (k < 4)
    (match s.waitOf (.beam k) with
     | none => s
     | some _ => if (s.beam k).waited + cycles < s.waitLimit k then s else (s.beamWaits k cycles).beamError k 8 none)

/-! Starting (R257). -/

/-- What BEAM_START refuses, in words 0 and 1 of its parameters (R257). A START at which no word begins is refused, as the load
would refuse it (log entry 37). DESIGN CHOICE (log entry 197): the checks go in this order. -/
def State.beamStartCheck (s : State) (w0 w1 : Nat) : Option Nat :=
  let k := bitsOf w0 0 2
  let b := bitsOf w0 2 1
  let resume := bit w0 3
  let bank := A.beamBank k b
  let ctx := s.fld bank F.beamBank_CONTEXT
  let words := ((s.beam k).banks.getD b default).words
  let begins : Bool := match parseArea words 0 words.length with
    | .ok ws => ws.any (fun w => w.at' = bitsOf w1 0 17)
    | .error _ => false
  firstFail [
    (w0 &&& 0xFFFFFFFF0000FFC0 ≠ 0 || 2 ^ 17 ≤ w1, St.invalid),
    (s.eclipse || s.board.towerRst.any (fun e => e.1 = k) || s.board.ctxRst.any (fun e => e.1 = ctx), St.busy),
    (resume && !(s.beamState k = 4 && s.fld (A.beamStatus k) F.beamStatus_BANK = b), St.busy),
    (!resume && s.beamState k ≠ 0, St.busy),
    (!resume && !s.flag bank F.beamBank_VALID, St.notFound),
    (bit w0 4 && !s.objBoundTo (bitsOf w0 16 16) ctx, St.invalid),
    (!resume && !bit w0 5 && !begins, St.invalid)]

/-- The sequencer leaves PAUSED: the cycles it stood count, and a stretch begins (R245, R270). -/
def State.leavePause (s : State) (k : Nat) : State := (s.beamFlush k).waitPoint k

/-- A beam starts or resumes (R257), checked already. -/
def State.beamStartDo (s : State) (w0 w1 : Nat) (o : Option (Nat × Nat)) : State :=
  let k := bitsOf w0 0 2
  let b := bitsOf w0 2 1
  let done := if bit w0 4 then some (bitsOf w0 16 16) else none
  if bit w0 3 then
    let s := s.leavePause k
    let s := s.modBeam k (fun x => { x with cfg := s.rd (A.beamCfg k), done := done })
    s.beamEligible k
  else
    let ctx := s.fld (A.beamBank k b) F.beamBank_CONTEXT
    let bank := (s.beam k).banks.getD b default
    let s := s.clearRegs (A.mxeBeamCntCycles k) 8
    let s := s.wr (A.beamLc k) 0
    let s := s.setFlds (A.beamStatus k) [(F.beamStatus_BANK, b), (F.beamStatus_CONTEXT, ctx),
      (F.beamStatus_PC, if bit w0 5 then bank.entry else bitsOf w1 0 17), (F.beamStatus_STRETCH_EXT, 0)]
    let s := (s.setFlag (A.beamBank k b) F.beamBank_IN_USE true).waitPoint k
    let s := s.modBeam k (fun x =>
      { x with cfg := s.rd (A.beamCfg k), owner := { ctx := ctx, entry := o }, done := done, last := 0, waiting := false,
               met := false, unitErr := none, stepLeft := 0, since := s.now, first := x.seq })
    s.beamEligible k

/-- BEAM_START. -/
def execBeamStart (ch : Nat) (p : Packet) (s : State) : Res :=
  cmd ch 0x601 p s fun s =>
    if p.length ≠ 32 then s.reply ch St.badLength
    else
      s.orFail ch (s.beamStartCheck (pword p 0) (pword p 1)) fun s =>
      (s.beamStartDo (pword p 0) (pword p 1) none).reply ch St.ok

/-! Issue (R239 to R243). -/

/-- The descriptor that a TILE slot's fields make up (R231). -/
def tileOfSlot (x : BSlot) : TileDesc :=
  let arr (i : Nat) : Nat := 64 * x.f (128 + 48 * i) 19 + 64 * x.f (128 + 48 * i + 24) 19 * 2 ^ 32
  { w := [ x.f 4 2 + x.f 6 5 * 2 ^ 8 + x.f 11 5 * 2 ^ 16 + x.f 16 5 * 2 ^ 24 + x.f 21 2 * 2 ^ 32 + x.f 23 1 * 2 ^ 34
             + x.f 24 1 * 2 ^ 35 + x.f 25 1 * 2 ^ 36 + x.f 32 16 * 2 ^ 48,
           x.f 64 9 + x.f 73 9 * 2 ^ 16 + x.f 82 14 * 2 ^ 32 + x.f 96 14 * 2 ^ 48,
           arr 0, arr 1, arr 2, arr 3, arr 4, x.f 48 16 ] }

/-- The descriptor that an MXE slot issues; none when an effective address leaves 0 to 0x1FF_FFFF (R231, R232). -/
def State.slotTile (s : State) (k : Nat) (x : BSlot) : Option TileDesc :=
  if x.op = 1 then some (tileOfSlot x)
  else
    let e := (s.beamBankOf k).descs.getD (x.f 4 12) []
    let lc : Int := s.beamLc k (x.f 16 2)
    let eff (i : Nat) : Int := (bitsOf (e.getD (2 + i) 0) 0 25 : Int) + sext 16 (x.f (32 + 16 * i) 16) * 64 * lc
    if [0, 1, 2].all (fun i => decide (0 ≤ eff i) && decide (eff i ≤ 0x1FFFFFF)) then
      some { w := (List.range 8).map (fun i =>
        let w := e.getD i 0
        if 2 ≤ i && i ≤ 4 then w - w % 2 ^ 25 + (eff (i - 2)).toNat else w) }
    else none

/-- Ranges a tile reads or writes. -/
def TileDesc.ranges (d : TileDesc) : List (Nat × Nat) := d.uses.filterMap d.range

/-- Pending scratchpad writes of the beam (R241, R277): each with its cluster and ranges, and whether waiting for it is of class
EXT. -/
def State.scoreboard (s : State) (k : Nat) : List (Nat × List (Nat × Nat) × Bool) :=
  (List.range 17).flatMap (fun e => ((s.tilesOf k e).filter (·.src.isBeam)).map (fun t =>
       (t.cluster, (t.desc.range 4).toList, s.opExt k t.src (unitMxe k e))))
  ++ (List.range 8).flatMap (fun x => ((s.chainsOf k x).filter (fun c => c.closed && c.src.isBeam)).map (fun c =>
       (vxeCluster k x, chainRanges c.ins, s.opExt k c.src (unitVxe k x))))

/-- The classes of the scoreboard's entries that ranges of a cluster meet. -/
def State.boardCauses (s : State) (k cl : Nat) (rs : List (Nat × Nat)) : List Bool :=
  ((s.scoreboard k).filter (fun e => e.1 = cl && rangesMeet e.2.1 rs)).map (·.2.2)

/-- The signals of word number q in order (R236, R242, R250): a LEND's, then the synchronisation slots'. -/
def State.wordSignals (s : State) (k q : Nat) (w : BWord) : List BeamSignal :=
  let b := s.beam k
  w.slots.filterMap (fun x =>
    if x.kind = .cl && x.op = 1 && bit x.v 22 then
      some { op := 1, obj := x.f 48 16, value := 1, after := false, seq := q, first := b.first, owner := b.owner }
    else if x.kind = .sy then
      some { op := x.op, obj := x.f 8 16, value := x.f 32 32, after := bit x.v 7, seq := q, first := b.first, owner := b.owner }
    else none)

/-- Signals put into the outbound queue, or into the held-signal queue once one is held (R242, R244). -/
def queueSignals (b : Beam) (l : List BeamSignal) : Beam :=
  l.foldl (fun b x => if x.after || !b.held.isEmpty then { b with held := b.held ++ [x] } else { b with out := b.out ++ [x] }) b

/-- The vector instruction of a slot as its engine would read it. -/
def State.slotInstr (s : State) (k : Nat) (x : BSlot) : State × Option VInstr := s.vxeFetch k x.idx (x.f 0 64) (x.f 64 64)

/-- Instructions of the open chain of an engine. -/
def State.openIns (s : State) (k x : Nat) : List VInstr := match openChain (s.chainsOf k x) with | some c => c.ins | none => []

/-- The lends that end before a word's slots are checked (R251): those whose SPAN-th word this is. -/
def State.spanEnds (s : State) (k : Nat) : State :=
  let s := ((s.beam k).lends.filter (fun d => d.left = 1)).foldl (fun s d => s.endLend k d.cl d.mx d.vx) s
  let s := s.modBeam k (fun b => { b with lends := b.lends.map (fun d => { d with left := d.left - 1 }) })
  (List.range 4).foldl (fun s j => s.showLend k j) s

/-- A LEND cannot be (R251, R261, R296): its CAUSE. -/
def State.lendError (s : State) (k : Nat) (x : BSlot) : Option Nat :=
  let j := x.idx
  let m := x.f 4 4
  let v := x.f 8 2
  let a := A.mxeLend k j
  firstFail [
    ((List.range 4).any (fun i => m.testBit i && (match s.physEngine k (4 * j + i) with | some e => s.mxeFenced k e | none => true))
       || (List.range 2).any (fun i => v.testBit i && s.vxeFenced k (2 * j + i)), 11),
    (s.fld a F.mxeLend_MXE_MASK &&& m ≠ 0 || s.fld a F.mxeLend_VXE_MASK &&& v ≠ 0
       || (List.range 2).any (fun i => v.testBit i && (openChain (s.chainsOf k (2 * j + i))).isSome), 7),
    (bit x.v 22 && !s.objBoundTo (x.f 48 16) (s.beamCtx k), 9)]

/-- A LEND takes effect (R250). -/
def State.lend (s : State) (k : Nat) (x : BSlot) : State :=
  let j := x.idx
  let d : Lend := { cl := j, mx := x.f 4 4, vx := x.f 8 2, tc := x.f 10 4, grp := x.f 14 3, thr := x.f 17 5, left := x.f 32 16 }
  let s := (if d.mx = 0 && d.vx = 0 then s else s.modBeam k (fun b => { b with lends := b.lends ++ [d] })).showLend k j
  let s := (List.range 4).foldl (fun s i =>
    if (x.f 4 4).testBit i then
      match s.physEngine k (4 * j + i) with
      | some e => (s.setFlag (A.mxeStatus k e) F.mxeStatus_LENT true).setFlds (A.mxePort k e)
          [(F.mxePort_OWNER_VALID, 1), (F.mxePort_OWNER_TC, x.f 10 4), (F.mxePort_OWNER_GROUP, x.f 14 3),
           (F.mxePort_OWNER_THREAD, x.f 17 5)]
      | none => s
    else s) s
  (List.range 2).foldl (fun s i =>
    if (x.f 8 2).testBit i then s.setFlag (A.vxeStatus k (2 * j + i)) F.vxeStatus_LENT true else s) s

/-- The CAUSE of the beam error that a slot makes, in the state its step sees (R261, R697). -/
def State.slotError (s : State) (k : Nat) (x : BSlot) : Option Nat :=
  let ctx := s.beamCtx k
  let cluster : Option Nat := match x.kind with
    | .mxe => some (x.idx / 4)
    | .vxe => some (x.idx / 2)
    | .tm => some (x.idx / 4)
    | .cl => if x.op = 1 then some x.idx else none
    | _ => none
  if (match cluster with | some j => s.foreignCluster (4 * k + j) ctx | none => false) then some 11
  else match x.kind with
  | .cl => match x.op with
    | 1 => s.lendError k x
    | 3 => if x.f 4 14 / 4096 = k then none else some 10
    | _ => none
  | .mxe => match s.physEngine k x.idx with
    | none => some 11
    | some e =>
      if s.mxeFenced k e then some 11
      else if s.engineLent k e then some 7
      else if x.op = 3 then none
      else match s.slotTile k x with
        | some d => if s.descOk k ctx d then none else some 6
        | none => some 6
  | .vxe =>
    if s.vxeFenced k x.idx then some 11
    else if s.flag (A.vxeStatus k x.idx) F.vxeStatus_LENT then some 7
    else match (s.slotInstr k x).2 with
      | some v => if chainAccepts (s.openIns k x.idx) v true then none else some 6
      | none => some 6
  | .tm => if s.fld (A.tmStatus k x.idx) F.tmStatus_STATE = 4 then some 11 else none
  | .sy => if s.objBoundTo (x.f 8 16) ctx then none else some 9
  | .wait | .seq => none

/-- A cause of class EXT where a condition holds. -/
def extCause (b : Bool) : List Bool := if b then [true] else []

/-- The tiles of an engine as causes, each by its class. -/
def State.tileCauses (s : State) (k e : Nat) (p : Tile → Bool) : List Bool :=
  ((s.tilesOf k e).filter p).map (fun t => s.opExt k t.src (unitMxe k e))

/-- The chains of a vector engine as causes, each by its class. -/
def State.chainCauses (s : State) (k x : Nat) (p : Chain → Bool) : List Bool :=
  ((s.chainsOf k x).filter p).map (fun c => s.opExt k c.src (unitVxe k x))

/-- Why a slot interlocks (R240 to R242): its causes, each true where its class is EXT (R246). DESIGN CHOICE (log entry 190): every
tile of a full engine is a cause, and a unit under reset is one of class EXT. -/
def State.slotCauses (s : State) (k : Nat) (x : BSlot) : List Bool :=
  match x.kind with
  | .cl =>
    (if x.op = 3 then (List.range 17).flatMap (fun e => s.tileCauses k e (fun t => t.desc.names (x.f 4 14))) else [])
    ++ extCause (x.op = 1 && ((List.range 4).any (fun i => bit (x.f 4 4) i && (match s.physEngine k (4 * x.idx + i) with
          | some e => s.unitResetting (unitMxe k e) | none => false))
        || (List.range 2).any (fun i => bit (x.f 8 2) i && s.unitResetting (unitVxe k (2 * x.idx + i)))))
  | .mxe => match s.physEngine k x.idx with
    | none => []
    | some e =>
      if x.op = 3 then s.tileCauses k e (fun _ => true)
      else extCause (s.unitResetting (unitMxe k e)) ++ s.tileCauses k e (fun t => !t.src.isBeam)
        ++ (if 4 ≤ (s.tilesOf k e).length then s.tileCauses k e (fun _ => true) else [])
        ++ (match s.slotTile k x with | some d => s.boardCauses k (s.engineCluster k e) d.ranges | none => [])
  | .vxe =>
    let cs := s.chainsOf k x.idx
    extCause (s.unitResetting (unitVxe k x.idx)) ++ s.chainCauses k x.idx (fun c => !c.src.isBeam)
    ++ (if (openChain cs).isNone && 2 ≤ buffersUsed cs then s.chainCauses k x.idx (fun c => !c.streamed) else [])
    ++ (match (s.slotInstr k x).2 with
        | some v =>
          if v.closing then s.chainCauses k x.idx (fun c => c.closed && !c.streamed)
            ++ s.boardCauses k (vxeCluster k x.idx) (chainRanges (s.openIns k x.idx ++ [v]))
          else []
        | none => [])
  | .tm => extCause (8 ≤ (s.mover k x.idx).held || s.unitResetting (unitMover k x.idx))
  | .sy | .wait | .seq => []

/-- A slot interlocks (R240). -/
def State.slotWaits (s : State) (k : Nat) (x : BSlot) : Bool := !(s.slotCauses k x).isEmpty

/-- A cluster slot acts (R250, R251, R212, R235). -/
def State.clusterSlot (s : State) (k : Nat) (x : BSlot) : State :=
  match x.op with
  | 1 => s.lend k x
  | 2 => s.endLend k x.idx (x.f 4 4) (x.f 8 2)
  | 3 => s.scaleAdvance (x.f 4 14)
  | _ => (s.traced 0 (some (s.beam k).owner.ctx) k none).setFlds (A.beamMark k) [(F.beamMark_VALUE, x.f 4 16), (F.beamMark_ADDR, s.beamPc k)]

/-- An engine, vector engine or mover slot acts (R231 to R234). -/
def State.unitSlot (s : State) (k : Nat) (x : BSlot) : State :=
  let b := s.beam k
  match x.kind with
  | .mxe => match s.physEngine k x.idx, s.slotTile k x with
    | some e, some d => if x.op = 3 then s else s.acceptTile k e d (.beam b.seq) b.owner (s.beamPc k)
    | _, _ => s
  | .vxe => match s.slotInstr k x with
    | (s, some v) => s.vxeRecord k x.idx v (.beam b.seq) b.owner (s.beamPc k)
    | (s, none) => s
  | .tm => s.moveQueue k x.idx (x.f 4 19) b.owner
  | _ => s

/-- The sequencer pauses after the word it has issued; a step that this ends replies (R238, R260). -/
def State.pauseAfter (s : State) (k cause last cycle : Nat) : State :=
  let b := s.beam k
  let s := s.setFlds (A.beamStop k) [(F.beamStop_CAUSE, cause), (F.beamStop_ADDR, last)]
  let s := (s.setBeamState k 4).modBeam k (fun x =>
    { x with since := s.now, stepLeft := 0, stepChan := none, waiting := false, met := false })
  match b.stepChan with
  | some ch => s.reply ch St.ok [s.beamPc k, cycle, (s.rd (A.mxeBeamCntSlipDet k)).toNat + (s.rd (A.mxeBeamCntSlipExt k)).toNat]
  | none => s

/-- The sequencer slot acts and the beam goes on (R238, R260). last is the word's address and cycle its issue cycle from the
start cycle. -/
def State.seqSlot (s : State) (k : Nat) (w : BWord) (cycle : Nat) : State :=
  let last := w.at'
  let sl := w.slots.find? (fun x => x.kind = .seq)
  let op := match sl with | some x => x.op | none => 0
  let x := sl.getD default
  let lcf : Fld := ⟨16 * x.f 4 2, 16⟩
  let lc := s.beamLc k (x.f 4 2)
  let taken := op = 1 || (op = 2 && decide (lc + 1 < x.f 32 16))
  let s := if op = 2 then s.setFld (A.beamLc k) lcf (if lc + 1 < x.f 32 16 then lc + 1 else 0) else s
  let next := if op = 4 then 0x1FFFF else if taken then x.f 6 17 else last + w.units
  let s := s.setFld (A.beamStatus k) F.beamStatus_PC next
  let b := s.beam k
  if op = 4 then
    let s := (s.setBeamState k 5).modBeam k (fun y => { y with stepLeft := 0, stepChan := none })
    match b.stepChan with
    | some ch => s.reply ch St.ok [0x1FFFF, cycle, (s.rd (A.mxeBeamCntSlipDet k)).toNat + (s.rd (A.mxeBeamCntSlipExt k)).toNat]
    | none => s
  else
    let s := if op = 3 then s.beamTick k (A.mxeBeamCntSkip k) (x.f 32 16) else s
    if op = 5 && F.beamCfg_BREAK_EN.get b.cfg ≠ 0 then s.pauseAfter k 4 last cycle
    else if b.stepLeft = 1 then s.pauseAfter k 5 last cycle
    else (s.modBeam k (fun y => { y with stepLeft := y.stepLeft - 1 })).beamEligible k

/-- What the cluster slots of a word come to, each judged in the state that those before it leave (R239): the first beam error, the
causes of their interlocks, and the state behind them. -/
def State.clusterSlots (s : State) (k : Nat) (cls : List BSlot) : Option Nat × List Bool × State :=
  cls.foldl (fun (a : Option Nat × List Bool × State) x =>
    match a.1 with
    | some _ => a
    | none => match a.2.2.slotError k x with
      | some e => (some e, a.2)
      | none => (none, a.2.1 ++ a.2.2.slotCauses k x, a.2.2.clusterSlot k x)) (none, [], s)

/-- BEAM_WORD_ISSUE: the word at PC issues when its wait is satisfied and nothing interlocks (R239). It is tried in its eligible
cycle and whenever the causes of its interlock change: an interlock shows as SLIPPING, and the det + ext cycles up to the next
try are slip of the class that its causes have (R240, R246; log entry 190). A beam error stops the beam, found ahead of any
interlock of the word (log entry 39); of several, the cluster slots' goes first, then the engine slots' in mask order, then the
synchronisation slots' (DESIGN CHOICE, log entry 198). badStore: a word of the bank was found uncorrectable (R607). -/
def execBeamWordIssue (k det ext : Nat) (badStore : Bool) (s : State) : Res :=
  onUnit (k < 4)
    (let b := s.beam k
     let st := s.beamState k
     if !(1 ≤ st && st ≤ 3) then s
     else if badStore then
       ((s.setFlag (A.beamBank k (s.fld (A.beamStatus k) F.beamStatus_BANK)) F.beamBank_VALID false)).beamError k 13 (some 0x03)
     else
       match b.unitErr with
       | some c => s.beamError k (unitErrCause c) (some c)
       | none =>
         match s.beamWord k with
         | none => s
         | some w =>
           if b.waiting then s
           else
             let s := if st = 3 then s.beamSlip k b.slipExt (det + ext) else s
             let pick (p : SlotKind → Bool) : List BSlot := w.slots.filter (fun x => p x.kind)
             let cls := pick (· = .cl)
             let units := pick (fun q => q = .mxe || q = .vxe || q = .tm)
             let (err, clCauses, z) := (s.spanEnds k).clusterSlots k cls
             match (err.orElse (fun _ => units.findSome? (z.slotError k))).orElse (fun _ => (pick (· = .sy)).findSome? (z.slotError k)) with
             | some cause => s.beamError k cause none
             | none =>
               let sig := s.wordSignals k (b.seq + 1) w
               let q := queueSignals (s.beam k) sig
               let causes := clCauses ++ units.flatMap (z.slotCauses k) ++ extCause (32 < q.out.length || 16 < q.held.length)
               if !causes.isEmpty then (s.modBeam k (fun x => { x with slipExt := causes.any id })).setBeamState k 3
               else
                 let s := if w.slots.any (fun x => x.kind = .wait) then s.waitPoint k else s
                 let s := s.modBeam k (fun x => { x with seq := b.seq + 1 })
                 let cycle := (s.rd (A.mxeBeamCntCycles k)).toNat
                 let s := s.beamTick k (A.mxeBeamCntWords k) 1
                 let s := s.spanEnds k
                 let s := cls.foldl (fun s x => s.clusterSlot k x) s
                 let s := units.foldl (fun s x => s.unitSlot k x) s
                 let s := s.modBeam k (fun x => { (queueSignals x sig) with last := w.at', met := false })
                 s.seqSlot k w cycle)

/-! Signals (R243, R244). -/

/-- The beam has a tile or chain of its own at work. -/
def State.beamWorks (s : State) (k : Nat) : Bool := s.beamOps k (s.beam k).first (s.beam k).seq

/-- HELD_SIGNAL_MOVE: the head of the held-signal queue moves to the outbound queue (R244). Recovery of an operation it covers
holds it (R615). Those of an aborting beam leave when every operation is done and the lends have ended (R259). -/
def execHeldSignalMove (k : Nat) (s : State) : Res :=
  onUnit (k < 4)
    (let b := s.beam k
     match b.held with
     | [] => s
     | x :: rest =>
       let aborts := decide (s.beamState k = 6) && decide (b.first < x.seq)
       if (x.after && s.beamOps k x.first x.seq) || (aborts && s.beamWorks k) || 32 ≤ b.out.length then s
       else (if aborts then s.endLends k else s).modBeam k (fun y => { y with held := rest, out := y.out ++ [x] }))

/-- SIGNAL_SEND: the head of the outbound queue leaves for its object's home (R243). -/
def execSignalSend (k : Nat) (s : State) : Res :=
  onUnit (k < 4)
    (let b := s.beam k
     match b.out with
     | [] => s
     | x :: rest =>
       let o : SynOp := { who := .beam k, ctx := some x.owner.ctx, obj := x.obj, op := x.op, value := x.value, owner := some x.owner,
                          seq := x.seq }
       let s := s.setBeam k { b with out := rest }
       { s with syn := { s.syn with flying := s.syn.flying ++ [o] } })

/-! Finishing and stopping (R258 to R260). -/

/-- The beam has nothing of its own left at work and no held signal. -/
def State.beamQuiet (s : State) (k : Nat) : Bool := !s.beamWorks k && (s.beam k).held.all (fun x => x.first ≠ (s.beam k).first)

/-- BEAM_FINISH: a FINISHING beam has nothing left (R258). cycles is what MXE_BEAM_CNT_FINISH gains. A marked entry sends no
DONE_OBJ (R613). -/
def execBeamFinish (k cycles : Nat) (s : State) : Res :=
  onUnit (k < 4)
    (if s.beamState k ≠ 5 || !s.beamQuiet k then s
     else
       let b := s.beam k
       let s := s.beamTick k (A.mxeBeamCntFinish k) cycles
       match b.unitErr with
       | some c => s.beamError k (unitErrCause c) (some c)
       | none =>
         let s := (s.modBeam k (fun x => { x with cycles := x.cycles - 1 })).endStretch k
         let marked := match b.owner.entry with
           | some (q, n) => match (s.queue? q).bind (·.entry? n) with | some e => e.marked.isSome | none => true
           | none => false
         let s : State := match b.done with
           | some obj =>
             if marked then s
             else s.modBeam k (fun x => { x with out := x.out ++
               [{ op := 1, obj := obj, value := 1, after := false, seq := x.seq, first := x.first, owner := b.owner }] })
           | none => s
         let s := s.stopBeam k 1
         let s := s.setFld (A.beamStop k) F.beamStop_ADDR b.last
         s.settleEntry b.owner)

/-- The parameter word of a BEAM_STOP or BEAM_STEP and its tower. -/
def beamTower (p : Packet) : Nat := bitsOf (pword p 0) 0 2

/-- BEAM_STOP: its MODE decides (R259, R262). DESIGN CHOICE (log entry 199): a BEAM_STEP that it cuts short replies ABORTED. -/
def State.beamStopCmd (s : State) (ch : Nat) (p : Packet) : State :=
  s.orFail ch (checkWords p [0x13]) fun s =>
  s.orFail ch (if s.eclipse then some St.busy else none) fun s =>
  let k := beamTower p
  let st := s.beamState k
  if st = 0 then s.reply ch St.ok
  else if bit (pword p 0) 4 then
    let s : State := match (s.beam k).stepChan with
      | some c => (s.reply c St.aborted).modBeam k (fun x => { x with stepChan := none, stepLeft := 0 })
      | none => s
    let s := ((s.beamFlush k).endWait (.beam k)).setBeamState k 6
    s.modBeam k (fun x => { x with waiting := false, met := false, since := s.now, aborting := x.aborting ++ [ch] })
  else if 1 ≤ st && st ≤ 3 then
    let s : State := match (s.beam k).stepChan with
      | some c => (s.reply c St.aborted).modBeam k (fun x => { x with stepChan := none, stepLeft := 0 })
      | none => s
    let s := s.pauseBeam k
    s.reply ch St.ok [s.beamPc k, (s.rd (A.mxeBeamCntCycles k)).toNat]
  else s.reply ch St.ok

/-- BEAM_STOP with MODE PAUSE. -/
def execBeamStopPause (ch : Nat) (p : Packet) (s : State) : Res := cmd ch 0x602 p s fun s => s.beamStopCmd ch p
/-- BEAM_STOP with MODE ABORT. -/
def execBeamStopAbort (ch : Nat) (p : Packet) (s : State) : Res := cmd ch 0x602 p s fun s => s.beamStopCmd ch p

/-- BEAM_ABORT_COMPLETE: an aborting beam has nothing left (R259); an entry whose beam was aborted fails (R613, log entry 40).
cycles is what MXE_BEAM_CNT_FINISH gains. -/
def execBeamAbortComplete (k cycles : Nat) (s : State) : Res :=
  onUnit (k < 4)
    (if s.beamState k ≠ 6 || !s.beamQuiet k then s
     else
       let b := s.beam k
       let s := s.beamTick k (A.mxeBeamCntFinish k) cycles
       let s := s.stopBeam k 3
       let s : State := match b.owner.entry with | some (q, n) => s.markEntry q n 2 | none => s
       s.settleEntry b.owner)

/-- BEAM_STEP (R260). -/
def execBeamStep (ch : Nat) (p : Packet) (s : State) : Res :=
  cmd ch 0x603 p s fun s =>
    let k := beamTower p
    let n := bitsOf (pword p 0) 16 16
    s.orFail ch ((checkWords p [0xFFFF0003]).orElse (fun _ =>
      firstFail [(n = 0, St.invalid), (s.eclipse || s.beamState k ≠ 4, St.busy)])) fun s =>
    let s := s.leavePause k
    let s := s.modBeam k (fun x => { x with stepLeft := n, stepChan := some ch })
    s.beamEligible k

/-! What a device recovery or eclipse mode stopped goes on (R617, R652). -/

/-- A beam that was paused resumes at its PC; the resumption is a wait point (R245, R652). -/
def State.resumeBeam (s : State) (k : Nat) : State := if s.beamState k = 4 then (s.leavePause k).beamEligible k else s

/-- A halted group runs on. -/
def State.resumeGroup (s : State) (k c g : Nat) : State :=
  if s.slotState k c g = 2 then
    ((s.setFlds (A.tcGroup0 k c g) [(F.tcGroup0_STATE, 1), (F.tcGroup0_CAUSE, 0)]).runTimers k c g).showCore k c
  else s

/-- Step 3 of a device recovery (R617): exactly what step 1 stopped resumes. -/
def State.resumeDevice (s : State) : State :=
  let s : State := match s.err.quiesced with
    | none => s
    | some z =>
      let s := z.queues.foldl (fun s q => s.resumeQueue q) s
      let s := z.beams.foldl (fun s k => s.resumeBeam k) s
      z.groups.foldl (fun s g => s.resumeGroup g.1 g.2.1 g.2.2) s
  let s := { s with err := { s.err with quiesced := none } }
  (s.wr A.errDevState 0).endRecovery (fun r => r.level = 4)

end Sys2Proof.Machine
end

