-- ==== Sys2Proof/Machine/Lantern.lean ====
section
/-! DEFINITION. Lantern units (15_lantern_units.md): dispatch, scan programs, partial results, merges, program loads,
cancellation. -/

namespace Sys2Proof.Machine

/-! Operations of a scan program (R449, R450). -/

/-- An operation: its fields. -/
structure LOp where
  op    : Nat
  pred  : Bool := false
  vd    : Nat := 0
  vs    : Nat := 0
  off   : Nat := 0
  fmt   : Nat := 0
  count : Nat := 0
  mod   : Nat := 0
  pa    : Nat := 0
  pb    : Nat := 0
  deriving DecidableEq, Repr, Inhabited

/-- An operation read from its word. -/
def lopOf (w : Nat) : LOp :=
  { op := bitsOf w 0 6, pred := bit w 6, vd := bitsOf w 8 2, vs := bitsOf w 10 2, off := bitsOf w 12 9, fmt := bitsOf w 21 5,
    count := bitsOf w 26 9, mod := bitsOf w 35 3, pa := bitsOf w 38 2, pb := bitsOf w 40 2 }

/-- The word of an operation's fields that its OP uses; every other bit must be 0 (R449). -/
def lopMask (op : Nat) : Option Nat :=
  let vd := 3 * 2 ^ 8
  let vs := 3 * 2 ^ 10
  let off := 511 * 2 ^ 12
  let fmt := 31 * 2 ^ 21
  let count := 511 * 2 ^ 26
  let mod := 7 * 2 ^ 35
  let pa := 3 * 2 ^ 38
  let pb := 3 * 2 ^ 40
  match op with
  | 0x01 => some (0x7F + vd + off + fmt + count)
  | 0x02 => some (0x7F + off + mod)
  | 0x03 => some (0x7F + vs)
  | 0x04 => some (0x7F + pa + pb)
  | 0x05 => some 0x7F
  | 0x06 => some (0x7F + vs)
  | 0x07 => some (0x7F + mod + pa)
  | 0x08 => some 0x7F
  | 0x09 => some (0x7F + mod + pa)
  | 0x0A => some (0x7F + pa + pb)
  | 0x0B => some (0x7F + vs + fmt + count + pa + pb)
  | 0x3F => some 0x7F
  | _ => none

/-- Formats LDV reads (R450). -/
def ldvFmt (f : Nat) : Bool := f = 0x00 || (0x02 ≤ f && f ≤ 0x0B) || f = 0x11
/-- Formats STV writes: those of a converter (R200, R201). -/
def stvFmt (f : Nat) : Bool := (fmtOf f).isSome && !isSliced f

/-- Bytes of an element field (R276, R450): elements, then scale bytes. -/
def fieldBytes (fmt count : Nat) : Nat := count * storeBits fmt / 8 + (if isMx fmt then count / 32 else 0)

/-- The count of a field agrees with its format. -/
def countFits (fmt count : Nat) : Bool :=
  count ≤ 256 && (storeBits fmt ≠ 4 || count % 2 = 0) && (!isMx fmt || count % 32 = 0)

/-- Bytes LDX reads. -/
def ldxBytes (mod : Nat) : Nat := 2 ^ (mod % 4)

/-- A vector register is read after it was written in the program. -/
def vsWritten (before : List LOp) (v : Nat) : Bool := before.any (fun o => o.op = 1 && o.vd = v)

/-- An operation of a stored program passes what R449 and R450 ask whatever the request: fields, order, and no second DOT, TOPK,
SOFTACC, HIST or SPMV. Field limits against RB are those of the longest record. -/
def lopStatic (before : List LOp) (isLast : Bool) (w : Nat) : Bool :=
  let o := lopOf w
  (match lopMask o.op with | some m => w &&& ((2 ^ 64 - 1) ^^^ m) = 0 | none => false)
  && (o.op = 0x3F) == isLast
  && (!([3, 5, 6, 9, 10].contains o.op) || !before.any (fun b => b.op = o.op))
  && (match o.op with
      | 0x01 => (ldvFmt o.fmt || 0x1E ≤ o.fmt) && o.count ≤ 256
          && (0x1E ≤ o.fmt || o.count = 0 || (countFits o.fmt o.count && o.off + fieldBytes o.fmt o.count ≤ 512))
      | 0x02 => o.off + ldxBytes o.mod ≤ 512
      | 0x03 => vsWritten before o.vs
      | 0x06 => vsWritten before o.vs
      | 0x07 => o.mod ≤ 5
      | 0x0B => (stvFmt o.fmt || 0x1E ≤ o.fmt) && vsWritten before o.vs && o.count ≤ 256
          && (0x1E ≤ o.fmt || o.count = 0 || countFits o.fmt o.count)
      | _ => true)

/-- The first operation of a list of words that fails, by index. -/
def lopsFail (before : List LOp) : List Nat → Nat → Option Nat
  | [], _ => none
  | w :: rest, i => if lopStatic before rest.isEmpty w then lopsFail (before ++ [lopOf w]) rest (i + 1) else some i

/-! Requests (R446). -/

/-- KIND. -/
def LntReq.kind (r : LntReq) : Nat := bitsOf (r.word 0) 0 4
/-- PROG. -/
def LntReq.prog (r : LntReq) : Nat := bitsOf (r.word 0) 4 4
/-- NQ. -/
def LntReq.nq (r : LntReq) : Nat := bitsOf (r.word 0) 8 5
/-- RB in bytes. -/
def LntReq.rb (r : LntReq) : Nat := 64 * 2 ^ bitsOf (r.word 0) 13 2
/-- D. -/
def LntReq.d (r : LntReq) : Nat := bitsOf (r.word 0) 16 9
/-- DV. -/
def LntReq.dv (r : LntReq) : Nat := bitsOf (r.word 0) 25 9
/-- K. -/
def LntReq.k (r : LntReq) : Nat := bitsOf (r.word 0) 34 9
/-- A format code with KFMT and VFMT put in. -/
def LntReq.fmt (r : LntReq) (f : Nat) : Nat :=
  if f = 0x1E then bitsOf (r.word 0) 43 5 else if f = 0x1F then bitsOf (r.word 0) 48 5 else f
/-- BASE. -/
def LntReq.base (r : LntReq) : Nat := bitsOf (r.word 1) 0 57
/-- NREC. -/
def LntReq.nrec (r : LntReq) : Nat := bitsOf (r.word 2) 0 32
/-- RESULT. -/
def LntReq.result (r : LntReq) : Nat := bitsOf (r.word 3) 0 57
/-- RSTRIDE. -/
def LntReq.rstride (r : LntReq) : Nat := bitsOf (r.word 4) 0 32
/-- Offset of the input area. -/
def LntReq.qoff (r : LntReq) : Nat := bitsOf (r.word 4) 32 12 * 64
/-- Offset of the state area. -/
def LntReq.soff (r : LntReq) : Nat := bitsOf (r.word 4) 44 12 * 64
/-- Parameter i. -/
def LntReq.p (r : LntReq) (i : Nat) : Nat := bitsOf (r.word (5 + i / 2)) (32 * (i % 2)) 32
/-- QK_E. -/
def LntReq.qkE (r : LntReq) : Int := sext 16 (r.p 2)
/-- SUM_E. -/
def LntReq.sumE (r : LntReq) : Int := sext 16 (r.p 2 / 2 ^ 16)
/-- VAL_E. -/
def LntReq.valE (r : LntReq) : Int := sext 16 (r.p 3)
/-- NUM. -/
def LntReq.num (r : LntReq) : Nat := bitsOf (r.p 3) 16 16
/-- The units named, rising. -/
def LntReq.units (r : LntReq) : List Nat :=
  (List.range 72).filter (fun n => if n < 64 then bit (r.word 7) n else bit (r.word 4) (56 + (n - 64)))
/-- Elements of an operation: 0 stands for D. -/
def LntReq.count (r : LntReq) (o : LOp) : Nat := if o.count = 0 then r.d else o.count

/-- A built-in program (R455). -/
def LntReq.builtin (r : LntReq) : List LOp :=
  let key := fieldBytes (r.fmt 0x1E) r.d
  let ldK : LOp := { op := 1, fmt := 0x1E }
  let ldV : LOp := { op := 1, vd := 1, fmt := 0x1F, count := r.dv, off := key }
  let dot : LOp := { op := 3 }
  let aff : LOp := { op := 4, pa := 0, pb := 1 }
  let fin : LOp := { op := 0x3F }
  let ldx : LOp := { op := 2, off := bitsOf (r.p 2) 0 9, mod := bitsOf (r.p 2) 16 3 }
  match r.prog with
  | 0 => [ldK, dot, aff, { op := 5 }, fin]
  | 1 => [ldK, ldV, dot, aff, { op := 6, vs := 1 }, fin]
  | 2 => [ldK, ldV, dot, aff, { op := 5 }, { op := 6, vs := 1 }, fin]
  | 3 => [ldx, { op := 7, mod := bitsOf (r.p 2) 24 3 }, { op := 8, pred := true }, fin]
  | 4 => [ldx, { op := 9, mod := bitsOf (r.p 2) 24 3 }, fin]
  | 5 => [{ op := 10, pa := 0, pb := 1 }, fin]
  | _ => [ldK, { op := 11, fmt := 0x1F, pa := 0, pb := 1 }, fin]

/-- Words up to and with the END among them. -/
def upToEnd : List Nat → List LOp
  | [] => []
  | w :: rest => if bitsOf w 0 6 = 0x3F then [lopOf w] else lopOf w :: upToEnd rest

/-- Address of a user slot's words in a unit's buffer (R443). -/
def slotBase (n slot : Nat) : Nat := lntBase n + 0x3F000 + (slot - 8) * 0x200

/-- The program a request runs on a unit. -/
def State.progOf (s : State) (n : Nat) (r : LntReq) : List LOp :=
  if r.prog < 8 then r.builtin else upToEnd (s.rdWords (slotBase n r.prog) 64)

/-- Kinds of state a program keeps: query blocks, bins, rows, EMIT entries (R444, R457). -/
def progKinds (ops : List LOp) : Nat :=
  let has (l : List Nat) : Nat := b2n (ops.any (fun o => l.contains o.op))
  has [3, 5, 6] + 2 * has [9] + 4 * has [10] + 8 * has [8]

/-- Bytes of a query block (R444). -/
def qblockBytes (dv k : Nat) : Nat := 40 + 24 * dv + 8 * k

/-- Offsets in the state area of the query blocks, the bins and the rows, and its size (R444). -/
def stateLayout (kinds nq dv k num : Nat) : Nat × Nat × Nat × Nat :=
  let q := if bit kinds 0 then nq * qblockBytes dv k else 0
  let b := if bit kinds 1 then num * 8 else 0
  let w := if bit kinds 2 then num * 32 else 0
  (0, q, q + b, q + b + w)

/-- The layout of a request's state. -/
def LntReq.layout (r : LntReq) (ops : List LOp) : Nat × Nat × Nat × Nat := stateLayout (progKinds ops) r.nq r.dv r.k r.num

/-- The input and state areas of a request, as offset and length (R444). -/
def LntReq.areasOf (r : LntReq) (ops : List LOp) : List (Nat × Nat) :=
  let kinds := progKinds ops
  let inQ := if bit kinds 0 then r.nq * r.d * 2 else 0
  let inX := match ops.find? (fun o => o.op = 10) with | some o => 2 * r.p o.pb | none => 0
  [(r.qoff, max inQ inX), (r.soff, (r.layout ops).2.2.2)]

/-- An operation keeps to the limits of its request (R450, R452, R454): before is what stands before it. -/
def LntReq.opFits (r : LntReq) (before : List LOp) (o : LOp) : Bool :=
  let lastLd := before.reverse.find? (fun b => b.op = 1 && b.vd = o.vs)
  match o.op with
  | 0x01 => ldvFmt (r.fmt o.fmt) && 1 ≤ r.count o && countFits (r.fmt o.fmt) (r.count o)
      && o.off + fieldBytes (r.fmt o.fmt) (r.count o) ≤ r.rb
  | 0x02 => o.off + ldxBytes o.mod ≤ r.rb
  | 0x03 => match lastLd with | some b => r.count b = r.d | none => false
  | 0x06 => match lastLd with | some b => decide (r.dv ≤ r.count b) | none => false
  | 0x07 => o.mod ≤ 5
  | 0x09 => 1 ≤ r.num && r.num ≤ 4096
  | 0x0A => r.rb = 128 && r.p o.pb ≤ 32768 && 1 ≤ r.num && r.num ≤ 4096
  | 0x0B => stvFmt (r.fmt o.fmt) && countFits (r.fmt o.fmt) (r.count o)
      && (match lastLd with | some b => decide (r.count o ≤ r.count b) | none => false)
  | _ => true

/-- A program keeps to the limits of its request. -/
def LntReq.opsFit (r : LntReq) (before : List LOp) : List LOp → Bool
  | [] => true
  | o :: rest => r.opFits before o && r.opsFit (before ++ [o]) rest

/-- The program's areas and strides fit (R447). -/
def State.scanFits (s : State) (n : Nat) (r : LntReq) : Bool :=
  let ops := s.progOf n r
  let a := r.areasOf ops
  let usesD := ops.any (fun o => o.op = 3 || ((o.op = 1 || o.op = 11) && o.count = 0))
  r.opsFit [] ops && (!usesD || (1 ≤ r.d && r.d ≤ 256))
  && a.all (fun x => x.2 = 0 || x.1 + x.2 ≤ 0x3F000)
  && !meets (a.getD 0 (0, 0)) (a.getD 1 (0, 0))
  && 64 + (r.layout ops).2.2.2 ≤ r.rstride

/-- A unit is present (R3). -/
def State.lntPresent (s : State) (n : Nat) : Bool := n < 64 || (n < 72 && s.part.hasCapacity)
/-- A unit is fenced (R468). -/
def State.lntFenced (s : State) (n : Nat) : Bool := s.fld (lntStatusOf n) F.lntStatus_STATE = 5

/-- The dispatcher's checks of a LANTERN payload (R447). -/
def State.lntAccepted (s : State) (ctx : Nat) (r : LntReq) : Bool :=
  let us := r.units
  let reserved := [(2, 0x0000FFFF00000000), (1, 2 ^ 64 - 2 ^ 57), (3, 2 ^ 64 - 2 ^ 57)].all (fun e => r.word e.1 &&& e.2 = 0)
  reserved && (r.kind = 1 || r.kind = 2) && !us.isEmpty
  && us.all (fun n => s.lntPresent n && !s.lntFenced n)
  && r.nq ≤ 16 && r.d ≤ 256 && r.dv ≤ 256 && r.k ≤ 256 && r.rstride % 64 = 0
  && (!bit (r.word 0) 15 || s.objBoundTo (bitsOf (r.word 2) 48 16) ctx)
  && (if r.kind = 1 then
        1 ≤ r.nrec && r.base % r.rb = 0
        && us.all (fun n => (r.prog < 8 || (s.lunit n).loaded.contains r.prog) && s.scanFits n r)
      else
        let n := bitsOf (r.word 0) 56 8
        us.length = 1 && 2 ≤ n && 64 ≤ r.rstride && (!bit (r.p 0) 7 || [0x04, 0x05, 0x11].contains (bitsOf (r.p 0) 0 5)))

/-- A request at a unit. -/
def LntReq.fresh (w : List Nat) (o : Owner) (member : Nat) : LntReq :=
  { w := w, owner := o, member := member, started := false, queries := [], next := 0, scanned := 0, emitted := 0, poisoned := 0,
    dropped := 0, flags := 0, spoilt := false, areas := [] }

/-- An entry being delivered goes to each unit it still owes that has room (R448). -/
def State.deliverLnt (s : State) (d : LntDisp) : State :=
  let r0 := LntReq.fresh d.w d.owner 0
  let room := d.left.filter (fun n => decide ((s.lunit n).queue.length < 8)
    && !s.unitResetting (unitLnt n) && !s.board.towerRst.any (fun e => e.1 = lntTower n))
  let s := room.foldl (fun (s : State) n =>
    let u := s.lunit n
    s.setLunit n { u with queue := u.queue ++ [LntReq.fresh d.w d.owner (r0.units.idxOf n)] }) s
  let left := d.left.filter (fun n => !room.contains n)
  let rest := s.lnt.disp.filter (fun x : LntDisp => !(x.q = d.q && x.n = d.n))
  { s with lnt := { s.lnt with disp := if left.isEmpty then rest else rest ++ [{ d with left := left, checked := true }] } }

/-- A SCAN that covers part of a range being migrated waits at its dispatch (R489 step 1). -/
def State.scanWaits (s : State) (ctx : Nat) (r : LntReq) : Bool := s.migrating ctx r.base (r.nrec * r.rb)

/-- LNT_DISPATCH: the dispatcher checks a started LANTERN entry and delivers it (R447, R448). -/
def execLntDispatch (q n : Nat) (s : State) : Res :=
  .next (match s.lnt.disp.find? (fun d => d.q = q && d.n = n) with
    | none => s
    | some d =>
      if (LntReq.fresh d.w d.owner 0).kind = 1 && s.scanWaits d.owner.ctx (LntReq.fresh d.w d.owner 0) then s
      else if d.checked || s.lntAccepted d.owner.ctx (LntReq.fresh d.w d.owner 0) then s.deliverLnt d
      else
        let s := { s with lnt := { s.lnt with disp := s.lnt.disp.filter (fun x => !(x.q = q && x.n = n)) } }
        s.entryFault q n 7 { queue := q / 1024, cls := 0x06, domain := 1, action := 6, owner := some d.owner })

/-! Starting a request (R444, R448). -/

/-- A unit may work now (R425, R464, R617). -/
def State.lntRuns (s : State) (n : Nat) : Bool :=
  !s.eclipse && !(s.lunit n).hot && !s.deviceStopped && s.lntPresent n && !s.lntFenced n

/-- The head request of a unit replaced. -/
def State.setHead (s : State) (n : Nat) (r : LntReq) : State :=
  let u := s.lunit n
  s.setLunit n { u with queue := r :: u.queue.drop 1 }

/-- An empty query block (R452, R453, R457). -/
def emptyBlock (r : LntReq) : List Byte :=
  leBytes 4 0xFF800000 ++ leBytes 4 0 ++ leBytes 8 0 ++ (Acc.zero.toRec r.sumE).bytes
    ++ (List.range r.dv).flatMap (fun _ => (Acc.zero.toRec r.valE).bytes)
    ++ (List.range r.k).flatMap (fun _ => leBytes 4 0xFF800000 ++ leBytes 4 0xFFFFFFFF)

/-- The state area of a request before its first record. -/
def emptyState (r : LntReq) (ops : List LOp) : List Byte :=
  let kinds := progKinds ops
  (if bit kinds 0 then (List.range r.nq).flatMap (fun _ => emptyBlock r) else [])
    ++ (if bit kinds 1 then List.replicate (8 * r.num) 0 else [])
    ++ (if bit kinds 2 then (List.range r.num).flatMap (fun _ => (Acc.zero.toRec r.valE).bytes ++ leBytes 8 0) else [])

/-- Bits of a buffer have flipped: corr counts the words found with one flipped bit, and bad names words, by their offsets, with two,
which the next access of any agent meets (R345, R443; log entry 205). -/
def State.lbUpset (s : State) (n corr : Nat) (bad : List Nat) : State :=
  (s.bump (lntCnt n 5) corr).spUpset [] ((bad.filter (· < 0x40000)).map (fun o => lntBase n + o))

/-- Bytes that a unit writes into its own buffer. -/
def State.lbPut (s : State) (pa : Nat) (bs : List Byte) : State := s.spStore pa bs false (.lantern ((pa - lntBase 0) / 0x100000)) none

/-- LNT_REQUEST_START: a unit starts its oldest request: its queries are copied and its state area is made empty (R444, R448).
corr and bad are upsets of the buffer since the last event. -/
def execLntRequestStart (n corr : Nat) (bad : List Nat) (s : State) : Res :=
  onUnit (s.lntPresent n) (let s := s.lbUpset n corr bad
   match (s.lunit n).queue with
    | [] => s
    | r :: _ =>
      if r.started || !s.lntRuns n then s
      else if r.kind = 2 then s.setHead n { r with started := true }
      else
        let ops := s.progOf n r
        let areas := r.areasOf ops
        let (qo, ql) := areas.getD 0 (0, 0)
        let s := s.spFind (lntBase n + qo) ql (.lantern n) (some r.owner)
        let dirty := ql ≠ 0 && s.poisoned (lntBase n + qo) ql
        let qs := if bit (progKinds ops) 0 then
            (List.range (r.nq * r.d)).map (fun i => leNat (s.rdBytes (lntBase n + qo + 2 * i) 2)) else []
        let s := s.lbPut (lntBase n + r.soff) (emptyState r ops)
        s.setHead n { r with started := true, queries := qs, areas := areas, flags := if dirty then 8 else 0 })

/-! Running the program over a record (R449 to R454). -/

/-- What a program holds while it runs over a record: vectors, X, scores. -/
structure LRun where
  v  : List (List Num)
  x  : Nat
  sc : List Nat
  deriving DecidableEq, Repr, Inhabited

/-- A binary32 parameter or score as a number. -/
def f32Num (v : Nat) : Num := Fmt.f32.decode v

/-- X as a signed integer. -/
def xInt (x : Nat) : Int := sext 64 x

/-- LDX's value (R450). -/
def ldxValue (bs : List Byte) (o : LOp) : Nat :=
  let n := ldxBytes o.mod
  let v := leNat ((bs.drop o.off).take n)
  if o.mod < 4 then v else Machine.ofInt 64 (sext (8 * n) v)

/-- CMPX's relation (R450). -/
def cmpxHolds (r : LntReq) (o : LOp) (x : Nat) : Bool :=
  let a := xInt x
  let b := sext 32 (r.p o.pa)
  match o.mod with
  | 0 => decide (a < b) | 1 => decide (a ≤ b) | 2 => decide (a = b)
  | 3 => decide (a ≠ b) | 4 => decide (b ≤ a) | _ => decide (b < a)

/-- The operations that act on a record, each with the X it reads: a predicated one acts while P is 1 (R450). -/
def activeOps (r : LntReq) (bs : List Byte) : List LOp → Bool → Nat → List (LOp × Nat)
  | [], _, _ => []
  | o :: rest, p, x =>
    if o.pred && !p then activeOps r bs rest p x
    else
      let x' := if o.op = 2 then ldxValue bs o else x
      let p' := if o.op = 7 then cmpxHolds r o x else p
      (o, x) :: activeOps r bs rest p' x'

/-- LDV's elements (R450). -/
def ldvValue (r : LntReq) (bs : List Byte) (o : LOp) : List Num :=
  let fmt := r.fmt o.fmt
  let c := r.count o
  let field := bs.drop o.off
  (List.range c).map (fun i =>
    let x := numAt fmt field i
    if isMx fmt then x.scaled (mxScale (field.getD (c * storeBits fmt / 8 + i / 32) 0).toNat) else x)

/-- Address of query q's block in a unit's buffer. -/
def qblockAt (n : Nat) (r : LntReq) (q : Nat) : Nat := lntBase n + r.soff + q * qblockBytes r.dv r.k

/-- Bits set in a query's block flags. -/
def State.blockFlags (s : State) (at_ bits : Nat) : State := s.lbPut (at_ + 4) (leBytes 4 (s.rd32 (at_ + 4) ||| bits))

/-- The aperture record at an address. -/
def State.apRec (s : State) (pa : Nat) : ApRec := ApRec.ofBytes (s.rdBytes pa 24)

/-- A product entering the record at an address. -/
def State.apEnter (s : State) (pa : Nat) (anchor : Int) (x y : Num) (past : Bool) : State :=
  let a := (s.apRec pa).toAcc.product anchor 0 x y
  s.lbPut pa (({ a with ovf := a.ovf || past } : Acc).toRec anchor).bytes

/-- DOT of a query against a vector (R451): the score and the block flags it sets. -/
def dotScore (r : LntReq) (q : Nat) (queries : List Nat) (v : List Num) : Nat × Nat :=
  let a := (List.range r.d).foldl (fun (a : Acc) i =>
    a.product r.qkE 0 (Fmt.bf16.decode (queries.getD (q * r.d + i) 0)) (v.getD i (.fin ⟨false, 0, 0⟩))) Acc.zero
  let out := (a.output r.qkE 0 Fmt.f32 .even false).1
  (out, b2n a.ovf + 2 * b2n (f32Num out).isNan)

/-- Entry a ranks above entry b (R453). -/
def ranksAbove (a b : Nat × Nat) : Bool :=
  let x := f32Num a.1
  let y := f32Num b.1
  y.lt x || (!x.lt y && decide (a.2 < b.2))

/-- An entry inserted into a ranked list. -/
def rankInsert (e : Nat × Nat) : List (Nat × Nat) → List (Nat × Nat)
  | [] => [e]
  | x :: l => if ranksAbove e x then e :: x :: l else x :: rankInsert e l

/-- The top-k list at an address. -/
def State.topk (s : State) (pa k : Nat) : List (Nat × Nat) :=
  (List.range k).map (fun j => (s.rd32 (pa + 8 * j), s.rd32 (pa + 8 * j + 4)))

/-- The bytes of a top-k list. -/
def topkBytes (l : List (Nat × Nat)) : List Byte := l.flatMap (fun e => leBytes 4 e.1 ++ leBytes 4 e.2)

/-- TOPK for a query (R453). -/
def State.topkStep (s : State) (n : Nat) (r : LntReq) (q score key : Nat) : State :=
  if (f32Num score).isNan then s
  else
    let pa := qblockAt n r q + 40 + 24 * r.dv
    s.lbPut pa (topkBytes ((rankInsert (score, key) (s.topk pa r.k)).take r.k))

/-- SOFTACC for a query (R452). -/
def State.softacc (s : State) (n : Nat) (r : LntReq) (q score : Nat) (v : List Num) : State :=
  let b := qblockAt n r q
  let w := f32Num (Num.toFmt Fmt.f32 (f32Num score).exp2)
  let s := s.lbPut b (leBytes 4 (Num.toFmt Fmt.f32 ((f32Num (s.rd32 b)).maximum (f32Num score))))
  let c := (s.rd64 (b + 8) + 1) % 2 ^ 64
  let s := s.lbPut (b + 8) (leBytes 8 c)
  let past := decide (2 ^ 25 < c)
  let s := if past then s.blockFlags b 4 else s
  let s := s.apEnter (b + 16) r.sumE w (.fin ⟨false, 1, 0⟩) past
  (List.range r.dv).foldl (fun s d => s.apEnter (b + 40 + 24 * d) r.valE w (v.getD d (.fin ⟨false, 0, 0⟩)) past) s

/-- HIST's bin, when X lies in one (R450). -/
def histBin (r : LntReq) (o : LOp) (x : Nat) : Option Nat :=
  let b : Int := (xInt x - sext 32 (r.p o.pa)) / (2 : Int) ^ o.mod
  if 0 ≤ b && b < r.num then some b.toNat else none

/-- SPMV over a sparse line (R454): how many entries were dropped. -/
def State.spmv (s : State) (n : Nat) (r : LntReq) (o : LOp) (rows : Nat) (bs : List Byte) : State × Nat :=
  let row := leNat (bs.take 4)
  let cnt := (bs.getD 4 0).toNat
  if 30 < cnt then (s, 1)
  else
    (List.range cnt).foldl (fun (a : State × Nat) j =>
      let s := a.1
      let col := leNat ((bs.drop (8 + 4 * j)).take 2)
      let val := Fmt.bf16.decode (leNat ((bs.drop (10 + 4 * j)).take 2))
      let k := (row + 2 ^ 32 - r.p o.pa) % 2 ^ 32
      if col < r.p o.pb && k < r.num then
        let pa := lntBase n + r.soff + rows + 32 * k
        let c := (s.rd64 (pa + 24) + 1) % 2 ^ 64
        let x := Fmt.bf16.decode (leNat (s.rdBytes (lntBase n + r.qoff + 2 * col) 2))
        let s := s.apEnter pa r.valE x val (decide (2 ^ 25 < c))
        (s.lbPut (pa + 24) (leBytes 8 c), a.2)
      else (s, a.2 + 1)) (s, 0)

/-- Bytes STV writes for its vector (R450, R288). -/
def stvBytes (fmt : Nat) (xs : List Num) : List Byte :=
  if isMx fmt then
    let blocks := (groupsOf 32 xs (xs.length + 1)).map (mxBlock fmt .even)
    packRow fmt (blocks.flatMap (fun b => b.2.1)) ++ blocks.map (fun b => BitVec.ofNat 8 b.1)
  else
    match fmtOf fmt with
    | some f => packRow fmt (xs.map (fun x => (convert x f .even true).1))
    | none => []

/-- Where an operation writes into the context, and how much, for key index i: EMIT's entry or STV's field (R450, R457). None
when it writes nothing there. -/
def LntReq.target (r : LntReq) (ops : List LOp) (emitted i : Nat) (o : LOp) : Option (Nat × Nat) :=
  let n := fieldBytes (r.fmt o.fmt) (r.count o)
  if o.op = 8 then
    let off := 64 + (r.layout ops).2.2.2 + emitted * (8 + r.rb)
    if off + 8 + r.rb ≤ r.rstride then some ((r.result + r.member * r.rstride + off) % 2 ^ 57, 8 + r.rb) else none
  else if o.op = 11 then
    some (((r.p o.pb * 2 ^ 32 + r.p o.pa) + i * ((n + 7) / 8 * 8)) % 2 ^ 57, n)
  else none

/-- How a record's program ends: the state and the request, or a fault with its class, address and translation entry. -/
inductive LEnd where
  | done (s : State) (r : LntReq)
  | fault (s : State) (r : LntReq) (cls addr entry : Nat)
  deriving DecidableEq, Repr

/-- Bytes written into the context by a unit (R457). -/
def State.lntWrite (s : State) (n : Nat) (r : LntReq) (va : Nat) (bs : List (Byte × Bool)) : State × VaOut :=
  let (s, o) := s.writeVa (.base (lntTower n)) r.owner.ctx va bs (.lantern n) r.owner
  match o with
  | .ok _ => (s.bump (lntCnt n 6) bs.length, o)
  | .xlt kind level ent x => (s.showXltFault (lntTower n) r.owner.ctx x .write 2 kind level ent, o)
  | _ => (s, o)

/-- The acting operations of a program over a record whose bytes are bs; bad: it holds a poisoned sector, and only what it
writes out leaves it, marked (R463). -/
def State.runOps (s : State) (n : Nat) (r : LntReq) (ops : List LOp) (bs : List Byte) (bad : Bool) (run : LRun) :
    List (LOp × Nat) → LEnd
  | [] => .done s r
  | (o, x) :: rest =>
    let lay := r.layout ops
    match o.op with
    | 0x01 => s.runOps n r ops bs bad { run with v := run.v.set o.vd (ldvValue r bs o) } rest
    | 0x03 =>
      let out := (List.range r.nq).map (fun q => dotScore r q r.queries (run.v.getD o.vs []))
      let s := if bad then s else (List.range r.nq).foldl (fun s q =>
        let f := (out.getD q (0, 0)).2
        if f = 0 then s else s.blockFlags (qblockAt n r q) f) s
      s.runOps n r ops bs bad { run with sc := out.map (·.1) } rest
    | 0x04 =>
      let sc := run.sc.map (fun v => Num.toFmt Fmt.f32 (((f32Num v).mul (f32Num (r.p o.pa))).add (f32Num (r.p o.pb)).negate))
      s.runOps n r ops bs bad { run with sc := sc } rest
    | 0x05 =>
      let s := if bad then s else (List.range r.nq).foldl (fun s q => s.topkStep n r q (run.sc.getD q 0) r.next) s
      s.runOps n r ops bs bad run rest
    | 0x06 =>
      let s := if bad then s else
        (List.range r.nq).foldl (fun s q => s.softacc n r q (run.sc.getD q 0) (run.v.getD o.vs [])) s
      s.runOps n r ops bs bad run rest
    | 0x09 =>
      if bad then s.runOps n r ops bs bad run rest
      else
        match histBin r o x with
        | some b =>
          let pa := lntBase n + r.soff + lay.2.1 + 8 * b
          (s.lbPut pa (leBytes 8 (s.rd64 pa + 1))).runOps n r ops bs bad run rest
        | none => s.runOps n { r with dropped := r.dropped + 1 } ops bs bad run rest
    | 0x0A =>
      if bad then s.runOps n r ops bs bad run rest
      else
        let (s, k) := s.spmv n r o lay.2.2.1 bs
        s.runOps n { r with dropped := r.dropped + k } ops bs bad run rest
    | 0x08 =>
      match r.target ops r.emitted r.next o with
      | none => s.runOps n { r with dropped := r.dropped + 1, flags := r.flags ||| 2 } ops bs bad run rest
      | some (va, _) =>
        match s.lntWrite n r va ((leBytes 8 r.next ++ bs).map (fun b => (b, bad))) with
        | (s, .xlt _ _ ent y) => .fault s r 0x10 y ent
        | (s, .acc pa) => .fault s r 0x11 pa 0
        | (s, _) => s.runOps n { r with emitted := r.emitted + 1 } ops bs bad run rest
    | 0x0B =>
      match r.target ops r.emitted r.next o with
      | none => s.runOps n r ops bs bad run rest
      | some (va, _) =>
        let xs := (run.v.getD o.vs []).take (r.count o)
        match s.lntWrite n r va ((stvBytes (r.fmt o.fmt) xs).map (fun b => (b, bad))) with
        | (s, .xlt _ _ ent y) => .fault s r 0x10 y ent
        | (s, .acc pa) => .fault s r 0x11 pa 0
        | (s, _) => s.runOps n r ops bs bad run rest
    | _ => s.runOps n r ops bs bad run rest

/-- Host copies of what a record's program will write are recalled first: false while one is awaited. -/
def State.clearTargets (s : State) (n : Nat) (r : LntReq) (ops : List LOp) (acts : List (LOp × Nat)) : State × Bool :=
  acts.foldl (fun (a : State × Bool) e =>
    match r.target ops r.emitted r.next e.1 with
    | none => a
    | some (va, len) =>
      match a.1.resolve (.base (lntTower n)) r.owner.ctx .write (pagePieces va len) with
      | (_, ps, .ok _) => let (s, ok) := a.1.clearPieces true ps r.owner.ctx (.lantern n); (s, a.2 && ok)
      | (_, _, .wait) => (a.1.keepWalk (.base (lntTower n)) r.owner.ctx .write (pagePieces va len), false)
      | _ => a) (s, true)

/-- Free values for what a program may read before it writes it: X, and vector registers whose loads are predicated. -/
def State.freeRun (s : State) (r : LntReq) (ops : List LOp) : State × LRun :=
  let xLate := match ops.find? (fun o => o.op = 2 && !o.pred) with
    | some _ => false
    | none => ops.any (fun o => o.op = 7 || o.op = 9)
  let (x, s) : Word × State := if xLate then s.free else (0, s)
  let (s, v) := (List.range 4).foldl (fun (a : State × List (List Num)) i =>
    if ops.any (fun o => o.op = 1 && o.vd = i && o.pred) then
      let (s, bs) := a.1.freeBytes 2048
      (s, a.2 ++ [(List.range 256).map (fun j => Fmt.f64.decode (leNat ((bs.drop (8 * j)).take 8)))])
    else (a.1, a.2 ++ [[]])) (s, [])
  (s, { v := v, x := x.toNat, sc := List.replicate r.nq 0 })

/-! Partial results (R457). -/

/-- A marked stretch of bytes. -/
abbrev Marked := List (Byte × Bool)

/-- A partial's header. -/
def partialHeader (prog nq kinds flags d dv k num unit ofmt scanned emitted poisoned dropped sources : Nat) : List Byte :=
  leBytes 4 0x544E4C49 ++ leBytes 1 prog ++ leBytes 1 nq ++ leBytes 1 kinds ++ leBytes 1 flags
    ++ leBytes 2 d ++ leBytes 2 dv ++ leBytes 2 k ++ leBytes 2 num ++ leBytes 1 unit ++ leBytes 1 ofmt ++ leBytes 6 0
    ++ leBytes 8 scanned ++ leBytes 8 emitted ++ leBytes 8 poisoned ++ leBytes 8 dropped ++ leBytes 8 sources

/-- A member's partial written (R457, R463): the header, the image of its state area, and its EMIT entries marked when POISON is
set. The image of a request that another agent has spoilt is free (R444). -/
def State.writePartial (s : State) (n : Nat) (r : LntReq) (stopped : Bool) : State × VaOut :=
  let ops := s.progOf n r
  let size := (r.layout ops).2.2.2
  let here := lntBase n + r.soff
  let s := s.spFind here size (.lantern n) (some r.owner)
  let dirty := bit r.flags 3 || r.poisoned ≠ 0 || (size ≠ 0 && s.poisoned here size)
  let flags := (r.flags &&& 2) + (if stopped then 4 else 0) + (if dirty then 8 else 0)
  let (s, image) := if r.spoilt then s.freeBytes size else (s, s.rdBytes here size)
  let at_ := (r.result + r.member * r.rstride) % 2 ^ 57
  let head := partialHeader r.prog r.nq (progKinds ops) flags r.d r.dv r.k r.num n 0 r.scanned r.emitted r.poisoned r.dropped 1
  let put (s : State) (entries : Marked) : State × VaOut :=
    s.lntWrite n r at_ (head.map (fun b => (b, false)) ++ image.map (fun b => (b, dirty)) ++ entries)
  if dirty && r.emitted ≠ 0 then
    match s.readVa (.base (lntTower n)) r.owner.ctx ((at_ + 64 + size) % 2 ^ 57) (r.emitted * (8 + r.rb)) .write (.lantern n)
        (some r.owner) with
    | (s, .ok bs) => put s (bs.map (fun b => (b.1, true)))
    | (s, .wait) => (s, .wait)
    | (s, _) => put s []
  else put s []

/-- A request leaves its unit. -/
def State.dropHead (s : State) (n : Nat) : State :=
  let u := s.lunit n
  (s.setLunit n { u with queue := u.queue.drop 1 }).bump (lntCnt n 2) 1

/-- A unit stops a request for an error (R462): the partial is written with STOPPED set when it can be, no signal leaves, and
the record names the request and the key index. A scan writes its member's partial; a merge writes out, what it has merged by then
(log entry 214). While the write must wait, the request stays, and the unit's next event tries again. -/
def State.lntStop (s : State) (n : Nat) (r : LntReq) (cls addr entry : Nat) (out : Marked := []) : State :=
  let r := { r with stop := some (cls, addr, entry) }
  let w := if r.kind = 1 then s.writePartial n r true else if out.isEmpty then (s, .ok []) else s.lntWrite n r r.result out
  match w with
  | (s, .wait) => if r.kind = 1 then s.setHead n r else s
  | (s, _) =>
    let s := s.dropHead n
    let s := s.opFail { queue := lntTower n, cls := cls, domain := 0, action := 5, owner := some r.owner, unit := unitLnt n,
                        opref := r.next, addr := addr, aux := entry }
    s.settleEntry r.owner

/-- The next record behind a unit's channels, from a request's next key index on, with what its page resolves to. -/
inductive LFind where
  | found (s : State) (key pa : Nat)
  | passed (s : State) (key : Nat)
  | fault (s : State) (key cls addr entry : Nat)
  deriving DecidableEq, Repr

/-- Records behind other units are skipped (R441), with fuel. -/
def State.nextRecord (s : State) (n : Nat) (r : LntReq) (key : Nat) : Nat → LFind
  | 0 => .passed s key
  | f + 1 =>
    if r.nrec ≤ key then .passed s key
    else
      let va := (r.base + key * r.rb) % 2 ^ 57
      match s.translate (.base (lntTower n)) r.owner.ctx va .lantern with
      | (s, .fault kind level ent) => .fault (s.showXltFault (lntTower n) r.owner.ctx va .lantern 2 kind level ent) key 0x10 va ent
      | (s, .wait) => .passed s key
      | (s, .ok e) =>
        let pa := e.target va
        let w := (windowOf pa).1
        if !w.isTier || !s.rangeIn pa r.rb || (128 < r.rb && !w.isCap) then .fault s key 0x11 pa 0
        else
          match s.place pa with
          | some p => if p.unit = n then .found s key pa else s.nextRecord n r (key + 1) f
          | none => .fault s key 0x11 pa 0

/-- LNT_RECORD_SCAN: a unit passes the records of other units and runs its program once over the next of its own (R441 to
R454, R462, R463). One event passes at most 4,096 records. -/
def execLntRecordScan (n : Nat) (s : State) : Res :=
  onUnit (s.lntPresent n) (match (s.lunit n).queue with
    | [] => s
    | r :: _ =>
      if !r.started || r.kind ≠ 1 || !s.lntRuns n then s
      else
        match r.stop with
        | some (cls, addr, ent) => s.lntStop n r cls addr ent
        | none =>
        match s.nextRecord n r r.next 4096 with
        | .passed s key => s.setHead n { r with next := key }
        | .fault s key cls addr ent => (s.setHead n { r with next := key }).lntStop n { r with next := key } cls addr ent
        | .found s key pa =>
          let r := { r with next := key }
          let ops := s.progOf n r
          let bs := s.behindBytes pa r.rb
          let s := (r.areas.drop (if bit (progKinds ops) 0 then 1 else 0)).foldl (fun s a =>
            s.spFind (lntBase n + a.1) a.2 (.lantern n) (some r.owner)) s
          let (s, run) := s.freeRun r ops
          let acts := activeOps r bs ops true run.x
          match s.clearTargets n r ops acts with
          | (s, false) => s.setHead n r
          | (s, true) =>
            let bad := (sectorsOf pa r.rb).any s.behindPoison
            match s.runOps n r ops bs bad run acts with
            | .fault s r cls addr ent => (s.setHead n r).lntStop n r cls addr ent
            | .done s r =>
              let s := (s.bump (lntCnt n 0) r.rb).bump (lntCnt n 1) 1
              let s := if bad then s.bump (lntCnt n 4) 1 else s
              s.setHead n { r with next := key + 1, scanned := r.scanned + 1, poisoned := r.poisoned + b2n bad })

/-- A member's signal (R448). -/
def State.lntSignal (s : State) (n : Nat) (r : LntReq) : State :=
  if bit (r.word 0) 15 then s.signal (.lantern n) (some r.owner.ctx) (some r.owner) (bitsOf (r.word 2) 48 16) 1 1 else s

/-- LNT_REQUEST_COMPLETE: a scan that has passed every record writes its partial and signals (R448, R457). -/
def execLntRequestComplete (n : Nat) (s : State) : Res :=
  onUnit (s.lntPresent n) (match (s.lunit n).queue with
    | [] => s
    | r :: _ =>
      if !r.started || r.kind ≠ 1 || !s.lntRuns n || r.next < r.nrec || r.stop.isSome then s
      else
        match s.writePartial n r false with
        | (s, .ok _) => ((s.dropHead n).lntSignal n r).settleEntry r.owner
        | (s, .wait) => s
        | (s, .xlt _ _ ent va) => s.lntStop n r 0x10 va ent
        | (s, .acc pa) => s.lntStop n r 0x11 pa 0)

/-! MERGE (R458, R459). -/

/-- Any byte of it is marked. -/
def Marked.bad (m : Marked) : Bool := m.any (·.2)
/-- Its bytes. -/
def Marked.raw (m : Marked) : List Byte := m.map (·.1)
/-- A field of a partial as a number. -/
def fieldAt (m : Marked) (o n : Nat) : Nat := leNat (Marked.raw ((m.drop o).take n))
/-- Bytes of one mark. -/
def marked (bad : Bool) (bs : List Byte) : Marked := bs.map (fun b => (b, bad))

/-- Two records combined; none when their anchors differ (R204). -/
def mergeRec (past : Bool) (a b : ApRec) : Option ApRec :=
  if a.anchor = b.anchor then
    let c := a.add b
    some { c with flags := if past then c.flags ||| 8 else c.flags }
  else none

/-- Lists of records combined one by one. -/
def mergeRecs (past : Bool) (n : Nat) (a b : List Byte) : Option (List Byte) :=
  (List.range n).foldl (fun (acc : Option (List Byte)) i =>
    match acc, mergeRec past (ApRec.ofBytes ((a.drop (24 * i)).take 24)) (ApRec.ofBytes ((b.drop (24 * i)).take 24)) with
    | some l, some r => some (l ++ r.bytes)
    | _, _ => none) (some [])

/-- The top-k list that bytes hold. -/
def topkOf (k : Nat) (bs : List Byte) : List (Nat × Nat) :=
  (List.range k).map (fun j => (leNat ((bs.drop (8 * j)).take 4), leNat ((bs.drop (8 * j + 4)).take 4)))

/-- Two query blocks merged (R458); none when anchors differ. -/
def mergeBlock (dv k : Nat) (a b : List Byte) : Option (List Byte) :=
  let u (x : List Byte) (o n : Nat) : Nat := leNat ((x.drop o).take n)
  let m := Num.toFmt Fmt.f32 ((f32Num (u a 0 4)).maximum (f32Num (u b 0 4)))
  let c := u a 8 8 + u b 8 8
  let past := decide (2 ^ 25 < c)
  let fl := (u a 4 4 ||| u b 4 4) ||| (if past then 4 else 0)
  match mergeRecs past (1 + dv) (a.drop 16) (b.drop 16) with
  | some recs =>
    let t := (topkOf k (b.drop (40 + 24 * dv))).foldl (fun l e => rankInsert e l) (topkOf k (a.drop (40 + 24 * dv)))
    some (leBytes 4 m ++ leBytes 4 fl ++ leBytes 8 c ++ recs ++ topkBytes (t.take k))
  | none => none

/-- Two rows merged. -/
def mergeRow (a b : List Byte) : Option (List Byte) :=
  let c := leNat ((a.drop 24).take 8) + leNat ((b.drop 24).take 8)
  (mergeRec (decide (2 ^ 25 < c)) (ApRec.ofBytes a) (ApRec.ofBytes b)).map (fun r => r.bytes ++ leBytes 8 c)

/-- Two bins merged. -/
def mergeBin (a b : List Byte) : Option (List Byte) := some (leBytes 8 (leNat a + leNat b))

/-- Pieces of n bytes each of two images merged one by one, each marked when either is. -/
def mergePieces (n count : Nat) (f : List Byte → List Byte → Option (List Byte)) (a b : Marked) : Option Marked :=
  (List.range count).foldl (fun (acc : Option Marked) i =>
    let x : Marked := (a.drop (n * i)).take n
    let y : Marked := (b.drop (n * i)).take n
    match acc, f x.raw y.raw with
    | some l, some z => some (l ++ marked (x.bad || y.bad) z)
    | _, _ => none) (some [])

/-- The shape of a partial: KINDS, NQ, D, DV, K, NUM. -/
structure Shape where
  kinds : Nat
  nq    : Nat
  d     : Nat
  dv    : Nat
  k     : Nat
  num   : Nat
  deriving DecidableEq, Repr, Inhabited

/-- The shape a header tells. -/
def shapeOf (h : Marked) : Shape :=
  { kinds := fieldAt h 6 1, nq := fieldAt h 5 1, d := fieldAt h 8 2, dv := fieldAt h 10 2, k := fieldAt h 12 2, num := fieldAt h 14 2 }

/-- A header that may be merged with the first (R459). -/
def headerFits (first h : Marked) : Bool :=
  fieldAt h 0 4 = 0x544E4C49 && shapeOf h = shapeOf first && fieldAt h 7 1 &&& 5 = 0

/-- Bytes of the image a shape has. -/
def Shape.size (sh : Shape) : Nat := (stateLayout sh.kinds sh.nq sh.dv sh.k sh.num).2.2.2

/-- Two images of a shape merged (R458). -/
def mergeImages (sh : Shape) (a b : Marked) : Option Marked :=
  let lay := stateLayout sh.kinds sh.nq sh.dv sh.k sh.num
  let qb := if bit sh.kinds 0 then mergePieces (qblockBytes sh.dv sh.k) sh.nq (mergeBlock sh.dv sh.k) a b else some []
  let bins := if bit sh.kinds 1 then mergePieces 8 sh.num mergeBin (a.drop lay.2.1) (b.drop lay.2.1) else some []
  let rows := if bit sh.kinds 2 then mergePieces 32 sh.num mergeRow (a.drop lay.2.2.1) (b.drop lay.2.2.1) else some []
  match qb, bins, rows with
  | some x, some y, some z => some (x ++ y ++ z)
  | _, _, _ => none

/-- Bytes padded to a multiple of 8. -/
def pad8 (m : Marked) : Marked := m ++ marked m.bad (List.replicate ((8 - m.length % 8) % 8) 0)

/-- A finished element (R459). -/
def finishElem (f : Fmt) (rnd : Rnd) (sRec aRec : ApRec) : Nat :=
  if sRec.flags ≠ 0 || aRec.flags ≠ 0 then f.defaultNan
  else
    let sv := sRec.toAcc.value sRec.anchor 0
    if sv.m = 0 then f.defaultNan
    else (convert ((Num.fin (aRec.toAcc.value aRec.anchor 0)).div (.fin sv)) f rnd true).1

/-- A finished image (R459). -/
def finishImage (sh : Shape) (ofmt rndc : Nat) (m : Marked) : Marked :=
  match fmtOf ofmt with
  | none => m
  | some f =>
    let rnd := Rnd.ofCode rndc
    let w := f.bits / 8
    let lay := stateLayout sh.kinds sh.nq sh.dv sh.k sh.num
    let n := qblockBytes sh.dv sh.k
    let blocks := if bit sh.kinds 0 then
        (List.range sh.nq).flatMap (fun q =>
          let x : Marked := (m.drop (n * q)).take n
          let b := x.raw
          let sr := ApRec.ofBytes (b.drop 16)
          let el := (List.range sh.dv).flatMap (fun d => leBytes w (finishElem f rnd sr (ApRec.ofBytes (b.drop (40 + 24 * d)))))
          marked x.bad (b.take 16) ++ pad8 (marked x.bad el) ++ marked x.bad ((b.drop (40 + 24 * sh.dv)).take (8 * sh.k)))
      else []
    let bins := if bit sh.kinds 1 then (m.drop lay.2.1).take (8 * sh.num) else []
    let rows := if bit sh.kinds 2 then
        pad8 ((List.range sh.num).flatMap (fun i =>
          let x : Marked := (m.drop (lay.2.2.1 + 32 * i)).take 32
          marked x.bad (leBytes w ((ApRec.ofBytes x.raw).convert 0 f rnd).1)))
      else []
    blocks ++ bins ++ rows

/-- The merged header (R457, R458). -/
def mergedHeader (hs : List Marked) (final : Bool) (ofmt : Nat) : Marked :=
  let h := hs.headD []
  let sh := shapeOf h
  let sum (o : Nat) : Nat := (hs.map (fun x => fieldAt x o 8)).foldl (· + ·) 0
  let flags := (hs.foldl (fun f x => f ||| fieldAt x 7 1) 0) ||| b2n final
  marked (hs.any Marked.bad) (partialHeader (fieldAt h 4 1) sh.nq sh.kinds flags sh.d sh.dv sh.k sh.num 0xFF
    (if final then ofmt else 0) (sum 24) (sum 32) (sum 40) (sum 48) (sum 56))

/-- What has been merged of some inputs when a MERGE stops at the next one (R462): a partial of those that agree, with STOPPED set;
nothing when there is none (log entry 214). -/
def mergedSoFar (l : List (Marked × Marked)) : Marked :=
  match l with
  | [] => []
  | e :: rest =>
    let (hs, m) := rest.foldl (fun (a : List Marked × Marked) x =>
      if headerFits e.1 x.1 then
        match mergeImages (shapeOf e.1) a.2 x.2 with | some m => (a.1 ++ [x.1], m) | none => a
      else a) ([e.1], e.2)
    let h := mergedHeader hs false 0
    if headerFits e.1 e.1 then h.take 7 ++ ((h.drop 7).take 1).map (fun b => (b.1 ||| 4, b.2)) ++ h.drop 8 ++ m else []

/-- How the reading of a merge's inputs ends: each as header and image; a wait; or a stop with its class and address, and the inputs
read before it. -/
inductive MRead where
  | got (s : State) (l : List (Marked × Marked))
  | wait (s : State)
  | stop (s : State) (cls addr entry : Nat) (l : List (Marked × Marked))
  deriving DecidableEq, Repr

/-- A merge's inputs read in order (R459). -/
def State.readPartials (s : State) (n : Nat) (r : LntReq) : List Nat → MRead
  | [] => .got s []
  | i :: rest =>
    let va := (r.base + i * r.rstride) % 2 ^ 57
    let rd (s : State) (va len : Nat) : State × VaOut :=
      s.readVa (.base (lntTower n)) r.owner.ctx va len .lantern (.lantern n) (some r.owner)
    let bad (s : State) (o : VaOut) : MRead :=
      match o with
      | .xlt kind level ent x => .stop (s.showXltFault (lntTower n) r.owner.ctx x .lantern 2 kind level ent) 0x10 x ent []
      | .acc pa => .stop s 0x11 pa 0 []
      | _ => .wait s
    match rd s va 64 with
    | (s, .ok h) =>
      match rd s ((va + 64) % 2 ^ 57) (min ((shapeOf h).size) (r.rstride - 64)) with
      | (s, .ok b) =>
        match s.readPartials n r rest with
        | .got s l => .got s ((h, b) :: l)
        | .stop s cls addr ent l => .stop s cls addr ent ((h, b) :: l)
        | .wait s => .wait s
      | (s, o) => bad s o
    | (s, o) => bad s o

/-- LNT_MERGE: a MERGE request reads its partials, merges them and writes the merged or the finished result (R458, R459). -/
def execLntMerge (n : Nat) (s : State) : Res :=
  onUnit (s.lntPresent n) (match (s.lunit n).queue with
    | [] => s
    | r :: _ =>
      if !r.started || r.kind ≠ 2 || !s.lntRuns n then s
      else
        match s.readPartials n r (List.range (bitsOf (r.word 0) 56 8)) with
        | .wait s => s
        | .stop s cls addr ent l => s.lntStop n r cls addr ent (mergedSoFar l)
        | .got s l =>
          let hs := l.map (·.1)
          let h0 := hs.headD []
          let sh := shapeOf h0
          if !hs.all (headerFits h0) || r.rstride < 64 + sh.size then
            s.lntStop n r 0x06 0 0 (mergedSoFar (if r.rstride < 64 + sh.size then [] else l.takeWhile (fun e => headerFits h0 e.1)))
          else
            let merged := (l.drop 1).foldl (fun (a : Option Marked) e => a.bind (fun m => mergeImages sh m e.2))
              (some ((l.headD ([], [])).2))
            match merged with
            | none => s.lntStop n r 0x08 0 0 (mergedSoFar l)
            | some m =>
              let final := bit (r.p 0) 7
              let ofmt := bitsOf (r.p 0) 0 5
              let body := if final then finishImage sh ofmt (bitsOf (r.p 0) 5 2) m else m
              match s.lntWrite n r r.result (mergedHeader hs final ofmt ++ body) with
              | (s, .ok _) => ((s.dropHead n).lntSignal n r).settleEntry r.owner
              | (s, .wait) => s
              | (s, .xlt _ _ ent va) => s.lntStop n r 0x10 va ent
              | (s, .acc pa) => s.lntStop n r 0x11 pa 0)

/-! Commands (R460, R461). -/

/-- LNT_PROGRAM_LOAD: steps 1 to 4 of R460; the operations are read, judged and put into the slot at LNT_PROGRAM_LOAD_DONE. -/
def execLntProgramLoad (ch : Nat) (p : Packet) (s : State) : Res :=
  cmd ch 0x800 p s fun s =>
    let w := pword p 0
    let n := bitsOf w 0 7
    let slot := bitsOf w 8 4
    let count := bitsOf w 16 7
    let pa := pword p 1
    let named := s.lnt.units.any (fun e => e.1 = n && e.2.queue.any (fun r => r.kind = 1 && r.prog = slot))
      || s.lnt.disp.any (fun d => d.left.contains n && bitsOf (d.w.getD 0 0) 0 4 = 1 && bitsOf (d.w.getD 0 0) 4 4 = slot)
      || s.lnt.loads.any (fun l => l.unit = n && l.slot = slot)
    if p.length ≠ 32 then s.reply ch St.badLength
    else if !s.lntPresent n || s.lntFenced n then s.reply ch St.disabled
    else if slot < 8 || w &&& 0xFFFFFFFFFF80F080 ≠ 0 || count < 1 || 64 < count || pa % 8 ≠ 0 then s.reply ch St.invalid
    else if !s.rangeIn pa (8 * count) then s.reply ch St.invalid [2 ^ 64 - 1]
    else if named || s.eclipse then s.reply ch St.busy
    else { s with lnt := { s.lnt with loads := s.lnt.loads ++ [{ unit := n, slot := slot, addr := pa, count := count, chan := ch }] } }

/-- LNT_PROGRAM_LOAD_DONE: the operations are read and judged (R460 step 5); the slot holds them followed by zero words, and the
command replies with COUNT. -/
def execLntProgramLoadDone (n slot : Nat) (s : State) : Res :=
  onUnit (s.lntPresent n) (match s.lnt.loads.find? (fun l => l.unit = n && l.slot = slot) with
    | none => s
    | some l =>
      match s.ccRead l.addr (8 * l.count) with
      | (s, false) => s
      | (s, true) =>
        let words := s.rdWords l.addr l.count
        let s := { s with lnt := { s.lnt with loads := s.lnt.loads.erase l } }
        match s.firstPoison l.addr (8 * l.count) with
        | some a =>
          s.commandFail l.chan
            { queue := lntTower n, cls := 0x12, domain := 0, action := 5, unit := unitLnt n, opref := 0x800, addr := a }
        | none =>
        match lopsFail [] words 0 with
        | some i => s.reply l.chan St.invalid [i]
        | none =>
          let s := s.lbPut (slotBase n slot) ((words ++ List.replicate (64 - words.length) 0).flatMap (leBytes 8))
          let u := s.lunit n
          let s := s.setLunit n { u with loaded := if u.loaded.contains slot then u.loaded else u.loaded ++ [slot] }
          s.reply l.chan St.ok [l.count])

/-- LNT_CANCEL: a context's requests on the named units stop and vanish, those that still wait to enter one among them; their entries
are marked (R461). -/
def execLntCancel (ch : Nat) (p : Packet) (s : State) : Res :=
  cmd ch 0x801 p s fun s =>
    let ctx := pword p 0
    let named := (List.range 72).filter (fun n => if n < 64 then bit (pword p 1) n else bit (pword p 2) (n - 64))
    s.orFail ch ((checkWords p [0xFF, 2 ^ 64 - 1, 0xFF]).orElse (fun _ =>
      if named.any (fun n => !s.lntPresent n) then some St.disabled else none)) fun s =>
    let mine := named.flatMap (fun n => (s.lunit n).queue.filter (fun r => r.owner.ctx = ctx))
    let held := (s.lnt.disp.filter (fun d => d.owner.ctx = ctx)).flatMap (fun d : LntDisp =>
      (d.left.filter named.contains).map (fun _ => d.owner))
    let owners := (mine.map (fun r : LntReq => r.owner) ++ held).eraseDups
    let s := named.foldl (fun (s : State) n =>
      let u := s.lunit n
      s.setLunit n { u with queue := u.queue.filter (fun r => r.owner.ctx ≠ ctx) }) s
    let cut (d : LntDisp) : Option LntDisp :=
      let left := if d.owner.ctx = ctx then d.left.filter (fun u => !named.contains u) else d.left
      if left.isEmpty then none else some { d with left := left }
    let s := { s with lnt := { s.lnt with disp := s.lnt.disp.filterMap cut } }
    let s := owners.foldl (fun (s : State) o =>
      match o.entry with
      | some (q, e) => (s.markEntry q e 2).settleEntry o
      | none => s) s
    s.reply ch St.ok [mine.length + held.length]

end Sys2Proof.Machine
end

