-- ==== Sys2Proof/Machine/Rv.lean ====
section
/-! DEFINITION. The instructions of a thread (R303, R313): which row of the table an instruction word belongs to and whether it
is legal, its operands, and the results of RV64IMAFD. -/

namespace Sys2Proof.Machine

/-- The rows that a thread's instructions fall into. -/
inductive TKind where
  | load | store | branch | lr | sc | amo | fence | fenceI | csr | ecall | ebreak | alu
  | conv | bar | spin | vote | shfl | gid | exit | gfence | ldaq | strl | sig | gwait | mx | vx | fmma
  deriving DecidableEq, Repr, Inhabited

/-! Fields of an instruction word. -/

namespace Rv
/-- The opcode. -/
def op (w : Nat) : Nat := w % 128
/-- rd. -/
def rd (w : Nat) : Nat := bitsOf w 7 5
/-- funct3. -/
def f3 (w : Nat) : Nat := bitsOf w 12 3
/-- rs1. -/
def rs1 (w : Nat) : Nat := bitsOf w 15 5
/-- rs2. -/
def rs2 (w : Nat) : Nat := bitsOf w 20 5
/-- rs3. -/
def rs3 (w : Nat) : Nat := bitsOf w 27 5
/-- funct7. -/
def f7 (w : Nat) : Nat := bitsOf w 25 7
/-- imm[11:0] of an I-type, unsigned. -/
def imm (w : Nat) : Nat := bitsOf w 20 12
/-- I-type immediate. -/
def immI (w : Nat) : Int := sext 12 (imm w)
/-- S-type immediate. -/
def immS (w : Nat) : Int := sext 12 (rd w + f7 w * 32)
/-- B-type immediate. -/
def immB (w : Nat) : Int := sext 13 (bitsOf w 8 4 * 2 + bitsOf w 25 6 * 32 + bitsOf w 7 1 * 2048 + bitsOf w 31 1 * 4096)
/-- U-type immediate. -/
def immU (w : Nat) : Int := sext 32 (bitsOf w 12 20 * 4096)
/-- J-type immediate. -/
def immJ (w : Nat) : Int := sext 21 (bitsOf w 21 10 * 2 + bitsOf w 20 1 * 2048 + bitsOf w 12 8 * 4096 + bitsOf w 31 1 * 2 ^ 20)
end Rv

/-- The only CSRs a thread may access (R303). -/
def csrKnown (n : Nat) : Bool := [1, 2, 3, 0xC00, 0xC01, 0xC02].contains n

/-- A rounding-mode field that an instruction may hold; 7 takes frm. -/
def rmOk (m frm : Nat) : Bool := m ≤ 4 || (m = 7 && frm ≤ 4)

/-- The kind of an F or D instruction other than loads, stores and fused forms, given frm. -/
def fpLegal (w frm : Nat) : Bool :=
  let f3 := Rv.f3 w
  let r2 := Rv.rs2 w
  match Rv.f7 w with
  | 0x00 | 0x01 | 0x04 | 0x05 | 0x08 | 0x09 | 0x0C | 0x0D => rmOk f3 frm
  | 0x2C | 0x2D => r2 = 0 && rmOk f3 frm
  | 0x10 | 0x11 => f3 ≤ 2
  | 0x14 | 0x15 => f3 ≤ 1
  | 0x20 => r2 = 1 && rmOk f3 frm
  | 0x21 => r2 = 0 && rmOk f3 frm
  | 0x50 | 0x51 => f3 ≤ 2
  | 0x60 | 0x61 | 0x68 | 0x69 => r2 ≤ 3 && rmOk f3 frm
  | 0x70 | 0x71 => r2 = 0 && f3 ≤ 1
  | 0x78 | 0x79 => r2 = 0 && f3 = 0
  | _ => false

/-- FMMA's register groups (R317). -/
def fmmaRegs (w : Nat) : Bool :=
  let d := Rv.rd w
  let a := Rv.rs1 w
  let b := Rv.rs2 w
  d ≠ 0 && d % 4 = 0 && a ≠ 0 && a % 2 = 0 && b ≠ 0 && b % 2 = 0 && a ≠ b && a / 4 ≠ d / 4 && b / 4 ≠ d / 4

/-- The row of an instruction word; none when it is illegal (R303, R313, R314, R317). -/
def rvKind (w frm : Nat) : Option TKind :=
  let f3 := Rv.f3 w
  let f7 := Rv.f7 w
  let d := Rv.rd w
  let a := Rv.rs1 w
  let b := Rv.rs2 w
  let i := Rv.imm w
  let ok (c : Bool) (k : TKind) : Option TKind := if c then some k else none
  match Rv.op w with
  | 0x37 | 0x17 | 0x6F => some .alu
  | 0x67 => ok (f3 = 0) .branch
  | 0x63 => ok (f3 ≠ 2 && f3 ≠ 3) .branch
  | 0x03 => ok (f3 ≤ 6) .load
  | 0x07 => ok (f3 = 2 || f3 = 3) .load
  | 0x23 => ok (f3 ≤ 3) .store
  | 0x27 => ok (f3 = 2 || f3 = 3) .store
  | 0x13 => ok (if f3 = 1 then f7 / 2 = 0 else if f3 = 5 then f7 / 2 = 0 || f7 / 2 = 0x10 else true) .alu
  | 0x1B => ok (if f3 = 0 then true else if f3 = 1 then f7 = 0 else f3 = 5 && (f7 = 0 || f7 = 0x20)) .alu
  | 0x33 => ok (f7 = 0 || f7 = 1 || (f7 = 0x20 && (f3 = 0 || f3 = 5))) .alu
  | 0x3B => ok ((f7 = 0 && (f3 = 0 || f3 = 1 || f3 = 5)) || (f7 = 0x20 && (f3 = 0 || f3 = 5)) || (f7 = 1 && (f3 = 0 || 4 ≤ f3))) .alu
  | 0x0F => if f3 = 0 then some .fence else ok (f3 = 1) .fenceI
  | 0x73 =>
    if f3 = 0 then (if w = 0x73 then some .ecall else if w = 0x00100073 then some .ebreak else none)
    else ok (f3 ≠ 4 && csrKnown i && (i < 0xC00 || (f3 % 4 ≠ 1 && a = 0))) .csr
  | 0x2F =>
    if f3 ≠ 2 && f3 ≠ 3 then none
    else match f7 / 4 with
      | 2 => ok (b = 0) .lr
      | 3 => some .sc
      | 0 | 1 | 4 | 8 | 12 | 16 | 20 | 24 | 28 => some .amo
      | _ => none
  | 0x43 | 0x47 | 0x4B | 0x4F => ok (f7 % 4 ≤ 1 && rmOk f3 frm) .alu
  | 0x53 => ok (fpLegal w frm) .alu
  | 0x0B =>
    match f3 with
    | 0 => ok (d = 0 && a = 0 && i = 0) .conv
    | 1 => ok (d = 0 && i < 4) .bar
    | 2 => ok (d = 0 && i = 0) .spin
    | 3 => ok (f7 ≤ 2 && b = 0) .vote
    | 4 => ok (f7 ≤ 3) .shfl
    | 5 => ok (a = 0 && i ≤ 9) .gid
    | 6 => ok (d = 0 && a = 0 && i = 0) .exit
    | _ => ok (d = 0 && a = 0 && i ≤ 5) .gfence
  | 0x2B =>
    match f3 with
    | 0 => ok (f7 ≤ 3 && b = 0) .mx
    | 1 => ok (f7 ≤ 3 && (2 ≤ f7 || b = 0)) .vx
    | 2 => ok (f7 = 0 && fmmaRegs w) .fmma
    | 3 => ok (i < 16 && i % 8 ≤ 5) .ldaq
    | 4 => ok (d = 0 && f7 < 16 && f7 % 8 ≤ 5) .strl
    | 5 => ok (d = 0 && f7 < 32 && f7 % 4 ≠ 0 && f7 / 4 ≤ 5) .sig
    | 6 => ok (f7 < 32 && f7 / 4 ≤ 5) .gwait
    | _ => none
  | _ => none

/-- Registers an instruction reads or writes, f registers from 32 up: those that a load on its way must not name (R307). -/
def rvUses (w : Nat) : List Nat :=
  let d := Rv.rd w
  let a := Rv.rs1 w
  let b := Rv.rs2 w
  match Rv.op w with
  | 0x37 | 0x17 | 0x6F => [d]
  | 0x67 | 0x13 | 0x1B | 0x03 => [d, a]
  | 0x63 | 0x23 => [a, b]
  | 0x07 => [d + 32, a]
  | 0x27 => [a, b + 32]
  | 0x33 | 0x3B | 0x2F => [d, a, b]
  | 0x73 => [d, a]
  | 0x43 | 0x47 | 0x4B | 0x4F => [d + 32, a + 32, b + 32, Rv.rs3 w + 32]
  | 0x53 =>
    match Rv.f7 w with
    | 0x50 | 0x51 => [d, a + 32, b + 32]
    | 0x60 | 0x61 | 0x70 | 0x71 => [d, a + 32]
    | 0x68 | 0x69 | 0x78 | 0x79 => [d + 32, a]
    | _ => [d + 32, a + 32, b + 32]
  | 0x2B => if Rv.f3 w = 2 then [d, d + 1, d + 2, d + 3, a, a + 1, b, b + 1] else [d, a, b]
  | 0x0B => [d, a, b]
  | _ => []

/-! Registers. -/

/-- An integer register; x0 reads 0. -/
def Thread.xr (t : Thread) (i : Nat) : Nat := if i = 0 then 0 else (t.x.getD i 0).toNat
/-- A floating-point register. -/
def Thread.fr (t : Thread) (i : Nat) : Nat := (t.f.getD i 0).toNat
/-- A register written, f registers from 32 up; x0 discards. -/
def Thread.setReg (t : Thread) (i v : Nat) : Thread :=
  if i = 0 then t
  else if i < 32 then { t with x := t.x.set i (BitVec.ofNat 64 v) }
  else { t with f := t.f.set (i - 32) (BitVec.ofNat 64 v) }
/-- The thread at another address. -/
def Thread.goto (t : Thread) (pc : Nat) : Thread := { t with pc := pc % 2 ^ 64 }
/-- The thread at its next instruction. -/
def Thread.next (t : Thread) : Thread := t.goto (t.pc + 4)
/-- frm of fcsr. -/
def Thread.frm (t : Thread) : Nat := bitsOf t.fcsr 5 3

/-! Integer results (R303). -/

/-- OP and OP-32 results; OP-IMM takes them with its immediate. -/
def rvAlu (word : Bool) (f7 f3 a b : Nat) : Nat :=
  let w := if word then 32 else 64
  let a := a % 2 ^ w
  let b := b % 2 ^ w
  let sa := sext w a
  let sb := sext w b
  let sh := b % w
  let r : Nat :=
    if f7 = 1 then
      match f3 with
      | 0 => a * b
      | 1 => Machine.ofInt 64 (sa * sb / (2 ^ 64 : Nat))
      | 2 => Machine.ofInt 64 (sa * (b : Int) / (2 ^ 64 : Nat))
      | 3 => a * b / 2 ^ 64
      | 4 => if b = 0 then 2 ^ w - 1 else Machine.ofInt w (sa.tdiv sb)
      | 5 => if b = 0 then 2 ^ w - 1 else a / b
      | 6 => if b = 0 then a else Machine.ofInt w (sa.tmod sb)
      | _ => if b = 0 then a else a % b
    else
      match f3 with
      | 0 => if f7 = 0x20 then Machine.ofInt w ((a : Int) - b) else a + b
      | 1 => a * 2 ^ sh
      | 2 => b2n (sa < sb)
      | 3 => b2n (a < b)
      | 4 => a ^^^ b
      | 5 => if f7 = 0x20 then Machine.ofInt w (sa / (2 ^ sh : Nat)) else a / 2 ^ sh
      | 6 => a ||| b
      | _ => a &&& b
  let r := r % 2 ^ w
  if word then Machine.ofInt 64 (sext 32 r) else r

/-- Whether a conditional branch is taken. -/
def rvTaken (f3 a b : Nat) : Bool :=
  match f3 with
  | 0 => a = b
  | 1 => a ≠ b
  | 4 => decide (sext 64 a < sext 64 b)
  | 5 => !decide (sext 64 a < sext 64 b)
  | 6 => decide (a < b)
  | _ => !decide (a < b)

/-! Floating-point results (R303). -/

/-- Format of an F (false) or D (true) operand. -/
def rvFmt (d : Bool) : Fmt := if d then Fmt.f64 else Fmt.f32
/-- An operand of a register: a single is NaN-boxed, and what is not boxed reads as the canonical NaN. -/
def unbox (d : Bool) (v : Nat) : Nat := if d then v else if v / 2 ^ 32 = 2 ^ 32 - 1 then v % 2 ^ 32 else Fmt.defaultNan Fmt.f32
/-- A result as its register holds it. -/
def box (d : Bool) (v : Nat) : Nat := if d then v else v % 2 ^ 32 + (2 ^ 32 - 1) * 2 ^ 32
/-- A signalling NaN. -/
def isSnan (d : Bool) (v : Nat) : Bool := ((rvFmt d).decode v).isNan && !v.testBit (if d then 51 else 22)
/-- The rounding mode of an instruction under frm. -/
def rmOf (m frm : Nat) : RMode :=
  match (if m = 7 then frm else m) with | 0 => .rne | 1 => .rtz | 2 => .rdn | 3 => .rup | _ => .rmm

/-- A result in a format with its flags; nv says that the operation was invalid. -/
def finish (d : Bool) (x : Num) (rm : RMode) (nv dz : Bool) : Nat × FFlags :=
  let f := rvFmt d
  let base := b2n nv * 16 + b2n dz * 8
  match x with
  | .nan => (f.defaultNan, base)
  | .inf s => (f.infBits s, base)
  | .fin v => let (b, fl) := roundIeee f v rm; (b, base ||| fl)

/-- Addition, multiplication, division, square root and the fused forms: 0 add, 1 sub, 2 mul, 3 div, 4 sqrt, 5 to 8 the fused
forms in the order FMADD, FMSUB, FNMSUB, FNMADD. -/
def rvArith (d : Bool) (o : Nat) (a b c : Nat) (rm : RMode) : Nat × FFlags :=
  let f := rvFmt d
  let x := f.decode a
  let y := f.decode b
  let z := f.decode c
  let unary := o = 4
  let fused := 5 ≤ o
  let snan := isSnan d a || (!unary && isSnan d b) || (fused && isSnan d c)
  let anyNan := x.isNan || (!unary && y.isNan) || (fused && z.isNan)
  let zeroInf := match x, y with
    | .inf _, .fin v => v.m = 0
    | .fin v, .inf _ => v.m = 0
    | _, _ => false
  let r : Num := match o with
    | 0 => x.add y rm
    | 1 => x.add y.negate rm
    | 2 => x.mul y
    | 3 => x.div y
    | 4 => x.sqrt
    | 5 => (x.mul y).add z rm
    | 6 => (x.mul y).add z.negate rm
    | 7 => (x.mul y).negate.add z rm
    | _ => (x.mul y).negate.add z.negate rm
  let dz := o = 3 && (match x, y with | .fin u, .fin v => u.m ≠ 0 && v.m = 0 | _, _ => false)
  let nv := snan || (fused && zeroInf) || (!anyNan && r.isNan)
  finish d r rm nv dz

/-- FMIN and FMAX: the other operand when one is a NaN; -0 lies below +0. -/
def rvMinMax (d mx : Bool) (a b : Nat) : Nat × FFlags :=
  let f := rvFmt d
  let x := f.decode a
  let y := f.decode b
  let nv := b2n (isSnan d a || isSnan d b) * 16
  let less := x.lt y || (x.eqv y && a.testBit (f.bits - 1) && !b.testBit (f.bits - 1))
  if x.isNan && y.isNan then (f.defaultNan, nv)
  else if x.isNan then (b, nv)
  else if y.isNan then (a, nv)
  else (if less = mx then b else a, nv)

/-- FEQ (2), FLT (1), FLE (0). -/
def rvCmp (d : Bool) (f3 a b : Nat) : Nat × FFlags :=
  let f := rvFmt d
  let x := f.decode a
  let y := f.decode b
  let nan := x.isNan || y.isNan
  let nv := if f3 = 2 then isSnan d a || isSnan d b else nan
  let r := match f3 with | 2 => x.eqv y | 1 => x.lt y | _ => x.lt y || x.eqv y
  (b2n (!nan && r), b2n nv * 16)

/-- FCLASS. -/
def rvClass (d : Bool) (a : Nat) : Nat :=
  let f := rvFmt d
  match f.decode a with
  | .nan => if isSnan d a then 2 ^ 8 else 2 ^ 9
  | .inf s => if s then 2 ^ 0 else 2 ^ 7
  | .fin v =>
    if v.m = 0 then (if v.neg then 2 ^ 3 else 2 ^ 4)
    else
      let sub := v.flog < f.emin
      if v.neg then (if sub then 2 ^ 2 else 2 ^ 1) else (if sub then 2 ^ 5 else 2 ^ 6)

/-- FCVT to an integer: kind 0 W, 1 WU, 2 L, 3 LU; the register's value. -/
def rvToInt (d : Bool) (kind a : Nat) (rm : RMode) : Nat × FFlags :=
  let w := if kind < 2 then 32 else 64
  let signed := kind % 2 = 0
  let lo : Int := if signed then -(2 : Int) ^ (w - 1) else 0
  let hi : Int := if signed then (2 : Int) ^ (w - 1) - 1 else (2 : Int) ^ w - 1
  let out (i : Int) : Nat := if w = 32 then Machine.ofInt 64 (sext 32 (Machine.ofInt 32 i)) else Machine.ofInt 64 i
  match (rvFmt d).decode a with
  | .nan => (out hi, 16)
  | .inf s => (out (if s then lo else hi), 16)
  | .fin v =>
    let (n, nx) := roundMode v 0 rm
    let i : Int := if v.neg then -(n : Int) else n
    if i < lo then (out lo, 16) else if hi < i then (out hi, 16) else (out i, b2n nx)

/-- FCVT from an integer. -/
def rvFromInt (d : Bool) (kind a : Nat) (rm : RMode) : Nat × FFlags :=
  let i : Int := match kind with | 0 => sext 32 a | 1 => (a % 2 ^ 32 : Nat) | 2 => sext 64 a | _ => (a : Int)
  finish d (.fin (Dy.ofInt i 0)) rm false false

/-- The result of an OP-FP or fused instruction: destination register, its value, the flags it accrues. -/
def rvFp (w : Nat) (t : Thread) : Nat × Nat × FFlags :=
  let rm := rmOf (Rv.f3 w) t.frm
  let d := bit w 25
  let fd := Rv.rd w + 32
  let a := unbox d (t.fr (Rv.rs1 w))
  let b := unbox d (t.fr (Rv.rs2 w))
  let out (r : Nat × FFlags) : Nat × Nat × FFlags := (fd, box d r.1, r.2)
  let f3 := Rv.f3 w
  match Rv.op w with
  | 0x43 => out (rvArith d 5 a b (unbox d (t.fr (Rv.rs3 w))) rm)
  | 0x47 => out (rvArith d 6 a b (unbox d (t.fr (Rv.rs3 w))) rm)
  | 0x4B => out (rvArith d 7 a b (unbox d (t.fr (Rv.rs3 w))) rm)
  | 0x4F => out (rvArith d 8 a b (unbox d (t.fr (Rv.rs3 w))) rm)
  | _ =>
    match Rv.f7 w / 4 with
    | 0 => out (rvArith d 0 a b 0 rm)
    | 1 => out (rvArith d 1 a b 0 rm)
    | 2 => out (rvArith d 2 a b 0 rm)
    | 3 => out (rvArith d 3 a b 0 rm)
    | 0x0B => out (rvArith d 4 a 0 0 rm)
    | 0x04 =>
      let top := 2 ^ (if d then 63 else 31)
      let sb := b / top % 2
      let sa := a / top % 2
      let s := match f3 with | 0 => sb | 1 => 1 - sb | _ => (sa + sb) % 2
      out (a % top + s * top, 0)
    | 0x05 => out (rvMinMax d (f3 = 1) a b)
    | 0x08 =>
      let src := !d
      let v := unbox src (t.fr (Rv.rs1 w))
      out (finish d ((rvFmt src).decode v) rm (isSnan src v) false)
    | 0x14 => let r := rvCmp d f3 a b; (Rv.rd w, r.1, r.2)
    | 0x18 => let r := rvToInt d (Rv.rs2 w) a rm; (Rv.rd w, r.1, r.2)
    | 0x1A => out (rvFromInt d (Rv.rs2 w) (t.xr (Rv.rs1 w)) rm)
    | 0x1C =>
      if f3 = 1 then (Rv.rd w, rvClass d a, 0)
      else
        let v := t.fr (Rv.rs1 w)
        (Rv.rd w, if d then v else Machine.ofInt 64 (sext 32 v), 0)
    | _ => out (t.xr (Rv.rs1 w), 0)

/-! Instructions that touch their thread alone. -/

/-- What an instruction does to its thread: the thread after it, or a fault's CAUSE. -/
inductive Ex where
  | ok (t : Thread)
  | fault (cause : Nat)
  deriving DecidableEq, Repr

/-- A jump: a target that is not a multiple of 4 is a misaligned access of the jump itself. -/
def jumpTo (t : Thread) (rd target : Nat) : Ex :=
  if target % 4 ≠ 0 then .fault 7 else .ok ((t.setReg rd ((t.pc + 4) % 2 ^ 64)).goto target)

/-- An address: a register and an offset, modulo 2^64. -/
def eaOf (base : Nat) (off : Int) : Nat := Machine.ofInt 64 ((base : Int) + off)

/-- Integer, multiply, divide and floating-point instructions, JAL, branches and JALR. -/
def rvPlain (w : Nat) (t : Thread) : Ex :=
  let a := t.xr (Rv.rs1 w)
  let b := t.xr (Rv.rs2 w)
  let f3 := Rv.f3 w
  let put (v : Nat) : Ex := .ok (t.setReg (Rv.rd w) v).next
  let shift := f3 = 1 || f3 = 5
  match Rv.op w with
  | 0x37 => put (Machine.ofInt 64 (Rv.immU w))
  | 0x17 => put (eaOf t.pc (Rv.immU w))
  | 0x6F => jumpTo t (Rv.rd w) (eaOf t.pc (Rv.immJ w))
  | 0x67 => jumpTo t (Rv.rd w) (eaOf a (Rv.immI w) / 2 * 2)
  | 0x63 =>
    if rvTaken f3 a b then
      let target := eaOf t.pc (Rv.immB w)
      if target % 4 ≠ 0 then .fault 7 else .ok (t.goto target)
    else .ok t.next
  | 0x13 => put (rvAlu false (if f3 = 5 then Rv.f7 w / 2 * 2 else 0) f3 a (if shift then Rv.imm w % 64 else Machine.ofInt 64 (Rv.immI w)))
  | 0x1B => put (rvAlu true (if f3 = 5 then Rv.f7 w else 0) f3 a (if shift then Rv.imm w % 32 else Machine.ofInt 64 (Rv.immI w)))
  | 0x33 => put (rvAlu false (Rv.f7 w) f3 a b)
  | 0x3B => put (rvAlu true (Rv.f7 w) f3 a b)
  | _ =>
    let (r, v, fl) := rvFp w t
    let t := t.setReg r v
    .ok { t with fcsr := t.fcsr ||| fl }.next

/-- A CSR's value: cycle as the event gives it, time in periods of 10 ns (R303). -/
def csrRead (t : Thread) (cycle time n : Nat) : Nat :=
  match n with
  | 1 => t.fcsr % 32
  | 2 => t.frm
  | 3 => t.fcsr % 256
  | 0xC00 => cycle % 2 ^ 64
  | 0xC01 => time % 2 ^ 64
  | _ => t.instret % 2 ^ 64

/-- A CSR written; the fields it does not hold are ignored. -/
def csrWrite (t : Thread) (n v : Nat) : Thread :=
  match n with
  | 1 => { t with fcsr := t.fcsr / 32 * 32 + v % 32 }
  | 2 => { t with fcsr := t.fcsr % 32 + v % 8 * 32 }
  | 3 => { t with fcsr := v % 256 }
  | _ => t

/-- Zicsr. -/
def rvCsr (w cycle time : Nat) (t : Thread) : Thread :=
  let n := Rv.imm w
  let old := csrRead t cycle time n
  let a := if bit (Rv.f3 w) 2 then Rv.rs1 w else t.xr (Rv.rs1 w)
  let t := match Rv.f3 w % 4 with
    | 1 => csrWrite t n a
    | 2 => if Rv.rs1 w = 0 then t else csrWrite t n (old ||| a)
    | _ => if Rv.rs1 w = 0 then t else csrWrite t n (old &&& (2 ^ 64 - 1 - a))
  (t.setReg (Rv.rd w) old).next

/-- A loaded value by operation: funct3 of a LOAD, or 10 FLW, 11 FLD. -/
def loadValue (o : Nat) (bs : List Byte) : Nat :=
  let v := leNat bs
  match o with
  | 0 => Machine.ofInt 64 (sext 8 v)
  | 1 => Machine.ofInt 64 (sext 16 v)
  | 2 => Machine.ofInt 64 (sext 32 v)
  | 10 => box false v
  | _ => v

/-- What an AMO stores, from the value at its address and its operand (R303). -/
def amoResult (f5 w old v : Nat) : Nat :=
  let a := old % 2 ^ w
  let b := v % 2 ^ w
  match f5 with
  | 0 => (a + b) % 2 ^ w
  | 1 => b
  | 4 => a ^^^ b
  | 8 => a ||| b
  | 12 => a &&& b
  | 16 => if sext w a < sext w b then a else b
  | 20 => if sext w b < sext w a then a else b
  | 24 => min a b
  | _ => max a b

/-! Fragments (R316 to R319). -/

/-- Element k mod 8 of a fragment row in two registers. -/
def fragHalf (t : Thread) (r i : Nat) : Num := Fmt.bf16.decode (bitsOf (t.xr (r + i / 4)) (16 * (i % 4)) 16)
/-- Element n mod 8 of C in four registers. -/
def fragWord (t : Thread) (r i : Nat) : Nat := bitsOf (t.xr (r + i / 2)) (32 * (i % 2)) 32

/-- One element of the product: the exact sum, rounded once to nearest even (R319). -/
def fragSum (c : Num) (ps : List (Num × Num)) : Nat :=
  let x := (c :: ps.map (fun p => p.1.mul p.2)).foldl (fun (a : Num) b => a.add b) (.fin ⟨false, 0, 0⟩)
  match x with
  | .fin d => if d.m = 0 then 0 else (roundIeee Fmt.f32 d .rne).1
  | _ => x.toFmt Fmt.f32

/-- FMMA on the 32 threads of a group. -/
def fragMma (w : Nat) (ts : List Thread) : List Thread :=
  let th (i : Nat) : Thread := ts.getD i default
  let a (m k : Nat) : Num := fragHalf (th (m + 16 * (k / 8))) (Rv.rs1 w) (k % 8)
  let b (k n : Nat) : Num := fragHalf (th (n + 16 * (k / 8))) (Rv.rs2 w) (k % 8)
  (List.range 32).map (fun l =>
    let t := th l
    let m := l / 2
    let es := (List.range 8).map (fun i =>
      let n := 8 * (l % 2) + i
      fragSum (Fmt.f32.decode (fragWord t (Rv.rd w) i)) ((List.range 16).map (fun k => (a m k, b k n))))
    let t := (List.range 4).foldl (fun (t : Thread) r => t.setReg (Rv.rd w + r) (es.getD (2 * r) 0 + es.getD (2 * r + 1) 0 * 2 ^ 32)) t
    t.next)

end Sys2Proof.Machine
end

