-- ==== Sys2Proof/Machine/ThreadCores.lean ====
section
/-! DEFINITION. Thread cores (R303 to R327): requests on their way and what comes back, faults of groups, the issue of one
instruction of an issue set, convergence, barriers, waits, and the ports of the engines. -/

namespace Sys2Proof.Machine

/-- Cluster 4k + j of core c of tower k. -/
def threadCluster (k c : Nat) : Nat := 4 * k + c / 16
/-- Lanes of a mask, rising. -/
def lanesOf (m : Nat) : List Nat := (List.range 32).filter m.testBit
/-- A mask of one lane. -/
def laneBit (l : Nat) : Nat := 2 ^ l
/-- Thread of a lane. -/
def Group.thread (v : Group) (l : Nat) : Thread := v.threads.getD l default
/-- A thread of a group replaced. -/
def Group.setThread (v : Group) (l : Nat) (t : Thread) : Group := { v with threads := v.threads.set l t }
/-- Counter n of a thread core, in the order of R338. -/
def tcCnt (k c n : Nat) : Nat := A.tcCntIssue k c + 8 * n
/-- The agent is a thread of core c of tower k. -/
def Issuer.onCore (w : Issuer) (k c : Nat) : Bool := match w with | .thread a b _ _ => a = k && b = c | _ => false
/-- Whether debug access is open for a context (R703). -/
def State.debugOpen (s : State) (ctx : Nat) : Bool := s.flag A.debugStatus F.debugStatus_DEVICE || s.mg.ctxDebug.contains ctx

/-! Requests on their way (R394, R395). -/

/-- Every request that has not been performed at its home. -/
def State.requests (s : State) : List HomeReq :=
  s.l2.flying ++ s.l2.slices.flatMap (fun e => e.2.waiting ++ e.2.misses.flatMap (·.reqs))

/-- A request, or a write stalled at a hold, of a picked agent is not yet performed. -/
def State.outstanding (s : State) (p : Issuer → Bool) : Bool :=
  s.requests.any (fun r => p r.who) || s.comp.stalls.any (fun w => p w.who)

/-- A request of a core meets a line. -/
def State.coreMeets (s : State) (k c line : Nat) : Bool := s.requests.any (fun r => r.who.onCore k c && r.pa / 128 = line)

/-- A request joins those on their way. -/
def State.fly (s : State) (r : HomeReq) : State := { s with l2 := { s.l2 with flying := s.l2.flying ++ [r] } }

/-- A request is on its way no more. -/
def State.land (s : State) (r : HomeReq) : State := { s with l2 := { s.l2 with flying := s.l2.flying.erase r } }

/-- A request may be served: no earlier one of its core on its way meets its line. -/
def State.mayServe (s : State) (r : HomeReq) : Bool :=
  !((s.l2.flying.takeWhile (· ≠ r)).any (fun q => q.pa / 128 = r.pa / 128 &&
      (match r.who with | .thread k c _ _ => q.who.onCore k c | w => q.who = w)))

/-! The L1 (R394, R395). -/

/-- Every line of a core's L1 invalidated. -/
def State.clearL1 (s : State) (k c : Nat) : State := s.modCore k c (fun x => { x with l1 := [] })

/-- One line invalidated. -/
def State.dropL1 (s : State) (k c line : Nat) : State :=
  s.modCore k c (fun x => { x with l1 := x.l1.filter (fun l => l.line ≠ line) })

/-- Bytes laid over a line's bytes. -/
def overlay (bs : List Byte) (o : Nat) (new : List Byte) : List Byte :=
  bs.take o ++ new ++ bs.drop (o + new.length)

/-- A store updates a resident line under its byte mask, and makes it the most recently used. -/
def State.storeL1 (s : State) (k c pa : Nat) (bs : List Byte) : State :=
  s.modCore k c (fun x =>
    let hit := (x.l1.filter (fun l => l.line = pa / 128)).map (fun l => { l with bytes := overlay l.bytes (pa % 128) bs })
    { x with l1 := hit ++ x.l1.filter (fun l => l.line ≠ pa / 128) })

/-- The marks of the two sectors of a line. -/
def State.lineMarks (s : State) (line : Nat) : Nat :=
  b2n (s.poison.contains (line * 128)) + 2 * b2n (s.poison.contains (line * 128 + 64))

/-- A line taken into a core's L1, with the bytes and marks its home answered: 4 ways of 128 sets, the least recently used one
leaves. Stores of the core that are still on their way stay laid over it. -/
def State.fillL1 (s : State) (k c line : Nat) (bs : List Byte) (marks : Nat) : State :=
  let bs := (s.requests.filter (fun r => r.who.onCore k c && r.kind = .write && r.pa / 128 = line)).foldl
    (fun bs r => overlay bs (r.pa % 128) r.bytes) bs
  s.modCore k c (fun x =>
    let others := x.l1.filter (fun l => l.line ≠ line)
    let same := (others.filter (fun l => l.line % 128 = line % 128)).take 3
    { x with l1 := { line := line, bytes := bs, poison := marks } :: others.filter (fun l => l.line % 128 ≠ line % 128 || same.contains l) })

/-! Faults of groups (R327, R614). -/

/-- Why a thread faults: a CAUSE of R337; a translation fault; poison met at a sector. -/
inductive TFault where
  | plain (cause : Nat)
  | xlt (kind level entry va : Nat) (acc : AccessKind)
  | poison (sector : Nat)
  deriving DecidableEq, Repr

/-- CAUSE of a fault (R337). -/
def TFault.cause : TFault → Nat
  | .plain c => c
  | .xlt .. => 8
  | .poison _ => 10

/-- The waits of a group's threads are gone. -/
def State.dropWaits (s : State) (k c g : Nat) : State :=
  (List.range 32).foldl (fun s l => s.endWait (.thread k c g l)) s

/-- A group is over (R306): its slot frees, and its launch may be. -/
def State.endGroup (s : State) (k c g : Nat) : State :=
  match s.group k c g with
  | none => s
  | some v =>
    let s := (s.dropWaits k c g).freeSlot k c g
    let s := { s with comp := { s.comp with launches := s.comp.launches.map (fun (e : Nat × Launch) =>
      if e.1 = v.launch then (e.1, { e.2 with ended := e.2.ended + 1 }) else e) } }
    s.settleLaunch v.launch

/-- A group faults at a lane: TC_GROUP_STATE holds CAUSE, FAULT_LANE and FAULT_PC; a translation fault or poison writes its own
record; then the group's record is written, and the group is held for debug or terminated. -/
def State.groupFault (s : State) (k c g lane pc : Nat) (f : TFault) : State :=
  match s.group k c g with
  | none => s
  | some v =>
    let ctx := v.owner.ctx
    let unit := unitGroup k c g
    let id0 := s.nextRecordId k
    let (s, related) : State × Nat := match f with
      | .xlt kind level entry va acc =>
        ((s.showXltFault k ctx va acc 0 kind level entry).note 0 5 (xltRecord k va entry (some v.owner) unit v.index), id0)
      | .poison a =>
        (s.note 0 5 { queue := k, cls := 0x12, domain := 0, action := 5, owner := some v.owner, unit := unit, opref := v.index,
                      addr := a }, id0)
      | .plain _ => (s, 0)
    let s := s.setFlds (A.tcGroup0 k c g) [(F.tcGroup0_STATE, 3), (F.tcGroup0_CAUSE, f.cause), (F.tcGroup0_FAULT_LANE, lane)]
    let s := s.wr (A.tcGroup3 k c g) (BitVec.ofNat 64 pc)
    let s := s.modCore k c (fun x => { x with packs := x.packs.filter (fun p => !p.any (fun e => e.1 = g)) })
    let s := (s.standTimers k c g).showCore k c
    let r : RecordReq := { queue := k, cls := 0x09, domain := 0, action := 5, owner := some v.owner, unit := unit, opref := v.index,
                           addr := pc, detail := f.cause + 16 * lane, related := related }
    if s.debugOpen ctx then
      let id := s.nextRecordId k
      (s.note 0 11 r).opRecover none r id false
    else (s.opFail r).endGroup k c g

/-! What comes back (R309). -/

/-- A value on its way to a register of a thread. -/
def State.loadBack (s : State) (who : Issuer) (rd v : Nat) : State :=
  match who with
  | .thread k c g l =>
    match s.group k c g with
    | some x =>
      if rd = 0 then s
      else
        let t := x.thread l
        s.setGroup k c g (x.setThread l { t with loads := t.loads ++ [{ rd := rd, value := v }] })
    | none => s
  | _ => s

/-- A read comes back from its home with the bytes it asked for and the marks of its line: poison faults its group, and the request
stays for a forced resume; otherwise the line enters the L1 when it may, and the value goes to its register. -/
def State.readBack (s : State) (r : HomeReq) (bs : List Byte) (marks : Nat) : State :=
  match r.who with
  | .thread k c g l =>
    match (sectorsOf r.pa r.len).find? (fun a => marks.testBit (a % 128 / 64)) with
    | some a => if s.slotState k c g ≠ 3 then s.groupFault k c g l r.pc (.poison a) else s
    | none =>
      let s := s.land r
      let s := if r.l1 then s.fillL1 k c (r.pa / 128) bs marks else s
      s.loadBack r.who r.rd (loadValue r.op ((bs.drop (r.pa - r.asks.1)).take r.len))
  | _ => s.land r

/-! Translation and the judgement of an access. -/

/-- What an access of a thread comes to before it is made. -/
inductive Reach where
  | at (pa : Nat) (e : XEntry)
  | fault (f : TFault)
  | wait
  deriving DecidableEq, Repr

/-- An address of a thread translated and judged (R303, R327, R387, R472, R477, R697). -/
def State.reach (s : State) (k c g : Nat) (v : Group) (ea size : Nat) (acc : AccessKind) (isWrite : Bool) : State × Reach :=
  let va := ea % 2 ^ 57
  if ea % size ≠ 0 then (s, .fault (.plain 7))
  else if !vaValid ea then (s, .fault (.xlt 4 3 0 va acc))
  else
    match s.translateThread (threadCluster k c) v.owner.ctx va acc (some v.owner) (unitGroup k c g) with
    | (s, .ok e) =>
      let pa := e.target va
      let w := (windowOf pa).1
      let mem := w.isTier || (match w with | .pinned .. => true | _ => false)
      let sp := match w with | .scratch _ => true | _ => false
      let lb := match w with | .lntBuf _ => true | _ => false
      let bad := s.physFaults pa size isWrite || s.foreign pa v.owner.ctx
        || (acc = .write && leafRed e.leaf ≠ 0 && !mem) || (acc = .atomic && !mem && !sp && !lb)
      (s, if bad then .fault (.plain 9) else .at pa e)
    | (s, .fault kind level ent) => (s, .fault (.xlt kind level ent va acc))
    | (s, .wait) => (s, .wait)

/-- An instruction word as its fetch comes to it. -/
inductive Fetch where
  | ok (w : Nat)
  | fault (f : TFault)
  | wait
  deriving DecidableEq, Repr

/-- The word at a thread's pc, read from its home under its leaf's policy (R368, R369); no cache of instructions is described (log
entry 41). -/
def State.fetch (s0 : State) (k c g : Nat) (v : Group) (pc : Nat) : State × Fetch :=
  match s0.reach k c g v pc 4 .fetch false with
  | (s, .fault f) => (s, .fault f)
  | (s, .wait) => (s, .wait)
  | (s, .at pa e) =>
    match s.physRead pa 4 (.thread k c g 0) (some v.owner) (leafPolicy e.leaf) e.evict with
    | (s, .ok bs p) => if p then (s, .fault (.poison (pa / 64 * 64))) else (s, .ok (leNat bs))
    | (s, .fault) => (s, .fault (.plain 9))
    | (_, .wait) => ((s0.physRead pa 4 (.thread k c g 0) (some v.owner)).1, .wait)

/-! Issue sets (R307, R310, R312, R325). -/

/-- The issue set that holds a lane: its packed set, else its subgroup. -/
def State.issueSet (s : State) (k c g lane : Nat) : List (Nat × Nat) :=
  match (s.core k c).packs.find? (fun p => p.any (fun e => e.1 = g && e.2.testBit lane)) with
  | some p => p
  | none =>
    match s.group k c g with
    | some v => match v.subs.find? (fun m => m.testBit lane) with | some m => [(g, m)] | none => []
    | none => []

/-- The set may issue: its groups run, and none of its threads waits. A step issues for a stopped group; a GCONV may be what
they wait at. -/
def State.setReady (s : State) (k c : Nat) (step conv : Bool) (set : List (Nat × Nat)) : Bool :=
  !set.isEmpty && set.all (fun e =>
    match s.group k c e.1 with
    | some v => (s.slotState k c e.1 = 1 || step) &&
        (lanesOf e.2).all (fun l => (v.thread l).wait = .none || (conv && (v.thread l).wait = .conv))
    | none => false)

/-- What an instruction came to in one lane. -/
inductive LaneOut where
  | ok (t : Thread)
  | fault (f : TFault)
  deriving DecidableEq, Repr

/-- One lane's result: slot, lane, outcome. -/
abbrev LaneRes := Nat × Nat × LaneOut

/-- Every lane of a set in order, slot by slot. -/
def State.perLane (s : State) (k c : Nat) (set : List (Nat × Nat)) (f : State → Nat → Nat → Group → Thread → State × LaneOut) :
    State × List LaneRes :=
  (set.flatMap (fun e => (lanesOf e.2).map (fun l => (e.1, l)))).foldl (fun (r : State × List LaneRes) e =>
    match r.1.group k c e.1 with
    | none => r
    | some v =>
      let (s, o) := f r.1 e.1 e.2 v (v.thread e.2)
      (s, r.2 ++ [(e.1, e.2, o)])) (s, [])

/-- A packed set separates. -/
def State.unpack (s : State) (k c : Nat) (set : List (Nat × Nat)) : State :=
  s.modCore k c (fun x => { x with packs := x.packs.filter (fun p => !p.any (fun e => set.any (fun d => d.1 = e.1 && d.2 &&& e.2 ≠ 0))) })

/-- The distinct members of a list, in order of first appearance. -/
def distinct {α : Type} [DecidableEq α] (l : List α) : List α := l.foldl (fun a x => if a.contains x then a else a ++ [x]) []

/-- A subgroup of a group after an instruction: its live threads part by next address, a fault apart, and by SPINNING when
some of them have just become SPINNING and others are not, which zeroes their spin counters (R310, R324, R325). The answer says
whether it split for spinning. -/
def Group.regroup (old v : Group) (m faulted : Nat) : Group × Bool :=
  let live := (lanesOf m).filter (fun l => !(v.thread l).ended)
  let fresh := live.any (fun l => (v.thread l).spinning && !(old.thread l).spinning)
  let splitSpin := fresh && live.any (fun l => !(v.thread l).spinning)
  let addr (l : Nat) : Nat × Bool := ((v.thread l).pc, faulted.testBit l)
  let key (l : Nat) : (Nat × Bool) × Bool := (addr l, splitSpin && (v.thread l).spinning)
  let parts := (distinct (live.map key)).map (fun k => (live.filter (fun l => key l = k)).foldl (fun a l => a + laneBit l) 0)
  let v := if splitSpin then live.foldl (fun (v : Group) l => v.setThread l { v.thread l with spin := 0 }) v else v
  ({ v with subs := v.subs.filter (· ≠ m) ++ parts }, splitSpin)

/-- Where the live lanes of a set stand after an instruction: their next address, and whether they fault (R310). -/
def State.standing (s : State) (k c : Nat) (set : List (Nat × Nat)) (rs : List LaneRes) : List (Nat × Bool) :=
  set.flatMap (fun e => match s.group k c e.1 with
    | some v => ((lanesOf e.2).filter (fun l => !(v.thread l).ended)).map (fun l =>
        ((v.thread l).pc, rs.any (fun r => r.1 = e.1 && r.2.1 = l && (match r.2.2 with | .fault _ => true | .ok _ => false))))
    | none => [])

/-- An instruction has issued for a set: threads take their results, the set splits and packs again, counters advance (a set that
goes on at several addresses has split once, R338), and groups with a faulting lane fault. -/
def State.retire (s : State) (k c : Nat) (set : List (Nat × Nat)) (rs : List LaneRes) : State :=
  let s := set.foldl (fun s e => s.dropWalkEnds (unitGroup k c e.1)) (s.unpack k c set)
  let s := s.modCore k c (fun x =>
    { x with conv := x.conv.filter (fun e => !set.any (fun d => d.1 = e.1 && d.2 &&& e.2.1 ≠ 0)), turns := x.turns + 1 })
  let oks := rs.filter (fun r => match r.2.2 with | .ok _ => true | .fault _ => false)
  let s := (s.bump (tcCnt k c 0) 1).bump (tcCnt k c 1) oks.length
  let (s, spin) := set.foldl (fun (a : State × Bool) e =>
    match a.1.group k c e.1 with
    | none => a
    | some old =>
      let v := rs.foldl (fun (v : Group) r => match r.2.2 with
        | .ok t => if r.1 = e.1 then v.setThread r.2.1 { t with instret := t.instret + 1 } else v
        | .fault _ => v) old
      let bad := rs.foldl (fun m r => match r.2.2 with | .fault _ => if r.1 = e.1 then m + laneBit r.2.1 else m | .ok _ => m) 0
      let (v, p) := old.regroup v e.2 bad
      (a.1.setGroup k c e.1 v, a.2 || p)) (s, false)
  let s := if 2 ≤ (distinct (s.standing k c set rs)).length then s.bump (tcCnt k c 2) 1 else s
  let s := if spin then s.bump (tcCnt k c 4) 1 else s
  let faulted := rs.any (fun r => match r.2.2 with | .fault _ => true | .ok _ => false)
  let anySpin := set.any (fun e => match s.group k c e.1 with
    | some v => (lanesOf e.2).any (fun l => (v.thread l).spinning) | none => false)
  let s :=
    if set.length < 2 || faulted || anySpin then s
    else
      let at' (e : Nat × Nat) : List (Nat × Nat × Nat) := match s.group k c e.1 with
        | some v => (v.subs.filter (fun m => m &&& e.2 ≠ 0)).map (fun m => ((v.thread ((lowestBit m 32).getD 0)).pc, e.1, m))
        | none => []
      let all := set.flatMap at'
      let packs := ((distinct (all.map (·.1))).map (fun pc => (all.filter (fun x => x.1 = pc)).map (fun x => (x.2.1, x.2.2)))).filter
        (fun p => 2 ≤ p.length)
      s.modCore k c (fun x => { x with packs := x.packs ++ packs })
  set.foldl (fun s e =>
    match rs.find? (fun r => r.1 = e.1 && (match r.2.2 with | .fault _ => true | .ok _ => false)) with
    | some (_, l, .fault f) =>
      match s.group k c e.1 with
      | some v => s.groupFault k c e.1 l (v.thread l).pc f
      | none => s
    | _ => s) s

/-! Accesses of memory. -/

/-- Address, size, access and direction of a memory instruction in a thread. -/
def memArgs (kind : TKind) (w : Nat) (t : Thread) : Nat × Nat × AccessKind × Bool :=
  let a := t.xr (Rv.rs1 w)
  match kind with
  | .load => (eaOf a (Rv.immI w), 2 ^ (Rv.f3 w % 4), .read, false)
  | .store => (eaOf a (Rv.immS w), 2 ^ Rv.f3 w, .write, true)
  | .ldaq => (a, if bit (Rv.imm w) 3 then 8 else 4, .read, false)
  | .strl => (a, if bit (Rv.f7 w) 3 then 8 else 4, .write, true)
  | .lr => (a, 2 ^ Rv.f3 w, .atomic, false)
  | _ => (a, 2 ^ Rv.f3 w, .atomic, true)

/-- The scope that a memory or ordering instruction names, 5 for those of RV64. -/
def scopeOf (kind : TKind) (w : Nat) : Nat :=
  match kind with
  | .ldaq | .gfence => Rv.imm w % 8
  | .strl => Rv.f7 w % 8
  | .sig | .gwait => Rv.f7 w / 4
  | .fence => 5
  | .sc | .lr | .amo => if Rv.f7 w % 4 = 0 then 0 else 5
  | _ => 0

/-- The instruction waits for its threads' earlier accesses: a release at cluster scope or wider (R395). -/
def releases (kind : TKind) (w : Nat) : Bool :=
  match kind with
  | .fence | .fenceI => true
  | .gfence | .strl | .sig => 2 ≤ scopeOf kind w
  | .sc | .lr | .amo => Rv.f7 w % 2 = 1
  | _ => false

/-- The instruction acquires at cluster scope or wider: the core's L1 goes (R395). -/
def acquires (kind : TKind) (w : Nat) : Bool :=
  match kind with
  | .fence => true
  | .gfence | .ldaq => 2 ≤ scopeOf kind w
  | .sc | .lr | .amo => Rv.f7 w / 2 % 2 = 1
  | _ => false

/-- Every lane's access translated and judged; none when one of them must wait, whose walk then goes on. -/
def State.reachAll (s : State) (k c : Nat) (set : List (Nat × Nat)) (kind : TKind) (w : Nat) :
    State × Option (List (Nat × Nat × Nat × Reach)) :=
  (set.flatMap (fun e => (lanesOf e.2).map (fun l => (e.1, l)))).foldl
    (fun (r : State × Option (List (Nat × Nat × Nat × Reach))) e =>
      match r.2, r.1.group k c e.1 with
      | some rs, some v =>
        let (ea, size, acc, wr) := memArgs kind w (v.thread e.2)
        match r.1.reach k c e.1 v ea size acc wr with
        | (_, .wait) => ((s.reach k c e.1 v ea size acc wr).1, none)
        | (s, x) => (s, some (rs ++ [(e.1, e.2, ea, x)]))
      | _, _ => (r.1, none)) (s, some [])

/-- An access performed at once at its home may begin (R315): no request of its core meets its lines, no host copy is awaited, the
links on its way carry traffic, and no tile holds a scratchpad byte that it writes; a held one stalls as any write does (R155). -/
def State.homesClear (s : State) (k c : Nat) (write : Bool) (rs : List (Nat × Nat × Nat × Reach)) (size : Nat) : State × Bool :=
  rs.foldl (fun (a : State × Bool) r =>
    match r.2.2.2 with
    | .at pa _ =>
      let s := a.1
      if s.coreMeets k c (pa / 128) || !s.crosses (.thread k c r.1 r.2.1) pa then (s, false)
      else
        match windowOf pa with
        | (.scratch cl, o) =>
          let who := Issuer.thread k c r.1 r.2.1
          match s.holder cl o size who, s.group k c r.1 with
          | some e, some v =>
            if !write || s.comp.given.contains who then a
            else
              let w : Stall := { who := who, owner := v.owner, item := 0, cl := cl, eng := e, chunks := [[(pa, [], false)]] }
              (if s.stalled who then s else { s with comp := { s.comp with stalls := s.comp.stalls ++ [w] } }, false)
          | some _, none => (s, false)
          | none, _ => a
        | (.lntBuf _, _) => a
        | _ =>
          let (s, ok) := s.clearLines pa size write
          (s, a.2 && ok && (match s.homeKey pa with | some key => s.missRoom key pa size | none => true))
    | _ => a) (s, true)

/-- A load of one lane (R394): from the L1, or on its way to its home; a window that no cache serves is read at once. A step
waits for its load. -/
def State.laneLoad (s : State) (k c g l : Nat) (v : Group) (t : Thread) (w ea pa : Nat) (e : XEntry) (kind : TKind) (now : Bool) :
    State × LaneOut :=
  let size := (memArgs kind w t).2.1
  let o := if kind = .ldaq then (if size = 8 then 3 else 2) else if Rv.op w = 0x07 then 8 + Rv.f3 w else Rv.f3 w
  let rd := if Rv.op w = 0x07 then Rv.rd w + 32 else Rv.rd w
  let who := Issuer.thread k c g l
  let win := (windowOf pa).1
  let mem := win.isTier || (match win with | .pinned .. => true | _ => false)
  let sp := match win with | .scratch _ => true | _ => false
  let cached := mem && leafRed e.leaf = 0 && leafPolicy e.leaf ≠ 2
  let done (s : State) (bs : List Byte) : State × LaneOut :=
    if now then (s, .ok (t.setReg rd (loadValue o bs)).next)
    else (s, .ok { t.next with loads := if rd = 0 then t.loads else t.loads ++ [{ rd := rd, value := loadValue o bs }] })
  let direct (s : State) : State × LaneOut :=
    match s.physRead pa size who (some v.owner) (leafPolicy e.leaf) e.evict with
    | (s, .ok bs p) => if p then (s, .fault (.poison (pa / 64 * 64))) else done s bs
    | (s, _) => (s, .fault (.plain 9))
  match (if cached then (s.core k c).l1.find? (fun x => x.line = pa / 128) else none) with
  | some x =>
    if x.poison.testBit (pa % 128 / 64) then (s, .fault (.poison (pa / 64 * 64)))
    else
      let s := s.modCore k c (fun y => { y with l1 := x :: y.l1.erase x })
      done s ((x.bytes.drop (pa % 128)).take size)
  | none =>
    if now || !(mem || sp) || acquires kind w then direct s
    else
      let r : HomeReq := { who := who, owner := v.owner, kind := .read, pa := pa, len := size, bytes := [], policy := leafPolicy e.leaf,
                           red := 0, rd := rd, op := o, l1 := cached, evict := e.evict, va := ea % 2 ^ 57, pc := t.pc,
                           crit := leafCrit e.leaf }
      (s.fly r, .ok t.next)

/-- A store of one lane (R394): the L1's line is updated and the write goes to its home. -/
def State.laneStore (s : State) (k c g l : Nat) (v : Group) (t : Thread) (w ea pa : Nat) (e : XEntry) (kind : TKind) : State × LaneOut :=
  let size := (memArgs kind w t).2.1
  let x := if Rv.op w = 0x27 then t.fr (Rv.rs2 w) else t.xr (Rv.rs2 w)
  let bs := leBytes size x
  let who := Issuer.thread k c g l
  let win := (windowOf pa).1
  let mem := win.isTier || (match win with | .pinned .. => true | _ => false)
  let sp := match win with | .scratch _ => true | _ => false
  if mem || sp then
    let red := leafRed e.leaf
    let s := if red = 0 then s.storeL1 k c pa bs else s
    let r : HomeReq := { who := who, owner := v.owner, kind := if red = 0 then .write else .reduce, pa := pa, len := size, bytes := bs,
                         policy := leafPolicy e.leaf, red := red, rd := 0, op := 0, l1 := false, evict := e.evict, va := ea % 2 ^ 57,
                         pc := t.pc }
    (s.fly r, .ok t.next)
  else
    match s.physWrite pa bs false who v.owner (leafPolicy e.leaf) e.evict with
    | (s, .fault) => (s, .fault (.plain 9))
    | (s, _) => (s, .ok t.next)

/-- A failed atomic attempt (R324). -/
def Thread.failed (t : Thread) (va : Nat) : Thread :=
  let n := if t.lastAt = some va then min 127 (t.spin + 1) else 1
  { t with spin := n, spinning := t.spinning || 64 ≤ n, lastAt := some va }

/-- A successful SC or a changing AMO (R324). -/
def Thread.succeeded (t : Thread) (va : Nat) : Thread := { t with spin := 0, spinning := false, lastAt := some va }

/-- LR, SC or AMO of one lane at its home (R315, R324, R344). One whose write was abandoned at a hold writes nothing (R156): the SC
fails, and the AMO returns what it read (log entry 170). -/
def State.laneAtomic (s : State) (k c g l : Nat) (v : Group) (t : Thread) (w ea pa : Nat) (e : XEntry) (kind : TKind) : State × LaneOut :=
  let size := 2 ^ Rv.f3 w
  let who := Issuer.thread k c g l
  let va := ea % 2 ^ 57
  let s := s.dropL1 k c (pa / 128)
  let pol := leafPolicy e.leaf
  let signed (n : Nat) : Nat := Machine.ofInt 64 (sext (8 * size) n)
  let unreserve (s : State) : State := { s with resv := s.resv.filter (fun r => r.who ≠ who) }
  let given := s.comp.given.contains who
  let s := { s with comp := { s.comp with given := s.comp.given.filter (· ≠ who) } }
  match kind with
  | .sc =>
    let held := !given && s.resv.any (fun r => r.who = who && r.line = pa / 128)
    let s := unreserve s
    if held then
      let (s, _) := s.physWrite pa (leBytes size (t.xr (Rv.rs2 w))) false who v.owner pol e.evict
      (s, .ok ((t.succeeded va).setReg (Rv.rd w) 0).next)
    else (s, .ok ((t.failed va).setReg (Rv.rd w) 1).next)
  | _ =>
    match s.physRead pa size who (some v.owner) pol e.evict with
    | (s, .ok bs p) =>
      if p then (s, .fault (.poison (pa / 64 * 64)))
      else
        let old := leNat bs
        if kind = .lr then
          let s := unreserve s
          ({ s with resv := s.resv ++ [{ who := who, line := pa / 128, va := va }] },
           .ok ({ t with lastAt := some va }.setReg (Rv.rd w) (signed old)).next)
        else
          let new := amoResult (Rv.f7 w / 4) (8 * size) old (t.xr (Rv.rs2 w))
          let s := if given then s else (s.physWrite pa (leBytes size new) false who v.owner pol e.evict).1
          let t := if new = old || given then t.failed va else t.succeeded va
          (s, .ok (t.setReg (Rv.rd w) (signed old)).next)
    | (s, _) => (s, .fault (.plain 9))

/-! Barriers (R322). -/

/-- BAR_MASK and BAR_ARRIVED of an instance (R337). -/
def State.showBar (s : State) (k c g : Nat) (v : Group) (b : BarInst) : State :=
  s.setFlds (A.tcGroup2 k c g) [(F.tcGroup2_BAR_MASK, b.mask), (F.tcGroup2_BAR_ARRIVED, (b.arrived ||| v.mask (·.ended)) &&& b.mask)]

/-- The group's most recent instance is shown, no other. -/
def State.showRecent (s : State) (k c g id : Nat) (v : Group) (b : BarInst) : State :=
  if v.recent = id then s.showBar k c g v b else s

/-- Threads that stand at one address merge into one subgroup, address by address. -/
def Group.merge (v : Group) (m : Nat) : Group :=
  let ls := lanesOf m
  let parts := (distinct (ls.map (fun l => (v.thread l).pc))).map (fun pc =>
    (ls.filter (fun l => (v.thread l).pc = pc)).foldl (fun a l => a + laneBit l) 0)
  { v with subs := ((v.subs.map (fun u => u &&& (m ^^^ (2 ^ 32 - 1)))).filter (· ≠ 0)) ++ parts }

/-- An instance whose lanes have all arrived or ended completes: the waiting threads go on; the answer has them as a mask. -/
def Group.barDone (v : Group) (id : Nat) : Group × Nat :=
  match Assoc.get? v.bars id with
  | none => (v, 0)
  | some b =>
    if b.mask &&& ((b.arrived ||| v.mask (·.ended)) ^^^ (2 ^ 32 - 1)) ≠ 0 then (v, 0)
    else
      let m := v.mask (fun t => t.wait = .bar id)
      ({ v with bars := Assoc.del v.bars id,
                threads := v.threads.map (fun t => if t.wait = .bar id then { t with wait := .none } else t) }, m)

/-- GBAR by a subgroup, lane by lane: arrivals, mismatches, completions. -/
def State.barrier (s : State) (k c g m w : Nat) : State :=
  match s.group k c g with
  | none => s
  | some v0 =>
    let id := Rv.imm w % 4
    let go (a : State × Group × List LaneRes × List Nat) (l : Nat) : State × Group × List LaneRes × List Nat :=
      let (s, v, rs, ms) := a
      let t := v.thread l
      let mask := if Rv.rs1 w = 0 then t.cmask else t.xr (Rv.rs1 w) % 2 ^ 32
      let arrive (b : BarInst) : State × Group × List LaneRes × List Nat :=
        let b := { b with arrived := b.arrived ||| laneBit l }
        let v := v.setThread l { t.next with wait := .bar id }
        let new := (Assoc.get? v.bars id).isNone
        let v := { v with bars := Assoc.set v.bars id b, recent := if new then id else v.recent,
                          timers := if new then Assoc.set v.timers (32 + id) s.now else v.timers }
        let s := s.showRecent k c g id v b
        let (v, done) := v.barDone id
        (s, v, rs ++ [(g, l, .ok (v.thread l))], if done = 0 then ms else ms ++ [done])
      match Assoc.get? v.bars id with
      | none => arrive { mask := mask, arrived := 0 }
      | some b =>
        if b.mask ≠ mask || !mask.testBit l then (s, v, rs ++ [(g, l, .fault (.plain 5))], ms) else arrive b
    let (s, v, rs, ms) := (lanesOf m).foldl go (s, v0, [], [])
    let s := s.modCore k c (fun x => { x with slots := Assoc.set x.slots g { v with threads := v0.threads } })
    let rs := rs.map (fun r => match r.2.2 with | .ok _ => (r.1, r.2.1, LaneOut.ok (v.thread r.2.1)) | .fault f => (r.1, r.2.1, .fault f))
    let woken := ms.foldl (· ||| ·) 0
    let s := match s.group k c g with
      | some x => s.setGroup k c g ((lanesOf (woken &&& (m ^^^ (2 ^ 32 - 1)))).foldl (fun (x : Group) l => x.setThread l (v.thread l)) x)
      | none => s
    let s := s.retire k c [(g, m)] rs
    match s.group k c g with
    | some x => s.setGroup k c g (ms.foldl (fun (x : Group) u => x.merge u) x)
    | none => s

/-- Instances that an exit completes. -/
def State.settleBars (s : State) (k c g : Nat) : State :=
  [0, 1, 2, 3].foldl (fun s id =>
    match s.group k c g with
    | some v =>
      match Assoc.get? v.bars id with
      | some b =>
        let s := s.showRecent k c g id v b
        let (v, m) := v.barDone id
        if m = 0 then s.setGroup k c g v else s.setGroup k c g (v.merge m)
      | none => s
    | none => s) s

/-! Convergence (R311, R312). -/

/-- A subgroup u of a group keeps one that stands at a GCONV at an address from issuing. -/
def Group.holdsConv (v : Group) (a u : Nat) : Bool :=
  let ls := lanesOf u
  let t := v.thread (ls.headD 0)
  let waits := ls.any (fun l => match (v.thread l).wait with | .bar _ => true | .gwait .. => true | _ => false)
  if waits || ls.all (fun l => (v.thread l).spinning) then false
  else if t.wait = .conv then decide (t.pc < a)
  else t.pc ≠ a

/-- A subgroup stands at an address and may merge there. -/
def Group.standsAt (v : Group) (a u : Nat) : Bool :=
  (lanesOf u).all (fun l => let t := v.thread l; t.pc = a && (t.wait = .none || t.wait = .conv))

/-- The other slots' subgroups that may be packed with one that has just issued a GCONV (R312), of the slots offered. -/
def State.packMates (s : State) (k c g m a launch : Nat) (offered : List Nat) : List (Nat × Nat) :=
  (offered.foldl (fun (r : List (Nat × Nat) × Nat) o =>
    match (s.core k c).conv.find? (fun e => e.1 = o && e.2.2 = a), s.group k c o with
    | some (_, u, _), some v =>
      if o ≠ g && u &&& r.2 = 0 && v.launch = launch && v.subs.contains u && s.slotState k c o = 1
          && F.tcDieCfg_REPACK_EN.get v.cfg = 1 && !(s.core k c).packs.any (fun p => p.any (fun d => d.1 = o && d.2 &&& u ≠ 0)) then
        (r.1 ++ [(o, u)], r.2 ||| u)
      else r
    | _, _ => r) ([], m)).1

/-- GCONV by a subgroup: it waits, or every subgroup of its group at the address merges and issues it. -/
def State.converge (s : State) (k c g m : Nat) (force : Bool) (pack : List Nat) : State :=
  match s.group k c g with
  | none => s
  | some v =>
    let a := (v.thread ((lanesOf m).headD 0)).pc
    let v := (lanesOf m).foldl (fun (v : Group) l =>
      let w := v.setThread l { v.thread l with wait := .conv }
      if (v.thread l).wait = .conv then w else { w with timers := Assoc.set w.timers l s.now }) v
    if !force && v.subs.any (fun u => u ≠ m && v.holdsConv a u) then s.setGroup k c g v
    else
      let subs := v.subs.filter (fun u => u = m || v.standsAt a u)
      let mm := subs.foldl (· ||| ·) 0
      let s := s.unpack k c [(g, mm)]
      let v := (lanesOf mm).foldl (fun (v : Group) l =>
        let t := v.thread l
        v.setThread l { t.next with cmask := mm, spin := 0, spinning := false, wait := .none, instret := t.instret + 1 }) v
      let s := s.setGroup k c g { v with subs := v.subs.filter (fun u => u &&& mm = 0) ++ [mm] }
      let s := (s.bump (tcCnt k c 0) 1).bump (tcCnt k c 1) (lanesOf mm).length
      let s := s.modCore k c (fun x =>
        { x with conv := x.conv.filter (fun e => !(e.1 = g && e.2.1 &&& mm ≠ 0)) ++ [(g, mm, a)], turns := x.turns + 1 })
      let mates := if F.tcDieCfg_REPACK_EN.get v.cfg = 1 then s.packMates k c g mm a v.launch pack else []
      if mates.isEmpty then s
      else
        let set := (List.range 8).flatMap (fun o => ((g, mm) :: mates).filter (fun e => e.1 = o))
        (s.modCore k c (fun x => { x with packs := x.packs ++ [set] })).bump (tcCnt k c 3) 1

/-! Engines (R169, R170, R296, R320, R321). -/

/-- A port's answer noted in MXE_PORT. -/
def State.notePort (s : State) (k e st : Nat) : State :=
  let a := A.mxePort k e
  let s := s.setFld a F.mxePort_LAST_STATUS st
  if st = 0 then s.bumpFld a F.mxePort_ISSUES 1 else s.bumpFld a F.mxePort_REFUSED 1

/-- MXISSUE of one lane: its port status. -/
def State.laneMx (s : State) (k c g l : Nat) (v : Group) (m off : Nat) : State × Nat :=
  match s.physEngine k (4 * (c / 16) + m) with
  | none => (s, 2)
  | some e =>
    let a := A.mxePort k e
    let mine := s.engineLent k e && s.flag a F.mxePort_OWNER_VALID && s.fld a F.mxePort_OWNER_TC = c % 16
      && s.fld a F.mxePort_OWNER_GROUP = g && s.fld a F.mxePort_OWNER_THREAD = l && decide (v.owner.ctx = s.beamCtx k)
    if !mine || s.mxeFenced k e then (s.notePort k e 2, 2)
    else if 4 ≤ (s.tilesOf k e).length then (s.notePort k e 1, 1)
    else if off % 64 ≠ 0 || spBytes ≤ off then (s.notePort k e 3, 3)
    else
      let pa := spBase (threadCluster k c) + off
      let s := s.spFind pa 64 (.engine k e) (some v.owner)
      let d : TileDesc := { w := s.rdWords pa 8 }
      if s.poisoned pa 64 || !s.descOk k v.owner.ctx d then (s.notePort k e 3, 3)
      else ((s.acceptTile k e d (.port c g l) v.owner v.index).notePort k e 0, 0)

/-- VXISSUE of one lane: its port status. -/
def State.laneVx (s : State) (k c g l : Nat) (v : Group) (x lo hi : Nat) (long : Bool) : State × Nat :=
  let j := c / 16
  let e := 2 * j + x
  let mine := s.flag (A.vxeStatus k e) F.vxeStatus_LENT && decide (v.owner.ctx = s.beamCtx k)
    && (s.beam k).lends.any (fun d => d.cl = j && d.vx.testBit x && d.tc = c % 16 && d.grp = g && d.thr = l)
  let say (s : State) (st : Nat) : State × Nat := (s.setFld (A.vxeStatus k e) F.vxeStatus_LAST_PORT st, st)
  if !mine || s.vxeFenced k e then say s 2
  else
    let cs := s.chainsOf k e
    let opc := lo / 2 % 128
    let closes := 0x08 ≤ opc && opc ≤ 0x0C
    if ((openChain cs).isNone && 2 ≤ buffersUsed cs) || (closes && (streaming cs).isSome) then say s 1
    else if long ≠ bit lo 0 then say s 3
    else
      match s.vxeFetch k e lo hi with
      | (s, some i) =>
        let ins := match openChain cs with | some ch => ch.ins | none => []
        let objOk := i.opc ≠ 0x30 || s.objBoundTo (i.imm32 % 65536) v.owner.ctx
        if chainAccepts ins i false && objOk then say (s.vxeRecord k e i (.port c g l) v.owner v.index) 0 else say s 3
      | (s, none) => say s 3

/-! Signals and waits (R314, R513). -/

/-- GSIG of one lane at its object's home. -/
def State.laneSig (s : State) (k c g l : Nat) (v : Group) (t : Thread) (w : Nat) : State × LaneOut :=
  let obj := t.xr (Rv.rs1 w) % 65536
  let value := t.xr (Rv.rs2 w)
  let o := Rv.f7 w % 4
  let n := if o = 2 then value else value % 2 ^ 32
  let x : SynOp := { who := .thread k c g l, ctx := some v.owner.ctx, obj := obj, op := o, value := n, owner := some v.owner, seq := 0 }
  if s.board.towerRst.any (fun e => e.1 = objTower obj) then
    ({ s with syn := { s.syn with deferred := s.syn.deferred ++ [x] } }, .ok t.next)
  else if !s.reachesObj x.who obj then ({ s with syn := { s.syn with flying := s.syn.flying ++ [x] } }, .ok t.next)
  else
    match s.objOp (some v.owner.ctx) obj o n with
    | (s, true) => (s, .ok t.next)
    | (s, false) => (s, .fault (.plain 13))

/-- GWAIT of one lane: its wait begins, or the home refuses it. -/
def State.laneWait (s : State) (k c g l : Nat) (v : Group) (t : Thread) (w : Nat) : State × LaneOut :=
  let obj := t.xr (Rv.rs1 w) % 65536
  let cond := Rv.f7 w % 4
  if s.objBoundTo obj v.owner.ctx && condAccepted (s.objType obj) cond then
    (s.beginWait (.thread k c g l) v.owner.ctx obj cond (t.xr (Rv.rs2 w) % 2 ^ 32),
     .ok { t.next with wait := .gwait (Rv.rd w) (Rv.f7 w / 4) })
  else (s.opRefused obj, .fault (.plain 13))

/-! One instruction of one issue set. -/

/-- What an event adds to an issue: a cycle count, the slots offered for packing, retries of an atomic, whether it is a
debugger's step, whether a GCONV no longer waits. -/
structure IssueArgs where
  cycle   : Nat := 0
  pack    : List Nat := []
  retries : Nat := 0
  step    : Bool := false
  force   : Bool := false
  deriving DecidableEq, Repr

/-- A load on its way to a register of a thread, or to be put into it. -/
def State.regBusy (s : State) (k c g l : Nat) (t : Thread) (w : Nat) : Bool :=
  let us := (rvUses w).filter (· ≠ 0)
  t.loads.any (fun b => us.contains b.rd) ||
  s.requests.any (fun r => r.who = .thread k c g l && r.kind = .read && us.contains r.rd)

/-- Instructions before which a packed set separates (R312). -/
def separates (kind : TKind) : Bool :=
  match kind with | .conv | .bar | .gwait | .vote | .shfl | .fmma => true | _ => false

/-- Group instructions and RV64 instructions that do not access memory, lane by lane. -/
def State.laneOther (s : State) (k c g l : Nat) (v : Group) (t : Thread) (m w : Nat) (kind : TKind) (x : IssueArgs) : State × LaneOut :=
  let put (n : Nat) : State × LaneOut := (s, .ok (t.setReg (Rv.rd w) n).next)
  let back (r : State × Nat) : State × LaneOut :=
    if x.step then (r.1, .ok (t.setReg (Rv.rd w) r.2).next)
    else (r.1, .ok { t.next with loads := if Rv.rd w = 0 then t.loads else t.loads ++ [{ rd := Rv.rd w, value := r.2 }] })
  let a := t.xr (Rv.rs1 w)
  let b := t.xr (Rv.rs2 w)
  match kind with
  | .csr => (s, .ok (rvCsr w x.cycle (s.now / 2) t))
  | .ecall => (s, .fault (.plain 12))
  | .ebreak => (s, .fault (.plain 3))
  | .spin => (s, .ok { t.next with spinning := true })
  | .vote =>
    let ballot := (lanesOf m).foldl (fun n i => if (v.thread i).xr (Rv.rs1 w) ≠ 0 then n + laneBit i else n) 0
    put (match Rv.f7 w with | 0 => ballot | 1 => b2n (ballot ≠ 0) | _ => b2n (ballot = m))
  | .shfl =>
    let src : Option Nat := match Rv.f7 w with
      | 0 => some (b % 32)
      | 1 => some (l ^^^ (b % 32))
      | 2 => if b ≤ l then some (l - b) else none
      | _ => some (l + b)
    put (match src with | some i => if i < 32 && m.testBit i then (v.thread i).xr (Rv.rs1 w) else a | none => a)
  | .gid => put (match Rv.imm w with
      | 0 => l | 1 => g | 2 => c % 16 | 3 => c / 16 | 4 => k | 5 => v.index | 6 => t.cmask | 7 => m | 8 => v.arg.toNat | _ => v.owner.ctx)
  | .exit => (s, .ok { t with ended := true, spinning := false })
  | .sig => s.laneSig k c g l v t w
  | .gwait => s.laneWait k c g l v t w
  | .mx => back (s.laneMx k c g l v (Rv.f7 w) a)
  | .vx => back (s.laneVx k c g l v (Rv.f7 w % 2) a b (bit (Rv.f7 w) 1))
  | .fence | .fenceI | .gfence => (s, .ok t.next)
  | _ =>
    if (rvKind w t.frm).isNone then (s, .fault (.plain 6))
    else match rvPlain w t with | .ok t => (s, .ok t) | .fault n => (s, .fault (.plain n))

/-- A memory instruction of a set, fetched in going from s0 to s. One that must wait leaves s0 with the walk, recall or stall that it
began. -/
def State.issueMem (s0 s : State) (k c : Nat) (set : List (Nat × Nat)) (w : Nat) (kind : TKind) (x : IssueArgs) : State :=
  match s.reachAll k c set kind w with
  | (_, none) => (s0.reachAll k c set kind w).1
  | (s, some rs) =>
    let atomic := kind = .lr || kind = .sc || kind = .amo
    let direct := atomic || (kind = .ldaq && acquires kind w) || x.step
    let size := match set with | e :: _ => (match s.group k c e.1 with | some v => (memArgs kind w (v.thread 0)).2.1 | none => 8) | [] => 8
    let apart (r : Nat × Nat × Nat × Reach) : Bool := match r.2.2.2 with
      | .at pa _ => (match windowOf pa with | (.lntBuf _, _) | (.pcie _, _) => !s.crosses (.thread k c r.1 r.2.1) pa | _ => false)
      | _ => false
    let (s, ok) := if direct then s.homesClear k c (atomic && kind ≠ .lr) rs size else (s, !rs.any apart)
    if !ok then (if direct then (s0.homesClear k c (atomic && kind ≠ .lr) rs size).1 else s0)
    else
      let s := if kind = .ldaq && acquires kind w then s.clearL1 k c else s
      let (s, out) := s.perLane k c set (fun s g l v t =>
        match rs.find? (fun r => r.1 = g && r.2.1 = l) with
        | some (_, _, ea, .at pa e) =>
          if atomic then s.laneAtomic k c g l v t w ea pa e kind
          else if kind = .load || kind = .ldaq then s.laneLoad k c g l v t w ea pa e kind x.step
          else s.laneStore k c g l v t w ea pa e kind
        | some (_, _, _, .fault f) => (s, .fault f)
        | _ => (s, .ok t))
      let s := if acquires kind w then s.clearL1 k c else s
      let sp := rs.find? (fun r => match r.2.2.2 with | .at pa _ => (match windowOf pa with | (.scratch _, _) => true | _ => false) | _ => false)
      let s := match kind, sp with
        | .amo, some (_, _, _, .at pa _) =>
          let m := (pa - spBase 0) / 0x2000000
          s.bump (A.tcSpCntAmoRetry (m / 4) (m % 4)) x.retries
        | _, _ => s
      s.retire k c set out

/-- FMMA (R316 to R319). -/
def State.issueFmma (s : State) (k c g m w : Nat) : State :=
  match s.group k c g with
  | none => s
  | some v =>
    if m ≠ 2 ^ 32 - 1 || v.mask (·.ended) ≠ 0 then
      s.retire k c [(g, m)] ((lanesOf m).map (fun l => (g, l, .fault (.plain 11))))
    else
      let ts := fragMma w v.threads
      (s.retire k c [(g, m)] ((List.range 32).map (fun l => (g, l, .ok (ts.getD l default))))).bump (tcCnt k c 5) 1

/-- The exit of threads: the last one of a group frees its slot (R306), once its stores are at their homes. -/
def State.issueExit (s0 s : State) (k c : Nat) (set : List (Nat × Nat)) (x : IssueArgs) : State :=
  let last := set.any (fun e => match s.group k c e.1 with
    | some v => v.mask (fun t => !t.ended) &&& (e.2 ^^^ (2 ^ 32 - 1)) = 0 && s.outstanding (fun w => w.inGroup k c e.1)
    | none => false)
  if last then s0
  else
    let (s, out) := s.perLane k c set (fun s g l v t => s.laneOther k c g l v t 0 0 .exit x)
    let s := s.retire k c set out
    set.foldl (fun s e =>
      let s := s.settleBars k c e.1
      match s.group k c e.1 with
      | some v => if v.threads.all (·.ended) then s.endGroup k c e.1 else s
      | none => s) s

/-- EBREAK with debug access open: the group is HALTED with CAUSE EBREAK, also when a step issued it (R327, R331). -/
def State.breakGroup (s : State) (k c g : Nat) : State :=
  let s := (s.haltGroup k c g 3).standTimers k c g
  (s.setFlds (A.tcGroup0 k c g) [(F.tcGroup0_STATE, 2), (F.tcGroup0_CAUSE, 3)]).showCore k c

/-- The set that holds a lane issues its next instruction when that is of a wanted row (R307): what cannot issue now leaves
the state as it is. -/
def State.issueNow (s0 : State) (k c g lane : Nat) (want : TKind → Bool) (x : IssueArgs) : State :=
  let set := s0.issueSet k c g lane
  match s0.group k c g with
  | none => s0
  | some v =>
    if !s0.setReady k c x.step true set then s0
    else
      let all (s : State) (f : TFault) : State :=
        s.retire k c set (set.flatMap (fun e => (lanesOf e.2).map (fun l => (e.1, l, .fault f))))
      match s0.fetch k c g v (v.thread lane).pc with
      | (s, .wait) => s
      | (s, .fault f) => all s f
      | (s, .ok w) =>
        match rvKind w 0 with
        | none => all s (.plain 6)
        | some kind =>
          if !want kind || !s.setReady k c x.step (kind = .conv) set then s0
          else
            let m := match set.find? (fun e => e.1 = g) with | some e => e.2 | none => 0
            let s := if separates kind then s.unpack k c set else s
            let set := if separates kind then [(g, m)] else set
            let busy := set.any (fun e => match s.group k c e.1 with
              | some v => (lanesOf e.2).any (fun l => s.regBusy k c e.1 l (v.thread l) w)
              | none => true)
            let early := releases kind w && set.any (fun e => (lanesOf e.2).any (fun l => s.outstanding (· = .thread k c e.1 l)))
            if busy || early then s0
            else
              match kind with
              | .conv => s.converge k c g m (x.force || x.step) x.pack
              | .bar => s.barrier k c g m w
              | .fmma => s.issueFmma k c g m w
              | .exit => s0.issueExit s k c set x
              | .load | .store | .lr | .sc | .amo | .ldaq | .strl => s0.issueMem s k c set w kind x
              | .ebreak =>
                let dbg (e : Nat × Nat) : Bool := match s.group k c e.1 with | some v => s.debugOpen v.owner.ctx | none => false
                let s := (set.filter dbg).foldl (fun s e => s.breakGroup k c e.1) s
                let set := set.filter (fun e => !dbg e)
                s.retire k c set (set.flatMap (fun e => (lanesOf e.2).map (fun l => (e.1, l, .fault (.plain 3)))))
              | _ =>
                let (s, out) := s.perLane k c set (fun s g l v t =>
                  s.laneOther k c g l v t (match set.find? (fun e => e.1 = g) with | some e => e.2 | none => 0) w kind x)
                let s := if acquires kind w then s.clearL1 k c else s
                s.retire k c set out

/-! The round robin (R308, R309). -/

/-- Registers that an instruction writes. -/
def rvWrites (w : Nat) : List Nat :=
  match Rv.op w with
  | 0x63 | 0x23 | 0x27 => []
  | 0x2B => if Rv.f3 w = 2 then [Rv.rd w, Rv.rd w + 1, Rv.rd w + 2, Rv.rd w + 3] else [Rv.rd w]
  | _ => (rvUses w).take 1

/-- The instruction uses the divider. -/
def divides (w : Nat) : Bool :=
  ((Rv.op w = 0x33 || Rv.op w = 0x3B) && Rv.f7 w = 1 && 4 ≤ Rv.f3 w) || (Rv.op w = 0x53 && (Rv.f7 w / 4 = 3 || Rv.f7 w / 4 = 11))

/-- THREAD cycles after which an instruction's registers are written at the latest (R309). What comes back by an event of its own has
none here; where the table gives no number, only its use shows it. -/
def slowest (kind : TKind) (w : Nat) : Nat :=
  match kind with
  | .alu | .branch =>
    if divides w then (if Rv.op w = 0x53 then 48 else 68)
    else match Rv.op w with
      | 0x33 | 0x3B => if Rv.f7 w = 1 then 6 else 4
      | 0x43 | 0x47 | 0x4B | 0x4F | 0x53 => if Rv.f7 w % 4 = 1 then 10 else 8
      | _ => 4
  | .vote | .shfl | .gid => 6
  | .fmma => 24
  | .lr | .sc | .amo | .ldaq | .csr => 2 ^ 64
  | _ => 0

/-- Subgroups of a core in the order of the round robin (R308): from the group after the one that issued last, and within a group
from the subgroup after the one that issued last in it, by their lowest lanes. -/
def State.turnOrder (s : State) (k c : Nat) : List (Nat × Nat) :=
  let x := s.core k c
  (List.range 8).flatMap (fun i =>
    let g := (x.lastGroup + 1 + i) % 8
    match s.group k c g with
    | none => []
    | some v =>
      let last := Assoc.getD x.lastSub g 31
      ((List.range 32).filterMap (fun j => v.subs.find? (fun m => lowestBit m 32 = some ((last + 1 + j) % 32)))).map (fun m => (g, m)))

/-- The set that holds a lane is ready for certain (R307): it would issue, no register it needs may be late, and the unit that it
needs is free by R309's numbers. -/
def State.sureReady (s : State) (k c g lane : Nat) : Bool :=
  let x := s.core k c
  let set := s.issueSet k c g lane
  match s.group k c g with
  | none => false
  | some v =>
    let free := match (s.fetch k c g v (v.thread lane).pc).2 with
      | .ok w =>
        !x.late.any (fun e => x.turns < e.2.2.2 && set.any (fun d => d.1 = e.1 && d.2 &&& e.2.1 ≠ 0) && e.2.2.1.any (rvUses w).contains)
        && !(divides w && x.turns < x.divFree) && !(rvKind w 0 = some .fmma && x.turns < x.fragFree)
      | _ => true
    free && ((s.issueNow k c g lane (fun _ => true) {}).core k c).turns ≠ x.turns

/-- It is a set's turn: no set that the round robin reaches before it is ready for certain (R308; log entry 202). -/
def State.itsTurn (s : State) (k c : Nat) (set : List (Nat × Nat)) : Bool :=
  !((s.turnOrder k c).takeWhile (fun e => !set.contains e)).any (fun e => s.sureReady k c e.1 ((lowestBit e.2 32).getD 0))

/-- A set of s has issued, which gave t: the core notes whose turn it was, and what of its results may be late. -/
def State.noteTurn (s t : State) (k c g lane : Nat) : State :=
  let set := s.issueSet k c g lane
  let n := (t.core k c).turns
  let met (d : Nat × Nat) (e : Nat × Nat × List Nat × Nat) : Bool := d.1 = e.1 && d.2 &&& e.2.1 ≠ 0
  match (s.turnOrder k c).find? set.contains, s.group k c g with
  | some p, some v =>
    let w := match (s.fetch k c g v (v.thread lane).pc).2 with | .ok w => w | _ => 0
    let kind := (rvKind w 0).getD .store
    let used (e : Nat × Nat × List Nat × Nat) : Bool := set.any (fun d => met d e) && e.2.2.1.any (rvUses w).contains
    let new := (set.filter (fun d => (t.group k c d.1).isSome)).map (fun d => (d.1, d.2, (rvWrites w).filter (· ≠ 0), n + slowest kind w))
    t.modCore k c (fun x =>
      { x with lastGroup := p.1, lastSub := if (t.group k c p.1).isSome then Assoc.set x.lastSub p.1 ((lowestBit p.2 32).getD 0) else x.lastSub,
               late := (x.late.filter (fun e => n < e.2.2.2 && !used e)) ++ new.filter (fun e => n < e.2.2.2 && !e.2.2.1.isEmpty),
               divFree := if divides w then n + slowest kind w else x.divFree,
               fragFree := if kind = .fmma then n + 4 else x.fragFree })
  | _, _ => t

/-- The set that holds a lane issues when it is its turn (R307, R308); a debugger's step waits for no turn (R331). -/
def State.issue (s : State) (k c g lane : Nat) (want : TKind → Bool) (x : IssueArgs) : State :=
  if !x.step && !s.itsTurn k c (s.issueSet k c g lane) then s
  else
    let t := s.issueNow k c g lane want x
    if (t.core k c).turns = (s.core k c).turns then t else s.noteTurn t k c g lane

end Sys2Proof.Machine
end

