-- ==== Sys2Proof/Machine/ThreadRows.lean ====
section
/-! DEFINITION. The rows of thread cores: instructions, returns, timers, placement, the side plane, and the debug commands on
groups (R303 to R332, R342). -/

namespace Sys2Proof.Machine

/-- A thread core exists. -/
def hasCore (k c : Nat) : Bool := k < 4 && c < 64

/-- An instruction row: the set that holds a lane issues, when its next instruction is of the row. -/
def issueRow (k c g lane : Nat) (want : TKind → Bool) (x : IssueArgs) (s : State) : Res :=
  onUnit (hasCore k c && g < 8 && lane < 32) (s.issue k c g lane want x)

/-- A load (R303, R394). -/
def execThreadLoad (k c g lane : Nat) (s : State) : Res := issueRow k c g lane (· = .load) {} s
/-- A store (R394). -/
def execThreadStore (k c g lane : Nat) (s : State) : Res := issueRow k c g lane (· = .store) {} s
/-- A branch or JALR (R310). -/
def execThreadBranch (k c g lane : Nat) (s : State) : Res := issueRow k c g lane (· = .branch) {} s
/-- LR (R315). -/
def execThreadLr (k c g lane : Nat) (s : State) : Res := issueRow k c g lane (· = .lr) {} s
/-- SC (R315, R324). -/
def execThreadSc (k c g lane : Nat) (s : State) : Res := issueRow k c g lane (· = .sc) {} s
/-- FENCE (R303). -/
def execThreadFence (k c g lane : Nat) (s : State) : Res := issueRow k c g lane (· = .fence) {} s
/-- FENCE.I (R303). -/
def execThreadFenceI (k c g lane : Nat) (s : State) : Res := issueRow k c g lane (· = .fenceI) {} s
/-- ECALL (R303). -/
def execThreadEcall (k c g lane : Nat) (s : State) : Res := issueRow k c g lane (· = .ecall) {} s
/-- EBREAK (R327). -/
def execThreadEbreak (k c g lane : Nat) (s : State) : Res := issueRow k c g lane (· = .ebreak) {} s
/-- An integer, multiply, divide or floating-point instruction, or JAL (R303). -/
def execThreadAluFp (k c g lane : Nat) (s : State) : Res := issueRow k c g lane (· = .alu) {} s
/-- GBAR (R322). -/
def execGbar (k c g lane : Nat) (s : State) : Res := issueRow k c g lane (· = .bar) {} s
/-- GSPIN (R324). -/
def execGspin (k c g lane : Nat) (s : State) : Res := issueRow k c g lane (· = .spin) {} s
/-- GVOTE (R314). -/
def execGvote (k c g lane : Nat) (s : State) : Res := issueRow k c g lane (· = .vote) {} s
/-- GSHFL (R314). -/
def execGshfl (k c g lane : Nat) (s : State) : Res := issueRow k c g lane (· = .shfl) {} s
/-- GID (R314). -/
def execGid (k c g lane : Nat) (s : State) : Res := issueRow k c g lane (· = .gid) {} s
/-- GEXIT (R306). -/
def execGexit (k c g lane : Nat) (s : State) : Res := issueRow k c g lane (· = .exit) {} s
/-- GFENCE (R314). -/
def execGfence (k c g lane : Nat) (s : State) : Res := issueRow k c g lane (· = .gfence) {} s
/-- GLDAQ (R314). -/
def execGldaq (k c g lane : Nat) (s : State) : Res := issueRow k c g lane (· = .ldaq) {} s
/-- GSTRL (R314). -/
def execGstrl (k c g lane : Nat) (s : State) : Res := issueRow k c g lane (· = .strl) {} s
/-- GSIG (R314). -/
def execGsig (k c g lane : Nat) (s : State) : Res := issueRow k c g lane (· = .sig) {} s
/-- GWAIT (R314). -/
def execGwait (k c g lane : Nat) (s : State) : Res := issueRow k c g lane (· = .gwait) {} s
/-- MXISSUE (R320). -/
def execMxissue (k c g lane : Nat) (s : State) : Res := issueRow k c g lane (· = .mx) {} s
/-- VXISSUE (R321). -/
def execVxissue (k c g lane : Nat) (s : State) : Res := issueRow k c g lane (· = .vx) {} s
/-- FMMA (R319). -/
def execFmma (k c g lane : Nat) (s : State) : Res := issueRow k c g lane (· = .fmma) {} s
/-- An AMO (R315, R344); retries is what TC_SP_CNT_AMO_RETRY gains. -/
def execThreadAmo (k c g lane retries : Nat) (s : State) : Res := issueRow k c g lane (· = .amo) { retries := retries } s
/-- A CSR access (R303); cycle is the THREAD cycles the core has counted. -/
def execThreadCsrAccess (k c g lane cycle : Nat) (s : State) : Res := issueRow k c g lane (· = .csr) { cycle := cycle } s
/-- GCONV (R311, R312); pack offers slots for packing. -/
def execGconv (k c g lane : Nat) (pack : List Nat) (s : State) : Res := issueRow k c g lane (· = .conv) { pack := pack } s

/-- GCONV_TIMEOUT (R311): a subgroup that stands at a GCONV waits no longer. -/
def execGconvTimeout (k c g lane : Nat) (pack : List Nat) (s : State) : Res :=
  onUnit (hasCore k c && g < 8 && lane < 32)
    (match s.group k c g with
     | some v =>
       if (v.thread lane).wait = .conv && s.slotState k c g = 1 then
         let s := s.notBefore (Assoc.getD v.timers lane 0 + threadTicks (2 ^ F.tcDieCfg_CONV_WAIT_LOG2.get v.cfg))
         let t := s.issue k c g lane (· = .conv) { pack := pack, force := true }
         match t.group k c g with
         | some u => if (u.thread lane).wait = .conv then t else t.bump (tcCnt k c 6) 1
         | none => t
       else s
     | none => s)

/-- THREAD_LOAD_RETURN (R309): the oldest value on its way to a register arrives. -/
def execThreadLoadReturn (k c g lane rd : Nat) (s : State) : Res :=
  onUnit (hasCore k c && g < 8 && lane < 32)
    (match s.group k c g with
     | some v =>
       let t := v.thread lane
       match t.loads.find? (fun b => b.rd = rd) with
       | some b => s.setGroup k c g (v.setThread lane ({ t with loads := t.loads.erase b }.setReg rd b.value))
       | none => s
     | none => s)

/-- GWAIT's end: its register is written, and 0 acquires (R314). -/
def State.endGwait (s : State) (k c g lane value : Nat) : State :=
  match s.group k c g with
  | none => s
  | some v =>
    let t := v.thread lane
    match t.wait with
    | .gwait rd scope =>
      let s := s.endWait (.thread k c g lane)
      let s := s.setGroup k c g (v.setThread lane ({ t with wait := .none }.setReg rd value))
      if value = 0 && 2 ≤ scope then s.clearL1 k c else s
    | _ => s

/-- GWAIT_WAKE (R314, R512). -/
def execGwaitWake (k c g lane : Nat) (s : State) : Res :=
  onUnit (hasCore k c && g < 8 && lane < 32)
    (match s.waitOf (.thread k c g lane) with
     | some w => if w.met && s.slotState k c g = 1 then s.endGwait k c g lane 0 else s
     | none => s)

/-- GWAIT_TIMEOUT (R314). -/
def execGwaitTimeout (k c g lane : Nat) (s : State) : Res :=
  onUnit (hasCore k c && g < 8 && lane < 32)
    (match s.waitOf (.thread k c g lane), s.group k c g with
     | some w, some v =>
       if !w.met && s.slotState k c g = 1 then
         (s.notBefore (w.since + threadTicks (2 ^ F.tcDieCfg_GWAIT_TIMEOUT_LOG2.get v.cfg))).endGwait k c g lane 1
       else s
     | _, _ => s)

/-- BARRIER_STALL (R323): an instance that has not completed in time faults its group. -/
def execBarrierStall (k c g bar : Nat) (s : State) : Res :=
  onUnit (hasCore k c && g < 8 && bar < 4)
    (match s.group k c g with
     | some v =>
       match Assoc.get? v.bars bar with
       | some b =>
         if s.slotState k c g = 1 then
           let s := s.notBefore (Assoc.getD v.timers (32 + bar) 0 + threadTicks (2 ^ F.tcDieCfg_BAR_TIMEOUT_LOG2.get v.cfg))
           let l := (lowestBit (v.mask (fun t => t.wait = .bar bar)) 32).getD 0
           (s.showBar k c g v b).groupFault k c g l (v.thread l).pc (.plain 4)
         else s
       | none => s
     | none => s)

/-! Placement (R304, R305, R697). -/

/-- A fresh thread of lane l of group g of a launch (R305). -/
def freshThread (w : List Nat) (g l : Nat) : Thread :=
  let on := bit (w.getD 5 0) l
  let t : Thread := { x := List.replicate 32 0, f := List.replicate 32 0, fcsr := 0, pc := w.getD 0 0, cmask := bitsOf (w.getD 5 0) 0 32,
                      spin := 0, spinning := false, lastAt := none, ended := !on, instret := 0, wait := .none, loads := [] }
  if on then
    ((t.setReg 2 ((w.getD 2 0 + (32 * g + l + 1) * bitsOf (w.getD 3 0) 0 32) % 2 ^ 64)).setReg 10 (w.getD 1 0)).setReg 11 (32 * g + l)
  else t

/-- A core may take a group of a launch. -/
def State.mayPlace (s : State) (k c : Nat) (v : Launch) : Bool :=
  !s.flag (A.tcStatus k c) F.tcStatus_FENCED && bit (v.w.getD 4 0) (32 + threadCluster k c)
  && !s.foreignCluster (threadCluster k c) v.owner.ctx && !s.eclipse && !s.deviceStopped
  && !s.unitResetting (unitGroup k c 0) && !s.board.towerRst.any (fun e => e.1 = k) && !s.board.ctxRst.any (fun e => e.1 = v.owner.ctx)

/-- GROUP_PLACE (R305): launch l's next group enters slot g of core c of tower k. -/
def execGroupPlace (l k c g : Nat) (s : State) : Res :=
  onUnit (hasCore k c && g < 8)
    (match Assoc.get? s.comp.launches l with
     | none => s
     | some v =>
       let m := bitsOf (v.w.getD 5 0) 0 32
       if v.stop || bitsOf (v.w.getD 4 0) 0 25 ≤ v.next || (s.group k c g).isSome || !s.mayPlace k c v then s
       else
         let x : Group := { owner := v.owner, launch := l, index := v.next, arg := BitVec.ofNat 64 (v.w.getD 1 0), lanes := m,
                            threads := (List.range 32).map (freshThread v.w v.next), subs := [m], bars := [], cfg := s.rd (A.tcDieCfg k), recent := 0 }
         let s := { s with comp := { s.comp with launches := Assoc.set s.comp.launches l { v with next := v.next + 1 } } }
         let s := s.setFlds (A.tcGroup0 k c g) [(F.tcGroup0_STATE, 1), (F.tcGroup0_CONTEXT, v.owner.ctx), (F.tcGroup0_CAUSE, 0),
           (F.tcGroup0_FAULT_LANE, 0), (F.tcGroup0_LAUNCH_IDX, v.next)]
         let s := (s.wr (A.tcGroup2 k c g) 0).wr (A.tcGroup3 k c g) 0
         let s := s.modCore k c (fun y => { y with ctxs := insertNat y.ctxs v.owner.ctx })
         (s.setGroup k c g x).showCore k c)

/-! The side plane (R342 to R345). -/

/-- SIDE_PLANE_ACCESS: the bank serves request idx of threads to cluster m's scratchpad. singles and doubles are words of that
scratchpad in which one and two bits have flipped since the last event; the next access of any agent to one meets it (R345; log
entry 205). An address of another window among singles names a line of the cluster's L1s that has lost its parity: the next access
to it is a miss (R394; log entry 205). waits is what TC_SP_CNT_SIDE_WAIT gains. Which of several clients a bank serves is the
order of the events (R342; log entry 203). -/
def execSidePlaneAccess (m idx : Nat) (singles doubles : List Nat) (waits : Nat) (s : State) : Res :=
  onUnit (m < 16)
    (let here (l : List Nat) : List Nat := l.filter (fun a => a % 8 = 0 && (windowOf a).1 = .scratch m && a < spBase m + spBytes)
     let s := (s.spUpset (here singles) (here doubles)).bump (A.tcSpCntSideWait (m / 4) (m % 4)) waits
     let lost := singles.filter (fun a => match (windowOf a).1 with | .scratch _ => false | _ => true)
     let s := if lost.isEmpty then s else (rangeFrom (16 * (m % 4)) 16).foldl (fun s c =>
       lost.foldl (fun s a => s.dropL1 (m / 4) c (a / 128)) s) s
     match (s.l2.flying.filter (fun r => (windowOf r.pa).1 = .scratch m))[idx]? with
     | none => s
     | some r =>
       if !s.mayServe r || !s.crosses r.who r.pa then s
       else
         if s.physFaults r.pa r.len (r.kind ≠ .read) then s.land r
         else
           match r.kind with
           | .read =>
             let s := s.spFind r.pa r.len r.who (some r.owner)
             s.readBack r (s.rdBytes r.pa r.len) (s.lineMarks (r.pa / 128))
           | _ => ((s.land r).spWrite r.who r.owner 0 m [[(r.pa, r.bytes, false)]]).1)

/-! Debug commands (R328 to R332). -/

/-- Fields of a group address. -/
def grpTower (w : Nat) : Nat := bitsOf w 0 2
/-- Core of the die that a group address names. -/
def grpCore (w : Nat) : Nat := bitsOf w 2 2 * 16 + bitsOf w 4 4
/-- Slot of a group address. -/
def grpSlot (w : Nat) : Nat := bitsOf w 8 3
/-- Bits of a group address. -/
def grpBits : Nat := 0xFF07FF

/-- The errors of R328. -/
def State.grpCheck (s : State) (w : Nat) : Option Nat :=
  let k := grpTower w
  let c := grpCore w
  let g := grpSlot w
  let ctx := bitsOf w 16 8
  firstFail
    [(s.flag (A.tcStatus k c) F.tcStatus_FENCED, St.disabled),
     (match s.group k c g with | some v => v.owner.ctx ≠ ctx | none => true, St.notFound),
     (!s.debugOpen ctx, St.denied)]

/-- The four words of TC_GROUP_STATE. -/
def State.grpWords (s : State) (k c g : Nat) : List Nat :=
  [(s.rd (A.tcGroup0 k c g)).toNat, (s.rd (A.tcGroup1 k c g)).toNat, (s.rd (A.tcGroup2 k c g)).toNat, (s.rd (A.tcGroup3 k c g)).toNat]

/-- Everything a group has issued has completed. -/
def State.grpQuiet (s : State) (k c g : Nat) : Bool :=
  !s.outstanding (fun w => w.inGroup k c g) &&
  (match s.group k c g with | some v => v.threads.all (fun t => t.loads.isEmpty) | none => true)

/-- In eclipse mode a resumed group runs from the return to main power on (R652). -/
def State.resumeLater (s : State) (k c g : Nat) : State :=
  match s.pwr.stopped with
  | some z => { s with pwr := { s.pwr with stopped := some { z with groups := z.groups.filter (· ≠ (k, c, g)) ++ [(k, c, g)] } } }
  | none => s

/-- A group halted by command stays halted at the return to main power (R329, R652). -/
def State.keepHalted (s : State) (k c g : Nat) : State :=
  match s.pwr.stopped with
  | some z => { s with pwr := { s.pwr with stopped := some { z with groups := z.groups.filter (· ≠ (k, c, g)) } } }
  | none => s

/-- TC_GROUP_HALT (R329): it replies once what the group has issued has completed; a FAULTED group has nothing to halt. -/
def execTcGroupHalt (ch : Nat) (p : Packet) (s : State) : Res :=
  cmd ch 0x700 p s fun s =>
    let w := pword p 0
    s.orFail ch (checkWords p [grpBits]) fun s =>
    s.orFail ch (s.grpCheck w) fun s =>
      let k := grpTower w
      let c := grpCore w
      let g := grpSlot w
      let s := (s.haltGroup k c g 1).keepHalted k c g
      if s.slotState k c g = 3 || s.grpQuiet k c g then s.reply ch St.ok (s.grpWords k c g) else s.unfinished ch

/-- After a BARRIER_STALL the timers of the barriers restart from 0 (R330). -/
def State.restartBars (s : State) (k c g : Nat) : State :=
  if s.fld (A.tcGroup0 k c g) F.tcGroup0_CAUSE ≠ 4 then s
  else s.modCore k c (fun x => { x with slots := x.slots.map (fun e =>
    if e.1 = g then (e.1, { e.2 with timers := e.2.timers.map (fun m => if 32 ≤ m.1 then (m.1, s.now) else m) }) else e) })

/-- TC_GROUP_RESUME (R330): FORCE resumes a faulted group and resolves its operation (R614). -/
def execTcGroupResume (ch : Nat) (p : Packet) (s : State) : Res :=
  cmd ch 0x701 p s fun s =>
    let w := pword p 0
    s.orFail ch (checkWords p [grpBits + 2 ^ 24]) fun s =>
    s.orFail ch (s.grpCheck w) fun s =>
      let k := grpTower w
      let c := grpCore w
      let g := grpSlot w
      let run (s : State) : State :=
        ((s.setFlds (A.tcGroup0 k c g) [(F.tcGroup0_STATE, 1), (F.tcGroup0_CAUSE, 0)]).runTimers k c g).showCore k c
      match s.slotState k c g with
      | 1 => s.reply ch St.ok
      | 2 => (if s.eclipse then s.resumeLater k c g else run s).reply ch St.ok
      | _ =>
        if bit w 24 then
          match s.group k c g with
          | some v => ((run (s.restartBars k c g)).opResolve (unitGroup k c g) v.index (some v.owner)).reply ch St.ok
          | none => s.reply ch St.ok
        else s.reply ch St.busy

/-- TC_GROUP_STEP (R331): it replies once the instruction has completed; one that must wait leaves the packet in hand. -/
def execTcGroupStep (ch : Nat) (p : Packet) (s : State) : Res :=
  cmd ch 0x702 p s fun s =>
    let w := pword p 0
    let l := bitsOf w 24 5
    let k := grpTower w
    let c := grpCore w
    let g := grpSlot w
    s.orFail ch (checkWords p [grpBits + 0x1F000000]) fun s =>
    s.orFail ch (s.grpCheck w) fun s =>
      match s.group k c g with
      | none => s.reply ch St.notFound
      | some v =>
        let blocked := ((s.issueSet k c g l).any (fun e => e.1 = g && (lanesOf e.2).any (fun i =>
          match (v.thread i).wait with | .bar _ => true | .gwait .. => true | _ => false)))
        s.orFail ch (firstFail [(s.slotState k c g = 1 || s.eclipse, St.busy), ((v.thread l).ended, St.invalid), (blocked, St.busy)]) fun s =>
          let t := s.issue k c g l (fun _ => true) { step := true }
          if (t.core k c).turns = (s.core k c).turns then t.unfinished ch
          else
            let cause := if (s.fetch k c g v (v.thread l).pc).2 = .ok 0x00100073 then 3 else 2
            let t := if (t.group k c g).isSome && t.slotState k c g = 2 then t.setFld (A.tcGroup0 k c g) F.tcGroup0_CAUSE cause else t
            let pc := match t.group k c g with | some u => (u.thread l).pc | none => (v.thread l).pc
            t.reply ch St.ok (t.grpWords k c g ++ [pc])

/-- A register of a thread by its index (R332). -/
def State.threadReg (s : State) (k c g l : Nat) (t : Thread) (i : Nat) : Nat :=
  if i < 32 then t.xr i
  else if i < 64 then t.fr (i - 32)
  else match i with
    | 64 => t.pc
    | 65 => t.fcsr
    | 66 => t.cmask
    | 67 => t.spin + 256 * b2n t.spinning
    | _ => match s.resv.find? (fun r => r.who = .thread k c g l) with | some r => r.va | none => 2 ^ 64 - 1

/-- The checks of TC_GROUP_READ and TC_GROUP_WRITE beyond R328. -/
def regWindowBad (w : Nat) : Bool :=
  let n := bitsOf w 16 7
  n = 0 || 64 < n || 69 < bitsOf w 8 7 + n

/-- TC_GROUP_READ (R332). -/
def execTcGroupRead (ch : Nat) (p : Packet) (s : State) : Res :=
  cmd ch 0x703 p s fun s =>
    let w := pword p 0
    let a := pword p 1
    let k := grpTower w
    let c := grpCore w
    let g := grpSlot w
    s.orFail ch (checkWords p [grpBits, 0x7F7F1F]) fun s =>
    s.orFail ch (firstFail [(regWindowBad a, St.invalid)]) fun s =>
    s.orFail ch (s.grpCheck w) fun s =>
      if s.slotState k c g = 1 then s.reply ch St.busy
      else
        match s.group k c g with
        | some v => s.reply ch St.ok ((rangeFrom (bitsOf a 8 7) (bitsOf a 16 7)).map (fun i =>
            s.threadReg k c g (bitsOf a 0 5) (v.thread (bitsOf a 0 5)) i))
        | none => s.reply ch St.notFound

/-- A register of a thread written by the debugger: index, value (R332). -/
def Thread.debugWrite (t : Thread) (i v : Nat) : Thread :=
  if i < 64 then t.setReg i v
  else if i = 64 then { t with pc := v, spinning := false }
  else { t with fcsr := v % 256 }

/-- TC_GROUP_WRITE (R332). A written pc takes the thread out of its subgroup, and out of what it waits at. -/
def execTcGroupWrite (ch : Nat) (p : Packet) (s : State) : Res :=
  cmd ch 0x704 p s fun s =>
    let w := pword p 0
    let a := pword p 1
    let k := grpTower w
    let c := grpCore w
    let g := grpSlot w
    let l := bitsOf a 0 5
    let n := bitsOf a 16 7
    let is := rangeFrom (bitsOf a 8 7) n
    let val (i : Nat) : Nat := pword p (2 + (i - bitsOf a 8 7))
    s.orFail ch (firstFail [(p.length ≠ 32 + 8 * n, St.badLength),
      (w &&& (2 ^ 64 - 1 - grpBits) ≠ 0 || a &&& (2 ^ 64 - 1 - 0x7F7F1F) ≠ 0, St.invalid),
      (regWindowBad a || is.any (fun i => 66 ≤ i || (i = 64 && val i % 4 ≠ 0) || (i = 65 && 256 ≤ val i)), St.invalid)]) fun s =>
    s.orFail ch (s.grpCheck w) fun s =>
      if s.slotState k c g = 1 then s.reply ch St.busy
      else
        match s.group k c g with
        | none => s.reply ch St.notFound
        | some v =>
          let t := is.foldl (fun (t : Thread) i => t.debugWrite i (val i)) (v.thread l)
          let v := v.setThread l t
          let moved := is.contains 64 && !t.ended
          let (s, v) : State × Group :=
            if moved then
              ((s.endWait (.thread k c g l)).dropWalkEnds (unitGroup k c g), { (v.setThread l { t with wait := .none }) with
                subs := (v.subs.map (fun u => u &&& (laneBit l ^^^ (2 ^ 32 - 1)))).filter (· ≠ 0) ++ [laneBit l] })
            else (s, v)
          (s.setGroup k c g v).reply ch St.ok

end Sys2Proof.Machine
end

