-- ==== Sys2Proof/Machine/SyncRows.lean ====
section
/-! DEFINITION. Synchronisation objects at their homes, the object window, binding, and work queues (17_ordering_sync.md,
R504 to R531; R613, R615, R647). -/

namespace Sys2Proof.Machine

/-! Signals at their homes (R510, R513, R525). -/

/-- Who issued an operation, and its owner as an entry. -/
def SynOp.toOwner (o : SynOp) : Owner := o.owner.getD { ctx := o.ctx.getD 0, entry := none }

/-- The unit of a record about an object's home (R630). -/
def unitHome (obj : Nat) : Nat := unitCode 13 (objTower obj) 0 0 0

/-- The issuer learns of a refusal at the home (R513): a beam stops, an entry whose header signal it was fails, a mover,
lantern unit or engine reports an operation's error. The signals of CC, of collectives and of the host have no one to tell. -/
def State.tellRefused (s : State) (o : SynOp) : State :=
  let fail (k u : Nat) : State := s.opFail { queue := k, cls := 0x0A, domain := 0, action := 5, owner := some o.toOwner, unit := u }
  match o.who with
  | .beam k => if s.beamState k = 0 || o.seq ≤ (s.beam k).first then s else s.modBeam k (fun b => { b with unitErr := some 0x0A })
  | .entry q n =>
    (match o.owner with
     | some w => s.opFail { queue := q / 1024, cls := 0x0A, domain := 0, action := 5, owner := some w, unit := unitHome o.obj }
     | none =>
       if ((s.queue? q).bind (·.entry? n)).isSome then
         s.entryFault q n 4 { queue := q / 1024, cls := 0x0A, domain := 1, action := 6, unit := unitHome o.obj,
                              owner := some { ctx := o.ctx.getD 0, entry := some (q, n) } }
       else s)
  | .engine k e => fail k (unitMxe k e)
  | .vxe k x => fail k (unitVxe k x)
  | .mover k m => fail k (unitMover k m)
  | .lantern n => fail (lntTower n) (unitLnt n)
  | .thread k c g l =>
    (match s.group k c g with
     | some v => if v.owner = o.toOwner then s.groupFault k c g l (v.thread l).pc (.plain 13) else s
     | none => s)
  | _ => s

/-- An entry whose header signal has taken effect is done with (R522, R523). -/
def State.headerDone (s : State) (q n : Nat) : State :=
  match s.queue? q with
  | none => s
  | some v => (s.setQueue q { v with entries := v.entries.filter (fun e => e.n ≠ n) }).settleStop q

/-- An operation at its object's home, and what its issuer then learns. -/
def State.landSignal (s : State) (o : SynOp) : State :=
  let (s, ok) := s.objOp o.ctx o.obj o.op o.value
  if !ok then s.tellRefused o
  else
    match o.who, o.owner with
    | .entry q n, none => s.headerDone q n
    | _, _ => s

/-- An operation reaches its home: one that meets a home under reset is applied after the reset (R525). -/
def State.arriveSignal (s : State) (o : SynOp) : State :=
  if s.homeReset o.obj then { s with syn := { s.syn with deferred := s.syn.deferred ++ [o] } } else s.landSignal o

/-- Operations that waited for a tower's reset are applied, in the order of their arrival (R525). -/
def State.runDeferredSignals (s : State) (k : Nat) : State :=
  let mine := s.syn.deferred.filter (fun o => objTower o.obj = k)
  let s := { s with syn := { s.syn with deferred := s.syn.deferred.filter (fun o => objTower o.obj ≠ k) } }
  mine.foldl (fun s o => s.landSignal o) s

/-- Operation number i in flight arrives at its home, when it is of the kind named and no earlier operation of its issuer on
its object is still in flight (R510). -/
def State.signalArrives (s : State) (op i : Nat) : State :=
  match s.syn.flying[i]? with
  | none => s
  | some o =>
    if o.op ≠ op || (s.syn.flying.take i).any (fun x => x.who = o.who && x.obj = o.obj) || !s.reachesObj o.who o.obj then s
    else ({ s with syn := { s.syn with flying := s.syn.flying.eraseIdx i } }).arriveSignal o

/-- SYN_OBJ_ADD. -/
def execSynObjAdd (idx : Nat) (s : State) : Res := .next (s.signalArrives 1 idx)
/-- SYN_OBJ_SET. -/
def execSynObjSet (idx : Nat) (s : State) : Res := .next (s.signalArrives 2 idx)
/-- SYN_OBJ_ARRIVE. -/
def execSynObjArrive (idx : Nat) (s : State) : Res := .next (s.signalArrives 3 idx)

/-- A wait changed. -/
def State.modWait (s : State) (i : Nat) (f : Wait → Wait) : State :=
  { s with syn := { s.syn with waits := s.syn.waits.modify i f } }

/-- SYN_WAIT_QUERY: the query of wait number i is answered at the home (R512, R513); one whose path is closed waits (R539). An entry
whose wait is refused fails. -/
def execSynWaitQuery (idx : Nat) (s : State) : Res :=
  .next (match s.syn.waits[idx]? with
    | none => s
    | some w =>
      let k := objTower w.obj
      if !s.reachesObj w.who w.obj then s
      else if s.objBoundTo w.obj w.ctx && condAccepted (s.objType w.obj) w.cond then
        let s := s.bump (A.synCntQuery k) 1
        if condHolds w.cond (s.objValue w.obj) w.value then s.modWait idx (fun x => { x with met := true }) else s
      else
        let s := (s.modWait idx (fun x => { x with refused := true })).bump (A.synCntRefused k) 1
        match w.who with
        | .entry q n =>
          (s.endWait w.who).entryFault q n 4 { queue := q / 1024, cls := 0x0A, domain := 1, action := 6, unit := unitHome w.obj,
                                               owner := some { ctx := w.ctx, entry := some (q, n) } }
        | _ => s)

/-! The object window (R514, R515). -/

/-- An access to the window is refused whatever it says: an unbound object, or a peer where PEER_EN is 0. -/
def State.windowShut (s : State) (obj : Nat) (peer : Bool) : Bool :=
  s.objType obj = 0 || (peer && !s.flag (objReg0 obj) F.synObj0_PEER_EN)

/-- The word a load of the window returns (R514). -/
def State.windowWord (s : State) (obj off : Nat) : Nat :=
  match off with
  | 0x00 => s.objValue obj
  | 0x08 => (s.rd (objReg0 obj)).toNat
  | 0x28 => s.notifyWord obj
  | _ => 0

/-- OBJ_WINDOW_LOAD: a requester loads 8 bytes at an offset of an object's window. -/
def execObjWindowLoad (obj off : Nat) (peer : Bool) (who : Nat) (s : State) : Res :=
  onUnit (obj < 65536 && off < 64 && off % 8 = 0)
    (if !s.reachesObj .host obj then s
     else if s.windowShut obj peer then (s.opRefused obj).answer who 0
     else s.answer who (BitVec.ofNat 64 (s.windowWord obj off)))

/-- A store of an operation word (R514); the home judges no context. -/
def State.windowStore (s : State) (obj op v : Nat) (peer : Bool) : State :=
  if !s.reachesObj .host obj then s
  else if s.windowShut obj peer then s.opRefused obj
  else s.arriveSignal { who := if peer then .peer 0 else .host, ctx := none, obj := obj, op := op, value := v, owner := none, seq := 0 }

/-- OBJ_WINDOW_ADD. -/
def execObjWindowAdd (obj : Nat) (v : Word) (peer : Bool) (s : State) : Res :=
  onUnit (obj < 65536) (s.windowStore obj 1 (v.toNat % 2 ^ 32) peer)
/-- OBJ_WINDOW_SET. -/
def execObjWindowSet (obj : Nat) (v : Word) (peer : Bool) (s : State) : Res :=
  onUnit (obj < 65536) (s.windowStore obj 2 v.toNat peer)
/-- OBJ_WINDOW_ARRIVE. -/
def execObjWindowArrive (obj : Nat) (v : Word) (peer : Bool) (s : State) : Res :=
  onUnit (obj < 65536) (s.windowStore obj 3 (v.toNat % 2 ^ 32) peer)

/-- A store that arms or disarms a notify (R515). -/
def State.windowArm (s : State) (obj n : Nat) (peer : Bool) : State :=
  if !s.reachesObj .host obj then s
  else if s.windowShut obj peer then s.opRefused obj
  else if !bit n 34 then s.disarmNotify obj
  else if n / 2 ^ 35 ≠ 0 || !condAccepted (s.objType obj) (bitsOf n 32 2) then s.opRefused obj
  else
    let s := { s with syn := { s.syn with notifies := Assoc.set s.syn.notifies obj n } }
    (s.setFlag (objReg0 obj) F.synObj0_NOTIFY_ARMED true).checkNotify obj

/-- NOTIFY_ARM. -/
def execNotifyArm (obj : Nat) (v : Word) (peer : Bool) (s : State) : Res :=
  onUnit (obj < 65536) (s.windowArm obj v.toNat peer)

/-! Binding (R516, R517). -/

/-- The objects of a range. -/
def objRange (first count : Nat) : List Nat := (List.range count).map (first + ·)

/-- SYN_BIND. -/
def execSynBind (ch : Nat) (p : Packet) (s : State) : Res :=
  cmd ch 0x900 p s fun s =>
    let w := pword p 0
    let v := pword p 1
    let ctx := bitsOf w 0 8
    let typ := bitsOf w 8 2
    let first := bitsOf w 16 16
    let count := bitsOf w 32 16
    let init := bitsOf v 0 32
    let n := bitsOf v 32 16
    let objs := objRange first count
    s.orFail ch ((checkWords p [0xFFFFFFFF07FF, 2 ^ 64 - 1]).orElse (fun _ => firstFail [
      (typ = 0 || count = 0 || 16384 < count || 65536 < first + count || (typ = 3 && n = 0), St.invalid),
      (!s.ctxOpen ctx, St.notFound),
      (s.eclipse || objs.any (fun i => s.objType i ≠ 0), St.busy)])) fun s =>
    let s := objs.foldl (fun s i =>
      let s := (s.wr (objReg0 i) 0).setFlds (objReg0 i)
        [(F.synObj0_TYPE, typ), (F.synObj0_PEER_EN, bitsOf w 10 1), (F.synObj0_CONTEXT, ctx), (F.synObj0_VECTOR, bitsOf v 48 16),
         (F.synObj0_COUNT, if typ = 3 then n else 0)]
      (s.wr (objReg1 i) 0).setFld (objReg1 i) F.synObj1_VALUE init) s
    s.reply ch St.ok

/-- SYN_RELEASE. -/
def execSynRelease (ch : Nat) (p : Packet) (s : State) : Res :=
  cmd ch 0x901 p s fun s =>
    let w := pword p 0
    let ctx := bitsOf w 0 8
    let first := bitsOf w 16 16
    let count := bitsOf w 32 16
    let objs := objRange first count
    s.orFail ch ((checkWords p [0xFFFFFFFF07FF]).orElse (fun _ => firstFail [
      (count = 0 || 16384 < count || 65536 < first + count, St.invalid),
      (objs.any (fun i => !s.objBoundTo i ctx), St.notFound),
      (objs.any (fun i => s.flag (objReg0 i) F.synObj0_DOORBELL || s.flag (objReg0 i) F.synObj0_NOTIFY_ARMED
        || s.syn.waits.any (fun x => x.obj = i)), St.busy)])) fun s =>
    (objs.foldl (fun s i => (s.wr (objReg0 i) 0).wr (objReg1 i) 0) s).reply ch St.ok

/-! The next entry of a queue (R521, R523). -/

/-- The predecessor condition of an entry (R521, R523): every earlier entry has completed, or its OVERLAP lets it follow once they
have started. -/
def Queue.predReady (v : Queue) (e : QEntry) : Bool :=
  v.entries.all (fun x => e.n ≤ x.n || x.completed || (e.overlap && x.started))

/-- The entry that a queue may start next: the first not started, where the queue still starts entries (R519, R523). -/
def State.candidate (s : State) (q : Nat) : Option QEntry :=
  match s.queue? q with
  | none => none
  | some v =>
    match v.entries.find? (fun e => !e.started) with
    | none => none
    | some e =>
      let open' := s.qState q = 1 || (s.qState q = 2 && (match v.stop with | some st => decide (e.n < st.entry) | none => false))
      if open' && v.predReady e then some e else none

/-- The wait of the next entry begins in the first cycle its predecessor condition holds (R521). -/
def State.beginEntryWait (s : State) (q : Nat) : State :=
  match s.candidate q with
  | none => s
  | some e =>
    if bit (e.word 0) 5 && !e.waitBegun then
      (s.modEntry q e.n (fun x => { x with waitBegun := true })).beginWait (.entry q e.n) (s.qCtx q) (bitsOf (e.word 0) 32 16)
        (bitsOf (e.word 0) 8 2) (bitsOf (e.word 1) 0 32) (s.fld (A.synCfg (q / 1024)) F.synCfg_QWAIT_TIMEOUT_LOG2)
    else s

/-! Queue commands (R518, R524). -/

/-- Objects that queues use as doorbell or slot object, marked as such (R528). -/
def State.markDoorbells (s : State) (objs : List Nat) : State :=
  objs.foldl (fun s i => s.setFlag (objReg0 i) F.synObj0_DOORBELL
    (s.syn.queues.any (fun e =>
      s.fld (qCfg e.1) F.synQCfg_DOORBELL = i || (s.flag (qCfg e.1) F.synQCfg_SLOT_EN && s.fld (qCfg e.1) F.synQCfg_SLOT_OBJ = i)))) s

/-- The object is a COUNTER bound to the context. -/
def State.isCounter (s : State) (obj ctx : Nat) : Bool := s.objBoundTo obj ctx && s.objType obj = 1

/-- QUEUE_CREATE. -/
def execQueueCreate (ch : Nat) (p : Packet) (s : State) : Res :=
  cmd ch 0x202 p s fun s =>
    let w := pword p 0
    let ring := pword p 1
    let q := bitsOf w 0 12
    let ctx := bitsOf w 16 8
    let size := bitsOf w 24 5
    let bell := bitsOf w 32 16
    let slot := bitsOf w 48 16
    let slotEn := bit (pword p 2) 0
    s.orFail ch ((checkWords p [0xFFFFFFFFDFFF0FFF, 2 ^ 64 - 1, 1]).orElse (fun _ => firstFail [
      (size < 4 || 16 < size || ring % 4096 ≠ 0 || !s.tierRange ring (128 * 2 ^ size), St.invalid),
      (!s.ctxOpen ctx || !s.isCounter bell ctx || (slotEn && !s.isCounter slot ctx), St.notFound),
      ((s.queue? q).isSome || s.eclipse, St.busy)])) fun s =>
    let s := (s.wr (qCfg q) 0).setFlds (qCfg q)
      [(F.synQCfg_IN_USE, 1), (F.synQCfg_SIZE_LOG2, size), (F.synQCfg_EC, bitsOf w 30 2), (F.synQCfg_SLOT_EN, b2n slotEn),
       (F.synQCfg_CONTEXT, ctx), (F.synQCfg_DOORBELL, bell), (F.synQCfg_SLOT_OBJ, slot)]
    let s := (s.wr (qStop q) 0).wr (qStatus q) 0
    let s := s.setQueue q { ring := ring, base := s.objValue bell, taken := 0, entries := [], skipTo := 0, skipping := false,
                            stop := none, tag := none }
    ((s.setQState q 1).markDoorbells (if slotEn then [bell, slot] else [bell])).reply ch St.ok

/-- A queue command's first checks: LENGTH, reserved bits, a queue in use (R524). -/
def State.queueCheck (s : State) (p : Packet) (mask : Nat) : Option Nat :=
  (checkWords p [mask]).orElse (fun _ => if (s.queue? (bitsOf (pword p 0) 0 12)).isNone then some St.notFound else none)

/-- QUEUE_DESTROY. -/
def execQueueDestroy (ch : Nat) (p : Packet) (s : State) : Res :=
  cmd ch 0x203 p s fun s =>
    let q := bitsOf (pword p 0) 0 12
    s.orFail ch ((s.queueCheck p 0xFFF).orElse (fun _ => firstFail [(s.qState q ≠ 3, St.busy)])) fun s =>
    let objs := [s.fld (qCfg q) F.synQCfg_DOORBELL] ++
      (if s.flag (qCfg q) F.synQCfg_SLOT_EN then [s.fld (qCfg q) F.synQCfg_SLOT_OBJ] else [])
    let s := { s with syn := { s.syn with queues := Assoc.del s.syn.queues q } }
    let s := ((s.wr (qCfg q) 0).wr (qStatus q) 0).wr (qStop q) 0
    (s.markDoorbells objs).reply ch St.ok

/-- The index of the entry that a stopped queue starts next. -/
def State.nextIndex (s : State) (q : Nat) : Nat := match s.queue? q with | some v => v.nextStart % 2 ^ 32 | none => 0

/-- A stopping queue has nothing started before its stop. -/
def State.stopReached (s : State) (q : Nat) : Bool :=
  match s.queue? q with
  | some v =>
    (match v.stop with
     | some st => s.qState q = 2 && v.entries.all (fun e => decide (st.entry ≤ e.n)) && decide (st.entry ≤ v.taken)
     | none => false)
  | none => false

/-- QUEUE_STOP_COMPLETE (R524): the queue reads STOPPED and the QUEUE_STOPs that wait reply. -/
def State.completeStop (s : State) (q : Nat) : State :=
  if !s.stopReached q then s
  else
    match s.queue? q with
    | none => s
    | some v =>
      let chans := match v.stop with | some st => st.chans | none => []
      let s := { s with err := { s.err with recov := s.err.recov.filter (fun r => !(r.level = 1 && r.unit = q)) } }
      let s := s.setQueue q { v with stop := v.stop.map (fun st => { st with chans := [] }) }
      let s := s.setQState q 3
      chans.foldl (fun s ch => s.reply ch St.ok [s.nextIndex q]) s

/-- QUEUE_STOP_COMPLETE. -/
def execQueueStopComplete (q : Nat) (s : State) : Res := onUnit (q < 4096) (s.completeStop q)

/-- QUEUE_STOP: a stop for OVERRUN whose entries have not all started becomes the stop asked for. -/
def execQueueStop (ch : Nat) (p : Packet) (s : State) : Res :=
  cmd ch 0x204 p s fun s =>
    let q := bitsOf (pword p 0) 0 12
    s.orFail ch (s.queueCheck p 0xFFF) fun s =>
    match s.queue? q with
    | none => s
    | some v =>
      match s.qState q, v.stop with
      | 3, _ => s.reply ch St.ok [s.nextIndex q]
      | 2, some st =>
        if st.cause = 5 && v.nextStart < st.entry then (s.requestStop q (st.chans ++ [ch])).completeStop q
        else s.setQueue q { v with stop := some { st with chans := st.chans ++ [ch] } }
      | _, _ => (s.requestStop q [ch]).completeStop q

/-- The header's OVERLAP of an entry that follows a failed one: what SKIP passes over (R524). -/
def dropBatch (e : Nat) (l : List QEntry) : List QEntry :=
  l.filter (fun x => decide (x.n < e)) ++ ((l.filter (fun x => decide (e < x.n))).dropWhile (·.overlap))

/-- QUEUE_START. -/
def execQueueStart (ch : Nat) (p : Packet) (s : State) : Res :=
  cmd ch 0x205 p s fun s =>
    let q := bitsOf (pword p 0) 0 12
    let skip := bit (pword p 0) 16
    s.orFail ch ((s.queueCheck p 0x10FFF).orElse (fun _ => firstFail [(s.eclipse, St.busy), (s.qState q = 2, St.busy)])) fun s =>
    match s.queue? q with
    | none => s
    | some v =>
      match s.qState q, v.stop with
      | 3, some st =>
        let v : Queue := { v with stop := none, tag := none }
        let v := if skip && st.cause ≠ 1 then
            let left := dropBatch st.entry v.entries
            { v with entries := left, skipTo := st.entry + 1, skipping := left.all (fun x => decide (x.n < st.entry)) }
          else v
        (((s.setQueue q v).setQState q 1).beginEntryWait q).reply ch St.ok
      | 3, none => ((s.setQState q 1).beginEntryWait q).reply ch St.ok
      | _, _ => s.reply ch St.ok

/-- QUEUE_STATUS: with no failed entry the TAG word is free (log entry 2). -/
def execQueueStatus (ch : Nat) (p : Packet) (s : State) : Res :=
  cmd ch 0x206 p s fun s =>
    let q := bitsOf (pword p 0) 0 12
    s.orFail ch (s.queueCheck p 0xFFF) fun s =>
    let (tag, s) := match (s.queue? q).bind (·.tag) with
      | some t => (t, s)
      | none => let (w, s) := s.free; (w.toNat, s)
    s.reply ch St.ok [(s.rd (qCfg q)).toNat, (s.rd (qStatus q)).toNat, (s.rd (qStop q)).toNat, tag]

/-! Taking entries (R519). -/

/-- The record of a fault of an entry itself. -/
def entryReq (s : State) (q n cls : Nat) : RecordReq :=
  { queue := q / 1024, cls := cls, domain := 1, action := 6, owner := some { ctx := s.qCtx q, entry := some (q, n) } }

/-- QUEUE_ENTRY_TAKE. A context under reset makes no new access (R80). -/
def execQueueEntryTake (q : Nat) (s : State) : Res :=
  onUnit (q < 4096)
    (match s.queue? q with
     | none => s
     | some v =>
       let bell := s.fld (qCfg q) F.synQCfg_DOORBELL
       let size := 2 ^ s.fld (qCfg q) F.synQCfg_SIZE_LOG2
       let submitted := (s.objValue bell + 2 ^ 32 - v.base) % 2 ^ 32
       if s.qState q ≠ 1 || submitted ≤ v.taken || s.board.ctxRst.any (fun x => x.1 = s.qCtx q) then s
       else if v.taken + size < submitted then (s.entryFault q v.taken 5 (entryReq s q v.taken 0x0D)).completeStop q
       else
         let a := v.ring + v.taken % size * 128
         match s.ccRead a 128 (.entry q v.taken) with
         | (s, false) => s
         | (s, true) =>
         let w := s.rdWords a 16
         let e := QEntry.fresh v.taken w (s.poisoned a 128)
         let drop := decide (v.taken < v.skipTo) || (v.skipping && e.overlap)
         let v := { v with taken := v.taken + 1, entries := if drop then v.entries else v.entries ++ [e],
                           skipping := v.skipping && (drop || decide (v.taken < v.skipTo)) }
         let s := (s.setQueue q v).setFld (qStatus q) F.synQStatus_TAKEN (v.taken % 2 ^ 32)
         let s := if s.flag (qCfg q) F.synQCfg_SLOT_EN then
             s.signal .cc (some (s.qCtx q)) none (s.fld (qCfg q) F.synQCfg_SLOT_OBJ) 1 1
           else s
         s.beginEntryWait q)

/-! Starting entries (R521, R647). -/

/-- The header is as R520 allows: a known KIND, scopes and operation, and nothing in reserved bits. -/
def QEntry.headerOk (e : QEntry) : Bool :=
  !e.bad && 1 ≤ e.kind && e.kind ≤ 5 && (e.word 0) &&& 0xFFFC0080 = 0
  && [3, 4, 5, 6, 7].all (fun i => decide (e.word i = 0))
  && bitsOf (e.word 0) 10 3 ≤ 5 && bitsOf (e.word 0) 13 3 ≤ 5 && !(bit (e.word 0) 6 && bitsOf (e.word 0) 16 2 = 0)

/-- A payload of zeros from word i on. -/
def QEntry.zeroFrom (e : QEntry) (i : Nat) : Bool := (rangeFrom i (16 - i)).all (fun j => decide (e.word j = 0))

/-- What a unit answers to an entry. -/
inductive Accept where
  | ok | busy | desc
  deriving DecidableEq, Repr

/-- A BEAM entry's payload (R257, R520). -/
def State.acceptBeam (s : State) (ctx : Nat) (e : QEntry) : Accept :=
  let w := e.word 8
  let k := bitsOf w 0 2
  if !e.zeroFrom 10 || bit w 3 then .desc
  else
    match s.beamStartCheck w (e.word 9) with
    | some st => if st = St.busy then .busy else .desc
    | none =>
      if s.fld (A.beamBank k (bitsOf w 2 1)) F.beamBank_CONTEXT ≠ ctx then .desc
      else if s.board.towerRst.any (fun x => x.1 = k) || s.deviceStopped then .busy
      else .ok

/-- A KERNEL entry's payload (R304, R697). -/
def State.acceptKernel (s : State) (ctx : Nat) (e : QEntry) : Accept :=
  let w (i : Nat) : Nat := e.word (8 + i)
  let groups := bitsOf (w 4) 0 25
  let runs := (List.range 4).any (fun k => (List.range 64).any (fun c =>
    hasCore k c && !s.flag (A.tcStatus k c) F.tcStatus_FENCED && bit (w 4) (32 + threadCluster k c)
    && !s.foreignCluster (threadCluster k c) ctx))
  if w 0 % 4 ≠ 0 || w 2 % 16 ≠ 0 || w 3 % 16 ≠ 0 || w 3 / 2 ^ 32 ≠ 0 || groups = 0 || 2 ^ 24 < groups
      || (w 4) &&& 0xFFFF0000FE000000 ≠ 0 || w 5 = 0 || w 5 / 2 ^ 32 ≠ 0 || w 6 / 2 ^ 17 ≠ 0 || w 7 ≠ 0 || !runs
      || (bit (w 6) 16 && !s.objBoundTo (bitsOf (w 6) 0 16) ctx) then .desc
  else .ok

/-- A MOVE entry's payload (R346, R520, R697). -/
def State.acceptMove (s : State) (ctx : Nat) (e : QEntry) : Accept :=
  let w := e.word 8
  let k := bitsOf w 0 2
  let m := 4 * bitsOf w 2 2 + bitsOf w 4 2
  if !e.zeroFrom 9 || w &&& 0xFFFFFFFFF80000C0 ≠ 0 || s.foreignCluster (4 * k + m / 4) ctx
      || spBytes < 64 * bitsOf w 8 19 + 64 then .desc
  else if 8 ≤ (s.mover k m).held || (s.mover k m).stopped.isSome || s.deviceStopped || s.unitResetting (unitMover k m)
      || s.board.towerRst.any (fun x => x.1 = k) then .busy
  else .ok

/-- What the entry's unit answers. A LANTERN payload is judged by LNT_DISPATCH once the entry has started (R447). -/
def State.accept (s : State) (ctx : Nat) (e : QEntry) : Accept :=
  if s.board.ctxRst.any (fun x => x.1 = ctx) then .busy
  else match e.kind with
  | 1 => s.acceptBeam ctx e
  | 2 => s.acceptKernel ctx e
  | 3 => s.acceptMove ctx e
  | 4 => .ok
  | _ => if e.zeroFrom 8 then .ok else .desc

/-- W_NEED of an energy class, in watts. -/
def State.wNeed (s : State) (ec : Nat) : Nat := 10 * bitsOf (s.rd A.pwrEcCfg).toNat (12 * ec) 8
/-- HEAT_NEED of an energy class, in °C. -/
def State.heatNeed (s : State) (ec : Nat) : Nat := bitsOf (s.rd A.pwrEcCfg).toNat (12 * ec + 8) 4

/-- Phi of R646, in tenths of a milliwatt. -/
def State.phi (s : State) : Nat := s.pwr.pref + s.fld A.pwrCfg F.pwrCfg_SLEW_BAND * 40000

/-- The W_NEED of every entry started in the last 1.000 ms (R647). -/
def State.recentNeed (s : State) : Nat :=
  (s.pwr.starts.filter (fun e => s.now < e.1 + 200000)).foldl (fun a e => a + e.2) 0

/-- The budget of R647 under a limit, in tenths of a milliwatt. -/
def State.budget (s : State) (limit : Nat) : Int := (limit : Int) - s.pwr.work - (s.recentNeed : Int) * 10000

/-- The hottest compute or base die, in °C (R647, R663). -/
def State.hottestDie (s : State) : Nat :=
  (List.range 8).foldl (fun m i => max m (bitsOf (s.rd A.pwrTemp).toNat (8 * i) 8)) 0

/-- The heat margin is at least what is needed. -/
def State.heatOk (s : State) (need : Nat) : Bool := s.hottestDie + need ≤ s.fld A.pwrCfg F.pwrCfg_THERM_C

/-- The cap alone, and the governor's bound alone, leave a need its budget. -/
def State.capOk (s : State) (need : Nat) : Bool :=
  !s.pwr.capHold && ((need * 10000 : Nat) : Int) ≤ s.budget (s.fld A.pwrCfg F.pwrCfg_CAP_W * 10000)
/-- Phi leaves a need its budget. -/
def State.phiOk (s : State) (need : Nat) : Bool := ((need * 10000 : Nat) : Int) ≤ s.budget s.phi

/-- An entry of a need may start now (R643, R647). -/
def State.fits (s : State) (need heat : Nat) : Bool := s.capOk need && s.phiOk need && s.heatOk heat

/-- The held entries replaced, HELD with them (R662). -/
def State.setHeld (s : State) (l : List HeldEntry) : State :=
  ({ s with pwr := { s.pwr with held := l } }).setFld A.pwrStatus F.pwrStatus_HELD (min 65535 l.length)

/-- Why each held entry is held, judged again. -/
def State.judgeHeld (s : State) : State :=
  s.setHeld (s.pwr.held.map (fun h => { h with byPhi := s.capOk h.need && !s.phiOk h.need && s.heatOk h.heat, byCap := !s.capOk h.need }))

/-- An entry becomes held, or stays so (R647). -/
def State.holdEntry (s : State) (q n ec : Nat) : State :=
  if s.pwr.held.any (fun h => h.q = q && h.n = n) then s.judgeHeld
  else
    let h : HeldEntry := { q := q, n := n, need := s.wNeed ec, heat := s.heatNeed ec, byPhi := false, byCap := false, since := s.now }
    ((s.setHeld (s.pwr.held ++ [h])).judgeHeld).bump A.pwrCntEcHeld 1

/-- The work of an entry begins, at its unit (R257, R304, R346, R446). -/
def State.runEntry (s : State) (q : Nat) (e : QEntry) : State :=
  let o : Owner := { ctx := s.qCtx q, entry := some (q, e.n) }
  let pay := (e.w.drop 8).take 8
  match e.kind with
  | 1 => s.beamStartDo (e.word 8) (e.word 9) (some (q, e.n))
  | 2 =>
    let l : Launch := { owner := o, w := pay, next := 0, ended := 0, stop := false }
    { s with comp := { s.comp with launches := Assoc.set s.comp.launches s.comp.nextLaunch l, nextLaunch := s.comp.nextLaunch + 1 } }
  | 3 => s.moveQueue (bitsOf (e.word 8) 0 2) (4 * bitsOf (e.word 8) 2 2 + bitsOf (e.word 8) 4 2) (bitsOf (e.word 8) 8 19) o
  | 4 =>
    let d : LntDisp := { q := q, n := e.n, w := pay, owner := o, left := (LntReq.fresh pay o 0).units, checked := false }
    { s with lnt := { s.lnt with disp := s.lnt.disp ++ [d] } }
  | _ => s

/-- An entry starts (R521): its wait is over, its need counts, its work begins; a SYNC entry's work has ended. -/
def State.startEntry (s : State) (q : Nat) (e : QEntry) : State :=
  let s := s.endWait (.entry q e.n)
  let s := s.setHeld (s.pwr.held.filter (fun h => !(h.q = q && h.n = e.n)))
  let need := s.wNeed (s.fld (qCfg q) F.synQCfg_EC)
  let s := if e.kind = 5 then s
    else { s with pwr := { s.pwr with starts := s.pwr.starts.filter (fun x => s.now < x.1 + 200000) ++ [(s.now, need)] } }
  let s := s.modEntry q e.n (fun x => { x with started := true, ended := decide (e.kind = 5) })
  ((s.traced 1 (some (s.qCtx q)) (q / 1024) none).runEntry q e).beginEntryWait q

/-- The record of an entry whose bytes are wrong: poison consumed, at its first poisoned sector, or a descriptor error (R523,
R619). -/
def State.badEntryReq (s : State) (q : Nat) (e : QEntry) : RecordReq :=
  if e.bad then
    let a := (match s.queue? q with | some v => v.ring | none => 0) + e.n % 2 ^ s.fld (qCfg q) F.synQCfg_SIZE_LOG2 * 128
    { entryReq s q e.n 0x12 with addr := (s.firstPoison a 128).getD a }
  else entryReq s q e.n 0x06

/-- QUEUE_ENTRY_START: the next entry of a queue starts when everything R521 and R647 ask for holds; force starts one held for
HOLD_MAX (R647). -/
def State.tryStart (s : State) (q : Nat) (force : Bool) : State :=
  match s.candidate q with
  | none => s
  | some e =>
    if 1 ≤ s.phase && s.phase ≤ 4 then s
    else if !e.headerOk then (s.endWait (.entry q e.n)).entryFault q e.n 7 (s.badEntryReq q e)
    else if bit (e.word 0) 5 && !(match s.waitOf (.entry q e.n) with | some w => w.met && !w.refused | none => false) then s
    else
      match s.accept (s.qCtx q) e with
      | .desc => (s.endWait (.entry q e.n)).entryFault q e.n 7 (entryReq s q e.n 0x06)
      | .busy => s
      | .ok =>
        let ec := s.fld (qCfg q) F.synQCfg_EC
        let held := s.pwr.held.any (fun h => h.q = q && h.n = e.n)
        let oldest := match s.pwr.held with | h :: _ => h.q = q && h.n = e.n | [] => false
        if e.kind = 5 || ec = 0 then s.startEntry q e
        else if force then
          if held then (s.startEntry q e).bump A.pwrCntEcForced 1 else s
        else if s.fits (s.wNeed ec) (s.heatNeed ec) && (!held || oldest) then s.startEntry q e
        else s.holdEntry q e.n ec

/-- QUEUE_ENTRY_START. -/
def execQueueEntryStart (q : Nat) (s : State) : Res := onUnit (q < 4096) (s.tryStart q false)

/-- ENTRY_HOLD_MAX: the queue's next entry has been held for HOLD_MAX (R647, R660). -/
def execEntryHoldMax (q : Nat) (s : State) : Res :=
  onUnit (q < 4096)
    (match (s.candidate q).bind (fun e => s.pwr.held.find? (fun h => h.q = q && h.n = e.n)) with
     | some h => (s.notBefore (h.since + s.fld A.pwrEcCfg F.pwrEcCfg_HOLD_MAX * 20000000)).tryStart q true
     | none => s)

/-- QUEUE_ENTRY_WAIT_TIMEOUT: the waiting entry fails, unless the entry wait timers stand (R521, R650). -/
def execQueueEntryWaitTimeout (q : Nat) (s : State) : Res :=
  onUnit (q < 4096)
    (match s.candidate q with
     | none => s
     | some e =>
       match s.waitOf (.entry q e.n) with
       | none => s
       | some w =>
         if w.met || (1 ≤ s.phase && s.phase ≤ 4) then s
         else
           (((s.notBefore (w.since + basenetTicks (2 ^ w.limit))).endWait (.entry q e.n)).entryFault q e.n 3
             (entryReq s q e.n 0x0B)).completeStop q)

/-! Completion (R522, R613, R615). -/

/-- Header signals leave in entry order: those of completed entries that no earlier entry precedes (R522). -/
def sendHeaders (q ctx : Nat) : List QEntry → State → State
  | [], s => s
  | e :: es, s =>
    if !e.completed then s
    else if e.signalled then sendHeaders q ctx es s
    else if bit (e.word 0) 6 then
      let s := s.modEntry q e.n (fun x => { x with signalled := true })
      let s := s.signal (.entry q e.n) (some ctx) none (bitsOf (e.word 0) 48 16) (bitsOf (e.word 0) 16 2) (bitsOf (e.word 1) 32 32)
      sendHeaders q ctx es s
    else sendHeaders q ctx es (s.headerDone q e.n)

/-- An operation of the entry is in recovery (R615). -/
def State.entryRecovering (s : State) (q n : Nat) : Bool :=
  s.err.recov.any (fun r => r.level = 0 && r.owner.any (fun o => o.isEntry q n))

/-- QUEUE_ENTRY_COMPLETE: an entry whose work has ended completes, or fails when one of its operations has failed. -/
def execQueueEntryComplete (q n : Nat) (s : State) : Res :=
  onUnit (q < 4096)
    (match (s.queue? q).bind (·.entry? n) with
     | none => s
     | some e =>
       if !e.ended || e.completed || s.entryRecovering q n then s
       else
         match e.marked with
         | some cause => (s.failEntry q n cause).completeStop q
         | none =>
           let s := (s.modEntry q n (fun x => { x with completed := true })).traced 1 (some (s.qCtx q)) (q / 1024) none
           let s := match s.queue? q with | some v => sendHeaders q (s.qCtx q) v.entries s | none => s
           s.beginEntryWait q)

end Sys2Proof.Machine
end

