-- ==== Sys2Proof/Machine/RegWrite.lean ====
section
/-! DEFINITION. Registers as the control plane reads, writes, stages and commits them (R3, R9 to R14, R32, R67, R83, R84, R90,
R99 to R106, R112 to R127, R141, R142, R544, R692, R698, R701 and the ranges of every staged register). -/

namespace Sys2Proof.Machine

/-! Which addresses are registers (R100, R115). -/

/-- Island j has a number (R86). -/
def islandNumbered (j : Nat) : Bool := 1 ≤ j / 256 + 1 && j / 256 + 1 ≤ 18 && j % 256 < domainInstances (j / 256 + 1)

/-- Domains whose islands have a droop detector, by their row in R65 (R70): HOSTCORE, HOSTUNC, ARRAY, THREAD, CLUSTERNET,
BASENET. -/
def hasDroop (j : Nat) : Bool := [3, 4, 6, 8, 9, 11].contains (j / 256 + 1)

/-- The register at an address; none for a gap or an address that is not 8-byte aligned (R97, R115). -/
def regAt (a : Nat) : Option (RegRow × List Nat) :=
  if a % 8 ≠ 0 then none
  else match findReg a with
    | none => none
    | some (r, is) =>
      if r.base = A.clkIsland 0 then (if islandNumbered (is.getD 0 0) then some (r, is) else none)
      else if r.base = A.clkStretchCnt 0 then (if islandNumbered (is.getD 0 0) && hasDroop (is.getD 0 0) then some (r, is) else none)
      else some (r, is)

/-- Base of tower T0's blocks (R115). -/
def towerBase : Nat := 0xE0010000000

/-- Offset of a register of a tower's block, for its first tower. -/
def RegRow.towerOff (r : RegRow) : Nat := r.base - towerBase
/-- The register lies in a tower's block. -/
def RegRow.ofTower (r : RegRow) : Bool := towerBase ≤ r.base

/-- The register's unit is absent or fenced (R3, R540, R677). -/
def State.regUnitGone (s : State) (r : RegRow) (is : List Nat) : Bool :=
  let k := is.getD 0 0
  let i := is.getD 1 0
  let o := r.towerOff
  let within (lo hi : Nat) : Bool := lo ≤ o && o < hi
  if r.base = A.clkIsland 0 || r.base = A.clkStretchCnt 0 then !islandPresent s.part k
  else if !r.ofTower then false
  else if o < 0x3000000 && s.flag (A.bondStatus k) F.bondStatus_FENCED then true
  else if within 0x1000 0x1100 then s.mxeFenced k i
  else if within 0x1001000 0x1001100 then s.vxeFenced k i
  else if within 0x2001000 0x2001200 then s.flag (A.tcStatus k i) F.tcStatus_FENCED
  else if within 0x2110000 0x2110100 then s.fld (A.tmStatus k i) F.tmStatus_STATE = 4
  else if within 0x3001000 0x3001100 || within 0x3002000 0x3002200 then 2 ≤ i && !s.part.hasCapacity
  else if within 0x5000100 0x5000200 || within 0x5001000 0x5001100 then
    5 ≤ s.fld (A.lntStatus k i) F.lntStatus_STATE
  else if within 0x7001000 0x7001100 then s.fld (A.portStatus k i) F.portStatus_STATE = 4
  else if within 0x7F00000 0x7F00010 then i = 2 && 2 ≤ k
  else false

/-! Reading (R11, R83, R90, R140). -/

/-- What a read of a register returns, with what reading it settles: STATE_MS is counted; BRAKE_PIN is 1 in the cycle in which
BRAKE_L was sampled low, and free in another, since no command gives the pin's level then (log entry 181); the frequency of an
island that glides is somewhere between the old and the new one, the same for both of a locked pair (R69, R83: free within those
bounds, monotonic). -/
def State.readReg (s : State) (a : Nat) : Word × State :=
  if a = A.bootStatus then
    (F.bootStatus_STATE_MS.set (s.rd a) (min (2 ^ 32 - 1) ((s.now - s.board.stateFrom) / 200000)), s)
  else if a = A.sbStatus then
    if s.flag a F.sbStatus_BRAKED && decide (s.now ≤ s.board.releaseFrom) then (F.sbStatus_BRAKE_PIN.set (s.rd a) 1, s)
    else
      let (v, s) := s.free
      (F.sbStatus_BRAKE_PIN.set (s.rd a) (v.toNat % 2), s)
  else if A.clkIsland 0 ≤ a && a < A.clkIsland 4608 && s.flag a F.clkIsland_GLIDING then
    let j := (a - A.clkIsland 0) / 8
    let f := s.fld a F.clkIsland_FREQ_MHZ
    let q := s.islandTarget j
    let (v, s) := s.free
    let mhz := if f ≤ q then f + v.toNat % (q - f + 1) else f - v.toNat % (f - q + 1)
    let s := (lockedWith j).foldl (fun s i => s.setFreq i mhz) s
    (s.rd a, s)
  else (s.rd a, s)

/-! Change stamps (R104). -/

/-- The change stamp of a register; 0 for one that has none. -/
def State.stampOf (s : State) (a : Nat) : Nat := Assoc.getD s.ctl.stamps a 0

/-- CTL_COMMIT_STAMP rises by 1, and the registers that changed take it. -/
def State.stampChange (s : State) (as : List Nat) : State :=
  let c := (s.rd A.commitStamp).toNat + 1
  let s := s.wr A.commitStamp (BitVec.ofNat 64 c)
  { s with ctl := { s.ctl with stamps := as.foldl (fun l a => Assoc.set l a c) s.ctl.stamps } }

/-! Ranges (R105; each row names the rule of its register). -/

/-- A field lies from lo to hi. -/
def Fld.within (f : Fld) (v : Word) (lo hi : Nat) : Bool := lo ≤ f.get v && f.get v ≤ hi

/-- The four key-map entries of a CTL_KEY_MAP value (R714). -/
def keyEntries (v : Word) : List Nat := (List.range 4).map (fun i => bitsOf v.toNat (16 * i) 9)

/-- A granule of 1 GiB lies in a stack-tier or capacity-tier window of the part (R701). -/
def State.tierGranule (s : State) (g : Nat) : Bool := (windowOf (g * gib)).1.isTier && !s.absentTier (g * gib)

/-- The value lies in the ranges of the register at the base of a row. -/
def State.inRange (s : State) (r : RegRow) (is : List Nat) (v : Word) : Bool :=
  let b := r.base
  if b = A.clkDroop 0 then F.clkDroop_DROOP_MV.within v 20 120 && F.clkDroop_MAX_STRETCH.within v 1 8
  else if b = A.chPermit 0 then v.toNat.testBit 0
  else if b = A.bootCfg then F.bootCfg_BOOT_DS.within v 1 192 && F.bootCfg_BOOT_DC.within v 0 512
  else if b = A.bootSvn then s.fld A.bootSvn F.bootSvn_MIN_SVN ≤ F.bootSvn_MIN_SVN.get v
  else if b = A.ilvSplit then F.ilvSplit_DS.within v 0 192 && F.ilvSplit_DC.within v 0 s.part.ct
  else if b = A.mxeDieCfg 0 then F.mxeDieCfg_REPLAY_STEP.within v 1 15 && F.mxeDieCfg_HOLD_TIMEOUT_LOG2.within v 16 30
  else if b = A.beamCfg 0 then F.beamCfg_WAIT_TIMEOUT_LOG2.within v 16 40
  else if b = A.tcDieCfg 0 then
    F.tcDieCfg_BAR_TIMEOUT_LOG2.within v 16 40 && F.tcDieCfg_GWAIT_TIMEOUT_LOG2.within v 16 40
      && F.tcDieCfg_CONV_WAIT_LOG2.within v 4 15
  else if b = A.l2Cfg 0 then F.l2Cfg_RED_STALL_LOG2.within v 16 34
  else if b = A.l2RedTable 0 0 0 then
    let op := F.l2RedTable_OP.get v
    let fmt := F.l2RedTable_FMT.get v
    op ≤ 8 && fmt ≤ 5 && (if op = 8 then 2 ≤ fmt else fmt ≤ 1)
  else if b = A.memCfg 0 then
    F.memCfg_THROTTLE_C.within v 80 104 && F.memCfg_MARK_THRESH.within v 1 4095 && F.memCfg_AGE_LOG2.within v 10 20
      && F.memCfg_MAX0_PCT.within v 10 100 && F.memCfg_W1.within v 1 15 && F.memCfg_W2.within v 1 15 && F.memCfg_W3.within v 1 15
  else if b = A.synCfg 0 then F.synCfg_QWAIT_TIMEOUT_LOG2.within v 20 44
  else if b = A.peCfg 0 then F.peCfg_MAX_SPEED.within v 1 6 && [1, 2, 4, 8, 16].contains (F.peCfg_MAX_WIDTH.get v)
  else if b = A.peInwin 0 0 then
    F.peInwin_SIZE_LOG2.within v 12 42 && F.peInwin_BASE.get v * 4096 % 2 ^ F.peInwin_SIZE_LOG2.get v = 0
  else if b = A.fabCfg then
    F.fabCfg_DRAIN_MS.within v 1 60000 && F.fabCfg_LIFE.within v 16 255 && F.fabCfg_E2E_US.within v 50 10000
      && F.fabCfg_E2E_RETRIES.within v 1 15 && F.fabCfg_JOIN_MS.within v 100 4095
      && decide (F.fabCfg_LIFE.get v * 16 < F.fabCfg_E2E_US.get v * 100)
      && s.part.portPresent (F.fabCfg_ECL_PORT0.get v) && s.part.portPresent (F.fabCfg_ECL_PORT1.get v)
  else if b = A.portCfg 0 0 then
    let mode := F.portCfg_MODE.get v
    mode ≠ 3 && (mode ≠ 1 || (is.getD 0 0 = 3 && 2 ≤ is.getD 1 0))
  else if b = A.errCfg then
    F.errCfg_OP_LIMIT_US.within v 100 60000 && F.errCfg_CTX_LIMIT_MS.within v 10 60000
      && F.errCfg_DEV_QUIESCE_MS.within v 10 10000 && F.errCfg_MEM_RETRIES.within v 1 7
  else if b = A.pwrCfg then
    F.pwrCfg_CAP_W.within v 1800 3800 && F.pwrCfg_SLEW_WPS.within v 200 20000 && F.pwrCfg_THERM_C.within v 85 110
      && F.pwrCfg_SLEW_BAND.within v 5 250
  else if b = A.pwrEcCfg then
    F.pwrEcCfg_W_NEED0.get v = 0 && F.pwrEcCfg_HEAT_NEED0.get v = 0 && F.pwrEcCfg_HOLD_MAX.within v 1 600
  else if b = A.pwrBootLimits then
    F.pwrBootLimits_BOOT_CAP_W.within v 1800 3800 && F.pwrBootLimits_BOOT_SLEW_WPS.within v 200 20000
  else if b = A.ageCfg then
    F.ageCfg_PERIOD_D.within v 1 180 && F.ageCfg_GUARD_PS.within v 5 100 && F.ageCfg_AGE_PS.within v 0 50
      && F.ageCfg_FENCE_ERRS.within v 1 15
  else if b = A.keyMap 0 then
    (List.range 4).all (fun i =>
      let e := bitsOf v.toNat (16 * i) 16
      e = 0 || s.tierGranule (4 * is.getD 0 0 + i)) &&
    (keyEntries v).all (fun e => e < 256 || s.mg.keys.contains (e % 256))
  else true

/-- The value a register takes from a staged value under a mask (R102): only writable fields change, and a reserved encoding of
MEDIA is ignored (R9, R600). -/
def State.merged (s : State) (r : RegRow) (a : Nat) (v m : Word) : Word :=
  let old := s.rd a
  let w := m &&& r.mask [.rw, .rws, .rwp]
  let new := (old &&& ~~~ w) ||| (v &&& w)
  if r.base = A.portCfg 0 0 && F.portCfg_MEDIA.get new = 3 then F.portCfg_MEDIA.set new (F.portCfg_MEDIA.get old) else new

/-! What a change of a staged register does (R32, R600, R698, R701). -/

/-- A split takes effect: both tiers become undefined, and nothing of them stays cached, listed at a host or open in a slot (R32,
R419; log entry 42). -/
def State.splitChanged (s : State) : State :=
  let s := s.l2.slices.foldl (fun s e =>
    let c := s.slice e.1
    s.setSlice e.1 { c with lines := c.lines.filter (fun l => isPinnedLine l.line), slots := c.slots.filter (fun r => isPinnedLine r.line),
                            dir := c.dir.filter (fun d => isPinnedLine d.1), recalls := c.recalls.filter (fun d => isPinnedLine d.line) }) s
  (s.undefine 0 0x20000000000).undefine 0x40000000000 0xC0000000000

/-- A granule's key changes (R701): its lines and host copies go without write-back, its slots drain into nothing, and each of
its sectors is undefined until it is written whole. -/
def State.dropGranule (s : State) (g : Nat) : State :=
  let lo := g * gib
  let mine (line : Nat) : Bool := line * 128 / gib = g
  let s := s.l2.slices.foldl (fun s e =>
    let s := (e.2.slots.filter (fun r => mine r.line)).foldl (fun s r => s.drainSlot e.1 r.line true) s
    let s := (e.2.lines.filter (fun l => mine l.line)).foldl (fun s l => s.dropLine e.1 l.line) s
    s.modSlice e.1 (fun c => { c with dir := c.dir.filter (fun d => !mine d.1), recalls := c.recalls.filter (fun d => !mine d.line) })) s
  s.undefine lo (lo + gib) true

/-- Granules of a CTL_KEY_MAP register whose entries differ between two values. -/
def keyChanges (r : Nat) (old new : Word) : List Nat :=
  ((List.range 4).filter (fun i => bitsOf old.toNat (16 * i) 9 ≠ bitsOf new.toNat (16 * i) 9)).map (4 * r + ·)

/-- A register given the value of a COMMIT or of a persistent write, with what its change does. -/
def State.applyReg (s : State) (r : RegRow) (is : List Nat) (a : Nat) (new : Word) : State :=
  let old := s.rd a
  let s := s.wr a new
  if old = new then s
  else if r.base = A.ilvSplit then s.splitChanged
  else if r.base = A.clusterOwn 0 then
    let m := is.getD 0 0
    s.zero (spBase m) (spBase m + spBytes)
  else if r.base = A.keyMap 0 then (keyChanges (is.getD 0 0) old new).foldl (fun s g => s.dropGranule g) s
  else if r.base = A.portCfg 0 0 then
    s.dropPort (4 * is.getD 0 0 + is.getD 1 0) (if F.portCfg_MODE.get new = 2 then 5 else 3)
  else s

/-- A cluster has work (R698): a resident group, an accepted tile, an open or streaming chain, a queued descriptor, or a
sequencer of its die that is not IDLE. -/
def State.clusterBusy (s : State) (m : Nat) : Bool :=
  let k := m / 4
  let j := m % 4
  s.comp.cores.any (fun e => e.1 / 64 = k && coreCluster (e.1 % 64) = j && !e.2.slots.isEmpty)
  || s.comp.tiles.any (fun e => e.2.any (fun t => t.cluster = m))
  || s.comp.chains.any (fun e => e.1 / 8 = k && e.1 % 8 / 2 = j && !e.2.isEmpty)
  || s.comp.movers.any (fun e => e.1 / 16 = k && e.1 % 16 / 4 = j && !e.2.queue.isEmpty)
  || s.beamState k ≠ 0

/-- A staged register may not change now (R32, R105, R110, R698). -/
def State.fixedNow (s : State) (r : RegRow) (is : List Nat) (a : Nat) (new : Word) : Bool :=
  if r.cls = .persistent then s.supplyEvent
  else if r.base = A.ilvSplit then (List.range 256).any (fun c => s.fld (A.xltRoot c) F.xltRoot_OPEN ≠ 0)
  else if r.base = A.clusterOwn 0 then s.rd a ≠ new && s.clusterBusy (is.getD 0 0)
  else r.ofTower && !r.dims.isEmpty && s.board.towerRst.any (fun e => e.1 = is.getD 0 0)

/-! Immediate registers (R99, R100). -/

/-- Whether the condition of an alert still holds (R692). -/
def State.alertHolds (s : State) (b : Nat) : Bool :=
  match b with
  | 0 => s.flag A.sbStatus F.sbStatus_BRAKE_STUCK
  | 1 => s.board.refLost
  | 2 => s.board.main.lost || (s.board.backup.lost && s.eclipse)
  | 4 => s.flag A.sbStatus F.sbStatus_THERM_TRIPPED
  | 5 => s.readiness = 15 && s.fld A.bootStatus F.bootStatus_FAIL_CAUSE = 1
  | 7 => (List.range 5).any (fun q => s.flag (errQStatus q) F.errQStatusT_OVERFLOW)
  | 8 => !s.err.downCh.isEmpty
  | 9 => (List.range 4).any (fun k => [2, 3].any (fun u => s.fld (A.memCtlStatus k u) F.memCtlStatus_KIND = 1
      && s.flag (A.memCtlStatus k u) F.memCtlStatus_THROTTLED))
  | 10 => (List.range 4).any (fun k => [0, 1, 2].any (fun e =>
        s.fld (A.linkStatus k e) F.linkStatus_STATE = 0 || s.flag (A.linkStatus k e) F.linkStatus_DEGRADED))
      && s.board.powered
  | 12 => s.flag A.ageStatus0 F.ageStatus0_FIXED_MARGINAL || s.flag A.ageStatus1 F.ageStatus1_VF_WORN
  | 13 => s.fld A.errDevState F.errDevState_STATE = 4
  | _ => false

/-- Alerts cleared (R692): those whose condition still holds are set again. -/
def State.clearAlerts (s : State) (mask : Nat) : State :=
  let v := (s.rd A.alert).toNat
  let gone := (List.range 14).filter (fun b => mask.testBit b && v.testBit b)
  let s := s.wr A.alert (BitVec.ofNat 64 (gone.foldl (fun v b => putBit v b false) v))
  (gone.filter s.alertHolds).foldl (fun s b => s.alertBit b) s

/-- BRAKE_STUCK cleared while braked restarts the stuck timer (R55, R61). -/
def State.clearBrakeStuck (s : State) : State :=
  if s.flag A.sbStatus F.sbStatus_BRAKE_STUCK then
    let s := s.setFlag A.sbStatus F.sbStatus_BRAKE_STUCK false
    if s.flag A.sbStatus F.sbStatus_BRAKED then { s with board := { s.board with stuckFrom := s.now } } else s
  else s

/-- The ceiling that LMAX of the host die puts on FREQ_REQ_MHZ (R672). -/
def State.hostCap (s : State) : Nat := (800 + 160 * s.fld (A.vf2 8) F.vf2_LMAX) / 100 * 100

/-- A frequency of a host-core island as it is taken (R67, R83, R672). -/
def State.hostFreq (s : State) (mhz : Nat) : Nat := min s.hostCap (min 3200 (max 800 mhz) / 100 * 100)

/-- Every FREQ_REQ_MHZ brought under LMAX of the host die (R672). -/
def State.clampHosts (s : State) : State :=
  (List.range 8).foldl (fun s h =>
    let a := A.clkIsland (islandOf 3 h)
    (s.setFld a F.clkIsland_FREQ_REQ_MHZ (s.hostFreq (s.fld a F.clkIsland_FREQ_REQ_MHZ))).glide (islandOf 3 h)) s

/-- A new frequency asked of an island: it glides (R67). -/
def State.askFreq (s : State) (j mhz : Nat) : State :=
  (s.setFld (A.clkIsland j) F.clkIsland_FREQ_REQ_MHZ mhz).glide j

/-- Both rings of a channel may be enabled (R123). -/
def State.ringsFit (s : State) (n : Nat) : Bool :=
  [A.chCmdBase n, A.chRplBase n].all (fun b =>
    let z := s.fld b F.chCmdBase_SIZE_LOG2
    6 ≤ z && z ≤ 16 && s.tierRange (s.ringBase b) (64 * 2 ^ z))

/-- A reply held for want of room is written once there is room, on a disabled channel too (R89, R120). -/
def State.resumeReply (s : State) (n : Nat) : State :=
  match (s.chan n).held with
  | some (r, intr) => s.deliver n r intr
  | none => s

/-- The counters that a CNT_CLR register clears, as its row's base with the offset of the first and how many (R180, R302, R339,
R363, R402, R438, R470, R501, R531, R603, R633, R668). -/
def clearTable : List (Nat × Nat × Nat) :=
  [(A.mxeCntClr 0 0, 0x10, 9), (A.vxeCntClr 0 0, 0x10, 7), (A.tcCntClr 0 0, 8, 8), (A.tcSpCntClr 0 0, 8, 4),
   (A.tcTmCntClr 0 0, 0x10, 7), (A.l2CntClr 0 0, 8, 13), (A.memCntClr 0 0, 8, 11), (A.lntCntClr 0 0, 0x10, 8),
   (A.xltCntClr 0, 8, 7), (A.synCntClr 0, 8, 4), (A.portCntClr 0 0, 8, 9), (A.fabCntClr 0, 8, 4), (A.errCntClrT 0, 8, 5),
   (A.errCntClrD, 8, 5), (A.pwrCntClr, 8, 9)]

/-- A write of v under m to an immediate register: the new state, or the status with which it fails (R100). -/
def State.writeNow (s : State) (r : RegRow) (is : List Nat) (a : Nat) (v m : Word) : Except Nat State :=
  let n := is.getD 0 0
  let new := s.merged r a v m
  let ones := (v &&& m).toNat
  if r.base = A.sbStatus then .ok (if ones.testBit 2 then s.clearBrakeStuck else s)
  else if r.base = A.alert then .ok (s.clearAlerts ones)
  else if r.base = A.chCfg 0 then
    if isRing n && m.toNat.testBit 2 && F.chCfg_ENABLE.get new = 1 && !s.chEnabled n then
      if !s.ringsFit n then .error St.invalid
      else .ok ((((s.wr a new).wr (A.chCmdPtr n) 0).wr (A.chRplPtr n) 0).resumeReply n)
    else .ok (s.wr a new)
  else if r.base = A.chCmdBase 0 || r.base = A.chRplBase 0 then
    if s.chEnabled n then .error St.busy
    else if F.chCmdBase_SIZE_LOG2.get m ≠ 0 && !F.chCmdBase_SIZE_LOG2.within new 6 16 then .error St.invalid
    else .ok (s.wr a new)
  else if r.base = A.chRplPtr 0 then .ok ((s.wr a new).resumeReply n)
  else if r.base = A.chStatus 0 then
    .ok (s.wr a (s.rd a &&& ~~~ (v &&& m &&& r.mask [.rw1c])))
  else if r.base = A.clkIsland 0 then
    if n / 256 = 2 && F.clkIsland_FREQ_REQ_MHZ.get m ≠ 0 then .ok (s.askFreq n (s.hostFreq (F.clkIsland_FREQ_REQ_MHZ.get new)))
    else .ok s
  else if r.base = A.hcRelease then .ok (s.wr A.hcRunning (s.rd A.hcRunning ||| (v &&& m)))
  else match clearTable.find? (fun t => t.1 = r.base) with
    | some (_, o, c) =>
      let s := if r.base = A.memCntClr 0 0 && ones.testBit 0 then
          { s with memc := { s.memc with hotAt := s.memc.hotAt.map (fun e => if e.1 = 4 * n + is.getD 1 0 then (e.1, s.now) else e) } }
        else s
      .ok (if ones.testBit 0 then s.clearRegs (a + o) c else s)
    | none => .ok (s.wr a new)

end Sys2Proof.Machine
end

