-- ==== Sys2Proof/Machine/Control.lean ====
section
/-! DEFINITION. The rows of the control plane: doorbells, packets, transactions, registers, readiness (R88 to R127, R129, R130,
R692, R716). -/

namespace Sys2Proof.Machine

/-! Doorbells and other stores to control space (R90). -/

/-- A store to control space that is dropped: it is counted (R90, R119). -/
def State.dropStore (s : State) : State := s.bumpFld A.directStoreCnt F.directStoreCnt_COUNT 1

/-- A doorbell store is accepted on a memory-ring channel from the source that DOORBELL_SRC names: 0 a host core, 1 and 2 the
PCIe ports (R90, R120). -/
def State.mayRing (s : State) (ch src : Nat) : Bool :=
  isRing ch && src < 3 && s.fld (A.chCfg ch) F.chCfg_DOORBELL_SRC = src

/-- CMD_TAIL_DOORBELL. -/
def State.tailDoorbell (s : State) (ch src v : Nat) : State :=
  if s.mayRing ch src then s.setFld (A.chCmdPtr ch) F.chCmdPtr_TAIL v else s.dropStore

/-- RPL_HEAD_DOORBELL: a held reply goes on once there is room (R89). -/
def State.headDoorbell (s : State) (ch src v : Nat) : State :=
  if s.mayRing ch src then (s.setFld (A.chRplPtr ch) F.chRplPtr_HEAD v).resumeReply ch else s.dropStore

/-- A store to the command tail of a channel's ring (R88, R90). -/
def execCmdTailDoorbell (ch src v : Nat) (s : State) : Res := onUnit (ch < 64) (s.tailDoorbell ch src v)

/-- A store to the reply head of a channel's ring (R89, R90). -/
def execRplHeadDoorbell (ch src v : Nat) (s : State) : Res := onUnit (ch < 64) (s.headDoorbell ch src v)

/-- The channel whose doorbell register lies at an address, and whether it is the reply head. -/
def doorbellAt (a : Nat) : Option (Nat × Bool) :=
  if A.chCmdPtr 0 ≤ a && a < A.chCmdPtr 60 && (a - A.chCmdPtr 0) % 0x100 = 0 then some ((a - A.chCmdPtr 0) / 0x100, false)
  else if A.chRplPtr 0 ≤ a && a < A.chRplPtr 60 && (a - A.chRplPtr 0) % 0x100 = 0 then some ((a - A.chRplPtr 0) / 0x100, true)
  else none

/-- A store to control space from a source, wherever it lies (R90). -/
def State.controlStore (s : State) (a src v : Nat) : State :=
  match doorbellAt a with
  | some (ch, false) => s.tailDoorbell ch src v
  | some (ch, true) => s.headDoorbell ch src v
  | none => s.dropStore

/-- A store to control space that no doorbell accepts changes nothing and is counted (R90). -/
def execDirectStoreDrop (addr src : Nat) (s : State) : Res :=
  onUnit ((windowOf addr).1 = .control)
    (match doorbellAt addr with
     | some (ch, _) => if s.mayRing ch src then s else s.dropStore
     | none => s.dropStore)

/-! Packets (R88, R89, R94, R95). -/

/-- A packet from its bytes: opcode, and the fields of its header with its parameter words (R94). -/
def parsePacket (bs : List Byte) : Nat × Packet :=
  let len := leNat ((bs.drop 8).take 2)
  let at8 (i : Nat) : Word := BitVec.ofNat 64 (leNat ((bs.drop (16 + 8 * i)).take 8))
  (leNat (bs.take 2),
   { flags := leNat ((bs.drop 2).take 2), seq := leNat ((bs.drop 4).take 4), length := len, txn := leNat ((bs.drop 10).take 2),
     params := (List.range ((min len bs.length - 16) / 8)).map at8 })

/-- LENGTH is one that a packet may have (R94, R95). -/
def lengthOk (len : Nat) : Bool := 16 ≤ len && len ≤ 4096 && len % 8 = 0

/-- A packet taken from its channel: it is in progress, and the transaction timer restarts (R91, R108). -/
def State.takePacket (s : State) (ch op : Nat) (p : Packet) : State :=
  let s := (s.modChan ch (fun c => { c with current := some (op, p), busy := false, lastPkt := s.now })).joinStore ch op
  { s with ctl := { s.ctl with lastCh := ch } }

/-- A packet that steps 1 to 3 of R95, R53 or R129 turn away replies at once; any other waits for its opcode's row. -/
def State.judgePacket (s : State) (ch : Nat) : State :=
  match (s.chan ch).current with
  | some (op, p) => match s.precheck ch op p with | some st => s.reply ch st | none => s
  | none => s

/-- The slots from the command ring's head that a packet would take, their first outside populated memory, if any (R123), and the
packet's slot count by its header; 1 where LENGTH is wrong (R95). -/
def State.headSlots (s : State) (ch n : Nat) : List Nat :=
  ringAddrs (s.ringBase (A.chCmdBase ch)) (s.ringSlots (A.chCmdBase ch)) (s.fld (A.chCmdPtr ch) F.chCmdPtr_HEAD) n

/-- Slots between head and tail of the command ring. -/
def State.cmdUsed (s : State) (ch : Nat) : Nat :=
  ringUsed (s.ringSlots (A.chCmdBase ch)) (s.fld (A.chCmdPtr ch) F.chCmdPtr_TAIL) (s.fld (A.chCmdPtr ch) F.chCmdPtr_HEAD)

/-- The command ring's head moved on by n slots. -/
def State.advanceHead (s : State) (ch n : Nat) : State :=
  let slots := s.ringSlots (A.chCmdBase ch)
  s.setFld (A.chCmdPtr ch) F.chCmdPtr_HEAD ((s.fld (A.chCmdPtr ch) F.chCmdPtr_HEAD + n) % (2 * slots))

/-- The channel may take a packet: enabled, with nothing in progress, held or being reset (R89, R91, R111, R120). -/
def State.chFree (s : State) (ch : Nat) : Bool :=
  let c := s.chan ch
  s.chOpen ch && c.current.isNone && c.held.isNone && !c.resetting

/-- A packet of a memory ring (R88, R89, R95, R123, R619). -/
def State.dequeueRing (s : State) (ch : Nat) : State :=
  if s.cmdUsed ch = 0 then s
  else
    let first := (s.headSlots ch 1).getD 0 0
    if !s.tierRange first 64 then s.ringFault ch first
    else
    match s.ccRead first 64 with
    | (s, false) => s
    | (s, true) =>
      let len := leNat (s.rdBytes (first + 8) 2)
      let bad := !lengthOk len
      let n := if bad then 1 else slotsOf len
      let poison (a : Nat) : State :=
        let s := s.advanceHead ch 1
        let (op, p) := parsePacket (s.rdBytes first 16)
        let s := s.takePacket ch op { p with params := [] }
        s.commandFail ch { queue := 4, cls := 0x12, domain := 0, action := 5, unit := unitCode 15 0 0 0 0, addr := a }
      if s.poisoned first 64 then poison first
      else if s.cmdUsed ch < n then s
      else
        let as := s.headSlots ch n
        match as.find? (fun a => !s.tierRange a 64), as.find? (fun a => s.poisoned a 64) with
        | some a, _ => s.ringFault ch a
        | none, some a => poison a
        | none, none =>
          match s.ccReads ((as.drop 1).map (fun a => (a, 64))) with
          | (s, false) => s
          | (s, true) =>
          let (op, p) := parsePacket ((as.flatMap (fun a => s.rdBytes a 64)).take (if bad then 16 else len))
          ((s.advanceHead ch n).takePacket ch op p).judgePacket ch

/-- A packet of a transport channel, in arrival order (R92). -/
def State.dequeueTransport (s : State) (ch : Nat) : State :=
  match (s.chan ch).arrived with
  | [] => s
  | bs :: rest =>
    let (op, p) := parsePacket bs
    let from? := s.fab.cmdFrom.find? (fun e => e.1 = ch)
    let s : State := match from? with | some e => { s with fab := { s.fab with cmdFrom := s.fab.cmdFrom.erase e } } | none => s
    ((s.modChan ch (fun c => { c with arrived := rest, src := from?.map (·.2) })).takePacket ch op p).judgePacket ch

/-- A packet is ready on a channel that may take one (R88, R89, R91): its slots lie between head and tail, or it has arrived. -/
def State.chReady (s : State) (ch : Nat) : Bool :=
  s.chFree ch &&
  (if isRing ch then
     s.cmdUsed ch ≠ 0 &&
       (let first := (s.headSlots ch 1).getD 0 0
        let len := leNat (s.rdBytes (first + 8) 2)
        !s.tierRange first 64 || s.poisoned first 64 || !lengthOk len || decide (slotsOf len ≤ s.cmdUsed ch))
   else !(s.chan ch).arrived.isEmpty)

/-- The channel that CC takes from next: the first ready one after the last it took from, in order of number (R91). -/
def State.nextCh (s : State) : Option Nat :=
  ((List.range 64).map (fun i => (s.ctl.lastCh + 1 + i) % 64)).find? s.chReady

/-- CC takes the next packet of the channel whose turn it is (R91, R95). -/
def execPacketDequeue (ch : Nat) (s : State) : Res :=
  onUnit (ch < 64)
    (if s.nextCh ≠ some ch then s else if isRing ch then s.dequeueRing ch else s.dequeueTransport ch)

/-- A ring of an enabled channel meets reserved or unpopulated space (R123): the command ring at its head, or the reply ring
where a reply waits. -/
def execRingFault (ch : Nat) (s : State) : Res :=
  onUnit (ch < 64)
    (if !s.chEnabled ch || !isRing ch || (s.chan ch).current.isSome then s
     else
       let slots := s.ringSlots (A.chRplBase ch)
       let rpl := match (s.chan ch).held with
         | some (r, _) => ringAddrs (s.ringBase (A.chRplBase ch)) slots (s.fld (A.chRplPtr ch) F.chRplPtr_TAIL)
             (slotsOf (16 + 8 * r.details.length))
         | none => []
       let cmds := s.headSlots ch (min 1 (s.cmdUsed ch))
       match (rpl ++ cmds).find? (fun a => !s.tierRange a 64) with
       | some a =>
         let s := if rpl.contains a then
             (s.modChan ch (fun c => { c with held := none })).setFlag (A.chStatus ch) F.chStatus_STALLED_RPL false
           else s
         s.ringFault ch a
       | none => s)

/-! Transactions (R101 to R110). -/

/-- The triples of a REG_WRITE. -/
def triplesOf : List Word → List (Nat × Word × Word)
  | a :: v :: m :: l => (a.toNat, v, m) :: triplesOf l
  | _ => []

/-- An illegal sequence (R109): it is counted with its opcode and reason and replies NO_EFFECT, with no interrupt. -/
def State.illegal (s : State) (ch op reason : Nat) (details : List Nat := []) : State :=
  let a := A.chIllegal ch
  let s := (s.bumpFld a F.chIllegal_COUNT 1).setFlds a [(F.chIllegal_LAST_OPCODE, op), (F.chIllegal_LAST_REASON, reason)]
  s.replyWith ch St.noEffect (details.map (BitVec.ofNat 64)) true

/-- The packet in progress on a channel is a COMMIT, or a REG_WRITE outside a transaction that names a persistent register. -/
def State.usesStore (s : State) (ch : Nat) : Bool :=
  match (s.chan ch).current with
  | some (2, _) => true
  | some (5, p) => (s.chan ch).txn.isNone && (triplesOf p.params).any (fun t => (persIndex t.1).isSome)
  | _ => false

/-- A COMMIT or persistent write that CC took earlier on another channel is not done: they go one at a time, in the order of their
dequeue (R91). -/
def State.storeTaken (s : State) (ch : Nat) : Bool :=
  s.ctl.chans.any (fun e => e.1 ≠ ch && e.2.durable.isSome) || (s.ctl.storeQ.takeWhile (· ≠ ch)).any s.usesStore

/-- An open transaction rolls back by itself after 2,000,000,000 MGMT cycles without a packet dequeued on its channel (R108). -/
def execTxnTimeout (ch : Nat) (s : State) : Res :=
  onUnit (ch < 64)
    (let c := s.chan ch
     if c.txn.isSome && c.durable.isNone then
       ((s.notBefore (c.lastPkt + 2000000000)).dropTxn ch).setFlag (A.chStatus ch) F.chStatus_TXN_TIMED_OUT true
     else s)

/-- NOP (R98). -/
def execNop (ch : Nat) (p : Packet) (s : State) : Res :=
  cmd ch 0x000 p s fun s => s.orFail ch (checkWords p []) fun s => s.reply ch St.ok

/-- BEGIN (R101). -/
def execBeginCmd (ch : Nat) (p : Packet) (s : State) : Res :=
  cmd ch 0x001 p s fun s =>
    if (s.chan ch).txn.isSome then s.illegal ch 0x001 4
    else s.orFail ch (checkWords p []) fun s =>
      let last := (s.chan ch).lastTxn
      let id := if last = 65535 then 1 else last + 1
      let stamp := (s.rd A.commitStamp).toNat
      let t : Txn := { id := id, beginStamp := stamp, entries := [], reads := [] }
      let s := (s.modChan ch (fun c => { c with txn := some t, lastTxn := id })).showTxn ch
      s.reply ch St.ok [id, stamp]

/-- ROLLBACK (R107). -/
def execRollback (ch : Nat) (p : Packet) (s : State) : Res :=
  cmd ch 0x003 p s fun s =>
    match (s.chan ch).txn with
    | none => s.illegal ch 0x003 2
    | some t =>
      if p.txn ≠ t.id then s.illegal ch 0x003 5
      else s.orFail ch (checkWords p []) fun s => (s.dropTxn ch).reply ch St.ok [t.entries.length]

/-- The registers of a transaction's watch set: staged first, then those only read (R104, R105). -/
def Txn.watch (t : Txn) : List Nat :=
  t.entries.map (·.addr) ++ t.reads.filter (fun a => !t.entries.any (fun e => e.addr = a))

/-- The first entry of a transaction that a test of its register picks, as its address. -/
def Txn.firstBad (t : Txn) (bad : RegRow → List Nat → ShadowEntry → Bool) : Option Nat :=
  t.entries.findSome? (fun e => match regAt e.addr with
    | some (r, is) => if bad r is e then some e.addr else none
    | none => none)

/-- The first check of a COMMIT that fails, as status and detail words (R105). -/
def State.commitFails (s : State) (t : Txn) : Option (Nat × List Nat) :=
  match t.watch.find? (fun a => decide (t.beginStamp < s.stampOf a)) with
  | some a => some (St.conflict, [a, s.stampOf a])
  | none =>
    match t.firstBad (fun r is _ => s.regUnitGone r is) with
    | some a => some (St.disabled, [a])
    | none =>
      match t.firstBad (fun r is e => !s.inRange r is (s.merged r e.addr e.val e.mask)) with
      | some a => some (St.invalid, [a])
      | none =>
        match t.firstBad (fun r is e => s.fixedNow r is e.addr (s.merged r e.addr e.val e.mask)) with
        | some a => some (St.busy, [a])
        | none =>
          match t.entries.find? (fun e => s.worn e.addr) with
          | some e => some (St.worn, [e.addr])
          | none => none

/-- One entry applied (R102): its masked bits take the staged value; each persistent one counts its wear (R14). The addresses
that changed value gather. -/
def applyEntry (x : State × List Nat) (e : ShadowEntry) : State × List Nat :=
  match regAt e.addr with
  | none => x
  | some (r, is) =>
    let new := x.1.merged r e.addr e.val e.mask
    let changed := x.1.rd e.addr ≠ new
    let s := x.1.applyReg r is e.addr new
    (if (persIndex e.addr).isSome then s.wear e.addr else s, if changed then x.2 ++ [e.addr] else x.2)

/-- All entries of a transaction take effect together; the transaction closes and the COMMIT replies (R105, R106). -/
def State.applyTxn (s : State) (ch : Nat) (t : Txn) : State :=
  let (s, changed) := t.entries.foldl applyEntry (s, [])
  let s := if changed.isEmpty then s else s.stampChange changed
  (s.dropTxn ch).reply ch St.ok [(s.rd A.commitStamp).toNat, t.entries.length]

/-- The persistent registers of a transaction with the values they are to take (R106). -/
def State.persistentWrites (s : State) (t : Txn) : List (Nat × Word) :=
  t.entries.filterMap (fun e => match regAt e.addr with
    | some (r, _) => if (persIndex e.addr).isSome then some (e.addr, s.merged r e.addr e.val e.mask) else none
    | none => none)

/-- COMMIT (R105, R106): one with a persistent entry waits until its record is durable. -/
def execCommitCmd (ch : Nat) (p : Packet) (s : State) : Res :=
  cmd ch 0x002 p s fun s =>
    match (s.chan ch).txn with
    | none => s.illegal ch 0x002 1
    | some t =>
      if p.txn ≠ t.id then s.illegal ch 0x002 5
      else s.orFail ch (checkWords p []) fun s =>
        if s.storeTaken ch then s.unfinished ch
        else match s.commitFails t with
          | some (st, ds) => (s.dropTxn ch).reply ch st ds
          | none =>
            if t.entries.any (fun e => (persIndex e.addr).isSome) then
              s.modChan ch (fun c => { c with durable := some { writes := s.persistentWrites t, commit := true,
                                                                count := t.entries.length, rest := [] } })
            else s.applyTxn ch t

/-- The record of a store that fails a write (R105, R113, R607). -/
def State.storeFailed (s : State) (a : Nat) : State :=
  s.record { queue := 4, cls := 0x2E, domain := 0, action := 5, unit := unitCode 15 0 0 0 0, addr := a }

/-- The record of a COMMIT's persistent entries is durable, or the store has failed it (R105, R106). -/
def execCommitDurable (ch : Nat) (ok : Bool) (s : State) : Res :=
  onUnit (ch < 64)
    (match (s.chan ch).durable, (s.chan ch).txn with
     | some d, some t =>
       if !d.commit then s
       else if ok then s.applyTxn ch t
       else
         let a := match t.entries.find? (fun e => (persIndex e.addr).isSome) with | some e => e.addr | none => 0
         ((s.storeFailed a).dropTxn ch).reply ch St.storeFailed [a]
     | _, _ => s)

/-! Registers (R99 to R103, R112 to R114). -/

/-- A register of a REG_READ: its value, staged where this channel has staged it; a staged or persistent register joins the
watch set (R11, R104). -/
def State.readFor (s : State) (ch a : Nat) : Word × State :=
  match regAt a, (s.chan ch).txn with
  | some (r, _), some t =>
    if r.cls = .staged || r.cls = .persistent then
      match t.entries.find? (fun e => e.addr = a) with
      | some e => (s.merged r a e.val e.mask, s)
      | none =>
        (s.rd a, if t.reads.contains a then s
                 else s.modChan ch (fun c => { c with txn := some { t with reads := t.reads ++ [a] } }))
    else s.readReg a
  | _, _ => s.readReg a

/-- Several registers read for a channel. -/
def State.readAll (s : State) (ch : Nat) : List Nat → List Word × State
  | [] => ([], s)
  | a :: as =>
    let (v, s) := s.readFor ch a
    let (vs, s) := s.readAll ch as
    (v :: vs, s)

/-- REG_READ (R100, R104). -/
def execRegRead (ch : Nat) (p : Packet) (s : State) : Res :=
  cmd ch 0x004 p s fun s =>
    let n := pword p 1
    let as := (List.range n).map (fun i => pword p 0 + 8 * i)
    s.orFail ch (match checkWords p [2 ^ 64 - 1, 127] with
      | some st => some st
      | none => firstFail [(n < 1 || 64 < n, St.invalid), (n ≤ 64 && as.any (fun a => (regAt a).isNone), St.badAddress)]) fun s =>
      let (vs, s) := s.readAll ch as
      s.replyWith ch St.ok (vs ++ as.map (fun a => BitVec.ofNat 64 (s.stampOf a))) false

/-- A register of the rings of a transport channel, or a CTL_CH_ register named on one (R92, R93). -/
def chDenied (ch a : Nat) (r : RegRow) : Bool :=
  let isCh := A.chCfg 0 ≤ a && a < A.chCfg 64
  isCh && (60 ≤ ch || (A.chCfg 60 ≤ a &&
    [A.chCmdBase 0, A.chCmdPtr 0, A.chRplBase 0, A.chRplPtr 0].contains r.base))

/-- A MEM_ or L2_ register, by its block (R115, R129). -/
def memOrL2 (a : Nat) : Bool :=
  (0xE0004000000 ≤ a && a < 0xE0005000000)
  || (towerBase ≤ a && (let o := (a - towerBase) % 0x10000000; 0x3000000 ≤ o && o < 0x5000000))

/-- A triple staged in an open transaction (R102, R103); none where a limit of the shadow set forbids it. -/
def State.stage (s : State) (ch : Nat) (t : Txn) (a : Nat) (v m : Word) : Option State :=
  let put (t : Txn) : State := (s.modChan ch (fun c => { c with txn := some t })).showTxn ch
  if t.entries.any (fun e => e.addr = a) then
    some (put { t with entries := t.entries.map (fun e =>
      if e.addr = a then { e with val := (e.val &&& ~~~ m) ||| (v &&& m), mask := e.mask ||| m } else e) })
  else
    let pers := (t.entries.filter (fun e => (persIndex e.addr).isSome)).length
    if 1024 ≤ t.entries.length || ((persIndex a).isSome && 256 ≤ pers) || 16384 ≤ s.shadowUse.1 then none
    else some (put { t with entries := t.entries ++ [{ addr := a, val := v &&& m, mask := m }] })

/-- What one triple of a REG_WRITE comes to. -/
inductive TripleOut where
  /-- Applied or staged; go on. -/
  | done (s : State)
  /-- It fails with a status. -/
  | fail (st : Nat)
  /-- An illegal sequence with its reason. -/
  | illegal (reason : Nat)
  /-- A persistent write that must become durable first, with the value to store. -/
  | wait (new : Word)

/-- A row of the scale records, which no REG_WRITE may name (R205). -/
def RegRow.ofScale (r : RegRow) : Bool := [0, 1, 2, 3].any (fun i => r.base = scaleAddr 0 i)

/-- One triple (R92, R93, R97, R100, R102, R103, R109, R112, R113, R129, R205). -/
def State.triple (s : State) (ch txn a : Nat) (v m : Word) : TripleOut :=
  match regAt a with
  | none => .fail St.badAddress
  | some (r, is) =>
    if r.ofScale then .fail St.badAddress
    else if chDenied ch a r then .fail St.denied
    else if s.readiness = 2 && memOrL2 a then .fail St.busy
    else
      let open' := (s.chan ch).txn
      let held := r.cls = .staged || r.cls = .persistent
      match held, open' with
      | true, some t =>
        if txn ≠ t.id then .illegal 5
        else if s.regUnitGone r is then .fail St.disabled
        else match s.stage ch t a v m with
          | some s => .done s
          | none => .fail St.shadowFull
      | _, _ =>
        if r.cls = .staged then .illegal 3
        else if s.regUnitGone r is then .fail St.disabled
        else if r.cls = .persistent then
          let new := s.merged r a v m
          if !s.inRange r is new then .fail St.invalid
          else if s.supplyEvent then .fail St.busy
          else if s.worn a then .fail St.worn
          else .wait new
        else if r.cls = .immediate then
          match s.writeNow r is a v m with
          | .ok s => .done s
          | .error st => .fail st
        else .done s

/-- The triples of a REG_WRITE from one on, taken in order, n done before them (R100). -/
def State.writeFrom (s : State) (ch txn : Nat) : Nat → List (Nat × Word × Word) → State
  | n, [] => s.reply ch St.ok [n]
  | n, (a, v, m) :: l =>
    match s.triple ch txn a v m with
    | .done s => s.writeFrom ch txn (n + 1) l
    | .fail st => s.reply ch st [n]
    | .illegal reason => s.illegal ch 0x005 reason [n]
    | .wait new =>
      s.modChan ch (fun c => { c with durable := some { writes := [(a, new)], commit := false, count := n, rest := l } })

/-- The reason for which a REG_WRITE is an illegal sequence, judged at its first staged or persistent triple (R109). -/
def State.badSequence (s : State) (ch txn : Nat) (ts : List (Nat × Word × Word)) : Option Nat :=
  match ts.findSome? (fun t => match regAt t.1 with
    | some (r, _) => if r.cls = .staged || r.cls = .persistent then some r.cls else none
    | none => none), (s.chan ch).txn with
  | some _, some t => if txn ≠ t.id then some 5 else none
  | some c, none => if c = .staged then some 3 else none
  | none, _ => none

/-- REG_WRITE (R100). A packet that would write a persistent register through waits while another channel's is on its way
(R91). Its own LENGTH is judged after the sequence rules (R95); an illegal sequence of such a packet writes nothing, and counts
none of its triples (DESIGN CHOICE, log entry 180). -/
def execRegWrite (ch : Nat) (p : Packet) (s : State) : Res :=
  cmd ch 0x005 p s fun s =>
    let ts := triplesOf p.params
    if (p.length - 16) % 24 ≠ 0 || p.length < 40 || 4096 < p.length then
      match s.badSequence ch p.txn ts with
      | some reason => s.illegal ch 0x005 reason [0]
      | none => s.reply ch St.badLength
    else
      if (s.chan ch).txn.isNone && s.storeTaken ch && ts.any (fun t => (persIndex t.1).isSome) then s.unfinished ch
      else s.writeFrom ch p.txn 0 ts

/-- A persistent write is durable: the register takes its value, its stamp and its wear, and the packet goes on; or the store has
failed it, and the previous value stands (R112, R113). -/
def execRwpWriteDurable (ch : Nat) (ok : Bool) (s : State) : Res :=
  onUnit (ch < 64)
    (match (s.chan ch).durable, (s.chan ch).current with
     | some { writes := [(a, v)], commit := false, count := n, rest := l }, some (_, p) =>
       let s := s.modChan ch (fun c => { c with durable := none })
       if ok then (((s.wr a v).stampChange [a]).wear a).writeFrom ch p.txn (n + 1) l
       else (s.storeFailed a).reply ch St.storeFailed [n]
     | _, _ => s)

/-- PERS_INFO (R114). -/
def execPersInfo (ch : Nat) (p : Packet) (s : State) : Res :=
  cmd ch 0x007 p s fun s =>
    s.orFail ch (checkWords p [2 ^ 64 - 1]) fun s =>
      let a := pword p 0
      match persIndex a with
      | some i => s.reply ch St.ok [i, s.fld (A.persWear i) F.persWear_WEAR, s.stampOf a, (s.rd a).toNat]
      | none => s.reply ch St.badAddress

/-! Channels (R111), identity and readiness (R130, R716). -/

/-- The end of a CHANNEL_RESET (R111): transaction rolled back, heads at tails, counters and flags clear, packets that have
arrived on a transport channel discarded. -/
def State.finishReset (s : State) (n : Nat) : State :=
  let s := s.dropTxn n
  let s := s.modChan n (fun c => { c with resetting := false, held := none, arrived := [] })
  let s := { s with fab := { s.fab with cmdFrom := s.fab.cmdFrom.filter (fun e => e.1 ≠ n) } }
  let s := s.setFld (A.chCmdPtr n) F.chCmdPtr_HEAD (s.fld (A.chCmdPtr n) F.chCmdPtr_TAIL)
  let s := s.setFld (A.chRplPtr n) F.chRplPtr_HEAD (s.fld (A.chRplPtr n) F.chRplPtr_TAIL)
  (s.wr (A.chIllegal n) 0).setFlds (A.chStatus n) [(F.chStatus_TXN_TIMED_OUT, 0), (F.chStatus_STALLED_RPL, 0)]

/-- CHANNEL_RESET (R111): it waits for the named channel's command in progress. -/
def execChannelReset (ch : Nat) (p : Packet) (s : State) : Res :=
  cmd ch 0x006 p s fun s =>
    let n := pword p 0
    s.orFail ch (match checkWords p [63] with
      | some st => some st
      | none => if n = ch then some St.invalid else none) fun s =>
      if (s.chan n).current.isSome then (s.modChan n (fun c => { c with resetting := true })).unfinished ch
      else (s.finishReset n).reply ch St.ok

/-- IDENTIFY (R716). -/
def execIdentify (ch : Nat) (p : Packet) (s : State) : Res :=
  cmd ch 0x100 p s fun s =>
    s.orFail ch (checkWords p []) fun s =>
      s.replyWith ch St.ok ((List.range 4).map (fun w => s.rd (A.ctlId w)) ++ [s.rd A.ctlSerial, s.rd A.capDev]) false

/-- READY_STATUS (R130). -/
def execReadyStatus (ch : Nat) (p : Packet) (s : State) : Res :=
  cmd ch 0x101 p s fun s =>
    s.orFail ch (checkWords p []) fun s =>
      s.reply ch St.ok [((s.readReg A.bootStatus).1).toNat, s.fld A.bootSvn F.bootSvn_MIN_SVN, s.board.ccSvn, s.timeUs]

/-- READY_ADVANCE (R130). -/
def execReadyAdvance (ch : Nat) (p : Packet) (s : State) : Res :=
  cmd ch 0x102 p s fun s =>
    s.orFail ch (match checkWords p [15] with
      | some st => some st
      | none => firstFail [
        (pword p 0 ≠ 3, St.invalid),
        (s.readiness ≠ 3, St.busy),
        (s.ctl.chans.any (fun e => match e.2.durable with | some d => d.commit | none => false) || !s.l2.ranges.isEmpty, St.busy)]) fun s =>
      (s.enter 4).reply ch St.ok

/-- CTL_ALERT_CLEAR: a write of 1s to CTL_ALERT (R57, R692, R711). -/
def execCtlAlertClear (mask : Nat) (s : State) : Res := .next (s.clearAlerts mask)

end Sys2Proof.Machine
end

