-- ==== Sys2Proof/Machine/Crypto.lean ====
section
/-! DEFINITION. The two algorithms that the standards of R22 give (R134, R136, R688): SHA-384 of FIPS 180-4, and the verification of
an ECDSA signature over the curve P-384 of FIPS 186-5. -/

namespace Sys2Proof.Machine

/-! SHA-384. -/

/-- The 80 constants: the first 64 bits of the fractional parts of the cube roots of the first 80 primes. -/
def shaK : List Nat :=
  [0x428a2f98d728ae22, 0x7137449123ef65cd, 0xb5c0fbcfec4d3b2f, 0xe9b5dba58189dbbc,
   0x3956c25bf348b538, 0x59f111f1b605d019, 0x923f82a4af194f9b, 0xab1c5ed5da6d8118] ++
  [0xd807aa98a3030242, 0x12835b0145706fbe, 0x243185be4ee4b28c, 0x550c7dc3d5ffb4e2,
   0x72be5d74f27b896f, 0x80deb1fe3b1696b1, 0x9bdc06a725c71235, 0xc19bf174cf692694] ++
  [0xe49b69c19ef14ad2, 0xefbe4786384f25e3, 0x0fc19dc68b8cd5b5, 0x240ca1cc77ac9c65,
   0x2de92c6f592b0275, 0x4a7484aa6ea6e483, 0x5cb0a9dcbd41fbd4, 0x76f988da831153b5] ++
  [0x983e5152ee66dfab, 0xa831c66d2db43210, 0xb00327c898fb213f, 0xbf597fc7beef0ee4,
   0xc6e00bf33da88fc2, 0xd5a79147930aa725, 0x06ca6351e003826f, 0x142929670a0e6e70] ++
  [0x27b70a8546d22ffc, 0x2e1b21385c26c926, 0x4d2c6dfc5ac42aed, 0x53380d139d95b3df,
   0x650a73548baf63de, 0x766a0abb3c77b2a8, 0x81c2c92e47edaee6, 0x92722c851482353b] ++
  [0xa2bfe8a14cf10364, 0xa81a664bbc423001, 0xc24b8b70d0f89791, 0xc76c51a30654be30,
   0xd192e819d6ef5218, 0xd69906245565a910, 0xf40e35855771202a, 0x106aa07032bbd1b8] ++
  [0x19a4c116b8d2d0c8, 0x1e376c085141ab53, 0x2748774cdf8eeb99, 0x34b0bcb5e19b48a8,
   0x391c0cb3c5c95a63, 0x4ed8aa4ae3418acb, 0x5b9cca4f7763e373, 0x682e6ff3d6b2b8a3] ++
  [0x748f82ee5defb2fc, 0x78a5636f43172f60, 0x84c87814a1f0ab72, 0x8cc702081a6439ec,
   0x90befffa23631e28, 0xa4506cebde82bde9, 0xbef9a3f7b2c67915, 0xc67178f2e372532b] ++
  [0xca273eceea26619c, 0xd186b8c721c0c207, 0xeada7dd6cde0eb1e, 0xf57d4f7fee6ed178,
   0x06f067aa72176fba, 0x0a637dc5a2c898a6, 0x113f9804bef90dae, 0x1b710b35131c471b] ++
  [0x28db77f523047d84, 0x32caab7b40c72493, 0x3c9ebe0a15c9bebc, 0x431d67c49c100d4c,
   0x4cc5d4becb3e42b6, 0x597f299cfc657e2a, 0x5fcb6fab3ad6faec, 0x6c44198c4a475817]

/-- The initial hash value of SHA-384. -/
def shaInit : List Nat :=
  [0xcbbb9d5dc1059ed8, 0x629a292a367cd507, 0x9159015a3070dd17, 0x152fecd8f70e5939,
   0x67332667ffc00b31, 0x8eb44a8768581511, 0xdb0c2e0d64f98fa7, 0x47b5481dbefa4fa4]

/-- A 64-bit word rotated right. -/
def rotr64 (x n : Nat) : Nat := (x >>> n) ||| ((x <<< (64 - n)) % 2 ^ 64)

/-- A message padded to whole blocks of 128 bytes: a bit 1, zeros, and its length in bits as 16 bytes, the most significant first. -/
def shaPad (m : List Byte) : List Byte :=
  m ++ [0x80] ++ List.replicate ((239 - m.length % 128) % 128) 0 ++ (leBytes 16 (8 * m.length)).reverse

/-- The message schedule: 64 more words after the 16 of a block; the words stand newest first. -/
def shaExpand : Nat → List Nat → List Nat
  | 0, w => w
  | n + 1, w =>
    let a := w.getD 1 0
    let b := w.getD 14 0
    let s1 := rotr64 a 19 ^^^ rotr64 a 61 ^^^ (a >>> 6)
    let s0 := rotr64 b 1 ^^^ rotr64 b 8 ^^^ (b >>> 7)
    shaExpand n ((s1 + w.getD 6 0 + s0 + w.getD 15 0) % 2 ^ 64 :: w)

/-- One round on the eight working variables. -/
def shaRound (h : List Nat) (kw : Nat) : List Nat :=
  match h with
  | [a, b, c, d, e, f, g, x] =>
    let t1 := x + (rotr64 e 14 ^^^ rotr64 e 18 ^^^ rotr64 e 41) + ((e &&& f) ^^^ ((2 ^ 64 - 1 - e) &&& g)) + kw
    let t2 := (rotr64 a 28 ^^^ rotr64 a 34 ^^^ rotr64 a 39) + ((a &&& b) ^^^ (a &&& c) ^^^ (b &&& c))
    [(t1 + t2) % 2 ^ 64, a, b, c, (d + t1) % 2 ^ 64, e, f, g]
  | _ => h

/-- One block of 128 bytes taken into the hash. -/
def shaBlock (h : List Nat) (block : List Byte) : List Nat :=
  let w := (List.range 16).map (fun i => leNat (((block.drop (8 * i)).take 8).reverse))
  let ws := (shaExpand 64 w.reverse).reverse
  let r := (shaK.zip ws).foldl (fun h e => shaRound h (e.1 + e.2)) h
  (h.zip r).map (fun e => (e.1 + e.2) % 2 ^ 64)

/-- The blocks of a padded message in order. -/
def shaBlocks : Nat → List Byte → List Nat → List Nat
  | 0, _, h => h
  | n + 1, m, h => shaBlocks n (m.drop 128) (shaBlock h (m.take 128))

/-- SHA-384 of a message, its first byte the most significant. -/
def sha384 (m : List Byte) : BitVec 384 :=
  let p := shaPad m
  BitVec.ofNat 384 (((shaBlocks (p.length / 128) p shaInit).take 6).foldl (fun v w => v * 2 ^ 64 + w) 0)

/-! ECDSA over P-384: y^2 = x^3 - 3 x + b modulo p. -/

/-- The prime of the field. -/
def ecP : Nat := 2 ^ 384 - 2 ^ 128 - 2 ^ 96 + 2 ^ 32 - 1
/-- The coefficient b. -/
def ecB : Nat :=
  0xb3312fa7e23ee7e4988e056be3f82d19181d9c6efe8141120314088f5013875ac656398d8a2ed19d2a85c8edd3ec2aef
/-- The order of the base point. -/
def ecN : Nat :=
  0xffffffffffffffffffffffffffffffffffffffffffffffffc7634d81f4372ddf581a0db248b0a77aecec196accc52973
/-- The base point. -/
def ecG : Nat × Nat :=
  (0xaa87ca22be8b05378eb1c71ef320ad746e1d3b628ba79b9859f741e082542a385502f25dbf55296c3a545e3872760ab7,
   0x3617de4a96262c6f5d9e98bf9292dc29f8f41dbd289a147ce9da3113b5f0b8c00a60b1ce1d7e819d7a431d7c90ea0e5f)

/-- A difference modulo p. -/
def ecSub (a b : Nat) : Nat := (a + ecP - b % ecP) % ecP

/-- a to the power e modulo m, e below 2^bits. -/
def powMod (a e m : Nat) : Nat → Nat
  | 0 => 1 % m
  | bits + 1 =>
    let r := powMod a (e / 2) m bits
    let q := r * r % m
    if e % 2 = 1 then q * a % m else q

/-- A point in projective coordinates (x / z^2, y / z^3); z is 0 at infinity. -/
abbrev EcPoint := Nat × Nat × Nat

/-- A point doubled. -/
def ecDouble (a : EcPoint) : EcPoint :=
  let (x, y, z) := a
  if z = 0 || y = 0 then (1, 1, 0)
  else
    let yy := y * y % ecP
    let s := 4 * x * yy % ecP
    let zz := z * z % ecP
    let m := 3 * (ecSub x zz * ((x + zz) % ecP)) % ecP
    let x' := ecSub (m * m) (2 * s)
    (x', ecSub (m * ecSub s x') (8 * yy * yy), 2 * y * z % ecP)

/-- Two points added. -/
def ecAdd (a b : EcPoint) : EcPoint :=
  let (x1, y1, z1) := a
  let (x2, y2, z2) := b
  if z1 = 0 then b
  else if z2 = 0 then a
  else
    let u1 := x1 * z2 * z2 % ecP
    let u2 := x2 * z1 * z1 % ecP
    let s1 := y1 * z2 * z2 * z2 % ecP
    let s2 := y2 * z1 * z1 * z1 % ecP
    if u1 = u2 then (if s1 = s2 then ecDouble a else (1, 1, 0))
    else
      let h := ecSub u2 u1
      let r := ecSub s2 s1
      let hh := h * h % ecP
      let h3 := hh * h % ecP
      let v := u1 * hh % ecP
      let x3 := ecSub (ecSub (r * r) h3) (2 * v)
      (x3, ecSub (r * ecSub v x3) (s1 * h3), h * z1 * z2 % ecP)

/-- k times a point, k below 2^bits. -/
def ecMul (a : EcPoint) (k : Nat) : Nat → EcPoint
  | 0 => (1, 1, 0)
  | bits + 1 =>
    let d := ecDouble (ecMul a (k / 2) bits)
    if k % 2 = 1 then ecAdd d a else d

/-- A public key is a point of the curve. -/
def ecOnCurve (q : Nat × Nat) : Bool :=
  q.1 < ecP && q.2 < ecP && q.2 * q.2 % ecP = ecSub (q.1 * q.1 * q.1 + ecB) (3 * q.1)

/-- A signature, r then s of 48 bytes each, verifies for a digest under a public key (FIPS 186-5). The bytes of r and s stand least
significant first, as every field of a header does (R8, R134; log entry 218). -/
def ecdsaVerify (q : Nat × Nat) (digest : BitVec 384) (sig : List Byte) : Bool :=
  let r := leNat (sig.take 48)
  let s := leNat ((sig.drop 48).take 48)
  if sig.length ≠ 96 || r = 0 || ecN ≤ r || s = 0 || ecN ≤ s || !ecOnCurve q then false
  else
    let w := powMod s (ecN - 2) ecN 384
    let u1 := digest.toNat * w % ecN
    let u2 := r * w % ecN
    let (x, _, z) := ecAdd (ecMul (ecG.1, ecG.2, 1) u1 384) (ecMul (q.1, q.2, 1) u2 384)
    if z = 0 then false
    else
      let zi := powMod z (ecP - 2) ecP 384
      x * zi % ecP * zi % ecP % ecN = r

end Sys2Proof.Machine
end

