-- ==== Sys2Proof/Machine/MemRows.lean ====
section
/-! DEFINITION. The memory controllers (R404 to R430, R609): the 72/64 code on error patterns, erasure marks, scrubs, temperature
and channel faults. The code is linear: what a controller does with a word follows from its error pattern alone. -/

namespace Sys2Proof.Machine

/-! The field GF(2^8) over 0x11D (R409). -/

/-- A field element times alpha. -/
def gfTwice (a : Nat) : Nat := if a < 128 then 2 * a else (2 * a) ^^^ 0x11D

/-- The product of two field elements. -/
def gfMul (a b : Nat) : Nat :=
  ((List.range 8).foldl (fun (r : Nat × Nat) i => (if b.testBit i then r.1 ^^^ r.2 else r.1, gfTwice r.2)) (0, a)).1

/-- alpha to a power. -/
def gfPow (n : Nat) : Nat := (List.range (n % 255)).foldl (fun a _ => gfTwice a) 1

/-- The generator's coefficients, from x^8 down. -/
def rsGen : List Nat :=
  (List.range 8).foldl (fun (g : List Nat) i =>
    (List.range (g.length + 1)).map (fun j => g.getD j 0 ^^^ gfMul (gfPow i) (if j = 0 then 0 else g.getD (j - 1) 0))) [1]

/-- The eight check bytes of 64 data bytes (R409). -/
def rsEncode (d : List Nat) : List Nat :=
  d.foldl (fun (rem : List Nat) x =>
    let f := x ^^^ rem.getD 0 0
    (List.range 8).map (fun j => (if j < 7 then rem.getD (j + 1) 0 else 0) ^^^ gfMul f (rsGen.getD (j + 1) 0))) (List.replicate 8 0)

/-- An error pattern: symbol numbers, rising, with the nonzero byte each differs by. -/
abbrev Pattern := List (Nat × Nat)

/-- Two patterns laid over each other. -/
def Pattern.xor (a b : Pattern) : Pattern :=
  ((List.range 72).map (fun s =>
    (s, (a.foldl (fun v e => if e.1 = s then v ^^^ (e.2 % 256) else v) 0) ^^^ (b.foldl (fun v e => if e.1 = s then v ^^^ (e.2 % 256) else v) 0)))).filter
      (fun e => e.2 ≠ 0)

/-- Syndrome i of a pattern: the word's polynomial at alpha^i. -/
def syndrome (e : Pattern) (i : Nat) : Nat := e.foldl (fun v x => v ^^^ gfMul x.2 (gfPow (i * (71 - x.1)))) 0

/-- The locator polynomial of some positions, from its constant on. -/
def locator (ps : List Nat) : List Nat :=
  ps.foldl (fun (l : List Nat) s =>
    let x := gfPow (71 - s)
    (List.range (l.length + 1)).map (fun j => l.getD j 0 ^^^ gfMul x (if j = 0 then 0 else l.getD (j - 1) 0))) [1]

/-- Some error pattern confined to the positions has these syndromes. -/
def explains (synd ps : List Nat) : Bool :=
  let l := locator ps
  (rangeFrom ps.length (8 - ps.length)).all (fun i =>
    (List.range l.length).foldl (fun v t => v ^^^ gfMul (l.getD t 0) (synd.getD (i - t) 0)) 0 = 0)

/-- Choices of n positions of a list, in order. -/
def choices : Nat → List Nat → List (List Nat)
  | 0, _ => [[]]
  | _ + 1, [] => []
  | n + 1, x :: l => (choices n l).map (x :: ·) ++ choices (n + 1) l

/-- What a read comes to (R411, R412): clean, in poison form, corrected with the wrong symbols, taken for another codeword after
some symbols are changed (none when the word is one already), uncorrectable. -/
inductive Decoded where
  | clean | poison | corrected (wrong : Pattern) | miscorrected (change : Pattern) | bad
  deriving DecidableEq, Repr

/-- The pattern of poison form. -/
def poisonForm : Pattern := (rangeFrom 64 8).map (fun s => (s, 0xA5))

/-- A pattern is a codeword: it takes every codeword to a codeword. -/
def Pattern.isCodeword (e : Pattern) : Bool := (List.range 8).all (fun i => syndrome e i = 0)

/-- The inverse of a nonzero field element. -/
def gfInv (a : Nat) : Nat := (List.range 253).foldl (fun r _ => gfMul r a) a

/-- The pattern on some positions that has these syndromes, where there is one: each value by the polynomial that is zero at the
other positions. -/
def patternAt (synd ps : List Nat) : Pattern :=
  (ps.map (fun p =>
    let l := (ps.filter (· ≠ p)).foldl (fun (l : List Nat) m =>
      (List.range (l.length + 1)).map (fun j => gfMul (gfPow (71 - m)) (l.getD j 0) ^^^ (if j = 0 then 0 else l.getD (j - 1) 0))) [1]
    let num := (List.range l.length).foldl (fun v i => v ^^^ gfMul (l.getD i 0) (synd.getD i 0)) 0
    let den := (List.range l.length).foldl (fun v i => v ^^^ gfMul (l.getD i 0) (gfPow ((71 - p) * i))) 0
    (p, gfMul num (gfInv den)))).filter (fun e => e.2 ≠ 0)

/-- A word decoded from its error pattern and the marked symbols; at the limit of marks any further error is uncorrectable
(R414; log entry 7). -/
def decodeWord (e : Pattern) (marked : List Nat) : Decoded :=
  if e = [] then .clean
  else if (Pattern.xor e poisonForm).isCodeword then .poison
  else if e.isCodeword then .miscorrected []
  else
    let f := marked.length
    let free := (e.filter (fun x => !marked.contains x.1)).length
    if 2 * free + f ≤ 8 then .corrected e
    else if 8 ≤ f then .bad
    else
      let synd := (List.range 8).map (syndrome e)
      let open' := (List.range 72).filter (fun s => !marked.contains s)
      match (List.range ((8 - f) / 2 + 1)).findSome? (fun n => (choices n open').find? (fun c => explains synd (marked ++ c))) with
      | some c => .miscorrected (patternAt synd (marked ++ c))
      | none => .bad

/-! Controllers and their marks (R414 to R417, R431). -/

/-- Controller u of tower k exists (R431). -/
def State.hasCtl (s : State) (k u : Nat) : Bool := k < 4 && u < 4 && (u < 2 || s.part.hasCapacity)

/-- Counter n of a controller, in the order of R437. -/
def memCnt (k u n : Nat) : Nat := A.memCntRd k u + 8 * n

/-- The position word of a stack pin. -/
def pinPos (stack ch pc pin : Nat) : Nat := stack * 16 + ch * 256 + pc * 2 ^ 13 + pin * 2 ^ 16
/-- The position word of a package. -/
def pkgPos (pkg : Nat) : Nat := 1 + pkg * 2 ^ 24

/-- Symbols of a word at a place that carry a mark (R414). -/
def State.markedAt (s : State) (pl : Place) : List Nat :=
  let ms := s.marksOf (pl.ctl / 4) (pl.ctl % 4)
  match pl with
  | .stack st ch pc _ =>
    (ms.filter (fun m => m % 4 = 0 && bitsOf m 4 4 = st && bitsOf m 8 5 = ch && bitsOf m 13 1 = pc)).flatMap (fun m =>
      [2 * bitsOf m 16 6, 2 * bitsOf m 16 6 + 1])
  | .bus .. => (ms.filter (fun m => m % 4 = 1)).flatMap (fun m => (List.range 4).map (fun i => 4 * (bitsOf m 24 6 % 18) + i))

/-- The position of a symbol at a place. -/
def Place.symPos (pl : Place) (sym : Nat) : Nat :=
  match pl with
  | .stack st ch pc _ => pinPos st ch pc (sym / 2)
  | .bus b _ => pkgPos (sym / 4 + (if b < 4 then 0 else 18))

/-- The marks of a controller's record with those on their way to it. -/
def State.marksSoon (s : State) (k u : Nat) : List Nat :=
  let ms := s.marksOf k u
  ms ++ ((s.memc.marks.filter (fun c => c.set && (posCtls c.pos).contains (k, u) && !ms.contains c.pos)).map (·.pos)).eraseDups

/-- The limit that a new mark would break (R414), as the limit's count; a mark on its way counts. -/
def State.markLimit (s : State) (pos : Nat) : Option Nat :=
  if pos % 4 = 0 then
    let st := bitsOf pos 4 4
    let ms := (s.marksSoon (st / 2) (st % 2)).filter (· ≠ pos)
    let same := ms.filter (fun m => bitsOf m 8 6 = bitsOf pos 8 6)
    if 4 ≤ same.length then some 4 else if 32 ≤ ms.length then some 32 else none
  else if (posCtls pos).any (fun c => 2 ≤ ((s.marksSoon c.1 c.2).filter (· ≠ pos)).length) then some 2
  else none

/-- A position carries a mark. -/
def State.isMarked (s : State) (pos : Nat) : Bool := (posCtls pos).any (fun c => (s.marksOf c.1 c.2).contains pos)

/-- A record that holds the position is worn (R415), the changes on their way to it counted. -/
def State.markWorn (s : State) (pos : Nat) : Bool := (posCtls pos).any (fun c =>
  s.flag (A.memEraseStat c.1 c.2) F.memEraseStat_WORN ||
  decide (100000 ≤ s.fld (A.memEraseStat c.1 c.2) F.memEraseStat_CHANGES + (s.memc.marks.filter (fun m => (posCtls m.pos).contains c)).length))

/-- A change to the mark records begins (R415). -/
def State.changeMark (s : State) (pos : Nat) (set : Bool) (chan : Option Nat) : State :=
  { s with memc := { s.memc with marks := s.memc.marks ++ [{ pos := pos, set := set, chan := chan }] } }

/-- CHANGES of the first record that holds a position. -/
def State.markChanges (s : State) (pos : Nat) : Nat :=
  match posCtls pos with
  | (k, u) :: _ => s.fld (A.memEraseStat k u) F.memEraseStat_CHANGES
  | [] => 0

/-- Checks 1 of R417: a reserved value, or a field out of range or not used. -/
def posBad (w : Nat) : Bool :=
  match w % 4 with
  | 0 => w &&& (2 ^ 64 - 1 - 0x3F3FF3) ≠ 0 || 8 ≤ bitsOf w 4 4 || 36 ≤ bitsOf w 16 6
  | 1 => w &&& (2 ^ 64 - 1 - 0x3F000003) ≠ 0 || 36 ≤ bitsOf w 24 6
  | _ => true

/-- MEM_ERASURE_MARK and MEM_ERASURE_CLEAR (R417). -/
def State.markCmd (s : State) (ch : Nat) (set : Bool) (p : Packet) : State :=
  let w := pword p 0
  s.orFail ch (if p.length ≠ 24 then some St.badLength else none) fun s =>
  s.orFail ch (firstFail [(posBad w, St.invalid), (w % 4 = 1 && !s.part.hasCapacity, St.disabled)]) fun s =>
    match (if set && !s.isMarked w then s.markLimit w else none) with
    | some n => s.reply ch St.invalid [n]
    | none =>
      s.orFail ch (firstFail [(!set && !s.isMarked w, St.notFound)]) fun s =>
        if set && s.isMarked w then s.reply ch St.ok [s.markChanges w]
        else s.orFail ch (firstFail [(s.eclipse || s.supplyEvent, St.busy), (s.markWorn w, St.worn)]) fun s =>
          s.changeMark w set (some ch)

/-- MEM_ERASURE_MARK (R417). -/
def execMemErasureMark (ch : Nat) (p : Packet) (s : State) : Res := cmd ch 0x500 p s fun s => s.markCmd ch true p
/-- MEM_ERASURE_CLEAR (R417). -/
def execMemErasureClear (ch : Nat) (p : Packet) (s : State) : Res := cmd ch 0x501 p s fun s => s.markCmd ch false p

/-- MARK_DURABLE: change idx is in the non-volatile store, or the store has failed (R415, R105). -/
def execMarkDurable (idx : Nat) (ok : Bool) (s : State) : Res :=
  .next (match s.memc.marks[idx]? with
    | none => s
    | some c =>
      let s := { s with memc := { s.memc with marks := s.memc.marks.eraseIdx idx } }
      if ok then
        let s := s.applyMark c
        match c.chan with | some ch => s.reply ch St.ok [s.markChanges c.pos] | none => s
      else
        let reg := match posCtls c.pos with | (k, u) :: _ => A.memEraseStat k u | [] => 0
        let s := s.note 0 5 { queue := 4, cls := 0x2E, domain := 0, action := 5, unit := unitCode 15 0 0 0 0, addr := reg }
        match c.chan with | some ch => s.reply ch St.storeFailed | none => s)

/-- Corrected symbols counted at their positions; a position that reaches MARK_THRESH in the marking period while AUTO_MARK is 1 is
marked as MEM_ERASURE_MARK would, and a record names it (R416); its AUX is 1 when the mark is not made. -/
def State.countSymbols (s : State) (pl : Place) (wrong : Pattern) : State :=
  let k := pl.ctl / 4
  wrong.foldl (fun s x =>
    let pos := pl.symPos x.1
    let key := 2 ^ 30 * pl.ctl + pos
    let n := Assoc.getD s.memc.counts key 0 + 1
    let s := { s with memc := { s.memc with counts := Assoc.set s.memc.counts key n } }
    if s.fld (A.memCfg k) F.memCfg_MARK_THRESH ≤ n && s.flag (A.memCfg k) F.memCfg_AUTO_MARK && !s.memc.full.contains key then
      let s := { s with memc := { s.memc with full := key :: s.memc.full } }
      let here := s.isMarked pos || s.memc.marks.any (fun c => c.pos = pos && c.set)
      let no := !here && ((s.markLimit pos).isSome || s.markWorn pos || s.eclipse || s.supplyEvent)
      let s := s.note 3 0 { queue := k, cls := 0x1D, domain := 3, action := 0, unit := unitCtl pl.ctl, detail := pos, aux := b2n no }
      if here || no then s else s.changeMark pos true none
    else s) s

/-- A marking period in MGMT cycles: the scrub period, or 24 hours (R416). -/
def State.markPeriod (s : State) (k : Nat) : Nat :=
  let h := s.fld (A.memCfg k) F.memCfg_SCRUB_HOURS
  (if h = 0 then 24 else h) * 720000000000

/-- MARK_PERIOD_END: a marking period ends, and the counts of a controller restart (R416). -/
def execMarkPeriodEnd (k u : Nat) (s : State) : Res :=
  onUnit (s.hasCtl k u)
    (let s := s.notBefore (Assoc.getD s.memc.periods (4 * k + u) s.board.resetEnd + s.markPeriod k)
     { s with memc := { s.memc with counts := s.memc.counts.filter (fun e => e.1 / 2 ^ 30 ≠ 4 * k + u),
                                    full := s.memc.full.filter (fun e => e / 2 ^ 30 ≠ 4 * k + u),
                                    periods := Assoc.set s.memc.periods (4 * k + u) s.now } })

/-! Reads and writes (R408, R412). -/

/-- The memory behind a slice holds a sector in poison form from now on. -/
def State.poisonBehind (s : State) (sector : Nat) : State :=
  match s.homeKey sector with
  | none => s.setPoison sector true
  | some key =>
    match (s.slice key).find (sector / 128) with
    | some l =>
      let s := s.modSlice key (fun c => c.put { l with poison := putBit l.poison (sector % 128 / 64) true })
      if bitsOf l.valid (sector % 128) 64 = 2 ^ 64 - 1 then s else s.setPoison sector true
    | none => s.setPoison sector true

/-- The bytes of a sector that a pattern changes, as offsets in its line with what is XORed onto them. -/
def dataChange (sector : Nat) (e : Pattern) : List (Nat × Byte) :=
  (e.filter (fun x => x.1 < 64)).map (fun x => (sector % 128 + x.1, BitVec.ofNat 8 x.2))

/-- The memory behind the slice holds a sector with a change. -/
def State.xorBehind (s : State) (sector : Nat) (e : Pattern) : State :=
  (dataChange sector e).foldl (fun s x =>
    let a := sector / 128 * 128 + x.1
    let new := s.behindByte a ^^^ x.2
    match (s.homeKey sector).bind (fun key => ((s.slice key).find (sector / 128)).map (fun l => (key, l))) with
    | some (key, l) =>
      if l.valid.testBit x.1 then
        s.modSlice key (fun c => c.put { l with behind := Assoc.set l.behind x.1 new })
      else s.wrByte a new
    | none => s.wrByte a new) s

/-- Memory answers the miss entry on a sector's line with a change: it reaches the bytes that its requests take from memory, and the
line that the fill installs, while the memory behind stays as it is (R411). -/
def State.wrongFill (s : State) (sector : Nat) (e : Pattern) : State :=
  match s.homeKey sector with
  | none => s
  | some key =>
    match (s.slice key).misses.find? (fun m => m.line = sector / 128) with
    | none => s
    | some m =>
      let ch := dataChange sector e
      let fix (r : HomeReq) : HomeReq :=
        { r with bytes := (List.range r.bytes.length).map (fun i =>
            let o := r.asks.1 % 128 + i
            r.bytes.getD i 0 ^^^ (if (r.red / 4).testBit o then Assoc.getD ch o 0 else 0)) }
      let s := s.modSlice key (fun c => { c with misses := c.misses.map (fun x => if x.line = m.line then { x with reqs := x.reqs.map fix } else x) })
      match (s.slice key).find m.line with
      | some l =>
        if m.install then
          let ch := ch.filter (fun x => !l.valid.testBit x.1 && (Assoc.get? l.behind x.1).isNone)
          let s := s.modSlice key (fun c => c.put { l with behind := ch.foldl (fun b x => Assoc.set b x.1 (s.rdByte (m.line * 128 + x.1))) l.behind })
          ch.foldl (fun s x => s.wrByte (m.line * 128 + x.1) (s.rdByte (m.line * 128 + x.1) ^^^ x.2)) s
        else s
      | none => s

/-- Eight syndromes as a word, syndrome 0 in the lowest byte. -/
def syndromeWord (e : Pattern) : Nat := (List.range 8).foldl (fun v i => v + syndrome e i * 2 ^ (8 * i)) 0

/-- A sector read and judged: the state after what the controller does, and what it came to. scrub writes a corrected sector
back, also one taken for another codeword, and takes its error to the tower. The stored word stays as it was otherwise (R411). -/
def State.judgeSector (s : State) (pa : Nat) (err : Pattern) (o : Option Owner) (scrub : Bool) : State × Decoded :=
  match s.place pa with
  | none => (s, .clean)
  | some pl =>
    let k := pl.ctl / 4
    let u := pl.ctl % 4
    let s := s.bump (memCnt k u 0) 1
    if s.downAt pa then (s, .poison)
    else
      let e := Pattern.xor err (if s.behindPoison pa then poisonForm else [])
      let inj := s.armedAt 0x18 (unitCtl pl.ctl) 0 pa
      let d : Decoded := if inj.isSome then .bad else decodeWord e (s.markedAt pl)
      let s := match inj with | some i => s.disarm i | none => s
      match d with
      | .clean => (s, d)
      | .poison => (s.bump (memCnt k u 5) 1, d)
      | .corrected w =>
        let s := (s.bump (memCnt k u 3) 1).countSymbols pl w
        (if scrub then s.bump (memCnt k u 1) 1 else s, d)
      | .miscorrected w =>
        let s := if w = [] then s else (s.bump (memCnt k u 3) 1).countSymbols pl w
        let wrong := Pattern.xor e w
        (if scrub then (if w = [] then s else (s.bump (memCnt k u 1) 1).xorBehind pa wrong) else s.wrongFill pa wrong, d)
      | .bad =>
        let s := (s.poisonBehind pa).bump (memCnt k u 4) 1
        let r : RecordReq := { queue := k, cls := 0x18, domain := 0, action := 4, owner := o, unit := unitCtl pl.ctl, addr := pa,
                               detail := pl.symPos 0 + e.length * 2 ^ 32, aux := syndromeWord e, injected := inj.isSome }
        (s.note (if scrub then 3 else 0) 4 r, d)

/-- Memory answers a sector with the poison mark to the miss entry on its line, if there is one (R375, R412). -/
def State.markMiss (s : State) (a : Nat) : State :=
  match s.homeKey a with
  | none => s
  | some key => s.modSlice key (fun c => { c with misses := c.misses.map (fun m =>
      if m.line = a / 128 then { m with bad := m.bad ||| 2 ^ (a % 128 / 64) } else m) })

/-- A read of a sector is of class 0 (R421): a requester of the miss entry on its line came through a latency-critical leaf. -/
def State.missClassZero (s : State) (a : Nat) : Bool :=
  match (s.homeKey a).bind (fun key => (s.slice key).misses.find? (fun m => m.line = a / 128)) with
  | some m => m.reqs.any (·.crit)
  | none => false

/-- A read of a sector that no miss entry holds may be of class 0 (R421): a range prefetch or a mover with PRIO 0 runs, or a
latency-critical leaf maps it. -/
def State.mayClassZero (s : State) (a : Nat) : Bool :=
  s.l2.ranges.any (fun r => r.kind = 0 && bitsOf r.opts 1 2 = 0 && r.addr ≤ a && a < r.addr + r.len) ||
  s.comp.movers.any (fun v => v.2.queue.any (fun d => d.started && !d.done && bitsOf (d.w.getD 0 0) 23 2 = 0)) ||
  (s.xlt.cluster ++ s.xlt.base ++ s.xlt.tower).any (fun c => c.2.any (fun e =>
    leafCrit e.leaf && decide (e.pa < a + 64) && decide (a < e.pa + 2 ^ e.span)))

/-- MEM_CTL_READ: a controller reads a sector whose word differs from what was stored by a pattern (R412). ctx is the context that
the read is made for, none for a host core, a PCIe peer, CC and the read of a read-modify-write; the operation is that of the
requester of that context that took the miss entry on the line. class0 says that the read is of class 0 where no miss entry shows
its class (R421; log entry 209). -/
def execMemCtlRead (pa : Nat) (err : List (Nat × Nat)) (ctx : Option Nat) (class0 : Bool) (ode : Nat) (s : State) : Res :=
  match s.place pa with
  | none => .refused .noSuchUnit
  | some pl =>
    .next (
      let a := pa / 64 * 64
      let o : Option Owner := match (s.homeKey a).bind (fun key => (s.slice key).misses.find? (fun m => m.line = a / 128)) with
        | some m =>
          (match m.reqs.head? with
           | some r => if ctx = some r.owner.ctx then some r.owner else ctx.map (fun c => { ctx := c, entry := none })
           | none => ctx.map (fun c => { ctx := c, entry := none }))
        | none => ctx.map (fun c => { ctx := c, entry := none })
      let s := if s.missClassZero a || (class0 && s.mayClassZero a) then s.bump (memCnt (pl.ctl / 4) (pl.ctl % 4) 8) 1 else s
      let s := if pl.ctl % 4 < 2 then s.bump (memCnt (pl.ctl / 4) (pl.ctl % 4) 7) ode else s
      if s.populated a then
        let (s, d) := s.judgeSector a err o false
        if d = .bad || d = .poison then s.markMiss a else s
      else s)

/-- MEM_CTL_WRITE: a controller writes a sector, whole or by a read-modify-write (R408); a channel that is down discards it. Every
write is of class 2 (R421), so that the event's last operand names nothing. The controller encrypts what it writes and decrypts what
it reads under the same key (R413): memory stands for the plain text (log entry 210). -/
def execMemCtlWrite (pa : Nat) (rmw _class0 : Bool) (s : State) : Res :=
  match s.place pa with
  | none => .refused .noSuchUnit
  | some pl =>
    .next (
      let k := pl.ctl / 4
      let u := pl.ctl % 4
      if s.downAt pa then s
      else
        let s := s.bump (memCnt k u 1) 1
        if rmw then s.bump (memCnt k u 2) 1 else s)

/-! Scrubbing (R428, R429). -/

/-- Address of sector i of a controller, in ascending channel order: the inverse of R418. -/
def State.sectorAddr (s : State) (k u i : Nat) : Nat :=
  if u < 2 then
    let per := 25165824
    let st := 2 * k + u
    let ch := i / per / 2
    let pc := i / per % 2
    let o := i % per * 64
    let local' := s.ds * 8 * 2 ^ 20
    if o < local' then
      let q := o / 64
      (q * 256 + ((st * 32 + ch) ^^^ foldBits 8 q 8)) * 128 + pc * 64
    else
      let q := (o - local') / 64
      0x10000000000 + k * 0x4000000000 + (q * 64 + ((u * 32 + ch) ^^^ foldBits 6 q 10)) * 128 + pc * 64
  else
    let b := 2 * k + (u - 2)
    let o := i * 64
    let local' := s.dc * gib / 2
    if o < local' then
      let q := o / 512
      0x40000000000 + (q * 8 + (b ^^^ foldBits 3 q 20)) * 512 + o % 512
    else
      let q := (o - local') / 512
      0x80000000000 + k * 0x10000000000 + (q * 2 + ((u - 2) ^^^ parity q)) * 512 + o % 512

/-- Sectors behind a controller. -/
def State.ctlSectors (s : State) (u : Nat) : Nat := (if u < 2 then 96 else s.part.busGib) * gib / 64

/-- PATROL_SCRUB: a controller scrubs its next sector (R428). -/
def execPatrolScrub (k u : Nat) (err : List (Nat × Nat)) (s : State) : Res :=
  onUnit (s.hasCtl k u)
    (if s.fld (A.memCfg k) F.memCfg_SCRUB_HOURS = 0 || s.flag (A.memCtlStatus k u) F.memCtlStatus_SELF_REFRESH then s
     else
       let i := Assoc.getD s.memc.patrol (4 * k + u) 0
       let s := ((s.judgeSector (s.sectorAddr k u i) err none true).1).bump (memCnt k u 6) 1
       { s with memc := { s.memc with patrol := Assoc.put s.memc.patrol (4 * k + u) ((i + 1) % s.ctlSectors u) 0 } })

/-- MEM_SCRUB_RANGE (R429). -/
def execMemScrubRange (ch : Nat) (p : Packet) (s : State) : Res :=
  cmd ch 0x502 p s fun s =>
    let a := pword p 0
    let n := pword p 1
    let o := pword p 2
    s.orFail ch (if p.length ≠ 40 then some St.badLength else none) fun s =>
    s.orFail ch (firstFail
      [(s.absentTier a, St.disabled),
       (a % 64 ≠ 0 || n % 64 ≠ 0 || n = 0 || 2 ^ 42 < n || !s.tierRange a n || o &&& (2 ^ 64 - 1 - 0xFFFF0001) ≠ 0, St.invalid),
       (bit o 0 && s.objType (bitsOf o 16 16) = 0, St.notFound), (s.eclipse, St.busy)]) fun s =>
      let r : ScrubCmd := { addr := a, len := n, done := if bit o 0 then some (bitsOf o 16 16) else none, chan := ch }
      { s with memc := { s.memc with scrubs := s.memc.scrubs ++ [r] } }

/-- MEM_SCRUB_RANGE_COMPLETE: range scrub idx has read every sector; errs gives the patterns of those that were wrong (R429). -/
def execMemScrubRangeComplete (idx : Nat) (errs : List (Nat × List (Nat × Nat))) (s : State) : Res :=
  .next (match s.memc.scrubs[idx]? with
    | none => s
    | some r =>
      let (s, c, b) := (List.range (r.len / 64)).foldl (fun (x : State × Nat × Nat) i =>
        let a := r.addr + 64 * i
        let e := match errs.find? (fun e => e.1 = a) with | some e => e.2 | none => []
        let (s, d) := x.1.judgeSector a e none true
        let s := match s.place a with | some pl => s.bump (memCnt (pl.ctl / 4) (pl.ctl % 4) 6) 1 | none => s
        (s, x.2.1 + (match d with | .corrected _ => 1 | .miscorrected w => b2n (w ≠ []) | _ => 0), x.2.2 + (match d with | .bad => 1 | _ => 0))) (s, 0, 0)
      let s := { s with memc := { s.memc with scrubs := s.memc.scrubs.eraseIdx idx } }
      let s := match r.done with | some obj => s.signalDone none obj | none => s
      s.reply r.chan St.ok [r.len / 64, c, b])

/-! Priority, temperature, refresh (R422 to R427). -/

/-- REQUEST_AGEING: n requests of class 2 or 3 move to class 1 (R422); that each has waited 2^AGE_LOG2 cycles is the event's own
word, and which waiting request a data slot is granted to is the order of the events (log entry 209). -/
def execRequestAgeing (k u n : Nat) (s : State) : Res := onUnit (s.hasCtl k u) (s.bump (memCnt k u 10) n)

/-- Lantern units 8n to 8n + 7 pause or resume (R425). -/
def State.setHot (s : State) (stack : Nat) (hot : Bool) : State :=
  (List.range 8).foldl (fun s i =>
    let n := 8 * stack + i
    if (s.lunit n).hot = hot then s else s.setLunit n { s.lunit n with hot := hot }) s

/-- STACK_TEMP_READ: a stack controller reads its temperature and sets throttling (R424, R425); cycles is what
MEM_CNT_THROTTLE gains since the last reading. -/
def execStackTempRead (k u tempC cycles : Nat) (s : State) : Res :=
  onUnit (k < 4 && u < 2)
    (let a := A.memCtlStatus k u
     if s.flag a F.memCtlStatus_SELF_REFRESH then s
     else
       let t := min 255 tempC
       let lim := s.fld (A.memCfg k) F.memCfg_THROTTLE_C
       let s := if s.flag a F.memCtlStatus_THROTTLED then s.bump (memCnt k u 9) cycles else s
       let s := s.setFlds a [(F.memCtlStatus_TEMP_C, t), (F.memCtlStatus_MAX_TEMP_C, max t (s.fld a F.memCtlStatus_MAX_TEMP_C))]
       let s :=
         if lim ≤ t then
           (s.setFlag a F.memCtlStatus_THROTTLED true).setRate k u (max 25 (100 - 10 * (t - lim + 1)))
         else if t + 3 ≤ lim then (s.setFlag a F.memCtlStatus_THROTTLED false).setRate k u 100
         else s
       if 105 ≤ t then (s.setFlag a F.memCtlStatus_LNT_PAUSED true).setHot (2 * k + u) true
       else if t ≤ 102 then (s.setFlag a F.memCtlStatus_LNT_PAUSED false).setHot (2 * k + u) false
       else s)

/-- Throttled cycles of a bus counted up to now, 20 CAPCTL cycles in 3 MGMT cycles (R437). -/
def State.countHot (s : State) (k u : Nat) : State :=
  match Assoc.get? s.memc.hotAt (4 * k + u) with
  | none => s
  | some t => ({ s with memc := { s.memc with hotAt := Assoc.set s.memc.hotAt (4 * k + u) s.now } }).bump (memCnt k u 9) ((s.now - t) * 20 / 3)

/-- BUS_TEMP_INDICATION: some package of a bus indicates a temperature above its range, or none does any more (R426); the throttled
cycles are counted at each indication. -/
def execBusTempIndication (k u : Nat) (hot : Bool) (s : State) : Res :=
  onUnit (s.hasCtl k u && 2 ≤ u)
    (let a := A.memCtlStatus k u
     if s.flag a F.memCtlStatus_SELF_REFRESH then s
     else
       let s := s.countHot k u
       if hot then
         (({ s with memc := { s.memc with hotAt := Assoc.set s.memc.hotAt (4 * k + u) s.now } }.setFlag a F.memCtlStatus_THROTTLED true).setRate
           k u 50).alertBit 9
       else ({ s with memc := { s.memc with hotAt := Assoc.del s.memc.hotAt (4 * k + u) } }.setFlag a F.memCtlStatus_THROTTLED false).setRate
           k u 100)

/-- MEM_REFRESH: a controller refreshes (R427): what it holds stays as it is. -/
def execMemRefresh (k u : Nat) (s : State) : Res := onUnit (s.hasCtl k u) s

/-! Interface errors (R609). -/

/-- A channel of a controller: 32 of a stack, one of a bus. -/
def State.hasChannel (s : State) (k u ch : Nat) : Bool := s.hasCtl k u && ch < (if u < 2 then 32 else 1)

/-- Where repeats of a channel are counted. -/
def channelKey (k u ch : Nat) : Nat := (4 * k + u) * 32 + ch

/-- MEM_LINK_RETRY: an access repeats in place, up to MEM_RETRIES times (R609). -/
def execMemLinkRetry (k u ch : Nat) (s : State) : Res :=
  onUnit (s.hasChannel k u ch)
    (let n := Assoc.getD s.err.repeats (channelKey k u ch) 0
     if s.fld A.errCfg F.errCfg_MEM_RETRIES ≤ n || s.err.downCh.contains (4 * k + u, ch) then s
     else ({ s with err := { s.err with repeats := Assoc.set s.err.repeats (channelKey k u ch) (n + 1) } }).bump (errCounter k 2) 1)

/-- The record of a channel (R609). -/
def channelRecord (k u ch : Nat) : RecordReq :=
  { queue := k, cls := 0x1C, domain := 3, action := 2, unit := unitCode (if u < 2 then 7 else 8) k 0 u ch }

/-- MEM_CHANNEL_RETRAIN: a channel whose repeats are exhausted has retrained (R609). -/
def execMemChannelRetrain (k u ch : Nat) (s : State) : Res :=
  onUnit (s.hasChannel k u ch)
    (if s.fld A.errCfg F.errCfg_MEM_RETRIES ≤ Assoc.getD s.err.repeats (channelKey k u ch) 0 && !s.err.downCh.contains (4 * k + u, ch) then
       ({ s with err := { s.err with repeats := Assoc.del s.err.repeats (channelKey k u ch) } }).note 3 2 (channelRecord k u ch)
     else s)

/-- MEM_CHANNEL_DOWN: a channel that does not retrain in time is down until the next module reset (R609). -/
def execMemChannelDown (k u ch : Nat) (s : State) : Res :=
  onUnit (s.hasChannel k u ch)
    (if s.fld A.errCfg F.errCfg_MEM_RETRIES ≤ Assoc.getD s.err.repeats (channelKey k u ch) 0 && !s.err.downCh.contains (4 * k + u, ch) then
       let s := { s with err := { s.err with repeats := Assoc.del s.err.repeats (channelKey k u ch),
                                             downCh := s.err.downCh ++ [(4 * k + u, ch)] } }
       (s.note 3 4 (channelRecord k u ch)).alertBit 8
     else s)

end Sys2Proof.Machine
end

