-- ==== Sys2Proof/Machine/Board.lean ====
section
/-! DEFINITION. Supplies, rails, pins, reference, brake, droop, module reset, boot and memory initialisation (R40 to R62, R65 to R71,
R76 to R78, R128 to R138, R540 to R542). -/

namespace Sys2Proof.Machine

/-! Supplies (R39 to R44, R131). -/

/-- One of the two inputs. -/
def State.supply (s : State) (i : SupplyInput) : Supply := match i with | .main => s.board.main | .backup => s.board.backup

/-- An input replaced, with VIO_1V8 and the bits of CTL_SB_STATUS that show the inputs (R47, R61). -/
def State.setSupply (s : State) (i : SupplyInput) (v : Supply) : State :=
  let s := match i with
    | .main => { s with board := { s.board with main := v } }
    | .backup => { s with board := { s.board with backup := v } }
  let s := { s with board := { s.board with vio := s.board.main.good || s.board.backup.good } }
  s.setFlds A.sbStatus [(F.sbStatus_MAIN_GOOD, b2n s.board.main.good), (F.sbStatus_BACKUP_GOOD, b2n s.board.backup.good)]

/-- A voltage at which an input may be or become good: not lost by R40. -/
def voltageOk (mv : Nat) : Bool := 38000 ≤ mv && mv ≤ 60500

/-- SOFT_START_RAMP: the blade voltage mv starts the input's self-timed ramp (R42). -/
def execSoftStartRamp (inp : SupplyInput) (mv : Nat) (s : State) : Res :=
  .next (let v := s.supply inp
         if voltageOk mv && decide (v.busMv < mv) && v.ramp ≠ .ramping then
           { s with board := { s.board with removed := false } }.setSupply inp { v with bladeMv := mv, ramp := .ramping, lost := false }
         else s)

/-- SOFT_START_COMPLETE: the internal voltage reaches the blade voltage (R42). -/
def execSoftStartComplete (inp : SupplyInput) (s : State) : Res :=
  .next (let v := s.supply inp
         if v.ramp = .ramping then s.setSupply inp { v with busMv := v.bladeMv, ramp := .complete } else s)

/-- SOFT_START_ABORT: the blade voltage falls below 36.0 V during a ramp; the stage stops and the internal voltage discharges
(R42). -/
def execSoftStartAbort (inp : SupplyInput) (mv : Nat) (s : State) : Res :=
  .next (let v := s.supply inp
         if v.ramp = .ramping && decide (mv < 36000) then s.setSupply inp { v with bladeMv := mv, busMv := 0, ramp := .idle } else s)

/-- The good window of an input at or above 41.0 V begins (R40, R131). -/
def Supply.startWindow (v : Supply) (now : Nat) : Supply :=
  if !v.good && decide (41000 ≤ v.bladeMv) && decide (v.bladeMv ≤ 60500) then { v with window := some now } else v

/-- MGMT_START: the internal bus of an input passes 36.0 V and MGMT runs; windows begin (R131). -/
def execMgmtStart (s : State) : Res :=
  .next (if s.board.mgmtUp || (s.board.main.ramp = .idle && s.board.backup.ramp = .idle) then s
         else
           let s := { s with board := { s.board with mgmtUp := true } }
           let s := s.setSupply .main (s.board.main.startWindow s.now)
           s.setSupply .backup (s.board.backup.startWindow s.now))

/-- INPUT_WINDOW_RESTART: an input that is not good dips below 41.0 V, and its window begins anew when it is back (R40). -/
def execInputWindowRestart (inp : SupplyInput) (mv : Nat) (s : State) : Res :=
  .next (let v := s.supply inp
         if s.board.mgmtUp && !v.good then
           s.setSupply inp ({ v with bladeMv := mv, window := none, lost := v.lost && !voltageOk mv }.startWindow s.now)
         else s)

/-- The rail groups start from step 1 (R58, R132). -/
def State.startRails (s : State) : State :=
  ({ s with board := { s.board with railRun := true, rails := 0 } }).enter 0

/-- The module is FAILED with cause RAIL (R132). -/
def State.railFailed (s : State) : Bool := s.readiness = 15 && s.fld A.bootStatus F.bootStatus_FAIL_CAUSE = 1

/-- Stamp i of PWR_SUPPLY_T (R665). -/
def State.supplyStamp (s : State) (i : Nat) : State :=
  s.setFld (A.pwrSupplyT i) F.pwrSupplyT_TIME_US (s.timeUs % 2 ^ 48)

/-- INPUT_GOOD: an input's window of 100 ms completes (R40). A good main input raises the rails when they are down (R58, R132,
R133); during a supply event it is stamped (R665). -/
def execInputGood (inp : SupplyInput) (s : State) : Res :=
  .next (let v := s.supply inp
         match v.window with
         | none => s
         | some t =>
           if !s.board.mgmtUp || v.good then s
           else
             let s := s.notBefore (t + 20000000)
             let s := s.setSupply inp { v with good := true, lost := false, window := none }
             match inp with
             | .backup => s
             | .main =>
               if s.phase ≠ 0 then s.supplyStamp 5
               else
                 let s := s.setFlag A.sbStatus F.sbStatus_ON_BACKUP false
                 if s.board.powered || s.board.railRun then s else s.startRails)

/-- An input lost at a blade voltage: its internal voltage falls with it, and the soft-start stage is free to ramp again (R40,
R42). -/
def Supply.lose (v : Supply) (mv : Nat) : Supply :=
  { v with bladeMv := mv, busMv := min v.busMv mv, good := false, lost := true, window := none,
           ramp := if mv < 38000 then .idle else v.ramp }

/-- INPUT_LOST: an input stays below 38.0 V for 2 microseconds or rises above 60.5 V (R40, R44). A main input lost before READY lowers
the rails, also those that are rising again after a trip (R58, R128, R133); one lost in READY goes on with MAIN_LOSS_CONFIRM; a
lost backup raises its alert (R654, R656). -/
def execInputLost (inp : SupplyInput) (mv : Nat) (s : State) : Res :=
  .next (let v := s.supply inp
         if !s.board.mgmtUp || v.lost || voltageOk mv then s
         else
           let was := v.good
           let s := s.setSupply inp (v.lose mv)
           match inp with
           | .main =>
             let s := if was then s.alertBit 2 else s
             if s.ready then s
             else if s.board.powered || s.board.railRun || s.railFailed then s.railsDown.enter 0
             else s
           | .backup =>
             let s := if was && s.eclipse then s.alertBit 2 else s
             if was && s.ready then s.alertBit 3 else s)

/-- What only MGMT holds while it has power (R53, R61, R62, R631, R689, R711). -/
def mgmtHeld : List Nat := [A.sbStatus, A.resetCause, A.alert, A.errLast0, A.errLast1, A.mctpStatus]

/-- Every island stops, MGMT among them, and all state but the non-volatile records is lost (R41). -/
def State.powerOff (s : State) : State :=
  let s := s.railsDown
  let s := { s with regs := s.regs.filter (fun e => !mgmtHeld.contains e.1),
                    mg := Manage.reset }
  let down (v : Supply) : Supply := { v with busMv := 0, good := false, lost := false, window := none, ramp := .idle }
  { s with board := { Board.reset with main := down s.board.main, backup := down s.board.backup, removed := s.board.removed,
                                       slotA := s.board.slotA, slotB := s.board.slotB, nv := s.board.nv,
                                       stateFrom := s.now, refFrom := s.now } }

/-- UVLO_STOP: with neither input good the internal bus falls below 36.0 V (R41, R654). -/
def execUvloStop (s : State) : Res :=
  .next (if s.board.mgmtUp && !s.board.main.good && !s.board.backup.good then s.powerOff else s)

/-- MODULE_REMOVAL: the module is withdrawn; both inputs are absent and their capacitance is discharged (R43; log entry 44). -/
def execModuleRemoval (s : State) : Res :=
  .next (let s := s.powerOff
         { s with board := { s.board with main := Supply.absent, backup := Supply.absent, removed := true } })

/-! Rails (R132). -/

/-- Rail groups of the part: the package supplies are skipped on IM-RQ4-S. -/
def State.railSteps (s : State) : Nat := if s.part.hasCapacity then 5 else 4

/-- RAIL_GROUP_GOOD: a group reports power-good; after the last the module reset begins, with THERMAL_TRIP's cause after a trip
(R58, R62, R132). -/
def execRailGroupGood (s : State) : Res :=
  .next (if !s.board.railRun then s
         else
           let n := s.board.rails + 1
           let s := { s with board := { s.board with rails := n } }
           if n < s.railSteps then s
           else
             let cause := if s.board.tripped then 5 else 1
             ({ s with board := { s.board with railRun := false, powered := true } }).beginModuleReset cause)

/-- RAIL_FAIL: a group misses its bound; the rails go down and the module is FAILED with cause RAIL (R132). -/
def execRailFail (s : State) : Res :=
  .next (if !s.board.railRun then s
         else
           let step := s.board.rails + 1
           let s := s.railsDown
           let s := s.setFlds A.bootStatus [(F.bootStatus_FAIL_CAUSE, 1), (F.bootStatus_FAIL_UNIT, step)]
           (s.enter 15).alertBit 5)

/-! Reset pin and trip (R52, R58). -/

/-- RESET_PIN: a low level of 2,000 cycles is recognised (R52): it extends a module reset or a rail sequence in progress, retries the
rails after a failure or a trip, or begins a module reset. The level began 2,000 cycles before. -/
def execResetPin (s : State) : Res :=
  .next (if !s.board.mgmtUp then s
         else
           let s := { s with board := { s.board with resetLow := true, lowFrom := s.now - 2000 } }
           if s.board.modReset.isSome || s.board.railRun then s
           else if s.board.powered then s.beginModuleReset 2
           else if s.board.main.good then s.startRails
           else s)

/-- THERMAL_TRIP: a die reads 125 C or a stack 115 C; every island but MGMT loses power, and the trip stays until a module reset
(R58). -/
def execThermalTrip (stack : Bool) (index tempC : Nat) (s : State) : Res :=
  onUnit (index < (if stack then 8 else 9))
    (if !s.board.powered || tempC < (if stack then 115 else 125) then s
     else
       let s := s.railsDown
       let s := { s with board := { s.board with tripped := true, thermLow := true } }
       let s := s.setFlag A.sbStatus F.sbStatus_THERM_TRIPPED true
       (s.enter 0).alertBit 4)

/-! The outputs of R57. -/

/-- ALERT_L is driven low. -/
def State.alertLow (s : State) : Bool := (s.rd A.alert).toNat ≠ 0 && (s.board.main.good || s.board.backup.good)
/-- Stack n reads above its throttle threshold (R57): not the hysteresis of THROTTLED (R424). -/
def State.stackHot (s : State) (n : Nat) : Bool :=
  s.fld (A.memCfg (n / 2)) F.memCfg_THROTTLE_C < s.fld (A.memCtlStatus (n / 2) (n % 2)) F.memCtlStatus_TEMP_C

/-- A die or stack lies above its threshold, the outlet above 60 C, or a trip has happened: THERM_L is driven low. -/
def State.thermLow (s : State) : Bool :=
  (s.board.main.good || s.board.backup.good) &&
  (s.board.thermLow
   || (List.range 8).any s.stackHot
   || (List.range 8).any (fun i => 100 < bitsOf (s.rd A.pwrTemp).toNat (8 * i) 8)
   || 100 < s.fld A.pwrTempAux F.pwrTempAux_HOST_C || 60 < s.fld A.pwrTempAux F.pwrTempAux_OUTLET_C)
/-- BRAKED_L is driven low. -/
def State.brakedLow (s : State) : Bool := s.board.brakedLow && (s.board.main.good || s.board.backup.good)
/-- ECLIPSE_L is driven low. -/
def State.eclipseLow (s : State) : Bool := s.eclipse && (s.board.main.good || s.board.backup.good)

/-! The brake (R54 to R56). -/

/-- The braked state begins. -/
def State.enterBraked (s : State) : State :=
  let s := s.setFlds A.sbStatus [(F.sbStatus_BRAKED, 1),
    (F.sbStatus_BRAKE_COUNT, satAdd (s.fld A.sbStatus F.sbStatus_BRAKE_COUNT) 1 0xFFFF)]
  let s := { s with board := { s.board with stuckFrom := s.now, releaseFrom := s.now } }
  if s.board.powered then s.beginBrake else s

/-- BRAKE_RECOGNISED: BRAKE_L has been low for 400 cycles (R54). During a module reset it is judged at the end (R56). -/
def execBrakeRecognised (s : State) : Res :=
  .next (if s.board.mgmtUp && s.board.modReset.isNone && !s.flag A.sbStatus F.sbStatus_BRAKED then s.enterBraked else s)

/-- BRAKED_ASSERT: the draw is at 450 W or less while braked (R54, R57). -/
def execBrakedAssert (s : State) : Res :=
  .next (if s.flag A.sbStatus F.sbStatus_BRAKED then { s with board := { s.board with brakedLow := true } } else s)

/-- BRAKE_RELEASE_TIMER_RESTART: BRAKE_L is sampled low while braked (R54). -/
def execBrakeReleaseTimerRestart (s : State) : Res :=
  .next (if s.flag A.sbStatus F.sbStatus_BRAKED then { s with board := { s.board with releaseFrom := s.now } } else s)

/-- BRAKE_RELEASE: BRAKE_L has been high for 200,000 cycles (R54, R56). -/
def execBrakeRelease (s : State) : Res :=
  .next (if s.flag A.sbStatus F.sbStatus_BRAKED then
           let s := s.notBefore (s.board.releaseFrom + 200000)
           let s := s.setFlag A.sbStatus F.sbStatus_BRAKED false
           ({ s with board := { s.board with brakedLow := false } }).endBrake
         else s)

/-- BRAKE_STUCK: the stuck timer reaches 60.00 s (R55). -/
def execBrakeStuck (s : State) : Res :=
  .next (if s.flag A.sbStatus F.sbStatus_BRAKED && !s.flag A.sbStatus F.sbStatus_BRAKE_STUCK then
           ((s.notBefore (s.board.stuckFrom + 12000000000)).setFlag A.sbStatus F.sbStatus_BRAKE_STUCK true).alertBit 0
         else s)

/-- BRAKE_STUCK_CLEAR: a write of 1 to BRAKE_STUCK (R55, R61). -/
def execBrakeStuckClear (s : State) : Res := .next s.clearBrakeStuck

/-! Reference and clocks (R50, R66 to R71). -/

/-- The record of a lost reference (R607, R617). -/
def refLostRecord : RecordReq := { queue := 4, cls := 0x2A, domain := 4, action := 9, unit := unitCode 15 0 0 0 0 }

/-- Every locked generator of a domain's islands enters holdover (R68). -/
def State.holdover (s : State) : State :=
  s.regs.foldl (fun s e =>
    if A.clkIsland 0 ≤ e.1 && e.1 < A.clkIsland 4608 && F.clkIsland_LOCKED.get e.2 = 1 then
      s.setFlds e.1 [(F.clkIsland_LOCKED, 0), (F.clkIsland_HOLDOVER, 1)]
    else s) s

/-- REF_LOSS: REF has been absent or outside 200 ppm for 200 cycles while the module runs (R50, R68, R617). -/
def execRefLoss (s : State) : Res :=
  .next (if !s.board.powered || s.board.modReset.isSome || s.board.refLost then s
         else
           let s := s.setFlag A.sbStatus F.sbStatus_REF_OK false
           let s := { s with board := { s.board with refLost := true, refFrom := s.now } }
           let s := s.holdover.alertBit 1
           let s := s.record refLostRecord
           let s := if s.deviceStopped then s.setFlds A.errDevState [(F.errDevState_STATE, 4), (F.errDevState_CLASS, 0x2A)]
             else s.quiesce 0x2A 4
           s.alertBit 13)

/-- REF_OK_CHANGE: REF passes into or out of 100 ppm (R50, R61). -/
def execRefOkChange (ok : Bool) (s : State) : Res :=
  .next (if s.board.mgmtUp && s.flag A.sbStatus F.sbStatus_REF_OK ≠ ok then
           let s := s.setFlag A.sbStatus F.sbStatus_REF_OK ok
           { s with board := { s.board with refFrom := s.now } }
         else s)

/-- Islands whose generators report LOCKED: every one on the part but REF, MGMT and the recovered lane clocks (R66). -/
def lockable (p : Part) (j : Nat) : Bool := 3 ≤ j / 256 + 1 && j / 256 + 1 ≤ 17 && islandPresent p j

/-- The numbers of every island that locks. -/
def lockableIslands (p : Part) : List Nat :=
  ((List.range 15).flatMap (fun i => (List.range (domainInstances (i + 3))).map (islandOf (i + 3)))).filter (lockable p)

/-- GENERATOR_LOCK: an island's generator locks to REF during a module reset (R66, R77); with no REF it does not (R50). -/
def execGeneratorLock (isl : Nat) (s : State) : Res :=
  onUnit (islandNumbered isl)
    (match s.board.modReset with
     | none => s
     | some m =>
       if !lockable s.part isl || !s.board.powered || !s.flag A.sbStatus F.sbStatus_REF_OK then s
       else
         let s := s.setFlag (A.clkIsland isl) F.clkIsland_LOCKED true
         let all := (lockableIslands s.part).all (fun j => s.flag (A.clkIsland j) F.clkIsland_LOCKED)
         { s with board := { s.board with modReset := some { m with locked := all } } })

/-- DROOP_DETECT: an island's supply stays more than DROOP_MV below the voltage of its set point for some cycles (R70); the
comparison is the detector's, and the event its outcome (log entry 183). -/
def execDroopDetect (isl cycles : Nat) (s : State) : Res :=
  onUnit (islandNumbered isl && hasDroop isl)
    (if s.board.powered && islandPresent s.part isl && 0 < cycles then s.droop isl cycles else s)

/-- DROOP_RECOVER: the supply has returned within DROOP_MV, and the period takes its next step toward nominal (R70). -/
def execDroopRecover (isl : Nat) (s : State) : Res :=
  onUnit (islandNumbered isl && hasDroop isl) (s.droopStep isl)

/-- FREQ_GLIDE_COMPLETE: an island reaches its new period (R67). -/
def execFreqGlideComplete (isl : Nat) (s : State) : Res := onUnit (islandNumbered isl) (s.endGlide isl)

/-! The end of a module reset (R50, R52, R53, R58, R77, R540 to R542). -/

/-- Bond channels of tower k as trained: a mask of the channels up, and the spare pads in use (R540, R553). -/
def State.trainBond (s : State) (k up pads : Nat) : State :=
  let up := up % 2 ^ 32
  let n := (List.range 32).countP up.testBit
  let s := s.setFlds (A.bondStatus k) [(F.bondStatus_CHANNELS_UP, up), (F.bondStatus_UP_COUNT, n),
    (F.bondStatus_PADS_REPAIRED, min 512 pads)]
  if n < 8 then s.fenceDie k else s

/-- Modules of a link (R532). -/
def linkModules (l : Nat) : Nat := if l < 4 then 16 else 4

/-- A link as trained: modules up, those at half width, redundant lanes in use (R540, R551). A link down or degraded raises an
alert. -/
def State.trainLink (s : State) (l up half spares : Nat) : State :=
  let n := linkModules l
  let up := up % 2 ^ n
  let half := half % 2 ^ n &&& up
  let deg := up ≠ 2 ^ n - 1 || half ≠ 0
  let s := (linkEnds l).foldl (fun s a => s.setFlds a
    [(F.linkStatus_STATE, if up = 0 then 0 else 2), (F.linkStatus_DEGRADED, b2n (deg && up ≠ 0)), (F.linkStatus_MODULES_UP, up),
     (F.linkStatus_HALF_WIDTH, half), (F.linkStatus_SPARES_USED, min 255 spares)]) s
  if deg then s.alertBit 10 else s

/-- Link l is up. -/
def State.linkUp (s : State) (l : Nat) : Bool :=
  match linkEnds l with | a :: _ => 2 ≤ s.fld a F.linkStatus_STATE | [] => false

/-- The routes that the links allow (R541, R542): ROUTED_AROUND at a ring link that is down, the host links up, and the service
paths when neither is. -/
def State.setRoutes (s : State) : State :=
  let s := (List.range 4).foldl (fun s l =>
    (linkEnds l).foldl (fun s a => s.setFlag a F.linkStatus_ROUTED_AROUND (!s.linkUp l)) s) s
  let h := b2n (s.linkUp 4) + 2 * b2n (s.linkUp 5)
  s.setFlds A.hostStatus [(F.hostStatus_HOST_LINKS_UP, h), (F.hostStatus_SERVICE_ONLY, b2n (h = 0))]

/-- The tick at which the internal minimum of a module reset has passed (R52, R77), and after a wait for REF the 200,000 cycles of
R50. A low level recognised before or during the reset holds it for 200,000 cycles from its start and until its release, pinUs
after it. -/
def State.resetMinimum (s : State) (m : ModReset) (pinUs : Nat) : Nat :=
  max (max (m.startTick + (if m.cause = 2 then 198000 else 200000)) (if m.refWait then s.board.refFrom + 200000 else 0))
    (if s.board.resetLow then s.board.lowFrom + max 200000 (200 * pinUs) else 0)

/-- MODULE_RESET_END: the minimum, the pin's release, REF and the temperatures allow the module to leave reset; CC starts from the
ROM. pinUs is how long RESET_L was low; brakeLow whether BRAKE_L has been low for the last 400 cycles; geo the straps; dieC and
stackC the hottest readings; bonds and links what trained (towers 0 to 3; ring links 0 to 3, then the host links). -/
def execModuleResetEnd (pinUs : Nat) (brakeLow : Bool) (geo dieC stackC : Nat) (bonds : List (Nat × Nat))
    (links : List (Nat × Nat × Nat)) (s : State) : Res :=
  .next (match s.board.modReset with
    | none => s
    | some m =>
      if !s.board.powered || !s.board.main.good || 115 ≤ dieC || 105 ≤ stackC then s
      else if !s.flag A.sbStatus F.sbStatus_REF_OK then
        { s with board := { s.board with modReset := some { m with refWait := true } } }
      else if !m.locked then s
      else
        let s := s.notBefore (s.resetMinimum m pinUs)
        let s : State :=
          if m.cause = 2 then s.setFlds A.resetCause [(F.resetCause_CAUSE, if pinUs < 1000 then 3 else 2),
            (F.resetCause_PIN_WIDTH_US, min 0xFFFF pinUs)]
          else s
        let s := s.setFlds A.sbStatus [(F.sbStatus_GEO, geo % 16), (F.sbStatus_ON_BACKUP, 0)]
        let s := { s with board := { s.board with modReset := none, resetLow := false, resetEnd := s.now } }
        let s := s.loadFences.clampHosts.glideAll
        let s := (List.range 4).foldl (fun s k => s.trainBond k (bonds.getD k (0, 0)).1 (bonds.getD k (0, 0)).2) s
        let s := (List.range 6).foldl (fun s l => let t := links.getD l (0, 0, 0); s.trainLink l t.1 t.2.1 t.2.2) s
        let s := s.setRoutes
        let s := if brakeLow then s.enterBraked else s
        s.enter 1)

/-! Secure boot (R134 to R136). -/

/-- The bytes of a digest in the order in which FIPS 180-4 writes them (R139). -/
def digestBytes (d : BitVec 384) : List Byte := (leBytes 48 d.toNat).reverse

/-- Bytes 0x000 to 0x057 of an image's header (R134). -/
def imageSigned (i : BootImage) : List Byte :=
  leBytes 4 i.magic ++ leBytes 2 i.typ ++ leBytes 2 i.hdrLen ++ leBytes 4 i.svn ++ leBytes 4 i.version ++ leBytes 8 i.loadAddr
    ++ leBytes 8 i.entry ++ leBytes 8 i.bodyLen ++ i.digest

/-- Number of Iamet's boot key. -/
def bootKey : Nat := 0

/-- The split that step 1 of R137 applies: none where SPLIT_EN is 0 or BOOT_DC exceeds the part's Ct. -/
def State.bootSplit (s : State) : Option (Nat × Nat) :=
  let c := s.rd A.bootCfg
  if F.bootCfg_SPLIT_EN.get c = 1 && F.bootCfg_BOOT_DC.get c ≤ s.part.ct then
    some (F.bootCfg_BOOT_DS.get c, F.bootCfg_BOOT_DC.get c)
  else none

/-- MEM_ILV_SPLIT with a split. -/
def State.withSplit (s : State) (ds dc : Nat) : State := s.setFlds A.ilvSplit [(F.ilvSplit_DS, ds), (F.ilvSplit_DC, dc)]

/-- LOAD_ADDR and ENTRY of an image are what its type allows, under the split that will apply (R134). -/
def State.imagePlaced (s : State) (i : BootImage) (typ : Nat) : Bool :=
  if typ = 4 then
    let s := match s.bootSplit with | some (ds, dc) => s.withSplit ds dc | none => s.withSplit 192 s.part.ct
    i.loadAddr % 4096 = 0 && 0x2000 ≤ i.loadAddr && s.tierRange i.loadAddr i.bodyLen && !(windowOf i.loadAddr).1.isCap
      && i.loadAddr ≤ i.entry && i.entry < i.loadAddr + i.bodyLen
  else i.loadAddr = 0 && i.entry = 0

/-- An image passes as TYPE typ (R134, R135). -/
def State.imageOk (s : State) (i : BootImage) (typ : Nat) : Bool :=
  i.magic = 0x51524D49 && i.typ = typ && i.hdrLen = 0x200 && i.reservedZero
    && s.fld A.bootSvn F.bootSvn_MIN_SVN ≤ i.svn && 1 ≤ i.bodyLen && i.bodyLen ≤ 64 * 2 ^ 20 && i.body.length = i.bodyLen
    && i.digest.length = 48 && s.imagePlaced i typ && i.digest = digestBytes (sha384 i.body)
    && ecdsaVerify (Config.iametKey bootKey) (sha384 (imageSigned i)) i.sig

/-- The first TYPE of a slot whose image fails; none when the slot passes. -/
def State.slotFails (s : State) (slot : List BootImage) : Option Nat :=
  [1, 2, 3, 4].find? (fun t => match slot[t - 1]? with | some i => !s.imageOk i t | none => true)

/-- A measurement register extended with a value (R136). -/
def State.extendMeasure (s : State) (m : Nat) (v : List Byte) : State :=
  let old := (List.range 6).flatMap (fun w => leBytes 8 (s.rd (A.measure m w)).toNat)
  let d := digestBytes (sha384 (old ++ v))
  (List.range 6).foldl (fun s w => s.wr (A.measure m w) (BitVec.ofNat 64 (leNat ((d.drop (8 * w)).take 8)))) s

/-- A failed step of the boot (R128, R140): the ROM answers from now on, and no CCFW runs (R130). -/
def State.bootFails (s : State) (cause unit : Nat) : State :=
  let s := s.setFlds A.bootStatus [(F.bootStatus_FAIL_CAUSE, cause), (F.bootStatus_FAIL_UNIT, unit)]
  ({ s with board := { s.board with ccSvn := 0 } }).enter 15

/-- Steps 1 and 2 of R137: the boot split, PCIe out of reset, fabric ports in training. -/
def State.startInit (s : State) : State :=
  let s : State := match s.bootSplit with
    | some (ds, dc) =>
      if s.ds = ds && s.dc = dc then s else ((s.withSplit ds dc).splitChanged).stampChange [A.ilvSplit]
    | none => s.setFlag A.bootStatus F.bootStatus_CFG_IGNORED (s.flag A.bootCfg F.bootCfg_SPLIT_EN)
  let s := { s with board := { s.board with perst := false, refclkOut := true } }
  let s := s.enter 2
  (List.range 16).foldl (fun s n =>
    if s.part.portPresent n then s.setPortState n (if s.fld (A.portCfg (n / 4) (n % 4)) F.portCfg_MODE = 2 then 5 else 1) 0 else s) s

/-- SECURE_BOOT_COMPLETE: the ROM has checked the preferred slot, and the other if that failed; it measures what it accepted and
MEMORY_INIT begins, or the module is FAILED with cause IMAGE (R128, R135 to R137). -/
def execSecureBootComplete (s : State) : Res :=
  .next (if s.readiness ≠ 1 then s
    else
      let pref := s.flag A.bootCfg F.bootCfg_SLOT_PREF
      let slot (b : Bool) : List BootImage := if b then s.board.slotB else s.board.slotA
      let s0 := s.extendMeasure 0 (digestBytes Config.romDigest)
      let five (s : State) : State :=
        (s.extendMeasure 5 (leBytes 8 (s.rd A.bootCfg).toNat)).extendMeasure 5 (leBytes 8 (s.rd A.bootSvn).toNat)
      let accept (b fallback : Bool) : State :=
        let s := (List.range 4).foldl (fun s i => s.extendMeasure (i + 1) ((slot b).getD i default).digest) s0
        let s := (five s).setFlds A.bootStatus [(F.bootStatus_SLOT_USED, b2n b), (F.bootStatus_SLOT_FALLBACK, b2n fallback)]
        ({ s with board := { s.board with ccSvn := ((slot b).getD 0 default).svn } }).startInit
      match s.slotFails (slot pref), s.slotFails (slot (!pref)) with
      | none, _ => accept pref false
      | some _, none => accept (!pref) true
      | some t, some _ => ((five s0).setFlag A.bootStatus F.bootStatus_SLOT_FALLBACK true).bootFails 2 t)

/-! Memory initialisation (R137, R138). -/

/-- Buses of a package (R407). -/
def packageBuses (p : Nat) : List Nat := (List.range 4).map (fun n => n + (if p < 18 then 0 else 4))

/-- FAIL_UNIT of the lowest failing unit: stacks first, then buses that have two unrepairable packages, or whose package cannot
be marked (R138, R140). DESIGN CHOICE (log entry 178): training judges a package whole, so one that cannot be repaired counts on
all four of its buses, and two bad packages of one group of four buses fail the boot. -/
def State.trainingFails (s : State) (badStacks badPackages : List Nat) : Option Nat :=
  let bus (b : Nat) : Bool :=
    let ps := badPackages.filter (fun p => (packageBuses p).contains b)
    2 ≤ ps.length || ps.any (fun p => !s.isMarked (pkgPos p) && ((s.markLimit (pkgPos p)).isSome || s.markWorn (pkgPos p)))
  (List.range 16).find? (fun u => if u < 8 then badStacks.contains u else bus (u - 8))

/-- MEMORY_TRAINING_DONE: training has ended on every stack and bus: badStacks have a channel that cannot be repaired, badPackages
cannot be repaired, repaired are the marked pins that training repaired (R137, R138, R406). DESIGN CHOICE (log entry 179): when the
judgement fails the boot, no package is marked and ERASURE_AT_BOOT stays 0, also where another bus has one bad package. -/
def execMemoryTrainingDone (badStacks badPackages repaired : List Nat) (s : State) : Res :=
  onUnit (badStacks.all (· < 8) && badPackages.all (· < 36) && badPackages.Nodup && (badPackages.isEmpty || s.part.hasCapacity)
      && repaired.all (fun w => !posBad w && w % 4 = 0))
    (if s.readiness ≠ 2 || s.board.trained then s
     else
       let s := { s with board := { s.board with trained := true } }
       let s := repaired.foldl (fun s w => if s.isMarked w && !s.markWorn w then s.applyMark { pos := w, set := false, chan := none } else s) s
       match s.trainingFails badStacks badPackages with
       | some u => s.bootFails 3 u
       | none =>
         let s := badPackages.foldl (fun s p =>
           if s.isMarked (pkgPos p) then s else s.applyMark { pos := pkgPos p, set := true, chan := none }) s
         if badPackages.isEmpty then s else s.setFlag A.bootStatus F.bootStatus_ERASURE_AT_BOOT true)

/-- MEMORY_INIT_DONE: every sector of both tiers, every scratchpad and every lantern buffer is written with zeros and read back;
badUnits are the stacks and buses where a sector failed. Channel 0 opens, HOSTBOOT is loaded, HC00 runs (R137, R138). -/
def execMemoryInitDone (badUnits : List Nat) (s : State) : Res :=
  onUnit (badUnits.all (fun u => u < 8 || (u < 16 && s.part.hasCapacity)))
    (if s.readiness ≠ 2 || !s.board.trained then s
     else match (List.range 16).find? badUnits.contains with
       | some u => s.bootFails 3 u
       | none =>
         let s := s.zero 0 0xC0300000000
         let s := ((s.setFlds (A.chCmdBase 0) [(F.chCmdBase_SIZE_LOG2, 6), (F.chCmdBase_BASE, 0)]).setFlds (A.chRplBase 0)
           [(F.chRplBase_SIZE_LOG2, 6), (F.chRplBase_BASE, 1)])
         let s := ((s.setFlds (A.chCfg 0) [(F.chCfg_ENABLE, 1), (F.chCfg_DOORBELL_SRC, 0)]).wr (A.chCmdPtr 0) 0).wr (A.chRplPtr 0) 0
         let slot := if s.flag A.bootStatus F.bootStatus_SLOT_USED then s.board.slotB else s.board.slotA
         let s := match slot[3]? with | some i => s.wrBytes i.loadAddr i.body | none => s
         (s.setFld A.hcRunning F.hcRunning_MASK 1).enter 3)

end Sys2Proof.Machine
end

