-- ==== Sys2Proof/Machine/L2Rows.lean ====
section
/-! DEFINITION. The rows of the base-die caches (R366 to R393): requests at their home, fills, reduce writes that wait, the host
die's accesses, range and pin commands. -/

namespace Sys2Proof.Machine

/-- A slice exists. -/
def hasSlice (k sl : Nat) : Bool := k < 4 && sl < 32

/-- Requests of some kinds on their way to a slice. -/
def State.bound (s : State) (key : Nat) (p : HomeReq → Bool) : List HomeReq :=
  s.l2.flying.filter (fun r => p r && s.homeKey r.pa = some key)

/-- A request faults its thread's group at its home; the request stays for a forced resume, and goes with its group. -/
def State.reqFault (s : State) (r : HomeReq) (f : TFault) : State :=
  match r.who with
  | .thread k c g l =>
    if s.slotState k c g = 3 then s
    else
      let s := s.groupFault k c g l r.pc f
      if (s.group k c g).isSome then s else s.land r
  | _ => s.land r

/-- Errors of a slice (R367): corrected ones are counted; bad names sectors it holds that cannot be corrected from now on, which the
check of whichever agent reads them next marks, counts and records, this read's among them; a tag that cannot be corrected is a
fault of the tower (log entry 206). -/
def State.l2Check (s : State) (key : Nat) (r : HomeReq) (corr : Nat) (bad : List Nat) (tagBad : Bool) : State :=
  let s := (s.bump (l2Cnt key 9) corr).l2Upset key bad
  let s := s.l2Find r.pa r.len (some r.owner)
  if tagBad then
    s.levelFault 3 { queue := key / 32, cls := 0x1E, domain := 3, action := 8, unit := unitSlice key, addr := r.pa / 128 * 128 }
  else s

/-- A read at its home (R369, R370, R373, R374); what a miss entry holds of it is its bytes as they stand at its arrival (R375). -/
def State.readAtHome (s : State) (key : Nat) (r : HomeReq) : State :=
  let line := r.pa / 128
  let (a, n) := r.asks
  let (s, ok) := s.clearLines a n false
  if !ok then s
  else if s.readHits key a n then
    (s.readHit key line r.policy).readBack r (s.rdBytes a n) (s.lineMarks line)
  else
    let r' : HomeReq := { r with bytes := s.rdBytes a n, red := s.lineMarks line + 4 * s.owes key a n }
    match (s.slice key).misses.find? (fun m => m.line = line) with
    | some m =>
      if 64 ≤ m.reqs.length then s
      else
        ((s.land r).bump (l2Cnt key 2) 1).modSlice key (fun c =>
          { c with misses := c.misses.map (fun x => if x.line = line then { x with reqs := x.reqs ++ [r'] } else x) })
    | none =>
      if 256 ≤ (s.slice key).misses.length then s
      else
        let s := (s.land r).bump (l2Cnt key 1) 1
        let (s, install) : State × Bool :=
          if ((s.slice key).find line).isSome then (s, true)
          else if r.policy = 2 then (s, false)
          else match s.allocate key line r.evict with
            | some t => (t, true)
            | none => (s.bump (l2Cnt key 3) 1, false)
        s.modSlice key (fun c => { c with misses := c.misses ++ [{ line := line, reqs := [r'], install := install, evict := r.evict }] })

/-- L2_READ: read idx of threads to slice sl of tower k arrives at its home. -/
def execL2Read (k sl idx corr : Nat) (bad : List Nat) (tagBad : Bool) (s : State) : Res :=
  onUnit (hasSlice k sl)
    (let key := 32 * k + sl
     match (s.bound key (fun r => r.kind = .read))[idx]? with
     | none => s
     | some r =>
       if !s.mayServe r || !s.crosses r.who r.pa then s
       else if s.physFaults r.pa r.len false then s.reqFault r (.plain 9)
       else
         let s := s.l2Check key r corr bad tagBad
         if s.l2.flying.contains r then s.readAtHome key r else s)

/-- L2_WRITE: write idx of threads arrives at its home (R369). -/
def execL2Write (k sl idx : Nat) (s : State) : Res :=
  onUnit (hasSlice k sl)
    (let key := 32 * k + sl
     match (s.bound key (fun r => r.kind = .write))[idx]? with
     | none => s
     | some r =>
       if !s.mayServe r || !s.crosses r.who r.pa then s
       else if s.physFaults r.pa r.len true then s.reqFault r (.plain 9)
       else
         let (s, ok) := s.clearLines r.pa r.len true
         if !ok then s else (s.land r).homeWrite r.pa r.bytes false r.policy r.evict)

/-- L2_MISS_FILL: miss entry idx is filled and serves its requesters in the order of their arrival (R374, R375), each with the bytes
as they stood at its arrival; a mark counts for those that take bytes of its sector from memory. -/
def execL2MissFill (k sl idx : Nat) (s : State) : Res :=
  onUnit (hasSlice k sl)
    (let key := 32 * k + sl
     match (s.slice key).misses[idx]? with
     | none => s
     | some m =>
       let s := s.modSlice key (fun c => { c with misses := c.misses.eraseIdx idx })
       let down := b2n (s.downAt (m.line * 128)) + 2 * b2n (s.downAt (m.line * 128 + 64))
       let s := s.markDown key (m.line * 128) 128
       let s := if m.install then
           let s := m.reqs.foldl (fun s r => s.fillLine key r.asks.1 r.asks.2) s
           if m.evict || m.reqs.all (fun r => r.policy = 2) then s else s.modSlice key (fun c => c.touch m.line)
         else s
       m.reqs.foldl (fun s r =>
         let owes := b2n (bitsOf (r.red / 4) 0 64 ≠ 0) + 2 * b2n (bitsOf (r.red / 4) 64 64 ≠ 0)
         let marks := r.red % 4 ||| (owes &&& (m.bad ||| down))
         let r' : HomeReq := { r with bytes := [], red := 0 }
         (s.fly r').readBack r' r.bytes marks) s)

/-! Reduce writes (R387 to R390). -/

/-- The issuer of a reduce write takes its access fault. -/
def State.redFault (s : State) (r : HomeReq) (cls : Nat) : State :=
  let s := if cls = 0x0C then
      s.note 0 5 { queue := (match s.homeKey r.pa with | some key => key / 32 | none => 0), cls := cls, domain := 0, action := 5,
                   owner := some r.owner, unit := r.who.unit, addr := r.pa }
    else s
  match r.who with
  | .thread .. => s.reqFault r (.plain 9)
  | .mover k m =>
    match (s.mover k m).queue.find? (fun d => d.id = r.pc) with
    | some d => s.moveFail k m d cls r.pa d.elems d.elems
    | none => s
  | .fabric =>
    match s.fab.reds.find? (fun e => e.1 = r.pc) with
    | some e => { s with fab := { s.fab with reds := s.fab.reds.erase e } }.ackPkt e.2 2 0
    | none => s
  | _ => s

/-- A reduce write that waited has been applied: the remote write it is the last part of is answered (R566). -/
def State.redDone (s : State) (r : HomeReq) : State :=
  match s.fab.reds.find? (fun e => r.who = .fabric && e.1 = r.pc) with
  | some e => if s.redWaiting r.pc then s else { s with fab := { s.fab with reds := s.fab.reds.erase e } }.ackPkt e.2 0 0
  | none => s

/-- L2_REDUCE_WRITE: reduce write idx of those that wait at the slice, then of those on their way, is applied, is refused, or
waits (R387, R390); cycles is what one that waited has waited. -/
def execL2ReduceWrite (k sl idx cycles : Nat) (s : State) : Res :=
  onUnit (hasSlice k sl)
    (let key := 32 * k + sl
     let ws := (s.slice key).waiting
     match ws[idx]? with
     | some r =>
       (match s.redMeets key r.pa r.owner.ctx r.red r.len with
        | (s, false) => s
        | (s, true) =>
          let gone (s : State) : State := (s.modSlice key (fun c => { c with waiting := c.waiting.erase r })).bump (l2Cnt key 8) cycles
          match s.redApply key r.pa r.owner.ctx r.red r.bytes (r.rd = 1) (some r.owner) with
          | .applied s => (gone s).redDone r
          | .refused s => (gone s).redFault r 0x11
          | .waits s => s)
     | none =>
       match (s.bound key (fun r => r.kind = .reduce))[idx - ws.length]? with
       | none => s
       | some r =>
         if !s.mayServe r || !s.crosses r.who r.pa then s
         else
           match s.redMeets key r.pa r.owner.ctx r.red r.len with
           | (s, false) => s
           | (s, true) =>
             match s.redApply key r.pa r.owner.ctx r.red r.bytes false (some r.owner) with
             | .applied s => s.land r
             | .refused s => s.redFault r 0x11
             | .waits s => (s.land r).redWait key { r with rd := 0 })

/-- RED_STALL_TIMEOUT: reduce write idx that waits at the slice is abandoned (R390) when what it waited, cycles, has reached its
limit (R399). -/
def execRedStallTimeout (k sl idx cycles : Nat) (s : State) : Res :=
  onUnit (hasSlice k sl)
    (let key := 32 * k + sl
     match (s.slice key).waiting[idx]? with
     | none => s
     | some r =>
       if cycles < 2 ^ r.limit then s
       else
         let s := (s.modSlice key (fun c => { c with waiting := c.waiting.erase r })).bump (l2Cnt key 8) cycles
         s.redFault r 0x0C)

/-! The host die (R392, R393). -/

/-- HOST_RECALL_RESPONSE: the host die answers recall idx; the dirty bytes it returns, from offset off of the line, merge as a
write-back. -/
def execHostRecallResponse (k sl idx off : Nat) (data : List Byte) (poison : Bool) (s : State) : Res :=
  onUnit (hasSlice k sl)
    (let key := 32 * k + sl
     match (s.slice key).recalls[idx]? with
     | none => s
     | some r =>
       if !s.crosses .host (r.line * 128) then s
       else
       let dirty := (s.slice key).dir.any (fun d => d.1 = r.line && d.2)
       let s := s.modSlice key (fun c => { c with recalls := c.recalls.erase r })
       let s := if dirty && !data.isEmpty && off + data.length ≤ 128 then
           (s.drainSlot key r.line).homeWrite (r.line * 128 + off) data poison 0
         else s
       s.modSlice key (fun c =>
         { c with dir := if r.inval || r.evict then c.dir.filter (fun d => d.1 ≠ r.line)
                         else c.dir.map (fun d => if d.1 = r.line then (d.1, false) else d) }))

/-- An entry of the directory made most recently used, in a state. -/
def Slice.noteDir (c : Slice) (line : Nat) (m : Bool) : Slice := { c with dir := (line, m) :: c.dir.filter (fun d => d.1 ≠ line) }

/-- HOST_CACHE_READ: a host read, or a read for ownership, of the 8 bytes at an address: its line enters the directory. A
requester gets its word; poison gives it none, and a record in the device queue (R619). A full set first sends its least
recently used entry away (R393). -/
def execHostCacheRead (pa : Nat) (own : Bool) (who : Nat) (s : State) : Res :=
  match s.homeKey pa with
  | none => .refused .noSuchUnit
  | some key =>
    .next (
      let line := pa / 128
      let c := s.slice key
      if !s.populated pa || c.recalls.any (fun r => r.line = line) || !s.crosses .host pa then s
      else
        let set := c.dir.filter (fun d => d.1 % 1024 = line % 1024)
        if !c.dir.any (fun d => d.1 = line) && 16 ≤ set.length then
          match set.getLast? with
          | some v =>
            if c.recalls.any (fun r => r.line = v.1) then s
            else (s.sendRecall key { line := v.1, inval := true, evict := true }).bump (l2Cnt key 12) 1
          | none => s
        else
          let m := own || c.dir.any (fun d => d.1 = line && d.2)
          let s := (s.drainSlot key line).markDown key (line * 128) 128
          if !s.missRoom key (line * 128) 128 then s
          else
          let s := (s.l2Find (line * 128) 128 none).readLineNow key (line * 128) 128 0 false
          let s := s.modSlice key (fun c => c.noteDir line m)
          let a := pa / 64 * 64
          if s.poison.contains a then
            s.note 0 5 { queue := 4, cls := 0x12, domain := 0, action := 5, unit := unitCode 14 0 0 0 0, addr := a }
          else s.answer who (BitVec.ofNat 64 (s.rd64 (pa / 8 * 8))))

/-- HOST_WRITEBACK: dirty bytes of a line that the host holds merge as a WB write; keep says that a clean copy stays. -/
def execHostWriteback (pa : Nat) (data : List Byte) (poison keep : Bool) (s : State) : Res :=
  match s.homeKey pa with
  | none => .refused .noSuchUnit
  | some key =>
    .next (
      let line := pa / 128
      if s.crosses .host pa && (s.slice key).dir.any (fun d => d.1 = line && d.2) && !data.isEmpty && pa % 128 + data.length ≤ 128 then
        let s := (s.drainSlot key line).homeWrite pa data poison 0
        s.modSlice key (fun c => if keep then c.noteDir line false else { c with dir := c.dir.filter (fun d => d.1 ≠ line) })
      else s)

/-! Range commands (R377 to R381). -/

/-- Lines of a range. -/
def rangeLines (a n : Nat) : List Nat := rangeFrom (a / 128) (n / 128)

/-- RANGE_BUSY of the slices recounted. -/
def State.showRanges (s : State) : State :=
  (List.range 128).foldl (fun s key =>
    let b := s.l2.ranges.any (fun r => (rangeLines r.addr r.len).any (fun l => s.homeKey (l * 128) = some key))
    s.setFlag (A.l2SliceStatus (key / 32) (key % 32)) F.l2SliceStatus_RANGE_BUSY b) s

/-- Bits of OPTS that a range command takes. -/
def rangeOpts (kind : Nat) : Nat := 1 + 0xFFFF0000 + (match kind with | 0 => 6 | 1 => 0x28 | _ => 0x10)

/-- A range command (R377, R378): kind 0 prefetch, 1 flush, 2 invalidate. -/
def State.rangeCmd (s : State) (ch kind : Nat) (p : Packet) : State :=
  let a := pword p 0
  let n := pword p 1
  let o := pword p 2
  s.orFail ch (if p.length ≠ 40 then some St.badLength else none) fun s =>
  s.orFail ch (firstFail
    [(s.absentTier a, St.disabled),
     (a % 128 ≠ 0 || n % 128 ≠ 0 || n = 0 || 2 ^ 42 < n || !s.tierRange a n || o &&& (2 ^ 64 - 1 - rangeOpts kind) ≠ 0
        || (kind = 1 && bit o 3 && bit o 5), St.invalid),
     (bit o 0 && s.objType (bitsOf o 16 16) = 0, St.notFound),
     (s.eclipse, St.busy)]) fun s =>
    let r : RangeCmd := { kind := kind, addr := a, len := n, opts := o, chan := ch }
    ({ s with l2 := { s.l2 with ranges := s.l2.ranges ++ [r] } }).showRanges

/-- L2_PREFETCH_RANGE (R377). -/
def execL2PrefetchRange (ch : Nat) (p : Packet) (s : State) : Res := cmd ch 0x400 p s fun s => s.rangeCmd ch 0 p
/-- L2_FLUSH_RANGE (R377). -/
def execL2FlushRange (ch : Nat) (p : Packet) (s : State) : Res := cmd ch 0x401 p s fun s => s.rangeCmd ch 1 p
/-- L2_INVAL_RANGE (R377). -/
def execL2InvalRange (ch : Nat) (p : Packet) (s : State) : Res := cmd ch 0x402 p s fun s => s.rangeCmd ch 2 p

/-- One line acted on (R379): the state and the two counts of R381. -/
def State.rangeLine (s : State) (r : RangeCmd) (line : Nat) : State × Nat × Nat :=
  match s.homeKey (line * 128) with
  | none => (s, 0, 0)
  | some key =>
    let slot := b2n ((s.slice key).slot line).isSome
    let s := s.drainSlot key line
    let discard := r.kind = 2 && bit r.opts 4
    let s := if discard then
        let s := if (s.slice key).dir.any (fun d => d.1 = line && d.2) && !(s.slice key).recalls.any (fun x => x.line = line) then
            s.bump (l2Cnt key 11) 1 else s
        s.modSlice key (fun c =>
          { c with dir := c.dir.filter (fun d => d.1 ≠ line), recalls := c.recalls.filter (fun x => x.line ≠ line) })
      else s
    let wb := match (s.slice key).find line with | some l => l.dirtySectors.length | none => 0
    let here := b2n ((s.slice key).find line).isSome
    let drop (s : State) : State := s.modSlice key (fun c =>
      { c with lines := c.lines.filter (fun l => l.line ≠ line),
               misses := c.misses.map (fun m => if m.line = line then { m with install := false } else m) })
    match r.kind with
    | 0 =>
      if s.readHits key (line * 128) 128 then (s, 0, 0)
      else
        let place : Option State := if here = 1 then some s else s.allocate key line false
        match place with
        | some s =>
          let s := ((s.markDown key (line * 128) 128).fillLine key (line * 128) 128).modSlice key (fun c => c.touch line)
          (s.bump (l2Cnt key 1) 1, 1, 0)
        | none => (s, 0, 1)
    | 1 =>
      if bit r.opts 5 then (s, 0, slot)
      else
        (if bit r.opts 3 then drop (s.evictLine key line) else s.writeback key line, wb, slot)
    | _ => if discard then (drop (s.dropLine key line), here, slot) else (drop (s.evictLine key line), here, slot)

/-- Every host copy that a range command meets is recalled, and no miss of a line to be acted on is in flight: whether it may
end. One that only drains recalls nothing (R379). -/
def State.rangeClear (s : State) (r : RangeCmd) : State × Bool :=
  (rangeLines r.addr r.len).foldl (fun (a : State × Bool) line =>
    match a.1.homeKey (line * 128) with
    | none => a
    | some key =>
      let flight := r.kind ≠ 2 && (a.1.slice key).misses.any (fun m => m.line = line)
      let (s, ok) := if (r.kind = 2 && bit r.opts 4) || (r.kind = 1 && bit r.opts 5) then (a.1, true)
        else a.1.meetDir key line (decide (r.kind = 2))
      (s, a.2 && ok && !flight)) (s, true)

/-- L2_RANGE_COMPLETE: range command idx has acted on every line, and replies (R380, R381). -/
def execL2RangeComplete (idx : Nat) (s : State) : Res :=
  .next (match s.l2.ranges[idx]? with
    | none => s
    | some r =>
      match s.rangeClear r with
      | (s, false) => s
      | (s, true) =>
        let (s, a, b) := (rangeLines r.addr r.len).foldl (fun (x : State × Nat × Nat) l =>
          let (s, a, b) := x.1.rangeLine r l
          (s, x.2.1 + a, x.2.2 + b)) (s, 0, 0)
        let s := ({ s with l2 := { s.l2 with ranges := s.l2.ranges.eraseIdx idx } }).showRanges
        let s := if bit r.opts 0 then s.signalDone none (bitsOf r.opts 16 16) else s
        s.reply r.chan St.ok [a, b])

/-! Pinned windows (R382 to R385). -/

/-- PIN_WAYS of a slice. -/
def State.pinWays (s : State) (k sl : Nat) : Nat := s.fld (A.l2SliceStatus k sl) F.l2SliceStatus_PIN_WAYS

/-- L2_PIN and L2_UNPIN (R383). -/
def State.pinCmd (s : State) (ch : Nat) (unpin : Bool) (p : Packet) : State :=
  let w := pword p 0
  let k := bitsOf w 0 2
  let n := bitsOf w 8 4
  let sl := pword p 1
  let named := (List.range 32).filter sl.testBit
  s.orFail ch (checkWords p [0xF03, 0xFFFFFFFF]) fun s =>
  s.orFail ch (firstFail
    [(sl = 0, St.invalid), (!unpin && 12 < n, St.pinLimit),
     (named.any (fun i => if unpin then s.pinWays k i < n else n < s.pinWays k i), St.invalid),
     (s.eclipse || s.l2.pins.any (fun x => x.tower = k), St.busy)]) fun s =>
    let s := { s with l2 := { s.l2 with pins := s.l2.pins ++ [{ tower := k, ways := n, slices := sl, unpin := unpin, chan := ch }] } }
    named.foldl (fun s i => s.setFlag (A.l2SliceStatus k i) F.l2SliceStatus_PIN_BUSY true) s

/-- L2_PIN (R383). -/
def execL2Pin (ch : Nat) (p : Packet) (s : State) : Res := cmd ch 0x403 p s fun s => s.pinCmd ch false p
/-- L2_UNPIN (R383). -/
def execL2Unpin (ch : Nat) (p : Packet) (s : State) : Res := cmd ch 0x404 p s fun s => s.pinCmd ch true p

/-- Offset 0 of a slice's pinned window (R29). -/
def pinBase (k sl : Nat) : Nat := 0xC0000000000 + k * 0x40000000 + sl * 0x1000000
/-- Bytes of one pinned way (R382). -/
def wayBytes : Nat := 655360

/-- A slice's new pinned ways cleared (R384): their lines drain, are written back and go; the window grows; the answer counts
the sectors written back. -/
def State.pinSlice (s : State) (k sl n : Nat) : State × Nat :=
  let key := 32 * k + sl
  let old := s.pinWays k sl
  let lines := ((s.slice key).lines.filter (fun l => 16 - n ≤ l.way && l.way < 16 - old)).map (·.line)
  let (s, wb) := lines.foldl (fun (a : State × Nat) line =>
    let s := a.1.drainSlot key line
    let d := match (s.slice key).find line with | some l => l.dirtySectors.length | none => 0
    (s.evictLine key line, a.2 + d)) (s, 0)
  let s := s.zero (pinBase k sl + old * wayBytes) (pinBase k sl + n * wayBytes)
  (s.setFlds (A.l2SliceStatus k sl) [(F.l2SliceStatus_PIN_WAYS, n), (F.l2SliceStatus_PIN_BUSY, 0)], wb)

/-- A slice's released ways return to caching (R385): slots drain into nothing, the window shrinks, its bytes are lost. -/
def State.unpinSlice (s : State) (k sl n : Nat) : State :=
  let key := 32 * k + sl
  let old := s.pinWays k sl
  let lo := pinBase k sl + n * wayBytes
  let hi := pinBase k sl + old * wayBytes
  let inIt (line : Nat) : Bool := lo ≤ line * 128 && line * 128 < hi
  let s := ((s.slice key).slots.filter (fun r => inIt r.line)).foldl (fun s r => s.drainSlot key r.line true) s
  let s := s.modSlice key (fun c => { c with dir := c.dir.filter (fun d => !inIt d.1), recalls := c.recalls.filter (fun r => !inIt r.line) })
  let s := { s with l2 := { s.l2 with weak := s.l2.weak.filter (fun a => !inIt (a / 128)) } }
  (s.zero lo hi).setFlds (A.l2SliceStatus k sl) [(F.l2SliceStatus_PIN_WAYS, n), (F.l2SliceStatus_PIN_BUSY, 0)]

/-- A miss in flight holds a way that a pin takes, or an access is in flight to a way that an unpin releases. -/
def State.pinBusy (s : State) (x : PinCmd) : Bool :=
  (List.range 32).any (fun sl => x.slices.testBit sl &&
    (let key := 32 * x.tower + sl
     if x.unpin then
       let lo := pinBase x.tower sl + x.ways * wayBytes
       s.requests.any (fun r => lo ≤ r.pa && r.pa < pinBase x.tower sl + s.pinWays x.tower sl * wayBytes)
     else (s.slice key).misses.any (fun m => match (s.slice key).find m.line with
       | some l => 16 - x.ways ≤ l.way
       | none => false)))

/-- The pin command of a tower ends. -/
def State.endPin (s : State) (k : Nat) (unpin : Bool) : State :=
  match s.l2.pins.find? (fun x => x.tower = k && x.unpin = unpin) with
  | none => s
  | some x =>
    if s.pinBusy x then s
    else
      let (s, wb) := ((List.range 32).filter x.slices.testBit).foldl (fun (a : State × Nat) sl =>
        if unpin then (a.1.unpinSlice k sl x.ways, a.2)
        else
          let (s, n) := a.1.pinSlice k sl x.ways
          (s, a.2 + n)) (s, 0)
      let s := { s with l2 := { s.l2 with pins := s.l2.pins.erase x } }
      s.reply x.chan St.ok (if unpin then [] else [wb])

/-- L2_PIN_COMPLETE (R384). -/
def execL2PinComplete (k : Nat) (s : State) : Res := onUnit (k < 4) (s.endPin k false)
/-- L2_UNPIN_COMPLETE (R385). -/
def execL2UnpinComplete (k : Nat) (s : State) : Res := onUnit (k < 4) (s.endPin k true)

end Sys2Proof.Machine
end

