-- ==== Sys2Proof/Machine/Migrate.lean ====
section
/-! DEFINITION. Migration between tiers and advice (R487 to R490, R492, R493). -/

namespace Sys2Proof.Machine

/-- The pages of a range in order, from an address on: each as address, leaf level, leaf address and leaf; the first page
that has no leaf, or whose leaf or run leaves the range or resolves outside the tiers (R488 step 3). -/
def State.rangePages (s : State) (ctx lo hi va : Nat) : Nat → List (Nat × Nat × Nat × Nat) × Option Nat
  | 0 => ([], none)
  | n + 1 =>
    if hi ≤ va then ([], none)
    else
      match s.leafAt ctx va with
      | none => ([], some va)
      | some (level, addr, ent) =>
        let sh := levelShift level
        let span := 2 ^ (sh + bitsOf ent 52 4)
        let page := va / 2 ^ sh * 2 ^ sh
        let base := va / span * span
        if base < lo || hi < base + span || !s.tierRange (bitsOf ent 12 40 * 4096) (2 ^ sh) then ([], some va)
        else
          let (l, bad) := s.rangePages ctx lo hi (page + 2 ^ sh) n
          ((page, level, addr, ent) :: l, bad)

/-- A SCAN of a context whose words cover part of a range. -/
def scansOver (w : Nat → Nat) (va len : Nat) : Bool :=
  bitsOf (w 0) 0 4 = 1 && overlaps va len (bitsOf (w 1) 0 57) (bitsOf (w 2) 0 32 * (64 * 2 ^ bitsOf (w 0) 13 2))

/-- A queued or running SCAN of a context that covers part of a range (R488): at a unit, or at its dispatcher. -/
def State.scanning (s : State) (ctx va len : Nat) : Bool :=
  s.lnt.units.any (fun u => u.2.queue.any (fun r => r.owner.ctx = ctx && scansOver r.word va len))
  || s.lnt.disp.any (fun d => d.owner.ctx = ctx && scansOver (d.w.getD · 0) va len)

/-- Codes of WINDOW (R492). -/
def adviceWindow : Nat → Option Window
  | 0 => some .stackDev
  | 5 => some .capDev
  | n => if n ≤ 4 then some (.stackTower (n - 1)) else if n ≤ 9 then some (.capTower (n - 6)) else none

/-- Checks 4 of R488 on a destination: a status, or none. -/
def State.destCheck (s : State) (va len dest : Nat) (pages : List (Nat × Nat × Nat × Nat)) : Option Nat :=
  let big := pages.foldl (fun m p => max m (2 ^ (levelShift p.2.1 + bitsOf p.2.2.2 52 4))) 4096
  firstFail
    [ (s.absentTier dest, 0x06),
      (decide (((dest : Int) - va) % (big : Int) ≠ 0) || !s.tierRange dest len
        || pages.any (fun p => overlaps dest len (bitsOf p.2.2.2 12 40 * 4096) (2 ^ levelShift p.2.1)), 0x05) ]

/-- Checks 6 of R488. -/
def State.moveBusy (s : State) (ctx va len : Nat) : Bool :=
  s.eclipse || s.migrating ctx va len || s.scanning ctx va len || decide (16 ≤ s.epochsOpen ctx)

/-- A MIGRATE accepted (R489 step 1): writes into its range wait from now. -/
def State.addMigrate (s : State) (m : Migrate) : State := { s with xlt := { s.xlt with migrates := s.xlt.migrates ++ [m] } }

/-- The rest of the checks of a MIGRATE and its acceptance. -/
def State.migrateBody (s : State) (ch : Nat) (p : Packet) : State :=
  let w0 := pword p 0
  let c := bitsOf w0 0 8
  let va := pword p 1
  let len := pword p 2
  let dest := pword p 3
  let done := if bit w0 12 then some (bitsOf w0 16 16) else none
  s.orFail ch (firstFail
    [ (decide (va % 4096 ≠ 0 ∨ len % 4096 ≠ 0) || decide (bitsOf w0 32 22 ≠ 0) || decide (2 ^ 52 ≤ dest)
        || decide (s.ctxOpen c ∧ 2 ^ (39 + F.xltRoot_ROOT_LOG2.get (s.rd (A.xltRoot c))) < va + len), St.invalid),
      (!s.ctxOpen c || (bit w0 12 && !s.objBoundTo (bitsOf w0 16 16) c), St.notFound) ]) fun s =>
  let (u, ok) := s.tablesClear c va len
  if !ok then u.unfinished ch
  else
  let (pages, bad) := s.rangePages c va (va + len) va (len / 4096)
  match bad with
  | some v => s.reply ch St.invalid [v]
  | none =>
    let other := s.xlt.advice.any (fun a => a.ctx = c && bit a.kinds 1 && overlaps va len a.va a.len &&
      adviceWindow a.window ≠ some (windowOf dest).1)
    s.orFail ch (s.destCheck va len dest pages) fun s =>
    s.orFail ch (firstFail
      [ (other && !bit w0 13, St.invalid),
        (s.moveBusy c va len || decide (4 ≤ s.xlt.migrates.length), St.busy) ]) fun s =>
    s.addMigrate { mode := 1, ctx := c, va := va, len := len, dest := dest, remote := 0, prio := bitsOf w0 10 2, moved := 0,
                   doneObj := done, chan := ch, advise := none }

/-- MEM_PREFETCH with MODE MIGRATE (0x0302, R487 to R489). -/
def execMemPrefetchMigrate (ch : Nat) (p : Packet) (s : State) : Res :=
  cmd ch 0x302 p s fun s =>
    s.orFail ch (checkWords p [2 ^ 54 - 1 - 0xC000, 2 ^ 57 - 1, 2 ^ 58 - 1, 2 ^ 57 - 1]) fun s =>
    if bitsOf (pword p 0) 8 2 = 1 then s.migrateBody ch p else s.reply ch St.invalid

/-- Bytes copied from one place of the tiers to another through their home slices, poison marks with them (R489). -/
def State.copyHome (s : State) (src dst n : Nat) : State :=
  (linePieces src n).foldl (fun s p =>
    let s := s.l2Find p.1 p.2 none
    let bs := s.rdBytes p.1 p.2
    let marks := (sectorsOf p.1 p.2).filter s.poison.contains
    let dest := dst + (p.1 - src)
    let s := (s.homeRead p.1 p.2 0).homeWrite dest bs false 1
    let s := marks.foldl (fun s a => s.setPoison (dest + (a - p.1)) true) s
    match s.home p.1 with
    | some h => s.bump (A.xltCntMigBytes h.1) p.2
    | none => s) s

/-- One page copied and its leaf's PPN rewritten (R489 steps 3 and 4). -/
def State.migratePage (s : State) (m : Migrate) (p : Nat × Nat × Nat × Nat) : State :=
  let n := 2 ^ levelShift p.2.1
  let dest := m.dest + (p.1 - m.va)
  let s := s.copyHome (bitsOf p.2.2.2 12 40 * 4096) dest n
  let ent := p.2.2.2 - bitsOf p.2.2.2 12 40 * 4096 + dest / 4096 % 2 ^ 40 * 4096
  s.storeHome p.2.2.1 (leBytes 8 ent)

/-- MIGRATE_COPY_DONE: migration i finishes its copy, its leaves, and its invalidation (R489). It cannot while accesses or walks
that its invalidation waits for are on their way (R485), a recall for its lines or its tables is out, earlier epochs of its context
are open, or in eclipse mode. -/
def execMigrateCopyDone (i : Nat) (s : State) : Res :=
  match s.xlt.migrates[i]? with
  | none => .refused .noSuchUnit
  | some m =>
    if m.mode ≠ 1 || s.eclipse || s.inFlight { (default : Epoch) with ctx := m.ctx, va := m.va, len := m.len }
        || s.xlt.walks.any (fun w => w.ctx = m.ctx) || s.epochsOpen m.ctx ≠ 0 then .next s
    else
      let (u, clear) := s.tablesClear m.ctx m.va m.len
      if !clear then .next u
      else
      let (pages, _) := s.rangePages m.ctx m.va (m.va + m.len) m.va (m.len / 4096)
      let (s, ok) := pages.foldl (fun (r : State × Bool) p =>
        let n := 2 ^ levelShift p.2.1
        let (s, a) := r.1.clearLines (bitsOf p.2.2.2 12 40 * 4096) n false
        let (s, b) := s.clearLines (m.dest + (p.1 - m.va)) n true
        let (s, d) := s.clearLines p.2.2.1 8 true
        (s, r.2 && a && b && d)) (s, true)
      if !ok then .next s
      else
        let s := pages.foldl (fun s p => s.migratePage m p) s
        let s := { s with xlt := { s.xlt with migrates := s.xlt.migrates.erase m } }
        let (s, e) := s.issueEpoch m.ctx m.va m.len false none none 0
        let s := match s.xlt.epochs.getLast? with | some x => s.completeEpoch x | none => s
        let s := match m.doneObj with | some o => s.signalDone (some m.ctx) o | none => s
        .next (match m.advise with
          | some a => s.reply m.chan St.ok [a]
          | none => s.reply m.chan St.ok [m.len, e])

/-! Advice. -/

/-- A range's advice cut at a window: the parts outside keep their kinds, the part inside changes. -/
def cutAdvice (va len : Nat) (f : Advice → Option Advice) (a : Advice) : List Advice :=
  let lo := max a.va va
  let hi := min (a.va + a.len) (va + len)
  if hi ≤ lo then [a]
  else
    (if a.va < lo then [{ a with len := lo - a.va }] else []) ++
    (f { a with va := lo, len := hi - lo }).toList ++
    (if hi < a.va + a.len then [{ a with va := hi, len := a.va + a.len - hi }] else [])

/-- The parts of a window that no range of a list covers. -/
def adviceGaps : Nat → Nat → List Advice → List (Nat × Nat)
  | lo, hi, [] => if lo < hi then [(lo, hi - lo)] else []
  | lo, hi, a :: as =>
    if a.va + a.len ≤ lo || hi ≤ a.va then adviceGaps lo hi as
    else (if lo < a.va then adviceGaps lo a.va as else []) ++ (if a.va + a.len < hi then adviceGaps (a.va + a.len) hi as else [])

/-- A context's advice with a kind set, or every kind removed, over a window (R492, R493). -/
def setAdvice (l : List Advice) (ctx va len kind window : Nat) : List Advice :=
  let mine := l.filter (fun a => a.ctx = ctx)
  let rest := l.filter (fun a => a.ctx ≠ ctx)
  if kind = 0 then rest ++ mine.flatMap (cutAdvice va len (fun _ => none))
  else
    let f (a : Advice) : Option Advice :=
      some { a with kinds := putBit a.kinds kind true, window := if kind = 1 then window else a.window }
    rest ++ mine.flatMap (cutAdvice va len f)
      ++ (adviceGaps va (va + len) mine).map (fun g => { ctx := ctx, va := g.1, len := g.2, kinds := 2 ^ kind, window := window })

/-- MEM_ADVISE (0x0303, R492, R493): KIND decides what it does. A window or a destination in an absent tier is told first (R4). -/
def State.adviseBody (s : State) (ch : Nat) (p : Packet) : State :=
  let w0 := pword p 0
  let c := bitsOf w0 0 8
  let kind := bitsOf w0 8 3
  let window := bitsOf w0 16 4
  let va := pword p 1
  let len := pword p 2
  let dest := pword p 3
  let move := kind = 1 && dest ≠ 0
  s.orFail ch (if p.length ≠ 48 then some St.badLength
    else if kind = 1 && ((5 ≤ window && window ≤ 9 && !s.part.hasCapacity) || s.absentTier dest) then some St.disabled
    else checkWords p [0xFF7FF, 2 ^ 57 - 1, 2 ^ 58 - 1, 2 ^ 52 - 1]) fun s =>
  s.orFail ch (firstFail
    [ (decide (4 < kind ∨ va % 4096 ≠ 0 ∨ len % 4096 ≠ 0) || (decide (kind ≠ 1) && decide (dest ≠ 0))
        || (kind = 1 && (adviceWindow window).isNone)
        || decide (s.ctxOpen c ∧ 2 ^ (39 + F.xltRoot_ROOT_LOG2.get (s.rd (A.xltRoot c))) < va + len), St.invalid),
      (!s.ctxOpen c, St.notFound) ]) fun s =>
  let (u, ok) := if move then s.tablesClear c va len else (s, true)
  if !ok then u.unfinished ch
  else
  let (pages, bad) := if move then s.rangePages c va (va + len) va (len / 4096) else ([], none)
  match bad with
  | some v => s.reply ch St.invalid [v]
  | none =>
    s.orFail ch (if move then
        (if adviceWindow window = some (windowOf dest).1 then s.destCheck va len dest pages else some St.invalid)
      else none) fun s =>
    s.orFail ch (firstFail [(s.moveBusy c va len || (move && decide (4 ≤ s.xlt.migrates.length)), St.busy)]) fun s =>
    let adv := setAdvice s.xlt.advice c va len kind window
    let used := (adv.filter (fun a => a.ctx = c)).length
    if 64 < used then s.reply ch St.invalid [64]
    else
      let s := { s with xlt := { s.xlt with advice := adv } }
      let s := s.setFld (A.xltRoot c) F.xltRoot_ADV_USED used
      let (s, e) := s.issueEpoch c va len false none (if move then none else some ch) (if kind = 3 then 16 + bitsOf w0 12 4 else 0)
      if move then
        s.addMigrate { mode := 1, ctx := c, va := va, len := len, dest := dest, remote := 0, prio := 0, moved := 0,
                       doneObj := none, chan := ch, advise := some e }
      else s

/-- MEM_ADVISE CLEAR. -/
def execMemAdviseClear (ch : Nat) (p : Packet) (s : State) : Res := cmd ch 0x303 p s fun s => s.adviseBody ch p
/-- MEM_ADVISE PREFER_TIER. -/
def execMemAdvisePreferTier (ch : Nat) (p : Packet) (s : State) : Res := cmd ch 0x303 p s fun s => s.adviseBody ch p
/-- MEM_ADVISE READ_MOSTLY. -/
def execMemAdviseReadMostly (ch : Nat) (p : Packet) (s : State) : Res := cmd ch 0x303 p s fun s => s.adviseBody ch p
/-- MEM_ADVISE ACCESSED_BY. -/
def execMemAdviseAccessedBy (ch : Nat) (p : Packet) (s : State) : Res := cmd ch 0x303 p s fun s => s.adviseBody ch p
/-- MEM_ADVISE EVICT_FIRST. -/
def execMemAdviseEvictFirst (ch : Nat) (p : Packet) (s : State) : Res := cmd ch 0x303 p s fun s => s.adviseBody ch p

end Sys2Proof.Machine
end

