-- ==== Sys2Proof/Machine/ResetRows.lean ====
section
/-! DEFINITION. The reset commands and their ends (R76 to R82), and contexts opened and closed (R473, R474, R494, R638). -/

namespace Sys2Proof.Machine

/-- RESET_MODULE (R76, R82): the module reset begins, and the command gets no reply. -/
def execResetModule (ch : Nat) (p : Packet) (s : State) : Res :=
  cmd ch 0x110 p s fun s => s.orFail ch (checkWords p []) fun s => s.beginModuleReset 4

/-! Tower reset (R79). -/

/-- A tower is under reset. -/
def State.towerResetting (s : State) (k : Nat) : Bool := s.board.towerRst.any (fun e => e.1 = k)
/-- A context is under reset. -/
def State.ctxResetting (s : State) (c : Nat) : Bool := s.board.ctxRst.any (fun e => e.1 = c)

/-- RESET_TOWER. -/
def execResetTower (ch : Nat) (p : Packet) (s : State) : Res :=
  cmd ch 0x111 p s fun s =>
    let k := bitsOf (pword p 0) 0 2
    s.orFail ch (match checkWords p [3] with
      | some st => some st
      | none => firstFail [(s.eclipse || s.towerResetting k, St.busy)]) fun s => s.beginTowerReset k (some ch)

/-- A line that the bound of R79 leaves dirty: it is not written, and its dirty sectors in memory take the poison mark; a record
names each. -/
def State.loseLine (s : State) (key line : Nat) : State :=
  match (s.slice key).find line with
  | none => s
  | some l =>
    l.dirtySectors.foldl (fun s h =>
      let a := line * 128 + 64 * h
      (s.setPoison a true).note 3 4 { queue := key / 32, cls := 0x1F, domain := 3, action := 4, unit := unitSlice key, addr := a })
      (s.dropLine key line)

/-- Steps 2 to 4 end (R79): slots drain, dirty unpinned lines are written back but for those lost, and unpinned ways are
invalid. -/
def State.clearSlices (s : State) (k : Nat) (lost : List Nat) : State :=
  let s := s.drainWhere (fun key _ => key / 32 = k)
  (rangeFrom (32 * k) 32).foldl (fun s key =>
    (((s.slice key).lines.map (·.line)).filter (fun l => !isPinnedLine l)).foldl (fun s l =>
      if lost.contains l then s.loseLine key l else s.evictLine key l) s) s

/-- Step 5 (R79): the L1s are invalid, the die's units are available, and what waited for the reset goes on. A tile that was
draining has committed by then (R157). -/
def State.endTowerReset (s : State) (k : Nat) (lost : List Nat) : State :=
  match Assoc.get? s.board.towerRst k with
  | none => s
  | some chan =>
    if s.comp.tiles.any (fun e => e.1 / 17 = k && e.2.any (·.draining)) then s
    else
    let s := s.clearSlices k lost
    let s := (List.range 64).foldl (fun s c => s.modCore k c (fun x => { x with l1 := [], ctxs := [] })) s
    let s := { s with board := { s.board with towerRst := Assoc.del s.board.towerRst k,
                                              towerHad := s.board.towerHad.filter (fun e : Nat × Nat => e.1 ≠ k) },
                       lnk := { s.lnk with lost := s.lnk.lost.filter (fun b => b / 32 ≠ k) } }
    let s := s.endRecovery (fun r => r.level = 3 && r.unit = k)
    let s := s.runDeferredSignals k
    match chan with | some ch => s.reply ch St.ok | none => s

/-- TOWER_WRITEBACK_DONE. -/
def execTowerWritebackDone (k : Nat) (s : State) : Res := onUnit (k < 4) (s.endTowerReset k [])

/-- TOWER_WRITEBACK_TIMEOUT: the named lines are those still dirty at the bound. -/
def execTowerWritebackTimeout (k : Nat) (lost : List Nat) (s : State) : Res :=
  onUnit (k < 4)
    (if (Assoc.get? s.board.towerRst k).isNone then s
     else (s.notBefore (Assoc.getD s.board.towerFrom k 0 + basenetTicks 2000000)).endTowerReset k lost)

/-! Context reset (R80). -/

/-- RESET_CONTEXT. -/
def execResetContext (ch : Nat) (p : Packet) (s : State) : Res :=
  cmd ch 0x112 p s fun s =>
    let c := bitsOf (pword p 0) 0 8
    s.orFail ch (match checkWords p [0xFF] with
      | some st => some st
      | none => firstFail [(!s.ctxOpen c, St.notFound), (s.eclipse || s.ctxResetting c, St.busy)]) fun s =>
      s.beginCtxReset c (some ch)

/-- A memory write of a context has not reached its home slice. -/
def State.ctxWrites (s : State) (c : Nat) : Bool :=
  s.l2.flying.any (fun r => r.owner.ctx = c && r.kind ≠ .read) || s.l2.slices.any (fun e => e.2.waiting.any (fun r => r.owner.ctx = c))

/-- Host copies of the lines of some pages, and of where they go, recalled: false while one is awaited. -/
def State.clearPages (s : State) (m : Migrate) (pages : List (Nat × Nat × Nat × Nat)) : State × Bool :=
  pages.foldl (fun (r : State × Bool) p =>
    let n := 2 ^ levelShift p.2.1
    let (s, a) := r.1.clearLines (bitsOf p.2.2.2 12 40 * 4096) n false
    let (s, b) := s.clearLines (m.dest + (p.1 - m.va)) n true
    (s, r.2 && a && b)) (s, true)

/-- A MIGRATE stops after some pages (R494): those are moved and their invalidation completes; the reply is ABORTED with the
bytes moved. -/
def State.abortMigrate (s : State) (m : Migrate) (n : Nat) : State :=
  let pages := (s.rangePages m.ctx m.va (m.va + m.len) m.va (m.len / 4096)).1.take n
  let (s, ok) := s.clearPages m pages
  if !ok then s
  else
    let s := pages.foldl (fun s p => s.migratePage m p) s
    let s := { s with xlt := { s.xlt with migrates := s.xlt.migrates.erase m } }
    let s : State :=
      if pages.isEmpty then s
      else
        let (s, _) := s.issueEpoch m.ctx m.va m.len false none none 0
        match s.xlt.epochs.getLast? with | some x => s.completeEpoch x | none => s
    s.reply m.chan St.aborted [(pages.map (fun p => 2 ^ levelShift p.2.1)).foldl (· + ·) 0]

/-- Every MIGRATE of a context stops, after as many pages each as named in order, and every PUSH and PULL (R494). -/
def State.abortCopies (s : State) (c : Nat) (pages : List Nat) : State :=
  let ms := s.xlt.migrates.filter (fun m => m.ctx = c)
  let s := (ms.zip (List.range ms.length)).foldl (fun s e => s.abortMigrate e.1 (pages.getD e.2 0)) s
  (s.fab.copies.filter (fun x : FabCopy => x.ctx = c)).foldl (fun s x =>
    let s := s.dropUses (fun u => match u with | .copy ch _ => ch = x.chan | _ => false)
    let s := { s with fab := { s.fab with copies := s.fab.copies.filter (fun y : FabCopy => y.chan ≠ x.chan) } }
    s.reply x.chan St.aborted) s

/-- Every epoch of a context completes, in order (R494). -/
def State.endEpochs (s : State) (c : Nat) : State :=
  (s.xlt.epochs.filter (fun x => x.ctx = c)).foldl (fun s x => s.completeEpoch x) s

/-- A tile of a context is draining: it runs to its end (R157). -/
def State.ctxDrains (s : State) (c : Nat) : Bool := s.comp.tiles.any (fun e => e.2.any (fun t => t.draining && t.owner.ctx = c))

/-- The context reset ends once its writes are home, its draining tiles have committed, and no tower is under reset on which it
had work (R80, R82, R157): its epochs complete, its migrations stop, its reply waits for the energy report. -/
def State.endCtxReset (s : State) (c : Nat) (pages : List Nat) : State :=
  match Assoc.get? s.board.ctxRst c with
  | none => s
  | some chan =>
    if s.ctxWrites c || s.ctxDrains c || s.board.towerHad.any (fun e => e.2 = c) then s
    else
      let s := (s.endEpochs c).abortCopies c pages
      if s.xlt.migrates.any (fun m => m.ctx = c) then s
      else
        let s := (s.drainWhere (fun _ r => r.ctx = c)).dropCtxXlt c
        let s := { s with board := { s.board with ctxRst := Assoc.del s.board.ctxRst c } }
        let s := s.endRecovery (fun r => r.level = 2 && r.unit = c)
        match chan with
        | some ch => { s with pwr := { s.pwr with asks := s.pwr.asks ++ [{ chan := ch, ctx := c, new := false }] } }
        | none => s

/-- CONTEXT_RESET_DONE. -/
def execContextResetDone (ctx : Nat) (pages : List Nat) (s : State) : Res := onUnit (ctx < 256) (s.endCtxReset ctx pages)

/-! Unit reset (R81). -/

/-- Units of a kind of RESET_UNIT on one tower: those of R680, and 5 the fabric ports. -/
def resetCount (kind : Nat) : Nat := if kind = 5 then 4 else fenceCount kind

/-- Number in the module of lantern unit u of tower k. -/
def lntNumber (k u : Nat) : Nat := if u < 16 then 16 * k + u else 64 + 2 * k + (u - 16)

/-- The code in records of unit i of a kind on tower k. -/
def resetUnit (k kind i : Nat) : Nat :=
  match kind with
  | 0 => unitMxe k i
  | 1 => unitVxe k i
  | 2 => unitGroup k i 0
  | 3 => unitMover k i
  | 4 => unitLnt (lntNumber k i)
  | _ => unitPort (4 * k + i)

/-- The unit is on the part. -/
def State.resetPresent (s : State) (k kind i : Nat) : Bool :=
  if kind = 5 then s.part.portPresent (4 * k + i) else s.unitPresent kind i

/-- The unit reads as fenced. -/
def State.readsFenced (s : State) (k kind i : Nat) : Bool :=
  match kind with
  | 0 => s.mxeFenced k i
  | 1 => s.vxeFenced k i
  | 2 => s.flag (A.tcStatus k i) F.tcStatus_FENCED
  | 3 => s.fld (A.tmStatus k i) F.tmStatus_STATE = 4
  | 4 => s.lntFenced (lntNumber k i)
  | _ => false

/-- The unit is assigned to running work: it holds some, or is lent. -/
def State.assigned (s : State) (k kind i : Nat) : Bool :=
  match kind with
  | 0 => !(s.tilesOf k i).isEmpty || s.engineLent k i
  | 1 => !(s.chainsOf k i).isEmpty || s.flag (A.vxeStatus k i) F.vxeStatus_LENT
  | 2 => !(s.core k i).slots.isEmpty
  | 3 => !(s.mover k i).queue.isEmpty
  | 4 => !(s.lunit (lntNumber k i)).queue.isEmpty
  | _ => let f := s.fport (4 * k + i); !(f.replay.isEmpty && f.waiting.isEmpty)

/-- RESET_UNIT: a port leaves its link and trains at once; the other units clear when their time is over. -/
def execResetUnit (ch : Nat) (p : Packet) (s : State) : Res :=
  cmd ch 0x113 p s fun s =>
    let w := pword p 0
    let k := bitsOf w 0 2
    let kind := bitsOf w 8 3
    let i := bitsOf w 16 7
    let u := resetUnit k kind i
    s.orFail ch (match checkWords p [0x7F0703] with
      | some st => some st
      | none => firstFail
        [(decide (5 < kind) || decide (resetCount kind ≤ i), St.invalid),
         (!s.resetPresent k kind i, St.disabled),
         (s.eclipse || s.towerResetting k || s.unitResetting u || (s.assigned k kind i && !s.readsFenced k kind i), St.busy)]) fun s =>
      let s := { s with board := { s.board with unitRst := s.board.unitRst ++ [(u, some ch)] } }
      if kind = 5 then
        let n := 4 * k + i
        let s := s.clearRegs (portCnt n 0) 9
        if s.portState n = 5 then s.clearPort n else s.dropPort n (if s.portState n = 2 then 3 else 1)
      else s

/-- What a unit's reset clears, by its code in records (R81): its state and its counters (R179, R301, R338, R362, R469). -/
def State.clearUnit (s : State) (u : Nat) : State :=
  let k := bitsOf u 4 2
  let j := bitsOf u 6 2
  let i := bitsOf u 8 8
  match bitsOf u 0 4 with
  | 1 => ((s.setTiles k i []).stopIdle k i).clearRegs (A.mxeCntBusy k i) 9
  | 2 => (s.setChains k i []).clearRegs (A.vxeCntStream k i) 7
  | 3 =>
    let c := 16 * j + i
    let s := s.setCore k c Core.idle
    let s := (List.range 8).foldl (fun s g => (s.wr (A.tcGroup0 k c g) 0).wr (A.tcGroup1 k c g) 0) s
    (s.showCore k c).clearRegs (A.tcCntIssue k c) 8
  | 4 => ((s.setMover k (4 * j + i) { s.mover k (4 * j + i) with queue := [], stopped := none }).clearRegs
      (A.tcTmCntBytesRd k (4 * j + i)) 7).wr (A.tmProgress k (4 * j + i)) 0
  | 9 => (s.setLunit i { s.lunit i with queue := [] }).clearRegs (A.lntCntBytes k (lntLocal i)) 8
  | _ => s

/-- UNIT_RESET_DONE: the reset at a place of the list of those in progress ends. A port's ends when it has trained, or reads
DOWN. -/
def execUnitResetDone (idx : Nat) (s : State) : Res :=
  match s.board.unitRst[idx]? with
  | none => .refused .noSuchUnit
  | some (u, chan) =>
    let training := bitsOf u 0 4 = 12 && (let st := s.portState (bitsOf u 8 8); st = 1 || st = 3)
    if training then .next s
    else
      let s := s.clearUnit u
      let s := { s with board := { s.board with unitRst := s.board.unitRst.eraseIdx idx } }
      .next (match chan with | some ch => s.reply ch St.ok | none => s)

/-! Contexts (R473, R474, R638). -/

/-- The start of the power window in progress, in µs (R635). -/
def State.windowStart (s : State) : Nat := 1000 * s.pwr.windows

/-- A report that has gathered nothing, from a time on. -/
def EnergyReport.fresh (t : Nat) : EnergyReport :=
  { kinds := List.replicate 8 0, unattr := 0, device := 0, windows := 0, gainMin := 0, gainMax := 0, clamped := false,
    eclipse := false, braked := false, startUs := t, endUs := t, closed := false }

/-- A COMMIT that changes the split waits for the store: no context opens before it has taken effect (R32; DESIGN CHOICE, log
entry 182). -/
def State.splitPending (s : State) : Bool :=
  s.ctl.chans.any (fun e => e.2.durable.isSome && e.2.txn.any (fun t => t.entries.any (fun x => x.addr = A.ilvSplit)))

/-- CTX_OPEN. -/
def execCtxOpen (ch : Nat) (p : Packet) (s : State) : Res :=
  cmd ch 0x200 p s fun s =>
    let c := bitsOf (pword p 0) 0 8
    let n := bitsOf (pword p 0) 8 5
    let root := pword p 1
    let len := 8 * 2 ^ n
    s.orFail ch (match checkWords p [0x1FFF, 2 ^ 52 - 1] with
      | some st => some st
      | none => firstFail
        [(decide (n < 9) || decide (18 < n) || root % len ≠ 0, St.invalid),
         (!s.tierRange root len, St.invalid),
         (s.ctxOpen c || s.eclipse, St.busy)]) fun s =>
      if s.splitPending then s.unfinished ch
      else
      let s := s.dropCtxXlt c
      let s := s.wr (A.xltRoot c) (BitVec.ofNat 64 (1 + 2 * n + root))
      let s := ((s.wr (A.xltEpoch c) 0).wr (A.xltFault c) 0).wr (A.xltFaultVa c) 0
      let s := { s with xlt := { s.xlt with advice := s.xlt.advice.filter (fun a => a.ctx ≠ c) },
                        pwr := { s.pwr with reports := Assoc.set s.pwr.reports c (EnergyReport.fresh s.windowStart) } }
      s.reply ch St.ok

/-- An object is bound to a context (R513). -/
def State.boundObject (s : State) (c : Nat) : Bool :=
  s.regs.any (fun e =>
    decide (A.synObj0 0 0 ≤ e.1) &&
    (let o := e.1 - A.synObj0 0 0
     decide (o / 0x10000000 < 4) && decide (o % 0x10000000 < 16384 * 16) && decide (o % 16 = 0)
      && F.synObj0_TYPE.get e.2 ≠ 0 && F.synObj0_CONTEXT.get e.2 = c))

/-- What keeps a context open (R474), or its reset. -/
def State.ctxInUse (s : State) (c : Nat) : Bool :=
  s.syn.queues.any (fun e => s.qCtx e.1 = c)
  || (List.range 4).any (fun k => s.beamState k ≠ 0 && s.beamCtx k = c)
  || s.boundObject c
  || s.xlt.epochs.any (fun x => x.ctx = c) || s.xlt.migrates.any (fun m => m.ctx = c)
  || s.fab.copies.any (fun x : FabCopy => x.ctx = c)
  || s.ctxResetting c

/-- CTX_CLOSE: the energy report becomes the final one (R638). -/
def execCtxClose (ch : Nat) (p : Packet) (s : State) : Res :=
  cmd ch 0x201 p s fun s =>
    let c := bitsOf (pword p 0) 0 8
    s.orFail ch (match checkWords p [0xFF] with
      | some st => some st
      | none => firstFail [(!s.ctxOpen c, St.notFound), (s.ctxInUse c, St.busy)]) fun s =>
      let s := s.dropCtxXlt c
      let s := (List.range 4).foldl (fun s k => s.clearBanks k (fun x => x = c)) s
      let s := s.wr (A.xltRoot c) 0
      let s := (s.closeDebug c).stopTrace c
      let s := { s with
        xlt := { s.xlt with advice := s.xlt.advice.filter (fun a => a.ctx ≠ c) },
        pwr := { s.pwr with reports := s.pwr.reports.map (fun e : Nat × EnergyReport =>
          if e.1 = c then (e.1, { e.2 with closed := true }) else e) } }
      s.reply ch St.ok

end Sys2Proof.Machine
end

