-- ==== Sys2Proof/Machine/PowerRows.lean ====
section
/-! DEFINITION. The power controller and supply events (21_power.md): energy reports, windows, levels, the governor, the loss of
the main input, eclipse mode and the return. -/

namespace Sys2Proof.Machine

/-! Energy windows (R635 to R638). -/

/-- The modelled energy of an activity, in picojoules: c_k, the count, and the square of V / V_nom (R636). -/
def activityPj (coef : Nat) (a : Activity) : Nat :=
  if a.nomMv = 0 then coef * a.count else coef * a.count * a.mv ^ 2 / a.nomMv ^ 2

/-- The place of a kind of R636 among the eight of R640. -/
def reportKind (k : Nat) : Nat := [0, 1, 2, 2, 3, 4, 5, 5, 6, 7, 7].getD k 7

/-- The modelled energy of some activities, in picojoules. -/
def State.modelled (s : State) (l : List Activity) : Nat :=
  (l.map (fun a => activityPj (s.fld (A.pwrCoef a.kind) F.pwrCoef_PJ) a)).foldl (· + ·) 0

/-- g clamped to the range 0.5 to 2, in lowest terms (R637). -/
def clampGain (n d : Nat) : Nat × Nat :=
  if 2 * n < d then (1, 2)
  else if 2 * d < n then (2, 1)
  else let c := max 1 (Nat.gcd n d); (n / c, d / c)

/-- The gain after a window of M microjoules and a model of q picojoules: g + (M / q - g) / 16 (R637). -/
def Power.calibrate (v : Power) (m q : Nat) : Nat × Nat :=
  if q = 0 then clampGain v.gainN v.gainD
  else clampGain (15 * v.gainN * q + m * 1000000 * v.gainD) (16 * v.gainD * q)

/-- GAIN of a fraction, in units of 2^-12 (R664). -/
def gainField (g : Nat × Nat) : Nat := 4096 * g.1 / g.2

/-- Modelled energies scaled to whole microjoules, num / den microjoules to a picojoule: each is the step of the rounded running
total, so that their sum is the rounded total (R635, R637). -/
def scaleCells (num den : Nat) : Nat → List Nat → List Nat
  | _, [] => []
  | sum, x :: l =>
    let near (y : Nat) : Nat := (2 * y * num + den) / (2 * den)
    (near (sum + x) - near sum) :: scaleCells num den (sum + x) l

/-- A window added to a report: its attributed energy by kind, u and M (R638). -/
def EnergyReport.add (r : EnergyReport) (ks : List Nat) (u m gain endUs : Nat) (clamped ecl brk : Bool) : EnergyReport :=
  { r with
    kinds := (List.range 8).map (fun i => r.kinds.getD i 0 + ks.getD i 0), unattr := r.unattr + u, device := r.device + m,
    windows := r.windows + 1, gainMin := if r.windows = 0 then gain else min r.gainMin gain, gainMax := max r.gainMax gain,
    clamped := r.clamped || clamped, eclipse := r.eclipse || ecl, braked := r.braked || brk, endUs := endUs }

/-- The sixteen detail words of a report (R640). -/
def EnergyReport.words (r : EnergyReport) (ctx : Nat) : List Nat :=
  [ctx + 256 * b2n r.closed + 2 ^ 16 * b2n r.clamped + 2 ^ 17 * b2n r.eclipse + 2 ^ 18 * b2n r.braked,
   r.startUs % 2 ^ 48, r.endUs % 2 ^ 48, r.kinds.foldl (· + ·) 0 / 1000, r.unattr / 1000, r.device / 1000]
  ++ (List.range 8).map (fun i => r.kinds.getD i 0 / 1000) ++ [r.windows % 2 ^ 32, r.gainMin % 2 ^ 16 + 2 ^ 16 * (r.gainMax % 2 ^ 16)]

/-- A report that was asked for goes out; NEW starts the next interval (R639, R80). -/
def State.sendReport (s : State) (a : EnergyAsk) : State :=
  match Assoc.get? s.pwr.reports a.ctx with
  | none => s.reply a.chan St.notFound
  | some r =>
    let s := s.reply a.chan St.ok (r.words a.ctx)
    if a.new && !r.closed then
      { s with pwr := { s.pwr with reports := Assoc.set s.pwr.reports a.ctx (EnergyReport.fresh s.windowStart) } }
    else s

/-- POWER_WINDOW_END: a window of 1.000 ms ends (R635, R637): the gain is calibrated, the energy attributed, the reports grow, and
those asked for go out. mainUj and bkpUj are the measured energies, staticUj is Z, acts the activity of the window. -/
def execPowerWindowEnd (mainUj bkpUj : Nat) (acts : List Activity) (staticUj : Nat) (s : State) : Res :=
  .next (if !s.board.powered || s.board.modReset.isSome then s
    else
      let s := s.notBefore (s.board.resetEnd + 200000 * (s.pwr.windows + 1))
      let m := mainUj + bkpUj
      let q := s.modelled acts + staticUj * 1000000
      let g := s.pwr.calibrate m q
      let ctxs := ((s.pwr.reports.filter (fun e => !e.2.closed)).map (·.1)).filter s.ctxOpen
      let cells := ctxs.flatMap (fun c => (List.range 8).map (fun i =>
        s.modelled (acts.filter (fun a => a.ctx = some c && reportKind a.kind = i))))
      let d := cells.foldl (· + ·) 0
      let clamped := decide (m * 1000000 * g.2 < g.1 * d)
      let shares := if clamped then scaleCells m d 0 cells else scaleCells g.1 (g.2 * 1000000) 0 cells
      let u := m - shares.foldl (· + ·) 0
      let w := s.pwr.windows + 1
      let ecl := s.pwr.eclWin || s.eclipse
      let brk := s.pwr.brkWin || s.braking
      let fill := s.modelled (acts.filter (fun a => a.ctx.isNone && a.kind = 0))
      let report (e : Nat × EnergyReport) : Nat × EnergyReport :=
        if ctxs.contains e.1 then
          (e.1, e.2.add ((shares.drop (8 * ctxs.idxOf e.1)).take 8) u m (gainField g) (1000 * w) clamped ecl brk)
        else e
      let s := if s.pwr.capWin then s.bump A.pwrCntCapMs 1 else s
      let s := if s.pwr.thermWin then s.bump A.pwrCntThermMs 1 else s
      let s := s.bump A.pwrCntFillMj ((s.pwr.eFill + fill) / 1000000000 - s.pwr.eFill / 1000000000)
      let asks := s.pwr.asks
      let s := { s with pwr := { s.pwr with
        gainN := g.1, gainD := g.2, windows := w, reports := s.pwr.reports.map report, asks := [],
        eMain := s.pwr.eMain + mainUj, eBkp := s.pwr.eBkp + bkpUj, eUnattr := s.pwr.eUnattr + u, eFill := s.pwr.eFill + fill,
        capWin := false, thermWin := false, brkWin := s.braking, eclWin := s.eclipse } }
      let s := s.setFlds A.pwrModel [(F.pwrModel_GAIN, gainField g), (F.pwrModel_CLAMPED, b2n clamped), (F.pwrModel_WINDOWS, w)]
      let s := s.setFld A.pwrEMain F.pwrEMain_MJ (s.pwr.eMain / 1000)
      let s := s.setFld A.pwrEBkp F.pwrEBkp_MJ (s.pwr.eBkp / 1000)
      let s := s.setFld A.pwrEUnattr F.pwrEUnattr_MJ (s.pwr.eUnattr / 1000)
      let s := s.setFlds A.pwrSenseP [(F.pwrSenseP_MAIN_W, min 65535 (mainUj / 1000)), (F.pwrSenseP_BKP_W, min 65535 (bkpUj / 1000))]
      asks.foldl (fun s a => s.sendReport a) s)

/-- PWR_ENERGY_REPORT (R639). -/
def execPwrEnergyReport (ch : Nat) (p : Packet) (s : State) : Res :=
  cmd ch 0xC00 p s fun s =>
    let c := bitsOf (pword p 0) 0 8
    s.orFail ch (checkWords p [0x1FF]) fun s =>
    match Assoc.get? s.pwr.reports c with
    | none => s.reply ch St.notFound
    | some r =>
      if r.closed then s.reply ch St.ok (r.words c)
      else { s with pwr := { s.pwr with asks := s.pwr.asks ++ [{ chan := ch, ctx := c, new := bit (pword p 0) 8 }] } }

/-- PWR_SUPPLY_STATUS (R666). -/
def execPwrSupplyStatus (ch : Nat) (p : Packet) (s : State) : Res :=
  cmd ch 0xC01 p s fun s =>
    s.orFail ch (checkWords p []) fun s =>
      s.reply ch St.ok
        ([(s.rd A.pwrSupply).toNat] ++ (List.range 7).map (fun i => (s.rd (A.pwrSupplyT i)).toNat) ++ [(s.rd A.pwrSenseP).toNat])

/-! Levels, the current limit and the governor (R641 to R648). -/

/-- The sensor registers show a sample (R663). A sensor of a unit that is absent reads 0. -/
def State.showSensors (s : State) (m : PowerSample) : State :=
  let s := s.wr A.pwrSenseIn m.senseIn
  let s := s.setFld A.pwrSenseP F.pwrSenseP_BUS_MV (min 65535 m.busMv)
  let s := s.wr A.pwrTemp m.temp
  s.setFlds A.pwrTempAux [(F.pwrTempAux_HOST_C, bitsOf m.tempAux 0 8), (F.pwrTempAux_INLET_C, bitsOf m.tempAux 8 8),
    (F.pwrTempAux_OUTLET_C, bitsOf m.tempAux 16 8), (F.pwrTempAux_STACK_C, bitsOf m.tempAux 24 8)]

/-- Idle cycles of engines since the last step count (R173). -/
def State.countIdle (s : State) (l : List (Nat × Nat)) : State :=
  l.foldl (fun s e => if e.1 < 68 then s.bump (A.mxeCntIdle (e.1 / 17) (e.1 % 17)) e.2 else s) s

/-- An idle pass may run on engine i: it has no accepted tile and is not fenced, its tower is not under reset, and its die reads
below THERM_C - 3 (R173, R646). -/
def State.mayIdle (s : State) (i : Nat) : Bool :=
  let k := i / 17
  i < 68 && (s.tilesOf k (i % 17)).isEmpty && !s.mxeFenced k (i % 17) && !s.towerResetting k
    && !s.unitResetting (unitMxe k (i % 17))
    && bitsOf (s.rd A.pwrTemp).toNat (8 * k) 8 + 3 < s.fld A.pwrCfg F.pwrCfg_THERM_C

/-- Engine i runs an idle pass. -/
def State.idles (s : State) (i : Nat) : Bool := s.flag (A.mxeStatus (i / 17) (i % 17)) F.mxeStatus_IDLE_PASS

/-- The engines that are to run idle passes: more below the band, fewer above it, of those wanted; none while an entry is held by the
cap, the draw exceeds it, or the cap holds every entry (R643, R646, R648). p, plo and the band are in tenths of a milliwatt. -/
def State.fillSet (s : State) (m : PowerSample) (p plo : Int) : List Nat :=
  let cap := (s.fld A.pwrCfg F.pwrCfg_CAP_W * perWatt : Nat)
  let band := (s.fld A.pwrCfg F.pwrCfg_SLEW_BAND * 4 * perWatt : Nat)
  let stay := (List.range 68).filter (fun i => s.idles i && s.mayIdle i)
  if s.pwr.capHold || s.pwr.held.any (·.byCap) || (cap : Int) < p then []
  else if p < plo then (List.range 68).filter (fun i => s.mayIdle i && (stay.contains i || m.fill.contains i))
  else if plo + band < p then stay.filter (fun i => m.fill.contains i)
  else stay

/-- IDLE_PASS of every engine, FILL and FILL_W for a set of engines of a modelled power. -/
def State.setFill (s : State) (l : List Nat) (mw : Nat) : State :=
  let s := (List.range 68).foldl (fun s i =>
    if s.idles i = l.contains i then s else s.setFlag (A.mxeStatus (i / 17) (i % 17)) F.mxeStatus_IDLE_PASS (l.contains i)) s
  (s.setFlag A.pwrStatus F.pwrStatus_FILL (!l.isEmpty)).setFld A.pwrSenseP F.pwrSenseP_FILL_W
    (if l.isEmpty then 0 else min 65535 (mw / 1000))

/-- The governor's step (R646): Pref moves toward the goal at the slope, and idle passes start or stop. -/
def State.govern (s : State) (m : PowerSample) : State :=
  let p : Int := (m.mainMw * 10 : Nat)
  let work : Int := p - (m.fillMw * 10 : Nat)
  let s := { s with pwr := { s.pwr with work := work } }
  let s := s.judgeHeld
  let goal : Int := match s.pwr.held.find? (·.byPhi) with | some h => work + (h.need * perWatt : Nat) | none => work
  let slope : Int := (s.fld A.pwrCfg F.pwrCfg_SLEW_WPS : Nat)
  let pref : Int := s.pwr.pref + min (max (goal - s.pwr.pref) (-slope)) slope
  let s := ({ s with pwr := { s.pwr with pref := pref.toNat } }).showPref
  let plo : Int := pref - (s.fld A.pwrCfg F.pwrCfg_SLEW_BAND * 4 * perWatt : Nat)
  let set := s.fillSet m p plo
  let none' := (List.range 68).all (fun i => !s.mayIdle i || set.contains i)
  let miss := (p < plo && work + (m.newFill * 10 : Nat) < plo && none')
    || (decide ((s.phi : Int) < p) && s.fld A.pwrStatus F.pwrStatus_L_CAP = 0)
  let s := if miss then s.bump A.pwrCntSlewMiss 1 else s
  s.setFill set m.newFill

/-- A level one step from old toward a limit (R642). -/
def stepLevel (old limit : Nat) : Nat := if limit < old then old - 1 else if old < limit then old + 1 else old

/-- The step of the levels (R642, R643, R645). -/
def State.stepLevels (s : State) (m : PowerSample) : State :=
  let p := m.mainMw * 10
  let cap := s.fld A.pwrCfg F.pwrCfg_CAP_W * perWatt
  let l := s.fld A.pwrStatus F.pwrStatus_L_CAP
  let overCap := decide (cap < p)
  let overPhi := decide (s.phi < p)
  let l' := if overCap || overPhi then l - 1 else if l < 15 && decide (m.upMw * 10 ≤ cap) && decide (m.upMw * 10 ≤ s.phi) then l + 1 else l
  let il := if 100000 < m.mainMa then s.pwr.ilevel - 1 else if m.mainMa < 95000 then min 15 (s.pwr.ilevel + 1) else s.pwr.ilevel
  let hold := l = 0 && overCap
  let capBind := overCap && decide (0 < l)
  let therm := s.pwr.therm.any (fun t => t < l')
  let ilimit := decide (il < l')
  let lt := (List.range 4).foldl (fun a k =>
    a + 2 ^ (4 * k) * stepLevel (s.level k) (min (min l' (s.pwr.therm.getD k 15)) (min il (s.fld (A.vf2 k) F.vf2_LMAX)))) 0
  let s := s.setFlds A.pwrStatus [(F.pwrStatus_L_CAP, l'), (F.pwrStatus_L_TOWER, lt), (F.pwrStatus_CAP_BIND, b2n capBind),
    (F.pwrStatus_THERM_BIND, b2n therm), (F.pwrStatus_SLEW_BIND, b2n (overPhi && decide (0 < l))), (F.pwrStatus_ILIMIT, b2n ilimit)]
  let s := if ilimit then s.bump A.pwrCntIlimit 1 else s
  let s := { s with pwr := { s.pwr with ilevel := il, capHold := hold, capWin := s.pwr.capWin || capBind || hold,
                                        thermWin := s.pwr.thermWin || therm } }
  s.judgeHeld.glideAll

/-- A step of the power controller comes its period after the last one (R642, R644). -/
def State.powerStep (s : State) (i ticks : Nat) : State :=
  let s := match Assoc.get? s.pwr.stepAt i with | some t => s.notBefore (t + ticks) | none => s
  { s with pwr := { s.pwr with stepAt := Assoc.set s.pwr.stepAt i s.now } }

/-- LEVEL_STEP: a step of 100 µs (R642, R646). Under the brake the governor is suspended and the levels stay 0 (R649). -/
def execLevelStep (m : PowerSample) (s : State) : Res :=
  .next (if !s.board.mgmtUp then s
    else
      let s := s.showSensors m
      if !s.board.powered || s.board.modReset.isSome then s
      else
        let s := s.countIdle m.idle
        let s := s.powerStep 4 20000
        if s.braking then { s with pwr := { s.pwr with work := (m.mainMw * 10 : Nat) } }
        else (s.govern m).stepLevels m)

/-- THERMAL_LEVEL_STEP: hotC is the highest reading of the tower's compute and base die over 1.000 ms (R644). -/
def execThermalLevelStep (k hotC : Nat) (s : State) : Res :=
  onUnit (k < 4)
    (if !s.board.powered || s.board.modReset.isSome then s
     else
       let s := s.powerStep k 200000
       let t := s.pwr.therm.getD k 15
       let c := s.fld A.pwrCfg F.pwrCfg_THERM_C
       let t' := if c ≤ hotC then t - 1 else if hotC + 3 ≤ c then min 15 (t + 1) else t
       { s with pwr := { s.pwr with therm := s.pwr.therm.set k t' } })

/-! Loss of the main input (R649 to R656, R665). -/

/-- PHASE given a value. -/
def State.setPhase (s : State) (n : Nat) : State := s.setFld A.pwrSupply F.pwrSupply_PHASE n

/-- MAIN_LOSS_CONFIRM: the main input has been below 38.0 V for 2.000 µs in READY, at mv (R40, R650): the brake begins, no entry
starts, the supply notice is raised. Without a good backup only the brake acts (R654). -/
def execMainLossConfirm (mv : Nat) (s : State) : Res :=
  .next (if !s.ready || s.board.tripped || !(s.phase = 0 || s.phase = 4) || voltageOk mv then s
    else
      let v := s.board.main
      let s := if v.good then s.alertBit 2 else s
      let s := s.setSupply .main (v.lose mv)
      let ev := satAdd (s.fld A.pwrSupply F.pwrSupply_EVENTS) 1 0xFFFF
      let s := s.wr A.pwrSupply 0
      let s := s.setFld A.pwrSupply F.pwrSupply_EVENTS ev
      let s := (List.range 7).foldl (fun s i => s.wr (A.pwrSupplyT i) 0) s
      let s := s.supplyStamp 0
      let was := s.board.lossBrake
      let s := { s with board := { s.board with lossBrake := true },
                        pwr := { s.pwr with pref := 0, safe := false,
                                            stood := if s.board.backup.good then some (s.pwr.stood.getD s.now) else s.pwr.stood } }
      let s := if was then s else s.beginBrake
      let s := s.showPref
      if s.board.backup.good then (s.interrupt (s.fld A.pwrCfg F.pwrCfg_ECL_VECTOR)).setPhase 1 else s.setPhase 5)

/-- BACKUP_CONDUCT: the backup stage conducts (R650). -/
def execBackupConduct (s : State) : Res :=
  .next (if (s.phase = 1 || s.phase = 2) && !s.flag A.sbStatus F.sbStatus_ON_BACKUP && s.board.backup.good then
           (s.setFlag A.sbStatus F.sbStatus_ON_BACKUP true).supplyStamp 1
         else s)

/-- Millijoules bridged as the bus falls from startMv to minMv: half of 6.7 mF times the difference of the squares (R651). -/
def bridgeMj (startMv minMv : Nat) : Nat := 67 * (startMv ^ 2 - minMv ^ 2) / 20000000

/-- Every running beam pauses and every running group halts, and eclipse mode keeps which (R652); their timers stand. -/
def State.toSafePoints (s : State) : State :=
  let old : SafePoints := s.pwr.stopped.getD { beams := [], groups := [] }
  let bs := (List.range 4).filter (fun k => 1 ≤ s.beamState k && s.beamState k ≤ 3)
  let gs := s.comp.cores.flatMap (fun e => (e.2.slots.filter (fun g => s.slotState (e.1 / 64) (e.1 % 64) g.1 = 1)).map
    (fun g => (e.1 / 64, e.1 % 64, g.1)))
  let s := bs.foldl (fun s k => s.pauseBeam k) s
  let s := gs.foldl (fun s g => s.haltGroup g.1 g.2.1 g.2.2 1) s
  let z : SafePoints := { beams := old.beams ++ bs, groups := old.groups ++ gs }
  { s with pwr := { s.pwr with stopped := some z } }

/-- LNT_STATUS of every lantern unit brought up to eclipse mode (R464). -/
def State.showLanterns (s : State) : State :=
  (List.range 72).foldl (fun s n =>
    let st := s.fld (lntStatusOf n) F.lntStatus_STATE
    if st = 5 || st = 6 then s else s.setLunit n (s.lunit n)) s

/-- Ports present on the part that eclipse mode does not keep (R593). -/
def State.otherPorts (s : State) : List Nat := (List.range 16).filter (fun n => s.part.portPresent n && !s.eclPort n)

/-- ECLIPSE_BEGIN: the draw is at 450 W (R650): running work goes to its safe points, only the two eclipse ports stay up, and what
was bridged is recorded. -/
def execEclipseBegin (startMv minMv : Nat) (s : State) : Res :=
  .next (if s.phase ≠ 1 then s
    else
      let again := s.pwr.stopped.isSome
      let s := s.setFlds A.pwrSupply [(F.pwrSupply_PHASE, 2), (F.pwrSupply_BRIDGE_MJ, min 65535 (bridgeMj startMv minMv)),
        (F.pwrSupply_MIN_BUS_MV, min 65535 minMv)]
      let s := s.supplyStamp 2
      let s := if again then s else s.bump A.pwrCntEclipse 1
      let s := { s with pwr := { s.pwr with eclWin := true, safe := false } }
      let s := s.toSafePoints
      let s := s.otherPorts.foldl (fun s n =>
        if 1 ≤ s.portState n && s.portState n ≤ 3 then (s.clearPort n).setPortState n 0 0 else s) s
      s.showLanterns)

/-- Beam-issued tiles and chains have committed, and no operation or queue recovery with a time limit is in progress (R618, R652). -/
def State.atSafePoints (s : State) : Bool :=
  s.comp.tiles.all (fun e => e.2.all (fun t => !t.src.isBeam)) && s.comp.chains.all (fun e => e.2.all (fun c => !c.src.isBeam))
  && s.err.recov.all (fun r => 2 ≤ r.level || r.deferred || !r.bounded)

/-- SAFE_POINTS_REACHED: every unit is at its safe point (R652); slices drain their slots, write back their dirty unpinned lines and
invalidate their unpinned ways (R396). -/
def execSafePointsReached (s : State) : Res :=
  .next (if s.phase ≠ 2 || s.pwr.safe || !s.atSafePoints then s
    else
      let s := s.supplyStamp 3
      let s := (List.range 4).foldl (fun s k => s.clearSlices k []) s
      { s with pwr := { s.pwr with safe := true } })

/-- SELF_REFRESH of every enabled memory controller (R430). -/
def State.selfRefresh (s : State) (on : Bool) : State :=
  (List.range 16).foldl (fun s c =>
    let a := A.memCtlStatus (c / 4) (c % 4)
    if s.flag a F.memCtlStatus_ENABLED then s.setFlag a F.memCtlStatus_SELF_REFRESH on else s) s

/-- ECLIPSE_HOLD: hold is reached (R650). -/
def execEclipseHold (s : State) : Res :=
  .next (if s.phase = 2 && s.pwr.safe then ((s.selfRefresh true).setPhase 3).supplyStamp 4 else s)

/-- ECLIPSE_RETURN: in hold with the main input good the return begins (R655): the module draws from the main input, and memory leaves
self-refresh (R430). -/
def execEclipseReturn (s : State) : Res :=
  .next (if s.phase = 3 && s.board.main.good then
           ((s.setFlag A.sbStatus F.sbStatus_ON_BACKUP false).setPhase 4).selfRefresh false
         else s)

/-- What eclipse mode stopped runs on, or stays for a device recovery that now begins (R617, R618, R652). -/
def State.leaveSafePoints (s : State) : State :=
  match s.pwr.stopped with
  | none => s
  | some z =>
    let s := { s with pwr := { s.pwr with stopped := none, safe := false } }
    match s.err.quiesced with
    | some y =>
      let y : Quiesced := { y with beams := y.beams ++ z.beams, groups := y.groups ++ z.groups }
      { s with err := { s.err with quiesced := some y } }
    | none =>
      let s := z.beams.foldl (fun s k => s.resumeBeam k) s
      z.groups.foldl (fun s g => s.resumeGroup g.1 g.2.1 g.2.2) s

/-- The entry wait timers run again (R655). -/
def State.entryTimersRun (s : State) : State :=
  match s.pwr.stood with
  | none => s
  | some t =>
    { s with pwr := { s.pwr with stood := none },
             syn := { s.syn with waits := s.syn.waits.map (fun w => match w.who with
               | .entry .. => { w with since := movedOn t s.now w.since }
               | _ => w) } }

/-- RETURN_COMPLETE: the end of the return (R655): deferred resets and recoveries run first (R618), every unit resumes, the other ports
train, and the loss no longer brakes. -/
def execReturnComplete (s : State) : Res :=
  .next (if s.phase ≠ 4 then s
    else
      let s := s.runDeferred
      if s.phase ≠ 4 then s
      else
        let s := ((s.setPhase 0).supplyStamp 6).entryTimersRun
        let s := s.leaveSafePoints
        let s := s.otherPorts.foldl (fun s n => if s.portState n = 0 then s.setPortState n 1 0 else s) s
        let s := s.showLanterns
        let s := { s with board := { s.board with lossBrake := false } }
        s.endBrake)

end Sys2Proof.Machine
end

