-- ==== Sys2Proof/Machine/AgeRows.lean ====
section
/-! DEFINITION. Ageing (22_ageing.md): monitors, powered time, re-plans, fences and the spare. -/

namespace Sys2Proof.Machine

/-! Monitors (R669, R670, R682). -/

/-- The die of a monitor: compute dies 0 to 3, base dies 4 to 7, the host die 8. -/
def monitorDie (n : Nat) : Nat := if n < 640 then n / 160 else if n < 960 then 4 + (n - 640) / 80 else 8

/-- The level for which HOSTCORE at a frequency stands: the lowest whose frequency is not below it (R670). -/
def hostLevel (mhz : Nat) : Nat := min 15 (ceilDiv (mhz - 800) 160)

/-- The level at which a monitor's die runs (R641, R670, R672): the tower's on a compute die; its LANTERN island's on a base die; on
the host die that of the monitor's own HOSTCORE island, and for HOSTUNC the highest of any. -/
def State.monitorLevel (s : State) (n : Nat) : Nat :=
  let d := monitorDie n
  let core (h : Nat) : Nat := hostLevel (s.fld (A.clkIsland (islandOf 3 h)) F.clkIsland_FREQ_MHZ)
  if d < 4 then s.level d
  else if d < 8 then min (s.level (d - 4)) (s.fld (A.vf2 d) F.vf2_LMAX)
  else if n < 1008 then core ((n - 960) / 6)
  else (List.range 8).foldl (fun m h => max m (core h)) 0

/-- D[L] of a monitor: of this period, else of the last one in which the level ran (R670). -/
def State.delayAt (s : State) (n l : Nat) : Option Nat :=
  (Assoc.get? s.age.cur (16 * n + l)).or (Assoc.get? s.age.old (16 * n + l))

/-- MONITOR_SAMPLE: a monitor measures its delay, in ps (R670). -/
def execMonitorSample (n ps : Nat) (s : State) : Res :=
  onUnit (n < 1024)
    (if !s.board.powered || s.board.modReset.isSome then s
     else
       let ps := min 65534 ps
       let i := 16 * n + s.monitorLevel n
       { s with age := { s.age with delays := Assoc.set s.age.delays n ps,
                                    cur := Assoc.set s.age.cur i (max ps (Assoc.getD s.age.cur i 0)) } })

/-- The word of a monitor in MARGIN_READ: a delay that nothing has measured is free. -/
def State.marginWord (s : State) (n : Nat) : Nat × State :=
  let l := s.monitorLevel n
  let (a, s) : Nat × State := match Assoc.get? s.age.delays n with | some d => (d, s) | none => (s.free.1.toNat, s.free.2)
  let (b, s) : Nat × State := match s.delayAt n l with | some d => (d, s) | none => (s.free.1.toNat, s.free.2)
  (a % 65536 + 2 ^ 16 * ((s.delayAt n 15).getD 0xFFFF) + 2 ^ 32 * (b % 65536) + 2 ^ 48 * l + 2 ^ 52 * b2n (Config.ringOsc n), s)

/-- MARGIN_READ (R682). -/
def execMarginRead (ch : Nat) (p : Packet) (s : State) : Res :=
  cmd ch 0xD03 p s fun s =>
    let first := bitsOf (pword p 0) 0 10
    let n := bitsOf (pword p 0) 16 7
    s.orFail ch ((checkWords p [0x7F03FF]).orElse (fun _ =>
      firstFail [(n = 0 || decide (64 < n) || decide (1024 < first + n), St.invalid)])) fun s =>
      let (ws, s) := (List.range n).foldl (fun (a : List Nat × State) i =>
        let w := a.2.marginWord (first + i)
        (a.1 ++ [w.1], w.2)) ([], s)
      s.reply ch St.ok ws

/-! Powered time (R673). -/

/-- POWERED_HOUR: an hour of powered time ends; every 24 hours the count is saved, as one change, unless the record is worn. -/
def execPoweredHour (s : State) : Res :=
  .next (if s.readiness = 3 || s.ready then
           let h := min (2 ^ 24 - 1) (s.fld A.ageStatus0 F.ageStatus0_POWERED_H + 1)
           let s := s.setFld A.ageStatus0 F.ageStatus0_POWERED_H h
           if h % 24 = 0 && !s.flag A.ageStatus1 F.ageStatus1_VF_WORN then s.vfChange.saveVf else s
         else s)

/-! Re-plans (R671 to R675, R678). -/

/-- A unit that a re-plan judges: its monitors; the family whose period it is judged at, 0 ARRAY, 1 THREAD, 2 LANTERN, 3 HOSTCORE,
else a fixed frequency in MHz; the matrix engine or lantern unit or other fenceable unit it is, as kind and index. -/
structure AgeUnit where
  mons   : List Nat
  family : Nat
  unit   : Option (Nat × Nat)

/-- The units of a die, their monitors numbered in the order in which R669 names them. -/
def dieUnits (d : Nat) : List AgeUnit :=
  if d < 4 then
    let b := 160 * d
    (List.range 17).map (fun e => { mons := rangeFrom (b + 4 * e) 4, family := 0, unit := some (0, e) })
    ++ (List.range 8).map (fun x => { mons := rangeFrom (b + 68 + 2 * x) 2, family := 0, unit := some (1, x) })
    ++ (List.range 64).map (fun c => { mons := [b + 84 + c], family := 1, unit := some (2, c) })
    ++ [{ mons := rangeFrom (b + 148) 12, family := 0, unit := none }]
  else if d < 8 then
    let b := 640 + 80 * (d - 4)
    (List.range 18).map (fun u => { mons := rangeFrom (b + 2 * u) 2, family := 2, unit := some (4, u) })
    ++ [{ mons := rangeFrom (b + 36) 40, family := 2200, unit := none }, { mons := rangeFrom (b + 76) 4, family := 2000, unit := none }]
  else
    (List.range 8).map (fun h => { mons := rangeFrom (960 + 6 * h) 6, family := 3, unit := none })
    ++ [{ mons := rangeFrom 1008 16, family := 2000, unit := none }]

/-- The unit lies in an island of fixed frequency. -/
def AgeUnit.fixed (u : AgeUnit) : Bool := 4 ≤ u.family

/-- Twice the frequency in MHz at which a unit is judged at level L (R641, R671). -/
def AgeUnit.speed (u : AgeUnit) (l : Nat) : Nat :=
  match u.family with
  | 0 => 2 * (450 + 90 * l)
  | 1 => 2 * (375 + 75 * l)
  | 2 => 625 + 125 * l
  | 3 => 2 * (800 + 160 * l)
  | f => 2 * f

/-- Steps of voltage that a unit asks for at level L, at least -1 (R671); none where nothing measured it. -/
def State.ageSteps (s : State) (d : Nat) (u : AgeUnit) (l : Nat) : Option Int :=
  match u.mons.filterMap (fun n => s.delayAt n l) with
  | [] => none
  | x :: xs =>
    let need := xs.foldl max x + s.fld A.ageCfg F.ageCfg_GUARD_PS + s.fld A.ageCfg F.ageCfg_AGE_PS
    let h := u.speed l
    let sens := h * s.fld (A.vf2 d) F.vf2_SENS
    some (max (-1) (-((2000000 - (need * h : Int)) / (sens : Int))))

/-- The code of level L in a die's table. -/
def State.vfCode (s : State) (d l : Nat) : Nat := bitsOf (s.rd (if l < 8 then A.vf0 d else A.vf1 d)).toNat (8 * (l % 8)) 8

/-- Each level's code at least the one below (R671). -/
def monotone : Nat → List Nat → List Nat
  | _, [] => []
  | m, c :: l => max m c :: monotone (max m c) l

/-- The codes that some units of a die ask for (R671), before the ceiling. -/
def State.askCodes (s : State) (d : Nat) (us : List AgeUnit) : List Nat :=
  monotone 0 ((List.range 16).map (fun l =>
    match us.filterMap (fun u => s.ageSteps d u l) with
    | [] => s.vfCode d l
    | x :: xs => ((s.vfCode d l : Int) + xs.foldl max x).toNat))

/-- The highest level whose code the ceiling allows; 0 when none does. -/
def highestLevel (codes : List Nat) (vmax : Nat) : Nat := ((List.range 16).filter (fun l => codes.getD l 0 ≤ vmax)).getLast?.getD 0

/-- A unit's need at level 15 asks for a code above VMAX (R671). -/
def State.marginal (s : State) (d : Nat) (u : AgeUnit) : Bool :=
  match s.ageSteps d u 15 with
  | some n => (s.fld (A.vf2 d) F.vf2_VMAX : Int) < (s.vfCode d 15 : Int) + n
  | none => false

/-- An engine is marked marginal: by its delay, or by its ARRAY_CHECK faults (R671, R678). -/
def State.engineMarginal (s : State) (k e : Nat) : Bool :=
  s.marginal k ((dieUnits k).getD e ⟨[], 0, none⟩)
    || decide (s.fld A.ageCfg F.ageCfg_FENCE_ERRS ≤ Assoc.getD s.age.checks (17 * k + e) 0)

/-- Engines of a die that could take over a position: unassigned, not fenced, not pending, not being reset and, where it matters, not
marginal; less one for each pending engine that holds a position. -/
def State.usableSpares (s : State) (k : Nat) (bad : List Nat) : Nat :=
  let free := (List.range 17).countP (fun e => (s.positionOf k e).isNone && !s.isFenced k 0 e && !s.isPending k 0 e
    && !s.unitResetting (unitMxe k e) && !bad.contains e)
  free - (List.range 17).countP (fun e => (s.positionOf k e).isSome && s.isPending k 0 e)

/-- What R678 does with the marginal engines of a compute die: those whose fences become pending, and those fenced at once. -/
def State.planFences (s : State) (k : Nat) : List Nat × List Nat :=
  if !s.flag A.ageCfg F.ageCfg_AUTO_FENCE then ([], [])
  else
    let bad := (List.range 17).filter (s.engineMarginal k)
    let live := bad.filter (fun e => !s.isFenced k 0 e && !s.isPending k 0 e)
    let hold := live.filter (fun e => (s.positionOf k e).isSome)
    let n := s.usableSpares k bad
    let errs (e : Nat) : Bool := s.fld A.ageCfg F.ageCfg_FENCE_ERRS ≤ Assoc.getD s.age.checks (17 * k + e) 0
    (hold.take n ++ (hold.drop n).filter errs, live.filter (fun e => (s.positionOf k e).isNone))

/-- The table of a die after a re-plan with some fences to come: the three words of PWR_VF (R671, R678, R686). LMAX counts an engine
whose fence is pending, as the interim cap, and no other unit whose fence is. -/
def State.planDie (s : State) (d : Nat) (pend atOnce : List Nat) : List (Nat × Word) :=
  let gone (u : AgeUnit) : Bool := match u.unit with
    | some (kind, i) => s.isFenced (d % 4) kind i || (kind = 0 && atOnce.contains i)
    | none => false
  let other (u : AgeUnit) : Bool := match u.unit with
    | some (kind, i) => kind ≠ 0 && s.isPending (d % 4) kind i
    | none => false
  let waits (u : AgeUnit) : Bool := match u.unit with
    | some (kind, i) => s.isPending (d % 4) kind i || (kind = 0 && pend.contains i)
    | none => false
  let us := (dieUnits d).filter (fun u => d = 8 || !gone u)
  let us' := us.filter (fun u => d = 8 || !waits u)
  let vmax := s.fld (A.vf2 d) F.vf2_VMAX
  let lmax := highestLevel (s.askCodes d (us.filter (fun u => !u.fixed && (d = 8 || !other u)))) vmax
  let after := highestLevel (s.askCodes d (us'.filter (fun u => !u.fixed))) vmax
  let a := s.askCodes d us
  let b := s.askCodes d us'
  let codes := (monotone 0 ((List.range 16).map (fun l => if l ≤ lmax then a.getD l 0 else b.getD l 0))).map (min vmax)
  let pack (l : List Nat) : Nat := (List.range 8).foldl (fun n i => n + 2 ^ (8 * i) * (l.getD i 0 % 256)) 0
  [(A.vf0 d, BitVec.ofNat 64 (pack (codes.take 8))), (A.vf1 d, BitVec.ofNat 64 (pack (codes.drop 8))),
   (A.vf2 d, F.vf2_PEND_LMAX.set (F.vf2_LMAX.set (s.rd (A.vf2 d)) lmax) after)]

/-- A fixed-frequency island of a die is marginal (R672). -/
def State.fixedMarginal (s : State) (d : Nat) : Bool := (dieUnits d).any (fun u => u.fixed && s.marginal d u)

/-- A re-plan of the dies in a mask begins (R674). -/
def State.beginReplan (s : State) (dies : Nat) (due : Bool) (chan : Option Nat) : State :=
  let ds := (List.range 9).filter dies.testBit
  let plans := (ds.filter (· < 4)).map (fun k => (k, s.planFences k))
  let fences (d : Nat) : List Nat × List Nat := ((plans.find? (fun x => x.1 = d)).map (·.2)).getD ([], [])
  let tables := ds.map (fun d => s.planDie d (fences d).1 (fences d).2)
  let changed := tables.countP (fun l => l.any (fun e => s.rd e.1 ≠ e.2))
  let left := (List.range 9).any (fun d => !ds.contains d && decide (4 ≤ d))
  let fixed := ds.any (fun d => s.fixedMarginal d) || (left && s.flag A.ageStatus0 F.ageStatus0_FIXED_MARGINAL)
  let r : Replan := {
    dies := dies, due := due, chan := chan, regs := tables.flatten, pend := plans.flatMap (fun x => x.2.1.map (fun e => (x.1, e))),
    atOnce := plans.flatMap (fun x => x.2.2.map (fun e => (x.1, e))), changed := changed, fixed := fixed }
  ({ s with age := { s.age with replan := some r } }).setFlag A.ageStatus0 F.ageStatus0_BUSY true

/-- REPLAN_DUE: a re-plan is due and the module may run it (R673, R674). -/
def execReplanDue (s : State) : Res :=
  .next (if s.ready && !s.eclipse && s.age.replan.isNone
            && s.fld A.ageStatus0 F.ageStatus0_LAST_H + 24 * s.fld A.ageCfg F.ageCfg_PERIOD_D ≤ s.fld A.ageStatus0 F.ageStatus0_POWERED_H
         then s.beginReplan 0x1FF true none
         else s)

/-- AGE_REPLAN (R675). One that names every die moves LAST_H. -/
def execAgeReplan (ch : Nat) (p : Packet) (s : State) : Res :=
  cmd ch 0xD00 p s fun s =>
    let d := pword p 0
    s.orFail ch ((checkWords p [0x1FF]).orElse (fun _ =>
      firstFail [(d = 0, St.invalid), (s.age.replan.isSome || s.eclipse || s.supplyEvent, St.busy),
        (s.flag A.ageStatus1 F.ageStatus1_VF_WORN, St.worn)])) fun s =>
      s.beginReplan d (d = 0x1FF) (some ch)

/-- A pending fence takes effect where its unit is at the boundary (R676, R679). -/
def State.meetFence (s : State) (k kind i : Nat) : State :=
  if s.isPending k kind i && s.atBoundary k kind i then s.applyFence k kind i else s

/-- The same after the fence was recorded as pending: one more change of the record. -/
def State.fenceNow (s : State) (k kind i : Nat) : State :=
  if s.isPending k kind i && s.atBoundary k kind i then (s.applyFence k kind i).fenceChange else s

/-- REPLAN_COMPLETE: the records are durable (R674): the tables hold, what the period recorded on the named dies is cleared, host
cores keep below LMAX (R672), and AGE_REPLAN replies. -/
def execReplanComplete (s : State) : Res :=
  .next (match s.age.replan with
    | none => s
    | some r =>
      let s := s.storeReplan r
      let s := if r.changed ≠ 0 then s.stampChange [] else s
      let named (e : Nat × Nat) : Bool := r.dies.testBit (monitorDie (e.1 / 16))
      let done := s.age.cur.filter named
      let old := done.foldl (fun l e => Assoc.set l e.1 e.2) s.age.old
      let s := { s with age := { s.age with
        replan := none, old := old, cur := s.age.cur.filter (fun e => !named e),
        checks := s.age.checks.filter (fun e : Nat × Nat => !r.dies.testBit (e.1 / 17)) } }
      let s := s.setFlag A.ageStatus0 F.ageStatus0_BUSY false
      let s := r.pend.foldl (fun s e => s.meetFence e.1 0 e.2) s
      let s := if r.dies.testBit 8 then s.clampHosts else s
      match r.chan with
      | some ch => s.reply ch St.ok [r.changed, r.pend.length]
      | none => s)

/-! Fencing by command (R676 to R680). -/

/-- The checks of UNIT_FENCE and UNIT_UNFENCE, in their order. -/
def State.fenceCheck (s : State) (k kind i : Nat) (fence : Bool) : Option (Nat × List Nat) :=
  if 5 ≤ kind || fenceCount kind ≤ i then some (St.invalid, [])
  else if !s.unitPresent kind i then some (St.disabled, [])
  else if fence && kind = 0 && (s.positionOf k i).isSome && s.usableSpares k [] = 0 && !s.isPending k 0 i then some (St.invalid, [0])
  else if !fence && !s.isFenced k kind i && !s.isPending k kind i then some (St.notFound, [])
  else if s.eclipse || s.age.replan.isSome then some (St.busy, [])
  else if s.flag A.ageStatus1 F.ageStatus1_FENCE_WORN then some (St.worn, [])
  else none

/-- UNIT_FENCE and UNIT_UNFENCE up to the write of the record. -/
def State.fenceCmd (s : State) (ch : Nat) (p : Packet) (fence : Bool) : State :=
  let w := pword p 0
  let k := bitsOf w 0 2
  let kind := bitsOf w 8 3
  let i := bitsOf w 16 7
  s.orFail ch (checkWords p [0x7F0703]) fun s =>
  match s.fenceCheck k kind i fence with
  | some (st, ds) => s.reply ch st ds
  | none =>
    if fence && (s.isFenced k kind i || s.isPending k kind i) then s.reply ch St.ok
    else
      let c : FenceChange := { tower := k, kind := kind, index := i, fence := fence, chan := ch }
      { s with age := { s.age with changes := s.age.changes ++ [c] } }

/-- UNIT_FENCE. -/
def execUnitFence (ch : Nat) (p : Packet) (s : State) : Res := cmd ch 0xD01 p s fun s => s.fenceCmd ch p true
/-- UNIT_UNFENCE. -/
def execUnitUnfence (ch : Nat) (p : Packet) (s : State) : Res := cmd ch 0xD02 p s fun s => s.fenceCmd ch p false

/-- A fenced unit returns where it is at its boundary (R680). -/
def State.unfenceNow (s : State) (k kind i : Nat) : State :=
  if s.age.leaving.contains (k, kind, i) && s.atBoundary k kind i then
    let s := { s with age := { s.age with leaving := s.age.leaving.filter (· ≠ (k, kind, i)) } }
    (s.endFence k kind i).fenceChange
  else s

/-- FENCE_RECORD_DURABLE: a change of the fence record is durable; it takes effect at once at the boundary, else it waits, and the
command replies which (R680). -/
def execFenceRecordDurable (idx : Nat) (s : State) : Res :=
  .next (match s.age.changes[idx]? with
    | none => s
    | some c =>
      let s := { s with age := { s.age with changes := s.age.changes.eraseIdx idx } }
      if c.fence then
        let s := ((s.setFence c.tower c.kind c.index false true).meetFence c.tower c.kind c.index).fenceChange
        s.reply c.chan St.ok [b2n (s.isPending c.tower c.kind c.index)]
      else if s.isPending c.tower c.kind c.index then
        ((s.setFence c.tower c.kind c.index false false).fenceChange).reply c.chan St.ok [0]
      else
        let s := { s with age := { s.age with leaving := s.age.leaving ++ [(c.tower, c.kind, c.index)] } }
        let s := s.unfenceNow c.tower c.kind c.index
        s.reply c.chan St.ok [b2n (s.age.leaving.contains (c.tower, c.kind, c.index))])

/-- FENCE_TAKES_EFFECT: a pending fence, or the return of a fenced unit, meets its unit's boundary (R676, R679, R680). -/
def execFenceTakesEffect (k kind i : Nat) (s : State) : Res :=
  onUnit (k < 4 && kind < 5 && i < fenceCount kind) ((s.fenceNow k kind i).unfenceNow k kind i)

end Sys2Proof.Machine
end

