-- ==== Sys2Proof/Machine/LinkRows.lean ====
section
/-! DEFINITION. The rows of the package links, the interrupt router and the PCIe ports (R532 to R556). -/

namespace Sys2Proof.Machine

/-! The bond (R535, R536, R552, R553). -/

/-- The unit code of a bond channel (R630). -/
def unitBond (k c : Nat) : Nat := unitCode 10 k 0 c 0

/-- Bond channel c of tower k is up. -/
def State.bondUp (s : State) (k c : Nat) : Bool := (s.fld (A.bondStatus k) F.bondStatus_CHANNELS_UP).testBit c

/-- A number put into a list of those due, or training. -/
def State.setDue (s : State) (n : Nat) : State := { s with lnk := { s.lnk with due := insertNat s.lnk.due n } }
/-- A number taken out of it. -/
def State.clearDue (s : State) (n : Nat) : State := { s with lnk := { s.lnk with due := s.lnk.due.filter (· ≠ n) } }

/-- A bond channel goes down, and its lines wait for a reset (R536): a tower-domain error. -/
def State.bondDown (s : State) (k c : Nat) (injected : Bool) : State :=
  let s := { s with lnk := { s.lnk with lost := insertNat s.lnk.lost (bondKey k c) } }
  let up := putBit (s.fld (A.bondStatus k) F.bondStatus_CHANNELS_UP) c false
  let s := s.setFlds (A.bondStatus k) [(F.bondStatus_CHANNELS_UP, up), (F.bondStatus_UP_COUNT, (List.range 32).countP up.testBit)]
  s.levelFault 3 { queue := k, cls := 0x24, domain := 3, action := 8, unit := unitBond k c, injected := injected }

/-- BOND_FRAME_REPLAY: a frame of a channel is replayed, now for the time named; the eighth calls for a retraining. -/
def execBondFrameReplay (k c times : Nat) (s : State) : Res :=
  onUnit (k < 4 && c < 32)
    (if s.bondUp k c then
       let s := s.bumpFld (A.bondCnt k) F.bondCnt_REPLAYS 1
       if 8 ≤ times then s.setDue (bondKey k c) else s
     else s)

/-- BOND_RETRAIN: a channel due retrains; an injected BOND_DOWN takes it down instead (R625). -/
def execBondRetrain (k c : Nat) (s : State) : Res :=
  onUnit (k < 4 && c < 32)
    (if !s.bondUp k c then s
     else match s.armedAt 0x24 (unitBond k c) 0 0 with
       | some i => (s.disarm i).bondDown k c true
       | none =>
         if s.lnk.due.contains (bondKey k c) then
           let s := (s.clearDue (bondKey k c)).bumpFld (A.bondCnt k) F.bondCnt_RETRAINS 1
           { s with lnk := { s.lnk with training := insertNat s.lnk.training (bondKey k c) } }
         else s)

/-- BOND_RETRAIN_DONE: with the pads that fail in the channel, and the spares now in use across the bond. -/
def execBondRetrainDone (k c failing pads : Nat) (s : State) : Res :=
  onUnit (k < 4 && c < 32)
    (if s.lnk.training.contains (bondKey k c) then
       let s := { s with lnk := { s.lnk with training := s.lnk.training.filter (· ≠ bondKey k c) } }
       if 16 < failing then s.bondDown k c false else s.setFld (A.bondStatus k) F.bondStatus_PADS_REPAIRED (min 512 pads)
     else s)

/-! UCIe links, numbered as linkEnds numbers them (R537 to R542). -/

/-- A link's number among those due. -/
def linkKey (l : Nat) : Nat := 128 + l

/-- UCIE_FLIT_REPLAY: the adapter at one end replays a flit, now for the time named, with that many replays in the last 2^20 D2D
cycles. -/
def execUcieFlitReplay (l : Nat) (far : Bool) (times recent : Nat) (s : State) : Res :=
  onUnit (l < 6)
    (if s.linkState l = 2 then
       match linkEnds l with
       | [a, b] =>
         let s := s.bumpFld ((if far then b else a) + 8) F.linkCnt_REPLAYS 1
         if 16 ≤ times || 1024 ≤ recent then s.setDue (linkKey l) else s
       | _ => s
     else s)

/-- UCIE_RETRAIN: a link due retrains; its traffic waits in order. -/
def execUcieRetrain (l : Nat) (s : State) : Res :=
  onUnit (l < 6)
    (if s.linkState l = 2 && s.lnk.due.contains (linkKey l) then
       (linkEnds l).foldl (fun s a => (s.setFld a F.linkStatus_STATE 3).bumpFld (a + 8) F.linkCnt_RETRAINS 1) (s.clearDue (linkKey l))
     else s)

/-- The record of a link that is down: a ring link's from the base die's end, a host link's from the host die (R607, R620). -/
def linkRecord (l : Nat) : RecordReq :=
  if l < 4 then { queue := l, cls := 0x28, domain := 4, action := 9, unit := unitCode 11 l 0 0 0 }
  else { queue := 4, cls := 0x29, domain := 4, action := 9, unit := unitCode 11 (l - 4) 0 2 0 }

/-- A device recovery begins whose record is written when it is decided (R617, R621); one in progress escalates (R616), a held
device stays held, and in eclipse mode it is deferred (R618). -/
def State.deviceRecovery (s : State) (r : RecordReq) : State :=
  match s.err.recov.find? (fun v => v.level = 4) with
  | some v => s.escalate v r
  | none =>
    if s.deviceStopped then s.record r
    else
      let s := s.addRecovery { level := 4, unit := 0, opref := 0, owner := none, tower := r.queue, cls := r.cls, own := some r,
                               related := 0, deferred := s.eclipse, bounded := true }
      if s.eclipse then s else s.quiesce r.cls 1

/-- UCIE_RETRAIN_DONE: the modules up, those at half width, and the redundant lanes in use. -/
def execUcieRetrainDone (l up half spares : Nat) (s : State) : Res :=
  onUnit (l < 6)
    (if s.linkState l = 3 then
       let s := s.trainLink l up half spares
       let s := s.setFld A.hostStatus F.hostStatus_HOST_LINKS_UP (b2n (s.linkUp 4) + 2 * b2n (s.linkUp 5))
       if s.linkState l = 0 then s.deviceRecovery (linkRecord l) else s
     else s)

/-! The interrupt router (R545). -/

/-- INTERRUPT_DELIVER: an interrupt on its way sets its identity pending at its hart; two of one identity are one. -/
def execInterruptDeliver (idx : Nat) (s : State) : Res :=
  match s.ctl.raised[idx]? with
  | none => .refused .noSuchUnit
  | some v => .next { s with ctl := { s.ctl with raised := s.ctl.raised.eraseIdx idx, ids := insertNat s.ctl.ids (v % 65536) } }

/-- SEIP of a hart: an identity is pending. -/
def State.seip (s : State) (hart : Nat) : Bool := s.ctl.ids.any (fun v => v / 1024 = hart)

/-- SICLAIM_READ: the lowest pending identity of a hart, or 0; it is claimed. -/
def execSiclaimRead (hart who : Nat) (s : State) : Res :=
  onUnit (hart < 64)
    (match s.ctl.ids.find? (fun v => v / 1024 = hart) with
     | some v => ({ s with ctl := { s.ctl with ids := s.ctl.ids.filter (· ≠ v) } }).answer who (BitVec.ofNat 64 (v % 1024))
     | none => s.answer who 0)

/-! PCIe (R546 to R548, R555, R556). -/

/-- PCIE_LINK_TRAIN: a port trains at a speed and width no higher than its limits, and takes its registers (R555); speed 0: the
link is down. -/
def execPcieLinkTrain (q speed width : Nat) (s : State) : Res :=
  onUnit (q < 2)
    (if s.board.perst then s
     else
       let a := A.peStatus q
       let cfg := A.peCfg q
       let set : PortSet :=
         { p2p := s.flag cfg F.peCfg_P2P_EN, out := s.fld (A.peOutBase q) F.peOutBase_BASE * 2 ^ 28,
           msi := s.fld (A.peMsiBase q) F.peMsiBase_BASE * 2 ^ 18 }
       let s := { s with lnk := { s.lnk with ports := Assoc.set s.lnk.ports q set } }
       if speed = 0 then s.setFlds a [(F.peStatus_SPEED, 0), (F.peStatus_WIDTH, 0), (F.peStatus_UP, 0), (F.peStatus_FLIT, 0)]
       else
         let sp := min (min speed 6) (s.fld cfg F.peCfg_MAX_SPEED)
         let w := min ([16, 8, 4, 2, 1].find? (· ≤ width) |>.getD 1) (s.fld cfg F.peCfg_MAX_WIDTH)
         s.setFlds a [(F.peStatus_SPEED, sp), (F.peStatus_WIDTH, w), (F.peStatus_UP, 1), (F.peStatus_FLIT, b2n (sp = 6))])

/-- The completion of an inbound read. -/
def State.complete (s : State) (q addr : Nat) (bs : List Byte) (poison : Bool) : State :=
  s.sendTlp { port := q, ecam := false, write := false, compl := true, ur := false, addr := addr, len := bs.length, bytes := bs,
              poison := poison }

/-- An inbound request that is refused counts; a read completes as Unsupported Request (R548). -/
def State.refusePeer (s : State) (q addr len : Nat) (write : Bool) : State :=
  let s := s.countUr q
  if write then s
  else s.sendTlp { port := q, ecam := false, write := false, compl := true, ur := true, addr := addr, len := len, bytes := [],
                   poison := false }

/-- Some enabled inbound window of port q covers the access and grants it (R556). -/
def State.inWindow (s : State) (q addr len : Nat) (write : Bool) : Bool :=
  (List.range 8).any (fun w =>
    let a := A.peInwin q w
    let lo := s.fld a F.peInwin_BASE * 4096
    s.flag a F.peInwin_EN && s.flag a (if write then F.peInwin_WR_EN else F.peInwin_RD_EN)
      && decide (lo ≤ addr) && decide (addr + len ≤ lo + 2 ^ s.fld a F.peInwin_SIZE_LOG2))

/-- A peer's access to the object window (R514): 8 bytes at a multiple of 8; others, and loads of nothing, have no effect. -/
def State.peerObject (s : State) (q addr off : Nat) (write : Bool) (bs : List Byte) : State :=
  let obj := off / 64
  let o := off % 64
  let v := leNat bs
  if write then
    if bs.length ≠ 8 || o % 8 ≠ 0 then s
    else match o with
      | 0x10 => s.windowStore obj 1 (v % 2 ^ 32) true
      | 0x18 => s.windowStore obj 2 v true
      | 0x20 => s.windowStore obj 3 (v % 2 ^ 32) true
      | 0x28 => s.windowArm obj v true
      | _ => if s.windowShut obj true then s.opRefused obj else s
  else if !s.reachesObj .host obj then s
  else if s.windowShut obj true then (s.opRefused obj).complete q addr (leBytes 8 0) false
  else s.complete q addr (leBytes 8 (s.windowWord obj (o / 8 * 8))) false

/-- An inbound access that a window grants, as a non-host access by physical address (R368, R548). Memory is out of reach in
eclipse mode (R656). -/
def State.peerAccess (s : State) (q addr len : Nat) (write : Bool) (bs : List Byte) (poison : Bool) : State :=
  let w := (windowOf addr).1
  let toPort : Bool := match w with | .pcie p => decide (p = q) || !(s.portSet q).p2p | _ => false
  if !s.inWindow q addr len write || toPort || s.physFaults addr len write || (s.eclipse && w.isTier) then
    s.refusePeer q addr len write
  else if write then
    (s.physWrite addr bs poison (.peer q) { ctx := 0, entry := none }).1
  else
    match s.physRead addr len (.peer q) none with
    | (s, .ok bs p) =>
      let s := s.complete q addr bs p
      if p then
        s.note 0 4 { queue := 4, cls := 0x12, domain := 0, action := 4, unit := unitCode 14 0 0 q 0,
                     addr := (s.firstPoison addr len).getD addr }
      else s
    | (s, .fault) => s.refusePeer q addr len false
    | (s, .wait) => s

/-- PCIE_INBOUND: a memory read of a length, or a memory write of some bytes, from a port whose link is up. -/
def execPcieInbound (q addr : Nat) (write : Bool) (len : Nat) (data : List Byte) (poison : Bool) (s : State) : Res :=
  onUnit (q < 2)
    (let n := if write then data.length else len
     let msi := (s.portSet q).msi
     if !s.flag (A.peStatus q) F.peStatus_UP || n = 0 then s
     else if 2 ^ 52 ≤ addr then s.refusePeer q addr n write
     else if write && n = 4 && msi ≠ 0 && msi ≤ addr && addr < msi + 0x40000 then
       s.interrupt ((addr - msi) / 4096 * 1024 + leNat data % 1024)
     else
       match windowOf addr with
       | (.control, _) =>
         if !write then s.refusePeer q addr n false
         else if n = 8 then s.controlStore addr (1 + q) (leNat data)
         else s.dropStore
       | (.objects, off) =>
         if off + n ≤ 4 * 2 ^ 20 then s.peerObject q addr off write data else s.refusePeer q addr n write
       | _ => s.peerAccess q addr n write data poison)

/-- PCIE_OUTBOUND: a host core or CC loads or stores at an offset of port q's window. done is what completes it, the bytes read;
none: its completion is still to come, or never comes. -/
def execPcieOutbound (q off who : Nat) (write : Bool) (len : Nat) (data : List Byte) (done : Option (List Byte)) (s : State) : Res :=
  onUnit (q < 2 && off < 256 * gib)
    (let word (bs : List Byte) : Word := BitVec.ofNat 64 (leNat (bs.take 8))
     if !s.portCompletes q off then
       let s := s.countUr q
       if write then s else s.answer who (word (List.replicate (min 8 len) 0xFF))
     else
       let s := s.outbound q off (if write then data.length else len) write data false
       if isRootPort off then
         if write then s
         else
           let (s, bs) := s.freeBytes (min 8 len)
           s.answer who (word bs)
       else match done with
         | some bs => if write then s else s.answer who (word (bs.take len))
         | none => { s with lnk := { s.lnk with waiting := s.lnk.waiting ++ [{ who := who, port := q, len := if write then 0 else len }] } })

/-- PCIE_COMPLETION_TIMEOUT: an outbound request that its link does not complete. -/
def execPcieCompletionTimeout (idx : Nat) (s : State) : Res :=
  match s.lnk.waiting[idx]? with
  | none => .refused .noSuchUnit
  | some r =>
    let s := ({ s with lnk := { s.lnk with waiting := s.lnk.waiting.eraseIdx idx } }).countUr r.port
    .next (if r.len = 0 then s else s.answer r.who (BitVec.ofNat 64 (2 ^ (8 * min 8 r.len) - 1)))

/-- PCIE_AER: an uncorrectable error is recorded (R546, R607). -/
def execPcieAer (q : Nat) (s : State) : Res :=
  onUnit (q < 2)
    (if s.board.powered && s.board.modReset.isNone then
       s.note 4 0 { queue := 4, cls := 0x2D, domain := 4, action := 0, unit := unitCode 14 0 0 q 0 }
     else s)

end Sys2Proof.Machine
end

