-- ==== Sys2Proof/Machine/ErrRows.lean ====
section
/-! DEFINITION. The rows of error handling: record commands (R623, R624), injections (R625), bounds and device recoveries
(R616, R617). -/

namespace Sys2Proof.Machine

/-! Records. -/

/-- A sequence number lies at or after another by the serial comparison of R512. -/
def seqAfter (s first : Nat) : Bool := decide ((s + 2 ^ 32 - first % 2 ^ 32) % 2 ^ 32 < 2 ^ 31)

/-- The held records of a queue: slot and sequence number. -/
def State.heldRecords (s : State) (q : Nat) : List (Nat × Nat) :=
  (List.range 256).filterMap (fun i =>
    let w := s.rd (errRecord q i 0)
    if w = 0 then none else some (i, w.toNat % 2 ^ 32))

/-- A held record put in its place by its distance from a number. -/
def insertSeq (first : Nat) (r : Nat × Nat) : List (Nat × Nat) → List (Nat × Nat)
  | [] => [r]
  | x :: l =>
    if (r.2 + 2 ^ 32 - first) % 2 ^ 32 < (x.2 + 2 ^ 32 - first) % 2 ^ 32 then r :: x :: l else x :: insertSeq first r l

/-- Held records in ascending order from a number. -/
def sortSeq (first : Nat) (l : List (Nat × Nat)) : List (Nat × Nat) := l.foldl (fun acc r => insertSeq first r acc) []

/-- ERR_RECORD_READ. -/
def execErrRecordRead (ch : Nat) (p : Packet) (s : State) : Res :=
  cmd ch 0xB00 p s fun s =>
    let w := pword p 0
    let q := bitsOf w 0 3
    let n := bitsOf w 8 6
    let first := bitsOf w 32 32
    s.orFail ch (match checkWords p [0xFFFFFFFF00003F07] with
      | some st => some st
      | none => firstFail [(decide (4 < q) || n = 0, St.invalid)]) fun s =>
      let rs := (sortSeq first ((s.heldRecords q).filter (fun r => seqAfter r.2 first))).take n
      s.replyWith ch St.ok (s.rd (errQStatus q) :: rs.flatMap (fun r => (List.range 8).map (fun i => s.rd (errRecord q r.1 i)))) false

/-- A record freed: its slot reads 0. -/
def State.freeRecord (s : State) (q slot : Nat) : State := (List.range 8).foldl (fun s i => s.wr (errRecord q slot i) 0) s

/-- HELD and HEAD_SEQ brought up to the records held (R629): the oldest, or NEXT_SEQ. -/
def State.showHeld (s : State) (q : Nat) : State :=
  let next := s.fld (errQSeq q) F.errQSeqT_NEXT_SEQ
  let rs := s.heldRecords q
  let head := match sortSeq (next % 2 ^ 32) rs with | r :: _ => r.2 | [] => next
  s.setFlds (errQStatus q) [(F.errQStatusT_HELD, rs.length), (F.errQStatusT_HEAD_SEQ, head)]

/-- ERR_RECORD_ACK. -/
def execErrRecordAck (ch : Nat) (p : Packet) (s : State) : Res :=
  cmd ch 0xB01 p s fun s =>
    let w := pword p 0
    let q := bitsOf w 0 3
    s.orFail ch (match checkWords p [0xFFFFFFFF0000000F] with
      | some st => some st
      | none => firstFail [(decide (4 < q), St.invalid)]) fun s =>
      let rs := (s.heldRecords q).filter (fun r => seqAfter (bitsOf w 32 32) r.2)
      let s := (rs.foldl (fun s r => s.freeRecord q r.1) s).showHeld q
      let s := if bit w 3 then (s.setFlag (errQStatus q) F.errQStatusT_OVERFLOW false).setFld (errQSeq q) F.errQSeqT_LOST 0 else s
      s.reply ch St.ok [rs.length]

/-! Injections (R625). -/

/-- A code names a unit of the module as a record would (R630). -/
def State.unitNamed (s : State) (u : Nat) : Bool :=
  let k := bitsOf u 4 2
  let j := bitsOf u 6 2
  let i := bitsOf u 8 8
  let sub := bitsOf u 16 8
  let plain := j = 0 && sub = 0
  match bitsOf u 0 4 with
  | 1 => plain && i < 17
  | 2 => i < 8 && j = i / 2 && sub = 0
  | 3 => i < 16 && sub < 8
  | 4 => i < 4 && sub = 0
  | 5 | 13 => plain && i = 0
  | 6 | 10 => plain && i < 32
  | 7 => plain && i < 2
  | 8 => plain && (i = 2 || i = 3) && s.part.hasCapacity
  | 9 => plain && s.lntPresent i && lntTower i = k
  | 11 => plain && (i < 2 || (i = 2 && k < 2))
  | 12 => plain && (i = 0 || (i < 16 && i / 4 = k && s.part.portPresent i))
  | 14 => plain && k = 0 && i < 2
  | 15 => plain && k = 0 && i < 64
  | _ => false

/-- A unit of a kind can raise a class under an injection. -/
def canRaise (cls kind : Nat) : Bool :=
  match cls with
  | 0x01 => kind = 1
  | 0x02 => kind = 2
  | 0x18 => kind = 7 || kind = 8
  | 0x19 => kind = 6
  | 0x1A => 1 ≤ kind && kind ≤ 4
  | 0x1B => kind = 3 || kind = 4 || kind = 9
  | 0x20 => kind = 4 || kind = 12
  | 0x24 => kind = 10
  | _ => false

/-- ERR_INJECT: DISARM decides whether it arms or disarms. -/
def State.injectBody (s : State) (ch : Nat) (p : Packet) : State :=
  let w := pword p 0
  let cls := bitsOf w 0 8
  let k := bitsOf w 8 2
  let off := bit w 10
  let ctx := bitsOf w 16 8
  let u := pword p 1
  s.orFail ch (match checkWords p [0xFF07FF, 0xFFFFFF, 2 ^ 64 - 1] with
    | some st => some st
    | none => firstFail
      [(!s.unitNamed u || bitsOf u 4 2 ≠ k || (!off && !canRaise cls (bitsOf u 0 4)), St.invalid),
       (!s.debugOpen ctx, St.denied),
       (!off && decide (16 ≤ (s.err.armed.filter (fun i => i.tower = k)).length), St.busy)]) fun s =>
    if off then
      let gone := s.err.armed.filter (fun i => i.unit = u)
      ({ s with err := { s.err with armed := s.err.armed.filter (fun i => i.unit ≠ u) } }).reply ch St.ok [gone.length]
    else
      let i : Injection := { tower := k, cls := cls, unit := u, ctx := ctx, addr := pword p 2 }
      ({ s with err := { s.err with armed := s.err.armed ++ [i] } }).reply ch St.ok

/-- ERR_INJECT that arms. -/
def execErrInjectArm (ch : Nat) (p : Packet) (s : State) : Res := cmd ch 0xB02 p s fun s => s.injectBody ch p
/-- ERR_INJECT that disarms. -/
def execErrInjectDisarm (ch : Nat) (p : Packet) (s : State) : Res := cmd ch 0xB02 p s fun s => s.injectBody ch p

/-! Bounds (R616). -/

/-- What a bound that has passed raises: the class of the fault that began the recovery. -/
def Recovery.passed (v : Recovery) : RecordReq :=
  { queue := v.tower, cls := v.cls, domain := v.level, action := levelAction v.level, owner := v.owner, unit := if v.level = 0 then v.unit else 0,
    opref := v.opref }

/-- OP_RECOVERY_BOUND: the operation recovery at a place of the list has not resolved within OP_LIMIT_US. -/
def execOpRecoveryBound (idx : Nat) (s : State) : Res :=
  match s.err.recov[idx]? with
  | none => .refused .noSuchUnit
  | some v =>
    .next (if v.level = 0 && v.bounded then
        (s.notBefore (v.since + s.fld A.errCfg F.errCfg_OP_LIMIT_US * 200)).escalate v v.passed
      else s)

/-- CTX_RECOVERY_BOUND: a context recovery has not resolved within CTX_LIMIT_MS: a tower reset of every tower on which the context
still has work in flight. -/
def execCtxRecoveryBound (ctx : Nat) (towers : List Nat) (s : State) : Res :=
  onUnit (ctx < 256)
    (match s.err.recov.find? (fun v => v.level = 2 && v.unit = ctx) with
     | some v =>
       if v.deferred then s
       else
         let ts := (List.range 4).filter (fun k => towers.contains k)
         if ts.isEmpty then s
         else
           let s := (s.notBefore (v.since + s.fld A.errCfg F.errCfg_CTX_LIMIT_MS * 200000)).endRecovery (fun x => x = v)
           ts.foldl (fun s k => s.contain 3 v.related { v.passed with queue := k, escal := true }) s
     | none => s)

/-! Device recovery (R617). -/

/-- The record of a device recovery that has none of its own: one reached by escalation. -/
def Recovery.deviceRecord (v : Recovery) : RecordReq :=
  v.own.getD { queue := 4, cls := v.cls, domain := 4, action := 9, unit := unitCode 15 0 0 0 0, related := v.related }

/-- An unrepaired device recovery ends (R617): a module reset when DEV_RESET_EN is 1, else the device is held; a lost reference
holds it whatever DEV_RESET_EN says. -/
def State.unrepaired (s : State) (v : Recovery) : State :=
  let s := s.endRecovery (fun x => x = v)
  if s.flag A.errCfg F.errCfg_DEV_RESET_EN && !s.board.refLost then
    s.deviceReset { v.deviceRecord with domain := 4, action := 10 }
  else
    let s := s.setFld A.errDevState F.errDevState_STATE 4
    let s := match v.own with | some r => s.record r | none => s
    s.alertBit 13

/-- DEVICE_RECOVERY_REPAIR: no access is in flight on the link; the routes go around it and the device resumes, or the repair
fails. It waits for main power. -/
def execDeviceRecoveryRepair (ok : Bool) (s : State) : Res :=
  .next (match s.err.recov.find? (fun v => v.level = 4) with
    | none => s
    | some v =>
      if v.deferred || s.eclipse then s
      else if !ok then s.unrepaired v
      else
        let s := s.setRoutes
        let s : State := if s.board.refLost then s.endRecovery (fun x => x = v) else s.resumeDevice
        match v.own with | some r => s.record r | none => s)

/-- DEVICE_QUIESCE_BOUND: a device recovery has taken DEV_QUIESCE_MS. -/
def execDeviceQuiesceBound (s : State) : Res :=
  .next (match s.err.recov.find? (fun v => v.level = 4) with
    | none => s
    | some v =>
      if v.deferred || s.eclipse then s
      else (s.notBefore (v.since + s.fld A.errCfg F.errCfg_DEV_QUIESCE_MS * 200000)).unrepaired v)

/-- A packet waits on a channel that is enabled and has room for its reply. -/
def State.packetWaits (s : State) (ch : Nat) : Bool :=
  s.chFree ch && (if isRing ch then s.cmdUsed ch ≠ 0 else !(s.chan ch).arrived.isEmpty)

/-- CC_WATCHDOG: CC has served nothing for a second while a packet waits: a module reset, with its record kept. -/
def execCcWatchdog (s : State) : Res :=
  .next (if s.ccRuns && (List.range 64).any s.packetWaits then
      (s.notBefore ((List.range 64).foldl (fun m n => max m (s.chan n).lastPkt) 0 + 200000000)).deviceReset
        { queue := 4, cls := 0x2C, domain := 4, action := 10, unit := unitCode 15 0 0 0 0 }
    else s)

end Sys2Proof.Machine
end

