-- ==== Sys2Proof/Machine/HoldRows.lean ====
section
/-! DEFINITION. Writes that stall at a tile's hold (R155, R156, R293, R358). -/

namespace Sys2Proof.Machine

/-- The tile at whose hold a stalled write still stands. -/
def State.stallTile (s : State) (w : Stall) : Option Tile :=
  match w.chunks with
  | c :: _ => c.findSome? (fun b => (s.holdingTile w.cl (b.1 - spBase w.cl) (max 1 b.2.1.length) w.who).map (·.2))
  | [] => none

/-- A byte of the write that a stalled writer makes next is held by a tile. -/
def State.stillHeld (s : State) (w : Stall) : Bool := (s.stallTile w).isSome

/-- Cycles for which a write stalled: they count at the engine whose holds it met (R179), and at a vector engine's or a mover's
own counter (R301, R362). DESIGN CHOICE (log entry 188): the cycles of writes that stall at one engine together add up. -/
def State.countHold (s : State) (w : Stall) (cycles : Nat) : State :=
  let s := s.bump (A.mxeCntHold (w.eng / 17) (w.eng % 17)) cycles
  match w.who with
  | .vxe k x => s.bump (A.vxeCntHold k x) cycles
  | .mover k m => s.bump (A.tcTmCntHold k m) cycles
  | _ => s

/-- STATE of a unit brought up to its stalls (R299, R361). -/
def State.showStall (s : State) (who : Issuer) : State :=
  match who with
  | .vxe k x => s.setChains k x (s.chainsOf k x)
  | .mover k m => s.moveProgress k m
  | _ => s

/-- HOLD_STALL_RESUME: the hold that stalled write i has been released; it writes on, having stalled for some cycles (R155). -/
def execHoldStallResume (i cycles : Nat) (s : State) : Res :=
  .next (match s.comp.stalls[i]? with
    | none => s
    | some w =>
      if s.stillHeld w then s
      else ((s.countHold w cycles).resumeStall w).1.showStall w.who)

/-- The record of a hold timeout of a writer that is no engine, vector engine or mover. -/
def holdRecord (w : Stall) (pa : Nat) : RecordReq :=
  { queue := w.cl / 4, cls := 0x05, domain := 0, action := 5, owner := some w.owner, unit := w.who.unit, addr := pa }

/-- HOLD_TIMEOUT: stalled write i has stood for 2^HOLD_TIMEOUT_LOG2 cycles, by the value in force when the tile that holds it was
accepted (R176), and is abandoned (R156): the tile, chain or move that writes fails; what it has written stands. A thread's write
is dropped and recorded; its SC or AMO completes without its write (log entry 170). -/
def execHoldTimeout (i cycles : Nat) (s : State) : Res :=
  .next (match s.comp.stalls[i]? with
    | none => s
    | some w =>
      match s.stallTile w with
      | none => s
      | some t =>
      if cycles < 2 ^ t.holdLog2 then s
      else
        let pa := match w.chunks with | (c :: _) :: _ => c.1 | _ => 0
        let s := s.countHold w cycles
        let s := { s with comp := { s.comp with stalls := s.comp.stalls.eraseIdx i } }
        match w.who with
        | .engine k e =>
          match (s.tilesOf k e)[0]? with
          | some t => s.tileFail k e t (tileRecord k e t 0x05 pa 0)
          | none => s
        | .vxe k x =>
          match (s.chainsOf k x).find? (·.wrote) with
          | some c => s.chainFail k x c w.chunks.length 0x05 0 false
          | none => s
        | .mover k m =>
          match (s.mover k m).queue.find? (fun d => d.id = w.item) with
          | some d => s.moveFail k m d 0x05 pa d.elems d.elems
          | none => s
        | .thread .. =>
          let s : State := if w.chunks.flatten.all (fun c => c.2.1.isEmpty) then
              { s with comp := { s.comp with given := s.comp.given ++ [w.who] } }
            else s
          s.opFail (holdRecord w pa)
        | _ => s.opFail (holdRecord w pa))

end Sys2Proof.Machine
end

