-- ==== Sys2Proof/Machine/ManageRows.lean ====
section
/-! DEFINITION. Management, security and debug (23_manage_debug.md): memory-encryption keys, debug access, trace, the I3C target with
MCTP, PLDM and SPDM, firmware update, boundary scan. -/

namespace Sys2Proof.Machine

/-! Keys (R699 to R701). -/

/-- A CTL_KEY_MAP entry names a context's key: the granules that do. -/
def State.keyGranules (s : State) (c : Nat) : List Nat :=
  s.regs.flatMap (fun e =>
    if A.keyMap 0 ≤ e.1 && e.1 < A.keyMap 3072 then
      ((List.range 4).filter (fun i => bitsOf e.2.toNat (16 * i) 9 = 256 + c)).map (4 * ((e.1 - A.keyMap 0) / 8) + ·)
    else [])

/-- CTX_KEY_SET (R700): a key that replaces one that entries name leaves their granules undefined (R701). -/
def State.ctxKeySet (s : State) (ch : Nat) (p : Packet) : State :=
  let c := bitsOf (pword p 0) 0 8
  let mode := bitsOf (pword p 0) 8 2
  s.orFail ch ((checkWords p [0x3FF]).orElse (fun _ => firstFail
    [(mode ≠ 1 && mode ≠ 2, St.invalid), (s.eclipse || (mode = 2 && !(s.keyGranules c).isEmpty), St.busy)])) fun s =>
    let s : State :=
      if mode = 1 then
        { (s.keyGranules c).foldl (fun s g => s.dropGranule g) s with mg := { s.mg with keys := insertNat s.mg.keys c } }
      else { s with mg := { s.mg with keys := s.mg.keys.filter (· ≠ c) } }
    s.reply ch St.ok

/-- CTX_KEY_SET with MODE GENERATE. -/
def execCtxKeyGenerate (ch : Nat) (p : Packet) (s : State) : Res := cmd ch 0xE00 p s fun s => s.ctxKeySet ch p
/-- CTX_KEY_SET with MODE CLEAR. -/
def execCtxKeyClear (ch : Nat) (p : Packet) (s : State) : Res := cmd ch 0xE00 p s fun s => s.ctxKeySet ch p

/-! Debug access (R702, R703). -/

/-- Number of Iamet's debug key. -/
def debugKey : Nat := 1

/-- A token with its nonce (R703). -/
def State.tokenOk (s : State) (nonce : List Word) (p : Packet) : Bool :=
  let msg := leBytes 8 s.part.serial ++ nonce.flatMap (fun w => leBytes 8 w.toNat) ++ leBytes 8 (pword p 1)
  ecdsaVerify (Config.iametKey debugKey) (sha384 msg) ((List.range 12).flatMap (fun i => leBytes 8 (pword p (2 + i))))

/-- DEBUG_UNLOCK: its MODE decides. -/
def State.debugUnlock (s : State) (ch : Nat) (p : Packet) : State :=
  let w := pword p 0
  let c := bitsOf w 8 8
  let mode := bitsOf w 0 2
  s.orFail ch (firstFail
    [(p.length ≠ (if mode = 3 then 128 else 24), St.badLength), (w &&& (2 ^ 64 - 1 - 0xFF03) ≠ 0 || (mode = 3 && pword p 1 ≠ 0), St.invalid)])
  fun s =>
  match mode with
  | 0 =>
    s.orFail ch (if s.ctxOpen c then none else some St.notFound) fun s =>
      let l := insertNat s.mg.ctxDebug c
      let s := { s with mg := { s.mg with ctxDebug := l, sticky := s.mg.sticky ||| 1 } }
      (s.setFld A.debugStatus F.debugStatus_OPEN_CTX l.length).reply ch St.ok
  | 1 =>
    let s := s.closeDebug c
    let s := if s.debugOpen c then s else s.stopTrace c
    s.reply ch St.ok
  | 2 =>
    let (ws, s) := (List.range 6).foldl (fun (a : List Word × State) _ => (a.1 ++ [a.2.free.1], a.2.free.2)) ([], s)
    let s := { s with mg := { s.mg with nonce := some ws } }
    (s.setFlag A.debugStatus F.debugStatus_NONCE_HELD true).replyWith ch St.ok ws false
  | _ =>
    let ok : Bool := match s.mg.nonce with | some n => s.tokenOk n p | none => false
    let s := ({ s with mg := { s.mg with nonce := none } }).setFlag A.debugStatus F.debugStatus_NONCE_HELD false
    if ok then
      (({ s with mg := { s.mg with sticky := s.mg.sticky ||| 2 } }).setFlag A.debugStatus F.debugStatus_DEVICE true).reply ch St.ok
    else
      (s.setFld A.debugStatus F.debugStatus_DENIED (satAdd (s.fld A.debugStatus F.debugStatus_DENIED) 1 0xFFFFFFFF)).reply ch St.denied

/-- DEBUG_UNLOCK with MODE CTX_OPEN. -/
def execDebugUnlockCtxOpen (ch : Nat) (p : Packet) (s : State) : Res := cmd ch 0xE01 p s fun s => s.debugUnlock ch p
/-- DEBUG_UNLOCK with MODE CTX_CLOSE. -/
def execDebugUnlockCtxClose (ch : Nat) (p : Packet) (s : State) : Res := cmd ch 0xE01 p s fun s => s.debugUnlock ch p
/-- DEBUG_UNLOCK with MODE NONCE. -/
def execDebugUnlockNonce (ch : Nat) (p : Packet) (s : State) : Res := cmd ch 0xE01 p s fun s => s.debugUnlock ch p
/-- DEBUG_UNLOCK with MODE TOKEN. -/
def execDebugUnlockToken (ch : Nat) (p : Packet) (s : State) : Res := cmd ch 0xE01 p s fun s => s.debugUnlock ch p

/-! Trace (R704 to R707). -/

/-- TRACE_CONFIG (R704). -/
def execTraceConfig (ch : Nat) (p : Packet) (s : State) : Res :=
  cmd ch 0xE02 p s fun s =>
    let w := pword p 0
    let v := pword p 3
    let base := pword p 1
    let bytes := pword p 2
    let us := bitsOf v 32 16
    let cnt := (List.range 8).map (fun i => pword p (4 + i))
    let device := s.flag A.debugStatus F.debugStatus_DEVICE
    let c := bitsOf w 0 8
    s.orFail ch (if p.length ≠ 112 then some St.badLength else none) fun s =>
    s.orFail ch (firstFail
      [(w &&& (2 ^ 64 - 1 - 0x3F07FF) ≠ 0 || 2 ^ 48 ≤ v || base % 4096 ≠ 0 || bytes % 4096 ≠ 0 || bytes = 0 || 2 ^ 30 < bytes
          || us < 10 || !s.tierRange base bytes || cnt.any (fun a => a ≠ 0 && (regAt a).isNone), St.invalid),
       (((bit w 8 || bit w 20) && !device) || (!bit w 8 && !s.debugOpen c), St.denied),
       (s.eclipse, St.busy)]) fun s =>
      let t : Trace := { ctx := c, allCtx := bit w 8, enable := bit w 9, wrap := bit w 10, sources := bitsOf w 16 6, base := base,
                         bytes := bytes, objFirst := bitsOf v 0 16, objCount := bitsOf v 16 16, sampleUs := us, counters := cnt,
                         sampled := s.now }
      let s := { s with mg := { s.mg with trace := some t, due := [] } }
      (s.setFlds A.traceStatus [(F.traceStatus_ACTIVE, b2n t.enable), (F.traceStatus_WRAPPED, 0), (F.traceStatus_INDEX, 0)]).reply ch St.ok

/-- A record of the trace is dropped (R706). -/
def State.traceDrop (s : State) : State :=
  s.setFld A.traceStatus F.traceStatus_DROPPED (satAdd (s.fld A.traceStatus F.traceStatus_DROPPED) 1 0xFFFFFFFF)

/-- A record of an event at a tick written at the write index, through the home slices as STREAM, or dropped (R705, R706); now: it
can be written at once. -/
def State.traceWrite (s : State) (t : Trace) (time source ctx : Nat) (ws : List Nat) (now : Bool) : State :=
  let n := t.bytes / 32
  let i := s.fld A.traceStatus F.traceStatus_INDEX
  if !now || (!t.wrap && decide (n ≤ i)) then s.traceDrop
  else
    let j := i % n
    let w0 := (time - s.board.resetEnd) / 2 % 2 ^ 48 + 2 ^ 48 * (source % 256) + 2 ^ 56 * (ctx % 256)
    let o : Owner := { ctx := ctx, entry := none }
    let bs := (w0 :: (List.range 3).map (fun k => ws.getD k 0)).flatMap (fun w => leBytes 8 w)
    match s.physWrite (t.base + 32 * j) bs false .cc o 2 with
    | (s, .ok ..) =>
      let past := t.wrap && (decide (n ≤ i) || s.flag A.traceStatus F.traceStatus_WRAPPED)
      s.setFlds A.traceStatus [(F.traceStatus_INDEX, if t.wrap then (j + 1) else i + 1), (F.traceStatus_WRAPPED, b2n past)]
    | (s, _) => s.traceDrop

/-- The record due that has a source, a context and words, where every earlier one of its die has been written (R706): what the spec
leaves open of a record is as the event names it. -/
def State.traceDue? (s : State) (source ctx : Nat) (ws : List Nat) : Option TraceDue :=
  (s.mg.due.find? (fun d => d.source = source && d.ctx.all (· = ctx) && d.words.all (· = ws))).filter
    (fun d => s.mg.due.find? (fun x => x.die = d.die) = some d)

/-- TRACE_RECORD_WRITE: a source writes the record that is due: its context and W1 to W3; ok: it can be written at once. -/
def execTraceRecordWrite (source ctx w1 w2 w3 : Nat) (ok : Bool) (s : State) : Res :=
  .next (match s.liveTrace with
    | some t =>
      match s.traceDue? source ctx [w1, w2, w3] with
      | some d => ({ s with mg := { s.mg with due := s.mg.due.erase d } }).traceWrite t d.time source ctx [w1, w2, w3] ok
      | none => s
    | none => s)

/-- TRACE_COUNTER_SAMPLE: the configured counters are sampled (R705 source 5); bit i of ok: the record of counter i can be written at
once. -/
def execTraceCounterSample (ok : Nat) (s : State) : Res :=
  .next (match s.liveTrace with
    | some t =>
      if t.sources.testBit 5 then
        let s := s.notBefore (t.sampled + t.sampleUs * 200)
        let t := { t with sampled := s.now }
        let s := { s with mg := { s.mg with trace := some t } }
        (List.range 8).foldl (fun s i =>
          let a := t.counters.getD i 0
          if a = 0 then s else s.traceWrite t s.now 5 t.ctx [a, (s.rd a).toNat, i] (ok.testBit i)) s
      else s
    | none => s)

/-- Records from index FIRST on that the buffer holds, in order, up to the write index (R707). -/
def State.traceIndices (s : State) (t : Trace) (first : Nat) : List Nat :=
  let n := t.bytes / 32
  let i := s.fld A.traceStatus F.traceStatus_INDEX
  if first < i then rangeFrom first (i - first)
  else if s.flag A.traceStatus F.traceStatus_WRAPPED && decide (first < n) then rangeFrom first (n - first) ++ List.range i
  else []

/-- TRACE_READ (R707). -/
def execTraceRead (ch : Nat) (p : Packet) (s : State) : Res :=
  cmd ch 0xE03 p s fun s =>
    let n := bitsOf (pword p 0) 32 7
    s.orFail ch ((checkWords p [0x7FFFFFFFFF]).orElse (fun _ => firstFail [(n = 0, St.invalid)])) fun s =>
    match s.mg.trace with
    | none => s.reply ch St.notFound
    | some t =>
      let is := (s.traceIndices t (bitsOf (pword p 0) 0 32)).take n
      s.reply ch St.ok ((s.rd A.traceStatus).toNat :: is.flatMap (fun i => s.rdWords (t.base + 32 * i) 4))

/-! The I3C target (R59, R689, R690). The numbers of requests and of answers that the spec does not state are those of the DMTF
standards it cites (log entry 46). -/

/-- An answer leaves over I3C. -/
def State.answers (s : State) (typ code comp : Nat) (ws : List Nat) : State :=
  { s with mg := { s.mg with answers := { typ := typ, code := code, comp := comp, words := ws } :: s.mg.answers } }

/-- An I3C request meets the target while MGMT runs. -/
def State.onI3c (s : State) (f : State → State) : Res := .next (if s.board.mgmtUp then f s else s)

/-- The target's static address, 0x50 plus the strap (R59). -/
def State.i3cStatic (s : State) : Nat := 0x50 + s.fld A.sbStatus F.sbStatus_GEO

/-- The address at which the target answers: the dynamic one once it is assigned (R59). -/
def State.i3cAddr (s : State) : Nat :=
  if s.fld A.mctpStatus F.mctpStatus_DYN_ADDR = 0 then s.i3cStatic else s.fld A.mctpStatus F.mctpStatus_DYN_ADDR

/-- I3C_DYNAMIC_ADDRESS (R59). -/
def execI3cDynamicAddress (addr : Nat) (s : State) : Res :=
  s.onI3c fun s => s.setFld A.mctpStatus F.mctpStatus_DYN_ADDR (addr % 128)

/-- MCTP_SET_ENDPOINT_ID (R689). -/
def execMctpSetEndpointId (eid : Nat) (s : State) : Res :=
  s.onI3c fun s => (s.setFld A.mctpStatus F.mctpStatus_EID (eid % 256)).answers 0 1 0 [eid % 256]

/-- MCTP_GET_ENDPOINT_ID (R689). -/
def execMctpGetEndpointId (s : State) : Res := s.onI3c fun s => s.answers 0 2 0 [s.fld A.mctpStatus F.mctpStatus_EID]

/-- MCTP_GET_ENDPOINT_UUID (R689): the spec states no UUID. -/
def execMctpGetEndpointUuid (s : State) : Res := s.onI3c fun s => s.answers 0 3 0 [Config.mctpIdentity 0, Config.mctpIdentity 1]

/-- MCTP_GET_VERSION_SUPPORT (R689): the spec states no version. -/
def execMctpGetVersionSupport (typ : Nat) (s : State) : Res := s.onI3c fun s => s.answers 0 4 0 [Config.mctpIdentity (2 + typ)]

/-- MCTP_GET_MSG_TYPE_SUPPORT (R689, R690). -/
def execMctpGetMsgTypeSupport (s : State) : Res := s.onI3c fun s => s.answers 0 5 0 [0x00, 0x01, 0x05, 0x7F]

/-- MCTP_GET_VENDOR_MSG_SUPPORT (R689, R690): the enterprise number. -/
def execMctpGetVendorMsgSupport (s : State) : Res := s.onI3c fun s => s.answers 0 6 0 [0xC3A5]

/-- Vendor requests not yet answered (R689). -/
def State.outstanding3c (s : State) : Nat :=
  ([60, 61].map (fun n => (s.chan n).arrived.length + b2n (s.chan n).current.isSome)).foldl (· + ·) 0

/-- VENDOR_MESSAGE: a command packet for channel 60 or 61 (R691); a ninth request is discarded (R689). -/
def execVendorMessage (channel : Nat) (packet : List Byte) (s : State) : Res :=
  s.onI3c fun s =>
    if 1 < channel then s
    else if 8 ≤ s.outstanding3c then
      s.setFld A.mctpStatus F.mctpStatus_DISCARDS (satAdd (s.fld A.mctpStatus F.mctpStatus_DISCARDS) 1 0xFFFF)
    else s.modChan (60 + channel) (fun c => { c with arrived := c.arrived ++ [packet] })

/-! PLDM (R690, R693, R694). -/

/-- CCFW serves PLDM: MEMORY_INIT onward. -/
def State.pldmServed (s : State) : Bool := 2 ≤ s.readiness && s.readiness ≤ 4

/-- The numeric sensors (R693), with their readings. -/
def State.sensor (s : State) (n : Nat) : Option Nat :=
  match n with
  | 1 => some (s.fld A.pwrSenseIn F.pwrSenseIn_MAIN_MV)
  | 2 => some (s.fld A.pwrSenseIn F.pwrSenseIn_MAIN_CA)
  | 3 => some (s.fld A.pwrSenseP F.pwrSenseP_MAIN_W)
  | 4 => some (s.fld A.pwrSenseIn F.pwrSenseIn_BKP_MV)
  | 5 => some (s.fld A.pwrSenseIn F.pwrSenseIn_BKP_CA)
  | 6 => some (s.fld A.pwrSenseP F.pwrSenseP_BKP_W)
  | 7 => some (s.fld A.pwrSenseP F.pwrSenseP_BUS_MV)
  | 16 => some (s.fld A.pwrTempAux F.pwrTempAux_HOST_C)
  | 25 => some (s.fld A.pwrTempAux F.pwrTempAux_INLET_C)
  | 26 => some (s.fld A.pwrTempAux F.pwrTempAux_OUTLET_C)
  | _ =>
    if 8 ≤ n && n ≤ 15 then some (bitsOf (s.rd A.pwrTemp).toNat (8 * (n - 8)) 8)
    else if 17 ≤ n && n ≤ 24 then some (s.fld (A.memCtlStatus ((n - 17) / 2) ((n - 17) % 2)) F.memCtlStatus_TEMP_C)
    else none

/-- The state sensors (R693), with their readings. -/
def State.stateSensor (s : State) (n : Nat) : Option Nat :=
  match n with
  | 32 => some s.readiness
  | 33 => some s.phase
  | 34 => some s.partState
  | 35 => some (bitsOf (s.rd A.alert).toNat 0 16)
  | _ => none

/-- Sensors with a PDR, in order of their identifiers. -/
def sensorIds : List Nat := rangeFrom 1 26 ++ rangeFrom 32 4

/-- A PLDM request is served, or answers ERROR_NOT_READY. -/
def State.pldm (s : State) (code : Nat) (served : Bool) (f : State → State) : Res :=
  s.onI3c fun s => if served then f s else s.answers 1 code 4 []

/-- PLDM_GET_PDR_REPO_INFO (R693): the number of records. -/
def execPldmGetPdrRepoInfo (s : State) : Res := s.pldm 0x50 s.pldmServed fun s => s.answers 1 0x50 0 [sensorIds.length]

/-- PLDM_GET_PDR (R693): record n, and the next one's number: the sensor, and whether it is a state sensor. -/
def execPldmGetPdr (n : Nat) (s : State) : Res :=
  s.pldm 0x51 s.pldmServed fun s =>
    match sensorIds[n]? with
    | some i => s.answers 1 0x51 0 [i, b2n (decide (32 ≤ i)), if n + 1 < sensorIds.length then n + 1 else 0]
    | none => s.answers 1 0x51 0x82 []

/-- PLDM_GET_SENSOR_READING: input sensors are read in every state (R53, R690). -/
def execPldmGetSensorReading (n : Nat) (s : State) : Res :=
  s.pldm 0x11 (s.pldmServed || (1 ≤ n && n ≤ 7)) fun s =>
    match s.sensor n with
    | some v => s.answers 1 0x11 0 [v]
    | none => s.answers 1 0x11 0x80 []

/-- PLDM_GET_STATE_SENSOR_READINGS. -/
def execPldmGetStateSensorReadings (n : Nat) (s : State) : Res :=
  s.pldm 0x21 s.pldmServed fun s =>
    match s.stateSensor n with
    | some v => s.answers 1 0x21 0 [v]
    | none => s.answers 1 0x21 0x80 []

/-- PLDM_SET_EVENT_RECEIVER (R692, R712). -/
def execPldmSetEventReceiver (on : Bool) (s : State) : Res :=
  s.pldm 0x04 s.pldmServed fun s => (s.setFlag A.mctpStatus F.mctpStatus_EVT_RCVR on).answers 1 0x04 0 []

/-- The ROM or CCFW serves firmware update. -/
def State.updateServed (s : State) : Bool := s.pldmServed || (s.readiness = 15 && !s.mgmtAlone)

/-- The slot other than the one in use, or, in FAILED, than the preferred one: true for B (R694). -/
def State.targetSlot (s : State) : Bool :=
  if s.readiness = 15 then !s.flag A.bootCfg F.bootCfg_SLOT_PREF else !s.flag A.bootStatus F.bootStatus_SLOT_USED

/-- A slot's images replaced. -/
def State.putSlot (s : State) (b : Bool) (l : List BootImage) : State :=
  if b then { s with board := { s.board with slotB := l } } else { s with board := { s.board with slotA := l } }

/-- An image that fails every check: what a slot holds where nothing whole has been written. -/
def blankImage : BootImage :=
  { magic := 0, typ := 0, hdrLen := 0, svn := 0, version := 0, loadAddr := 0, entry := 0, bodyLen := 0, digest := [], sig := [],
    reservedZero := false, body := [] }

/-- PLDM_REQUEST_UPDATE (R694): the target slot fails R135 from here until it is written whole. -/
def execPldmRequestUpdate (s : State) : Res :=
  s.pldm 0x10 (s.updateServed && s.readiness ≠ 2 && !s.mainGone) fun s =>
    if s.mg.update.isSome then s.answers 1 0x10 0x81 []
    else
      let b := s.targetSlot
      let s := s.putSlot b (List.replicate 4 blankImage)
      let s := { s with mg := { s.mg with update := some { target := b, written := [], verified := [] } } }
      (s.setFlag A.mctpStatus F.mctpStatus_UPDATING true).answers 1 0x10 0 []

/-- An update command while one is open. -/
def State.inUpdate (s : State) (code : Nat) (f : Update → State → State) : Res :=
  s.pldm code s.updateServed fun s => match s.mg.update with | some u => f u s | none => s.answers 1 code 0x80 []

/-- PLDM_UPDATE_COMPONENT: a component written into its place in the target slot (R694). -/
def execPldmUpdateComponent (typ : Nat) (image : BootImage) (s : State) : Res :=
  s.inUpdate 0x14 fun u s =>
    if typ < 1 || 4 < typ then s.answers 1 0x14 1 []
    else
      let l := if u.target then s.board.slotB else s.board.slotA
      let s := s.putSlot u.target (l.set (typ - 1) image)
      let u := { u with written := insertNat u.written typ, verified := u.verified.filter (· ≠ typ) }
      ({ s with mg := { s.mg with update := some u } }).answers 1 0x14 0 []

/-- PLDM_VERIFY_COMPLETE: success where the written component passes R134 (R694). -/
def execPldmVerifyComplete (typ : Nat) (s : State) : Res :=
  s.inUpdate 0x17 fun u s =>
    let l := if u.target then s.board.slotB else s.board.slotA
    let passes : Bool := (l[typ - 1]?).any (fun i => s.imageOk i typ)
    let ok : Bool := passes && u.written.contains typ
    let done : List Nat := if ok then insertNat u.verified typ else u.verified.filter (· ≠ typ)
    let u : Update := { u with verified := done }
    ({ s with mg := { s.mg with update := some u } }).answers 1 0x17 (b2n (!ok)) []

/-- PLDM_ACTIVATE_FIRMWARE: the target slot becomes preferred, as a persistent write (R694). -/
def execPldmActivateFirmware (s : State) : Res :=
  s.inUpdate 0x1A fun u s =>
    if u.verified.length ≠ 4 then s.answers 1 0x1A 0x87 []
    else if s.worn A.bootCfg || s.supplyEvent then s.answers 1 0x1A 1 []
    else
      let s := ((s.setFlag A.bootCfg F.bootCfg_SLOT_PREF u.target).stampChange [A.bootCfg]).wear A.bootCfg
      let s := { s with mg := { s.mg with update := none } }
      (s.setFlag A.mctpStatus F.mctpStatus_UPDATING false).answers 1 0x1A 0 []

/-! SPDM (R690, R695, R696). -/

/-- CCFW or the ROM serves SPDM; every other state answers ERROR with code Busy. -/
def State.spdm (s : State) (code : Nat) (f : State → State) : Res :=
  s.onI3c fun s =>
    if s.pldmServed || (s.readiness = 15 && !s.mgmtAlone) then f s else s.answers 5 code 0x03 []

/-- Bytes as answer words. -/
def byteWords (bs : List Byte) : List Nat := bs.map (·.toNat)

/-- SPDM_GET_VERSION: 1.3. -/
def execSpdmGetVersion (s : State) : Res := s.spdm 0x84 fun s => s.answers 5 0x84 0 [0x13]

/-- SPDM_GET_CAPABILITIES: CERT_CAP, CHAL_CAP, MEAS_CAP with signature. -/
def execSpdmGetCapabilities (s : State) : Res := s.spdm 0xE1 fun s => s.answers 5 0xE1 0 [0x16]

/-- SPDM_NEGOTIATE_ALGORITHMS: what the requester offers of ECDSA P-384 and SHA-384; the measurement hash is SHA-384. -/
def execSpdmNegotiateAlgorithms (asym hash : Nat) (s : State) : Res :=
  s.spdm 0xE3 fun s => s.answers 5 0xE3 0 [asym &&& 0x80, hash &&& 0x02, 0x04]

/-- The digest of the certificate chain. -/
def chainDigest : List Byte := digestBytes (sha384 Config.certChain)

/-- SPDM_GET_DIGESTS: slot 0 only. -/
def execSpdmGetDigests (s : State) : Res := s.spdm 0x81 fun s => s.answers 5 0x81 0 (byteWords chainDigest)

/-- SPDM_GET_CERTIFICATE: a portion of slot 0's chain, and what remains after it. -/
def execSpdmGetCertificate (slot off len : Nat) (s : State) : Res :=
  s.spdm 0x82 fun s =>
    if slot ≠ 0 then s.answers 5 0x82 0x01 []
    else
      let part := (Config.certChain.drop off).take len
      s.answers 5 0x82 0 ((Config.certChain.length - off - part.length) :: byteWords part)

/-- A fresh nonce of 32 bytes from the DRBG (R688): free. -/
def State.drbg (s : State) : List Byte × State :=
  (List.range 4).foldl (fun (a : List Byte × State) _ => (a.1 ++ leBytes 8 a.2.free.1.toNat, a.2.free.2)) ([], s)

/-- SPDM_CHALLENGE: a signature by the identity key. -/
def execSpdmChallenge (slot : Nat) (nonce : List Byte) (s : State) : Res :=
  s.spdm 0x83 fun s =>
    if slot ≠ 0 then s.answers 5 0x83 0x01 []
    else
      let (n, s) := s.drbg
      let body := chainDigest ++ n
      s.answers 5 0x83 0 (byteWords (body ++ Config.identitySign (nonce ++ body)))

/-- The content of a measurement index (R696). -/
def State.measurement (s : State) (i : Nat) : List Byte :=
  if i = 9 then leBytes 8 (s.readReg A.bootStatus).1.toNat
  else if i = 10 then leBytes 8 s.mg.sticky
  else (List.range 6).flatMap (fun w => leBytes 8 (s.rd (A.measure (i - 1) w)).toNat)

/-- SPDM_GET_MEASUREMENTS: the number of indices for index 0, every one for 0xFF, or one; signed on request. -/
def execSpdmGetMeasurements (index : Nat) (sign : Bool) (nonce : List Byte) (s : State) : Res :=
  s.spdm 0xE0 fun s =>
    if 10 < index && index ≠ 0xFF then s.answers 5 0xE0 0x01 []
    else
      let is := if index = 0 then [] else if index = 0xFF then rangeFrom 1 10 else [index]
      let (n, s) := s.drbg
      let body := is.flatMap s.measurement ++ n
      s.answers 5 0xE0 0 (10 :: byteWords (body ++ (if sign then Config.identitySign (nonce ++ body) else [])))

/-- SPDM_UNSUPPORTED_REQUEST: ERROR with code UnsupportedRequest (R695). -/
def execSpdmUnsupportedRequest (code : Nat) (s : State) : Res := s.spdm code fun s => s.answers 5 code 0x07 []

/-! Boundary scan (R60, R708, R709). -/

/-- The TAP works while either input is good (R60). An instruction reaches it only while TRST_L is high: low, TRST_L holds
Test-Logic-Reset, and no TAP command is one (log entry 184). -/
def State.onTap (s : State) (f : State → State) : Res := .next (if s.board.main.good || s.board.backup.good then f s else s)

/-- EXTEST, CLAMP and HIGHZ act on the pins (R708). -/
def State.tapDrives (s : State) : Bool := s.readiness = 0 || s.readiness = 15

/-- An open-drain output as it stands on the pin: driven low by the module, or by the boundary cell while EXTEST or CLAMP acts, or
released while HIGHZ does. -/
def State.pinLow (s : State) (cell : Nat) (low : Bool) : Bool :=
  if s.tapDrives && (s.mg.tap.ir = 0x00 || s.mg.tap.ir = 0x04) then !s.mg.tap.boundary.testBit cell
  else if s.tapDrives && s.mg.tap.ir = 0x05 then false
  else low

/-- ALERT_L, THERM_L, BRAKED_L and ECLIPSE_L as they stand on the pins (R57, R708, R709). -/
def State.outputPins (s : State) : List Bool :=
  [s.pinLow 2 s.alertLow, s.pinLow 3 s.thermLow, s.pinLow 4 s.brakedLow, s.pinLow 5 s.eclipseLow]

/-- The fourteen cells as captured: the input pins as given (RESET_L and BRAKE_L in bits 0 and 1, I3C_SCL in 6, I3C_SDA in 7), the outputs
as they stand, GEO as sampled. -/
def State.capture (s : State) (pins : Nat) : Nat :=
  let outs := (List.range 4).foldl (fun n i => n + 2 ^ (2 + i) * b2n (!(s.outputPins.getD i false))) 0
  (pins &&& 0x3C3) + outs + 2 ^ 10 * s.fld A.sbStatus F.sbStatus_GEO

/-- An instruction takes hold, and a scan shifts bits out. -/
def State.tapTo (s : State) (ir out : Nat) : State := { s with mg := { s.mg with tap := { s.mg.tap with ir := ir, out := out } } }

/-- The boundary register loaded. -/
def State.tapLoad (s : State) (cells : Nat) : State := { s with mg := { s.mg with tap := { s.mg.tap with boundary := cells % 2 ^ 14 } } }

/-- TAP_RESET: Test-Logic-Reset, with IDCODE selected (R60, R708). -/
def execTapReset (s : State) : Res := s.onTap fun s => s.tapTo 0x01 s.mg.tap.out

/-- TAP_EXTEST: the boundary register is captured and loaded; its cells act on the pins in POWER_HOLD and FAILED. -/
def execTapExtest (cells pins : Nat) (s : State) : Res := s.onTap fun s => (s.tapTo 0x00 (s.capture pins)).tapLoad cells

/-- TAP_IDCODE. -/
def execTapIdcode (s : State) : Res := s.onTap fun s => s.tapTo 0x01 0x152545A7

/-- TAP_SAMPLE_PRELOAD. -/
def execTapSamplePreload (cells pins : Nat) (s : State) : Res := s.onTap fun s => (s.tapTo 0x02 (s.capture pins)).tapLoad cells

/-- TAP_CLAMP: bypass is selected. -/
def execTapClamp (s : State) : Res := s.onTap fun s => s.tapTo 0x04 0

/-- TAP_HIGHZ: bypass is selected. -/
def execTapHighz (s : State) : Res := s.onTap fun s => s.tapTo 0x05 0

/-- TAP_DEBUG_ACCESS: with device debug a register of control space is read, or an immediate one written; else bypass. The layout of
the 96 bits is not stated: address, value and direction are operands. -/
def execTapDebugAccess (write : Bool) (addr : Nat) (value : Word) (s : State) : Res :=
  s.onTap fun s =>
    if !s.flag A.debugStatus F.debugStatus_DEVICE || s.mgmtAlone then s.tapTo 0x40 0
    else match regAt addr with
      | none => s.tapTo 0x40 0
      | some (r, is) =>
        if !write then
          let (v, s) := s.readReg addr
          s.tapTo 0x40 v.toNat
        else if r.cls = .immediate && !s.regUnitGone r is then
          match s.writeNow r is addr value (BitVec.allOnes 64) with
          | .ok s => s.tapTo 0x40 0
          | .error _ => s.tapTo 0x40 0
        else s.tapTo 0x40 0

/-- TAP_BYPASS: every other opcode. -/
def execTapBypass (op : Nat) (s : State) : Res := s.onTap fun s => s.tapTo (op % 256) 0

end Sys2Proof.Machine
end

