-- ==== Sys2Proof/Machine/Dispatch.lean ====
section
/-! DEFINITION. One arm per command: each calls its meaning, or rejects the command by name. -/

namespace Sys2Proof.Machine

def exec (i : Instr) (s : State) : Host.Outcome State Fault Refusal :=
  match i with
  | .softStartRamp inp mv => Sys2Proof.Machine.execSoftStartRamp inp mv s
  | .softStartComplete inp => Sys2Proof.Machine.execSoftStartComplete inp s
  | .mgmtStart => Sys2Proof.Machine.execMgmtStart s
  | .inputGood inp => Sys2Proof.Machine.execInputGood inp s
  | .inputLost inp mv => Sys2Proof.Machine.execInputLost inp mv s
  | .uvloStop => Sys2Proof.Machine.execUvloStop s
  | .moduleRemoval => Sys2Proof.Machine.execModuleRemoval s
  | .railGroupGood => Sys2Proof.Machine.execRailGroupGood s
  | .railFail => Sys2Proof.Machine.execRailFail s
  | .resetPin => Sys2Proof.Machine.execResetPin s
  | .moduleResetEnd pinUs brakeLow geo dieC stackC bonds links => Sys2Proof.Machine.execModuleResetEnd pinUs brakeLow geo dieC stackC bonds links s
  | .memoryTrainingDone badStacks badPackages repaired => Sys2Proof.Machine.execMemoryTrainingDone badStacks badPackages repaired s
  | .memoryInitDone badUnits => Sys2Proof.Machine.execMemoryInitDone badUnits s
  | .brakeRecognised => Sys2Proof.Machine.execBrakeRecognised s
  | .brakedAssert => Sys2Proof.Machine.execBrakedAssert s
  | .brakeRelease => Sys2Proof.Machine.execBrakeRelease s
  | .brakeStuck => Sys2Proof.Machine.execBrakeStuck s
  | .brakeStuckClear => Sys2Proof.Machine.execBrakeStuckClear s
  | .refLoss => Sys2Proof.Machine.execRefLoss s
  | .thermalTrip stack index tempC => Sys2Proof.Machine.execThermalTrip stack index tempC s
  | .generatorLock isl => Sys2Proof.Machine.execGeneratorLock isl s
  | .droopDetect isl cycles => Sys2Proof.Machine.execDroopDetect isl cycles s
  | .droopRecover isl => Sys2Proof.Machine.execDroopRecover isl s
  | .freqGlideComplete isl => Sys2Proof.Machine.execFreqGlideComplete isl s
  | .cmdTailDoorbell ch src v => Sys2Proof.Machine.execCmdTailDoorbell ch src v s
  | .rplHeadDoorbell ch src v => Sys2Proof.Machine.execRplHeadDoorbell ch src v s
  | .directStoreDrop addr src => Sys2Proof.Machine.execDirectStoreDrop addr src s
  | .packetDequeue ch => Sys2Proof.Machine.execPacketDequeue ch s
  | .ringFault ch => Sys2Proof.Machine.execRingFault ch s
  | .txnTimeout ch => Sys2Proof.Machine.execTxnTimeout ch s
  | .nop ch p => Sys2Proof.Machine.execNop ch p s
  | .beginCmd ch p => Sys2Proof.Machine.execBeginCmd ch p s
  | .commitCmd ch p => Sys2Proof.Machine.execCommitCmd ch p s
  | .commitDurable ch ok => Sys2Proof.Machine.execCommitDurable ch ok s
  | .rollback ch p => Sys2Proof.Machine.execRollback ch p s
  | .regRead ch p => Sys2Proof.Machine.execRegRead ch p s
  | .regWrite ch p => Sys2Proof.Machine.execRegWrite ch p s
  | .rwpWriteDurable ch ok => Sys2Proof.Machine.execRwpWriteDurable ch ok s
  | .channelReset ch p => Sys2Proof.Machine.execChannelReset ch p s
  | .persInfo ch p => Sys2Proof.Machine.execPersInfo ch p s
  | .identify ch p => Sys2Proof.Machine.execIdentify ch p s
  | .readyStatus ch p => Sys2Proof.Machine.execReadyStatus ch p s
  | .readyAdvance ch p => Sys2Proof.Machine.execReadyAdvance ch p s
  | .resetModule ch p => Sys2Proof.Machine.execResetModule ch p s
  | .resetTower ch p => Sys2Proof.Machine.execResetTower ch p s
  | .towerWritebackDone k => Sys2Proof.Machine.execTowerWritebackDone k s
  | .towerWritebackTimeout k lost => Sys2Proof.Machine.execTowerWritebackTimeout k lost s
  | .resetContext ch p => Sys2Proof.Machine.execResetContext ch p s
  | .contextResetDone ctx pages => Sys2Proof.Machine.execContextResetDone ctx pages s
  | .resetUnit ch p => Sys2Proof.Machine.execResetUnit ch p s
  | .unitResetDone idx => Sys2Proof.Machine.execUnitResetDone idx s
  | .ctxOpen ch p => Sys2Proof.Machine.execCtxOpen ch p s
  | .ctxClose ch p => Sys2Proof.Machine.execCtxClose ch p s
  | .queueCreate ch p => Sys2Proof.Machine.execQueueCreate ch p s
  | .queueDestroy ch p => Sys2Proof.Machine.execQueueDestroy ch p s
  | .queueStop ch p => Sys2Proof.Machine.execQueueStop ch p s
  | .queueStopComplete q => Sys2Proof.Machine.execQueueStopComplete q s
  | .queueStart ch p => Sys2Proof.Machine.execQueueStart ch p s
  | .queueStatus ch p => Sys2Proof.Machine.execQueueStatus ch p s
  | .xltInvalidate ch p => Sys2Proof.Machine.execXltInvalidate ch p s
  | .xltEpochComplete ctx => Sys2Proof.Machine.execXltEpochComplete ctx s
  | .xltEpochStatus ch p => Sys2Proof.Machine.execXltEpochStatus ch p s
  | .memPrefetchMigrate ch p => Sys2Proof.Machine.execMemPrefetchMigrate ch p s
  | .migrateCopyDone idx => Sys2Proof.Machine.execMigrateCopyDone idx s
  | .memPrefetchPush ch p => Sys2Proof.Machine.execMemPrefetchPush ch p s
  | .memPrefetchPull ch p => Sys2Proof.Machine.execMemPrefetchPull ch p s
  | .memAdviseClear ch p => Sys2Proof.Machine.execMemAdviseClear ch p s
  | .memAdvisePreferTier ch p => Sys2Proof.Machine.execMemAdvisePreferTier ch p s
  | .memAdviseReadMostly ch p => Sys2Proof.Machine.execMemAdviseReadMostly ch p s
  | .memAdviseAccessedBy ch p => Sys2Proof.Machine.execMemAdviseAccessedBy ch p s
  | .memAdviseEvictFirst ch p => Sys2Proof.Machine.execMemAdviseEvictFirst ch p s
  | .l2PrefetchRange ch p => Sys2Proof.Machine.execL2PrefetchRange ch p s
  | .l2FlushRange ch p => Sys2Proof.Machine.execL2FlushRange ch p s
  | .l2InvalRange ch p => Sys2Proof.Machine.execL2InvalRange ch p s
  | .l2RangeComplete idx => Sys2Proof.Machine.execL2RangeComplete idx s
  | .l2Pin ch p => Sys2Proof.Machine.execL2Pin ch p s
  | .l2PinComplete k => Sys2Proof.Machine.execL2PinComplete k s
  | .l2Unpin ch p => Sys2Proof.Machine.execL2Unpin ch p s
  | .memErasureMark ch p => Sys2Proof.Machine.execMemErasureMark ch p s
  | .memErasureClear ch p => Sys2Proof.Machine.execMemErasureClear ch p s
  | .markDurable idx ok => Sys2Proof.Machine.execMarkDurable idx ok s
  | .memScrubRange ch p => Sys2Proof.Machine.execMemScrubRange ch p s
  | .memScrubRangeComplete idx errs => Sys2Proof.Machine.execMemScrubRangeComplete idx errs s
  | .beamLoad ch p => Sys2Proof.Machine.execBeamLoad ch p s
  | .beamStart ch p => Sys2Proof.Machine.execBeamStart ch p s
  | .beamStopPause ch p => Sys2Proof.Machine.execBeamStopPause ch p s
  | .beamStopAbort ch p => Sys2Proof.Machine.execBeamStopAbort ch p s
  | .beamAbortComplete k cycles => Sys2Proof.Machine.execBeamAbortComplete k cycles s
  | .beamStep ch p => Sys2Proof.Machine.execBeamStep ch p s
  | .scaleRead ch p => Sys2Proof.Machine.execScaleRead ch p s
  | .scaleWriteWrite ch p => Sys2Proof.Machine.execScaleWriteWrite ch p s
  | .scaleWriteAdvance ch p => Sys2Proof.Machine.execScaleWriteAdvance ch p s
  | .scaleWriteClear ch p => Sys2Proof.Machine.execScaleWriteClear ch p s
  | .tcGroupHalt ch p => Sys2Proof.Machine.execTcGroupHalt ch p s
  | .tcGroupResume ch p => Sys2Proof.Machine.execTcGroupResume ch p s
  | .tcGroupStep ch p => Sys2Proof.Machine.execTcGroupStep ch p s
  | .tcGroupRead ch p => Sys2Proof.Machine.execTcGroupRead ch p s
  | .tcGroupWrite ch p => Sys2Proof.Machine.execTcGroupWrite ch p s
  | .lntProgramLoad ch p => Sys2Proof.Machine.execLntProgramLoad ch p s
  | .lntCancel ch p => Sys2Proof.Machine.execLntCancel ch p s
  | .synBind ch p => Sys2Proof.Machine.execSynBind ch p s
  | .synRelease ch p => Sys2Proof.Machine.execSynRelease ch p s
  | .fabIdSet ch p => Sys2Proof.Machine.execFabIdSet ch p s
  | .fabRouteWrite ch p => Sys2Proof.Machine.execFabRouteWrite ch p s
  | .fabTagAdd ch p => Sys2Proof.Machine.execFabTagAdd ch p s
  | .fabTagRemove ch p => Sys2Proof.Machine.execFabTagRemove ch p s
  | .partQuiesce ch p => Sys2Proof.Machine.execPartQuiesce ch p s
  | .quiesceDrainDone => Sys2Proof.Machine.execQuiesceDrainDone s
  | .quiesceDrainTimeout => Sys2Proof.Machine.execQuiesceDrainTimeout s
  | .flarePrepare ch p => Sys2Proof.Machine.execFlarePrepare ch p s
  | .flareCommit ch p => Sys2Proof.Machine.execFlareCommit ch p s
  | .flareAbort ch p => Sys2Proof.Machine.execFlareAbort ch p s
  | .collSetup ch p => Sys2Proof.Machine.execCollSetup ch p s
  | .collLagRead ch p => Sys2Proof.Machine.execCollLagRead ch p s
  | .aggAttach ch p => Sys2Proof.Machine.execAggAttach ch p s
  | .aggDetach ch p => Sys2Proof.Machine.execAggDetach ch p s
  | .errRecordRead ch p => Sys2Proof.Machine.execErrRecordRead ch p s
  | .errRecordAck ch p => Sys2Proof.Machine.execErrRecordAck ch p s
  | .errInjectArm ch p => Sys2Proof.Machine.execErrInjectArm ch p s
  | .errInjectDisarm ch p => Sys2Proof.Machine.execErrInjectDisarm ch p s
  | .pwrEnergyReport ch p => Sys2Proof.Machine.execPwrEnergyReport ch p s
  | .pwrSupplyStatus ch p => Sys2Proof.Machine.execPwrSupplyStatus ch p s
  | .ageReplan ch p => Sys2Proof.Machine.execAgeReplan ch p s
  | .unitFence ch p => Sys2Proof.Machine.execUnitFence ch p s
  | .unitUnfence ch p => Sys2Proof.Machine.execUnitUnfence ch p s
  | .marginRead ch p => Sys2Proof.Machine.execMarginRead ch p s
  | .ctxKeyGenerate ch p => Sys2Proof.Machine.execCtxKeyGenerate ch p s
  | .ctxKeyClear ch p => Sys2Proof.Machine.execCtxKeyClear ch p s
  | .debugUnlockCtxOpen ch p => Sys2Proof.Machine.execDebugUnlockCtxOpen ch p s
  | .debugUnlockCtxClose ch p => Sys2Proof.Machine.execDebugUnlockCtxClose ch p s
  | .debugUnlockNonce ch p => Sys2Proof.Machine.execDebugUnlockNonce ch p s
  | .debugUnlockToken ch p => Sys2Proof.Machine.execDebugUnlockToken ch p s
  | .traceConfig ch p => Sys2Proof.Machine.execTraceConfig ch p s
  | .traceRead ch p => Sys2Proof.Machine.execTraceRead ch p s
  | .traceRecordWrite source ctx w1 w2 w3 ok => Sys2Proof.Machine.execTraceRecordWrite source ctx w1 w2 w3 ok s
  | .traceCounterSample ok => Sys2Proof.Machine.execTraceCounterSample ok s
  | .beamWordIssue k det ext badStore => Sys2Proof.Machine.execBeamWordIssue k det ext badStore s
  | .beamWaitAnswer k cycles => Sys2Proof.Machine.execBeamWaitAnswer k cycles s
  | .beamWaitTimeout k cycles => Sys2Proof.Machine.execBeamWaitTimeout k cycles s
  | .beamFinish k cycles => Sys2Proof.Machine.execBeamFinish k cycles s
  | .heldSignalMove k => Sys2Proof.Machine.execHeldSignalMove k s
  | .signalSend k => Sys2Proof.Machine.execSignalSend k s
  | .tilePassStart k e busy waitW scaleBad => Sys2Proof.Machine.execTilePassStart k e busy waitW scaleBad s
  | .passEnd k e mismatch => Sys2Proof.Machine.execPassEnd k e mismatch s
  | .checkPoint k e mismatch => Sys2Proof.Machine.execCheckPoint k e mismatch s
  | .drainStart k e badRow => Sys2Proof.Machine.execDrainStart k e badRow s
  | .tileCommit k e => Sys2Proof.Machine.execTileCommit k e s
  | .holdStallResume idx cycles => Sys2Proof.Machine.execHoldStallResume idx cycles s
  | .holdTimeout idx cycles => Sys2Proof.Machine.execHoldTimeout idx cycles s
  | .vxePassStreamed k x => Sys2Proof.Machine.execVxePassStreamed k x s
  | .chainComplete k x parity => Sys2Proof.Machine.execChainComplete k x parity s
  | .groupPlace l k c g => Sys2Proof.Machine.execGroupPlace l k c g s
  | .threadLoad k c g lane => Sys2Proof.Machine.execThreadLoad k c g lane s
  | .threadLoadReturn k c g lane rd => Sys2Proof.Machine.execThreadLoadReturn k c g lane rd s
  | .threadStore k c g lane => Sys2Proof.Machine.execThreadStore k c g lane s
  | .threadBranch k c g lane => Sys2Proof.Machine.execThreadBranch k c g lane s
  | .threadLr k c g lane => Sys2Proof.Machine.execThreadLr k c g lane s
  | .threadSc k c g lane => Sys2Proof.Machine.execThreadSc k c g lane s
  | .threadAmo k c g lane retries => Sys2Proof.Machine.execThreadAmo k c g lane retries s
  | .threadFence k c g lane => Sys2Proof.Machine.execThreadFence k c g lane s
  | .threadFenceI k c g lane => Sys2Proof.Machine.execThreadFenceI k c g lane s
  | .threadCsrAccess k c g lane cycle => Sys2Proof.Machine.execThreadCsrAccess k c g lane cycle s
  | .threadEcall k c g lane => Sys2Proof.Machine.execThreadEcall k c g lane s
  | .threadEbreak k c g lane => Sys2Proof.Machine.execThreadEbreak k c g lane s
  | .gconv k c g lane pack => Sys2Proof.Machine.execGconv k c g lane pack s
  | .gconvTimeout k c g lane pack => Sys2Proof.Machine.execGconvTimeout k c g lane pack s
  | .gbar k c g lane => Sys2Proof.Machine.execGbar k c g lane s
  | .barrierStall k c g bar => Sys2Proof.Machine.execBarrierStall k c g bar s
  | .gspin k c g lane => Sys2Proof.Machine.execGspin k c g lane s
  | .gvote k c g lane => Sys2Proof.Machine.execGvote k c g lane s
  | .gshfl k c g lane => Sys2Proof.Machine.execGshfl k c g lane s
  | .gid k c g lane => Sys2Proof.Machine.execGid k c g lane s
  | .gexit k c g lane => Sys2Proof.Machine.execGexit k c g lane s
  | .gfence k c g lane => Sys2Proof.Machine.execGfence k c g lane s
  | .gldaq k c g lane => Sys2Proof.Machine.execGldaq k c g lane s
  | .gstrl k c g lane => Sys2Proof.Machine.execGstrl k c g lane s
  | .gsig k c g lane => Sys2Proof.Machine.execGsig k c g lane s
  | .gwait k c g lane => Sys2Proof.Machine.execGwait k c g lane s
  | .gwaitWake k c g lane => Sys2Proof.Machine.execGwaitWake k c g lane s
  | .gwaitTimeout k c g lane => Sys2Proof.Machine.execGwaitTimeout k c g lane s
  | .mxissue k c g lane => Sys2Proof.Machine.execMxissue k c g lane s
  | .vxissue k c g lane => Sys2Proof.Machine.execVxissue k c g lane s
  | .fmma k c g lane => Sys2Proof.Machine.execFmma k c g lane s
  | .sidePlaneAccess m idx singles doubles waits => Sys2Proof.Machine.execSidePlaneAccess m idx singles doubles waits s
  | .moveDescStart k m => Sys2Proof.Machine.execMoveDescStart k m s
  | .moveDescComplete k m idx => Sys2Proof.Machine.execMoveDescComplete k m idx s
  | .moveStop k m => Sys2Proof.Machine.execMoveStop k m s
  | .moveRequestRetry k m => Sys2Proof.Machine.execMoveRequestRetry k m s
  | .l2Read k sl idx corr bad tagBad => Sys2Proof.Machine.execL2Read k sl idx corr bad tagBad s
  | .l2Write k sl idx => Sys2Proof.Machine.execL2Write k sl idx s
  | .l2MissFill k sl idx => Sys2Proof.Machine.execL2MissFill k sl idx s
  | .l2ReduceWrite k sl idx cycles => Sys2Proof.Machine.execL2ReduceWrite k sl idx cycles s
  | .redStallTimeout k sl idx cycles => Sys2Proof.Machine.execRedStallTimeout k sl idx cycles s
  | .hostRecallResponse k sl idx off data poison => Sys2Proof.Machine.execHostRecallResponse k sl idx off data poison s
  | .hostCacheRead pa own who => Sys2Proof.Machine.execHostCacheRead pa own who s
  | .hostWriteback pa data poison keep => Sys2Proof.Machine.execHostWriteback pa data poison keep s
  | .memCtlRead pa err ctx class0 ode => Sys2Proof.Machine.execMemCtlRead pa err ctx class0 ode s
  | .memCtlWrite pa rmw class0 => Sys2Proof.Machine.execMemCtlWrite pa rmw class0 s
  | .markPeriodEnd k u => Sys2Proof.Machine.execMarkPeriodEnd k u s
  | .patrolScrub k u err => Sys2Proof.Machine.execPatrolScrub k u err s
  | .requestAgeing k u n => Sys2Proof.Machine.execRequestAgeing k u n s
  | .stackTempRead k u tempC cycles => Sys2Proof.Machine.execStackTempRead k u tempC cycles s
  | .busTempIndication k u hot => Sys2Proof.Machine.execBusTempIndication k u hot s
  | .memRefresh k u => Sys2Proof.Machine.execMemRefresh k u s
  | .memLinkRetry k u ch => Sys2Proof.Machine.execMemLinkRetry k u ch s
  | .memChannelRetrain k u ch => Sys2Proof.Machine.execMemChannelRetrain k u ch s
  | .memChannelDown k u ch => Sys2Proof.Machine.execMemChannelDown k u ch s
  | .lntDispatch q n => Sys2Proof.Machine.execLntDispatch q n s
  | .lntRequestStart n corr bad => Sys2Proof.Machine.execLntRequestStart n corr bad s
  | .lntRecordScan n => Sys2Proof.Machine.execLntRecordScan n s
  | .lntRequestComplete n => Sys2Proof.Machine.execLntRequestComplete n s
  | .lntMerge n => Sys2Proof.Machine.execLntMerge n s
  | .xltWalk k idx => Sys2Proof.Machine.execXltWalk k idx s
  | .synObjAdd idx => Sys2Proof.Machine.execSynObjAdd idx s
  | .synObjSet idx => Sys2Proof.Machine.execSynObjSet idx s
  | .synObjArrive idx => Sys2Proof.Machine.execSynObjArrive idx s
  | .synWaitQuery idx => Sys2Proof.Machine.execSynWaitQuery idx s
  | .objWindowLoad obj off peer who => Sys2Proof.Machine.execObjWindowLoad obj off peer who s
  | .objWindowAdd obj v peer => Sys2Proof.Machine.execObjWindowAdd obj v peer s
  | .objWindowSet obj v peer => Sys2Proof.Machine.execObjWindowSet obj v peer s
  | .objWindowArrive obj v peer => Sys2Proof.Machine.execObjWindowArrive obj v peer s
  | .notifyArm obj v peer => Sys2Proof.Machine.execNotifyArm obj v peer s
  | .queueEntryTake q => Sys2Proof.Machine.execQueueEntryTake q s
  | .queueEntryStart q => Sys2Proof.Machine.execQueueEntryStart q s
  | .queueEntryWaitTimeout q => Sys2Proof.Machine.execQueueEntryWaitTimeout q s
  | .queueEntryComplete q n => Sys2Proof.Machine.execQueueEntryComplete q n s
  | .entryHoldMax q => Sys2Proof.Machine.execEntryHoldMax q s
  | .bondFrameReplay k c times => Sys2Proof.Machine.execBondFrameReplay k c times s
  | .bondRetrain k c => Sys2Proof.Machine.execBondRetrain k c s
  | .ucieFlitReplay l far times recent => Sys2Proof.Machine.execUcieFlitReplay l far times recent s
  | .ucieRetrain l => Sys2Proof.Machine.execUcieRetrain l s
  | .interruptDeliver idx => Sys2Proof.Machine.execInterruptDeliver idx s
  | .siclaimRead hart who => Sys2Proof.Machine.execSiclaimRead hart who s
  | .pcieInbound q addr write len data poison => Sys2Proof.Machine.execPcieInbound q addr write len data poison s
  | .pcieOutbound q off who write len data done => Sys2Proof.Machine.execPcieOutbound q off who write len data done s
  | .pcieAer q => Sys2Proof.Machine.execPcieAer q s
  | .pcieLinkTrain q speed width => Sys2Proof.Machine.execPcieLinkTrain q speed width s
  | .portTrain port lanes ok => Sys2Proof.Machine.execPortTrain port lanes ok s
  | .portTrainRetry port => Sys2Proof.Machine.execPortTrainRetry port s
  | .portDown port => Sys2Proof.Machine.execPortDown port s
  | .linkPacket port ack credits peer => Sys2Proof.Machine.execLinkPacket port ack credits peer s
  | .linkReplay port lseq => Sys2Proof.Machine.execLinkReplay port lseq s
  | .fabPacketForward port lseq good units pkt => Sys2Proof.Machine.execFabPacketForward port lseq good units pkt s
  | .ethFrameReceive port dest etherType len fcsOk units pkt => Sys2Proof.Machine.execEthFrameReceive port dest etherType len fcsOk units pkt s
  | .pauseFrame port quanta => Sys2Proof.Machine.execPauseFrame port quanta s
  | .e2eResendTimeout ordered idx => Sys2Proof.Machine.execE2eResendTimeout ordered idx s
  | .streamIdleFree sender idx => Sys2Proof.Machine.execStreamIdleFree sender idx s
  | .fabWrite idx => Sys2Proof.Machine.execFabWrite idx s
  | .fabRead idx => Sys2Proof.Machine.execFabRead idx s
  | .fabReadRsp idx => Sys2Proof.Machine.execFabReadRsp idx s
  | .fabAck idx => Sys2Proof.Machine.execFabAck idx s
  | .fabSignal idx => Sys2Proof.Machine.execFabSignal idx s
  | .fabColl idx => Sys2Proof.Machine.execFabColl idx s
  | .fabCollRes idx => Sys2Proof.Machine.execFabCollRes idx s
  | .flarePreparePkt idx => Sys2Proof.Machine.execFlarePreparePkt idx s
  | .flareAckPkt idx => Sys2Proof.Machine.execFlareAckPkt idx s
  | .flareHeldPkt idx => Sys2Proof.Machine.execFlareHeldPkt idx s
  | .flareCommitPkt idx => Sys2Proof.Machine.execFlareCommitPkt idx s
  | .flareCommitAckPkt idx => Sys2Proof.Machine.execFlareCommitAckPkt idx s
  | .flareAbortPkt idx => Sys2Proof.Machine.execFlareAbortPkt idx s
  | .flareDeadline id child => Sys2Proof.Machine.execFlareDeadline id child s
  | .joinTimeout => Sys2Proof.Machine.execJoinTimeout s
  | .mgmtCommandPkt idx => Sys2Proof.Machine.execMgmtCommandPkt idx s
  | .mgmtReplyPkt idx => Sys2Proof.Machine.execMgmtReplyPkt idx s
  | .mgmtHealthPkt idx => Sys2Proof.Machine.execMgmtHealthPkt idx s
  | .mgmtAttachPkt idx => Sys2Proof.Machine.execMgmtAttachPkt idx s
  | .mgmtDetachPkt idx => Sys2Proof.Machine.execMgmtDetachPkt idx s
  | .mgmtAggPkt idx => Sys2Proof.Machine.execMgmtAggPkt idx s
  | .healthPeriod => Sys2Proof.Machine.execHealthPeriod s
  | .aggPeriod => Sys2Proof.Machine.execAggPeriod s
  | .collStepStart n => Sys2Proof.Machine.execCollStepStart n s
  | .collStepComplete n => Sys2Proof.Machine.execCollStepComplete n s
  | .collStepTimeout n => Sys2Proof.Machine.execCollStepTimeout n s
  | .opRecoveryBound idx => Sys2Proof.Machine.execOpRecoveryBound idx s
  | .ctxRecoveryBound ctx towers => Sys2Proof.Machine.execCtxRecoveryBound ctx towers s
  | .deviceRecoveryRepair ok => Sys2Proof.Machine.execDeviceRecoveryRepair ok s
  | .deviceQuiesceBound => Sys2Proof.Machine.execDeviceQuiesceBound s
  | .ccWatchdog => Sys2Proof.Machine.execCcWatchdog s
  | .powerWindowEnd mainUj bkpUj acts staticUj => Sys2Proof.Machine.execPowerWindowEnd mainUj bkpUj acts staticUj s
  | .levelStep m => Sys2Proof.Machine.execLevelStep m s
  | .thermalLevelStep k hotC => Sys2Proof.Machine.execThermalLevelStep k hotC s
  | .mainLossConfirm mv => Sys2Proof.Machine.execMainLossConfirm mv s
  | .backupConduct => Sys2Proof.Machine.execBackupConduct s
  | .eclipseBegin startMv minMv => Sys2Proof.Machine.execEclipseBegin startMv minMv s
  | .safePointsReached => Sys2Proof.Machine.execSafePointsReached s
  | .eclipseHold => Sys2Proof.Machine.execEclipseHold s
  | .eclipseReturn => Sys2Proof.Machine.execEclipseReturn s
  | .returnComplete => Sys2Proof.Machine.execReturnComplete s
  | .monitorSample n ps => Sys2Proof.Machine.execMonitorSample n ps s
  | .poweredHour => Sys2Proof.Machine.execPoweredHour s
  | .replanDue => Sys2Proof.Machine.execReplanDue s
  | .fenceTakesEffect k kind idx => Sys2Proof.Machine.execFenceTakesEffect k kind idx s
  | .ctlAlertClear mask => Sys2Proof.Machine.execCtlAlertClear mask s
  | .i3cDynamicAddress addr => Sys2Proof.Machine.execI3cDynamicAddress addr s
  | .mctpSetEndpointId eid => Sys2Proof.Machine.execMctpSetEndpointId eid s
  | .mctpGetEndpointId => Sys2Proof.Machine.execMctpGetEndpointId s
  | .mctpGetEndpointUuid => Sys2Proof.Machine.execMctpGetEndpointUuid s
  | .mctpGetVersionSupport typ => Sys2Proof.Machine.execMctpGetVersionSupport typ s
  | .mctpGetMsgTypeSupport => Sys2Proof.Machine.execMctpGetMsgTypeSupport s
  | .mctpGetVendorMsgSupport => Sys2Proof.Machine.execMctpGetVendorMsgSupport s
  | .vendorMessage channel packet => Sys2Proof.Machine.execVendorMessage channel packet s
  | .pldmGetPdrRepoInfo => Sys2Proof.Machine.execPldmGetPdrRepoInfo s
  | .pldmGetPdr n => Sys2Proof.Machine.execPldmGetPdr n s
  | .pldmGetSensorReading n => Sys2Proof.Machine.execPldmGetSensorReading n s
  | .pldmGetStateSensorReadings n => Sys2Proof.Machine.execPldmGetStateSensorReadings n s
  | .pldmSetEventReceiver on => Sys2Proof.Machine.execPldmSetEventReceiver on s
  | .pldmRequestUpdate => Sys2Proof.Machine.execPldmRequestUpdate s
  | .pldmUpdateComponent typ image => Sys2Proof.Machine.execPldmUpdateComponent typ image s
  | .pldmVerifyComplete typ => Sys2Proof.Machine.execPldmVerifyComplete typ s
  | .pldmActivateFirmware => Sys2Proof.Machine.execPldmActivateFirmware s
  | .spdmGetVersion => Sys2Proof.Machine.execSpdmGetVersion s
  | .spdmGetCapabilities => Sys2Proof.Machine.execSpdmGetCapabilities s
  | .spdmNegotiateAlgorithms asym hash => Sys2Proof.Machine.execSpdmNegotiateAlgorithms asym hash s
  | .spdmGetDigests => Sys2Proof.Machine.execSpdmGetDigests s
  | .spdmGetCertificate slot off len => Sys2Proof.Machine.execSpdmGetCertificate slot off len s
  | .spdmChallenge slot nonce => Sys2Proof.Machine.execSpdmChallenge slot nonce s
  | .spdmGetMeasurements index sign nonce => Sys2Proof.Machine.execSpdmGetMeasurements index sign nonce s
  | .spdmUnsupportedRequest code => Sys2Proof.Machine.execSpdmUnsupportedRequest code s
  | .tapReset => Sys2Proof.Machine.execTapReset s
  | .tapExtest cells pins => Sys2Proof.Machine.execTapExtest cells pins s
  | .tapIdcode => Sys2Proof.Machine.execTapIdcode s
  | .tapSamplePreload cells pins => Sys2Proof.Machine.execTapSamplePreload cells pins s
  | .tapClamp => Sys2Proof.Machine.execTapClamp s
  | .tapHighz => Sys2Proof.Machine.execTapHighz s
  | .tapDebugAccess write addr value => Sys2Proof.Machine.execTapDebugAccess write addr value s
  | .tapBypass op => Sys2Proof.Machine.execTapBypass op s
  | .softStartAbort inp mv => Sys2Proof.Machine.execSoftStartAbort inp mv s
  | .inputWindowRestart inp mv => Sys2Proof.Machine.execInputWindowRestart inp mv s
  | .refOkChange ok => Sys2Proof.Machine.execRefOkChange ok s
  | .brakeReleaseTimerRestart => Sys2Proof.Machine.execBrakeReleaseTimerRestart s
  | .secureBootComplete => Sys2Proof.Machine.execSecureBootComplete s
  | .threadAluFp k c g lane => Sys2Proof.Machine.execThreadAluFp k c g lane s
  | .packetLifeExpired port idx => Sys2Proof.Machine.execPacketLifeExpired port idx s
  | .pcieCompletionTimeout idx => Sys2Proof.Machine.execPcieCompletionTimeout idx s
  | .beamLoadComplete k => Sys2Proof.Machine.execBeamLoadComplete k s
  | .tagRemoveWalkDone slot => Sys2Proof.Machine.execTagRemoveWalkDone slot s
  | .routeWriteDone ch => Sys2Proof.Machine.execRouteWriteDone ch s
  | .l2UnpinComplete k => Sys2Proof.Machine.execL2UnpinComplete k s
  | .lntProgramLoadDone n slot => Sys2Proof.Machine.execLntProgramLoadDone n slot s
  | .replanComplete => Sys2Proof.Machine.execReplanComplete s
  | .fenceRecordDurable idx => Sys2Proof.Machine.execFenceRecordDurable idx s
  | .bondRetrainDone k c failing pads => Sys2Proof.Machine.execBondRetrainDone k c failing pads s
  | .ucieRetrainDone l up half spares => Sys2Proof.Machine.execUcieRetrainDone l up half spares s

end Sys2Proof.Machine
end

