-- ==== Sys2Proof/Machine/Step.lean ====
section
/-! DEFINITION. One step: the command at the front of the queue takes its effect; on an empty queue the module idles for one
cycle of the MGMT island (log entry 3). -/

namespace Sys2Proof.Machine

/-- The commands that wait, with their first. -/
def State.popped (s : State) : Option (Instr × State) :=
  match s.pending with
  | [] => none
  | c :: rest => some (c, { s with pending := rest })

/-- One step of the module. -/
def step (s : State) : Host.Outcome State Fault Refusal :=
  match s.popped with
  | some (c, t) => exec c t
  | none => .next s.tick

/-- A state with the command that a table word spells put at the front of its queue. -/
def State.withFetchWord (s : State) (nbits w : Nat) : State :=
  match decodeTableWord nbits w with
  | some c => { s with pending := c :: s.pending }
  | none => s

end Sys2Proof.Machine
end

