-- ==== Sys2Proof/Safety.lean ====
section
/-! DEFINITION. What a safe state is, what it means that a command completes, and what a command leaves alone: the terms in which
the statements speak. -/

namespace Sys2Proof.Machine

/-! Safe states. -/

/-- The register file in canonical form: addresses strictly rise, and no entry holds its register's reset value (R10). -/
def State.regsWf (s : State) : Bool := Assoc.sorted s.regs && s.regs.all (fun e => e.2 ≠ regDefault s.part e.1)

/-- The poison marks in canonical form: sectors strictly rise. -/
def State.poisonWf (s : State) : Bool := decide (s.poison.Pairwise (· < ·))

/-- A safe state: memory, registers and poison marks are in canonical form, so that equal machines are equal data. -/
def State.safe (s : State) : Bool := Memory.wf s.mem && s.regsWf && s.poisonWf

/-! Completion. -/

/-- The outcome is a next state with a property. -/
def Completes (r : Res) (P : State → Prop) : Prop := ∃ t, r = .next t ∧ P t

/-- A command packet is taken up on its channel and passes the checks of R91, R95, R53 and R129: the channel is enabled, delivers
packets and is idle, owes no reply and is not being reset. -/
def State.accepts (s : State) (ch op : Nat) (p : Packet) : Prop :=
  ch < 64 ∧ (s.chan ch).current = none ∧ s.chOpen ch = true ∧ (s.chan ch).held = none ∧ (s.chan ch).resetting = false
    ∧ s.precheck ch op p = none

/-- The state with the packet in progress on its channel (R91, R108). -/
def State.taken (s : State) (ch op : Nat) (p : Packet) : State :=
  (s.modChan ch (fun c => { c with current := some (op, p), busy := true, lastPkt := s.now })).joinStore ch op

/-- The outcome is that a command packet's effect stands, as a property of the state says, and its reply leaves with a status and
detail words (R96): what remains is State.reply's own effect on the channel and its ring. -/
def RepliesWith (r : Res) (ch st : Nat) (ds : List Nat) (P : State → Prop) : Prop := ∃ u, r = .next (u.reply ch st ds) ∧ P u

/-- Nothing is on its way to the non-volatile store, and the store holds no word of ERR_LAST_DEVICE. -/
def State.storeQuiet (s : State) : Prop :=
  (∀ c ∈ s.ctl.chans, c.2.durable = none) ∧ s.memc.marks = [] ∧ s.age.replan = none ∧ s.age.changes = [] ∧ s.age.leaving = []
    ∧ ∀ e ∈ s.board.nv, e.1 ≠ A.errLast0 ∧ e.1 ≠ A.errLast1

/-- A register outside the towers whose class is immediate and whose write does no more than give it the value (R99, R100). -/
def RegRow.plain (r : RegRow) : Bool :=
  r.cls = .immediate && !r.ofTower && !r.ofScale && (clearTable.find? (fun t => t.1 = r.base)).isNone
    && !([A.sbStatus, A.alert, A.chCfg 0, A.chCmdBase 0, A.chRplBase 0, A.chRplPtr 0, A.chStatus 0, A.clkIsland 0, A.clkStretchCnt 0,
      A.hcRelease].contains r.base)

/-! Frames. -/

/-- Every byte of memory reads as before. -/
def SameMemory (s t : State) : Prop := ∀ a, t.rdByte a = s.rdByte a

/-- Every register but those listed reads as before. -/
def SameRegs (l : List Nat) (s t : State) : Prop := ∀ a, a ∉ l → t.rd a = s.rd a

/-- Only registers among those listed change, and nothing else of the state. -/
def OnlyRegs (l : List Nat) (s t : State) : Prop := t = { s with regs := t.regs } ∧ SameRegs l s t

/-- Only registers among those listed and the board's own state change. -/
def OnlyBoard (l : List Nat) (s t : State) : Prop := t = { s with regs := t.regs, board := t.board } ∧ SameRegs l s t

/-- Only registers among those listed and the state of the compute dies' units change. -/
def OnlyComp (l : List Nat) (s t : State) : Prop := t = { s with regs := t.regs, comp := t.comp } ∧ SameRegs l s t

/-- Only registers among those listed, the state of the compute dies' units, and what a trace is due change (R705). -/
def OnlyTraced (l : List Nat) (s t : State) : Prop :=
  t = { s with regs := t.regs, comp := t.comp, mg := { s.mg with due := t.mg.due } } ∧ SameRegs l s t

/-! Beams. -/

/-- The word at an address of the current beam's bank has no wait slot. -/
def State.plainAt (s : State) (k a : Nat) : Bool :=
  match parseWord (s.beamBankOf k).words a with
  | .ok w => !w.slots.any (fun x => x.kind = .wait)
  | .error _ => true

/-- The wait slot of the word at an address of a bank's words. -/
def waitIn (words : List Nat) (a : Nat) : Option BSlot :=
  match parseWord words a with
  | .ok w => w.slots.find? (fun x => x.kind = .wait)
  | .error _ => none

/-- A sequencer runs for nobody's entry, nobody steps it, and no recovery is in progress. -/
def State.beamAlone (s : State) (k : Nat) : Bool :=
  (s.beam k).owner.entry.isNone && (s.beam k).stepChan.isNone && (s.beam k).aborting.isEmpty && s.err.recov.isEmpty

/-! Threads. -/

/-- The set of a lane is the subgroup m of group v, which runs and whose turn it is; its lanes are live, stand in the wait wt, and
nothing of theirs is on its way; its word, fetched in going from s to u, is w of a kind. The fetch leaves the compute dies and the
requests alone. -/
def State.mayIssue (s u : State) (k c g lane m w : Nat) (v : Group) (kind : TKind) (wt : ThreadWait) : Prop :=
  k < 4 ∧ c < 64 ∧ g < 8 ∧ lane < 32 ∧ s.group k c g = some v ∧ v.threads.length = 32 ∧ s.slotState k c g = 1
    ∧ s.issueSet k c g lane = [(g, m)] ∧ m.testBit lane = true ∧ m < 2 ^ 32
    ∧ (∀ l ∈ lanesOf m, (v.thread l).wait = wt ∧ (v.thread l).loads = [] ∧ (v.thread l).ended = false)
    ∧ s.requests = [] ∧ s.comp.stalls = [] ∧ s.comp.given = [] ∧ s.itsTurn k c [(g, m)] = true ∧ s.fetch k c g v (v.thread lane).pc = (u, .ok w) ∧ rvKind w 0 = some kind
    ∧ u.comp = s.comp ∧ u.requests = [] ∧ u.slotState k c g = 1

/-- An access of a lane reaches a physical address, in going from u to z. -/
def State.reaches (u z : State) (k c g : Nat) (v : Group) (a : Nat × Nat × AccessKind × Bool) (pa : Nat) (e : XEntry) : Prop :=
  u.reach k c g v a.1 a.2.1 a.2.2.1 a.2.2.2 = (z, .at pa e) ∧ z.comp = u.comp ∧ z.requests = u.requests

/-! The fabric. -/

/-- An ordered packet of a tag is on its way to a module and not acknowledged (R566). -/
def State.Owes (s : State) (dst tag typ opa opb : Nat) (payload : List Byte) : Prop :=
  ∃ x ∈ s.fab.tx, x.dst = dst ∧ x.tag = tag ∧ ∃ q ∈ x.unacked, q.typ = typ ∧ q.opa = opa ∧ q.opb = opb ∧ q.payload = payload

/-! Advice. -/

/-- A MEM_ADVISE of a kind over a range of context c, with no destination, passes its checks (R492, R493). -/
def State.mayAdvise (s : State) (ch c kind win va len towers : Nat) (p : Packet) : Prop :=
  s.accepts ch 0x303 p ∧ p.length = 48 ∧ c < 256 ∧ win < 5 ∧ towers < 16
    ∧ pword p 0 = c + kind * 2 ^ 8 + towers * 2 ^ 12 + win * 2 ^ 16 ∧ pword p 1 = va ∧ pword p 2 = len ∧ pword p 3 = 0
    ∧ va < 2 ^ 57 ∧ len < 2 ^ 58 ∧ va % 4096 = 0 ∧ len % 4096 = 0 ∧ s.ctxOpen c = true
    ∧ va + len ≤ 2 ^ (39 + F.xltRoot_ROOT_LOG2.get (s.rd (A.xltRoot c))) ∧ s.moveBusy c va len = false
    ∧ ((setAdvice s.xlt.advice c va len kind win).filter (fun a => a.ctx = c)).length ≤ 64

/-- The range holds the kind, or none for kind 0; every other kind, address and context keeps what it had; an epoch of the range is
issued, for which the command waits; nothing else changes. -/
def State.Advises (s : State) (ch c kind va len towers : Nat) (p : Packet) (t : State) : Prop :=
  (∀ a k, (a < va ∨ va + len ≤ a) → t.advised c a k = s.advised c a k)
    ∧ (∀ i k, i < len → t.advised c (va + i) k = if kind = 0 then false else if k = kind then true else s.advised c (va + i) k)
    ∧ (∀ d a k, d ≠ c → t.advised d a k = s.advised d a k)
    ∧ (let e := (s.fld (A.xltEpoch c) F.xltEpoch_ISSUED + 1) % 2 ^ 32
       t.xlt.epochs = s.xlt.epochs ++ [{ ctx := c, e := e, va := va, len := len, all := false, done := none, chan := some ch, tail := [],
                                         towers := if kind = 3 then 16 + towers else 0 }])
    ∧ (t.chan ch).current = some (0x303, p) ∧ t.mem = s.mem ∧ SameRegs [A.xltRoot c, A.xltEpoch c] (s.taken ch 0x303 p) t

/-- Registers that the issue of one instruction of group slot g shows itself in. -/
def issueRegs (k c g : Nat) : List Nat :=
  [A.tcGroup0 k c g, A.tcGroup1 k c g, tcCnt k c 0, tcCnt k c 1, tcCnt k c 2, tcCnt k c 4]

/-- The lanes of a subgroup take new threads, which have retired one instruction more; every other thread of the group stays as
it was. -/
def Retires (t : State) (k c g m : Nat) (v : Group) (f : Nat → Thread) : Prop :=
  ∃ v', t.group k c g = some v' ∧ (∀ l ∈ lanesOf m, v'.thread l = { f l with instret := (f l).instret + 1 })
    ∧ ∀ l, l < 32 → m.testBit l = false → v'.thread l = v.thread l

end Sys2Proof.Machine
end

