-- ==== Sys2Proof/Certificates/Slice0/Obligations.lean ====
section
/-! DEFINITION. The statements for the provers. Each says in its docstring which rules of the spec it formalises. -/

open Sys2Proof Sys2Proof.Machine

/-- R40, R42, R44, R61, R131: the events of the two supply inputs. -/
def Obligations.SupplyInputEventsTakeEffect : Prop :=
  (∀ (s : State) (inp : SupplyInput) (mv : Nat), 38000 ≤ mv → mv ≤ 60500 → (s.supply inp).busMv < mv → (s.supply inp).ramp ≠ .ramping →
    Completes (exec (.softStartRamp inp mv) s) fun t =>
      (t.supply inp).ramp = .ramping ∧ (t.supply inp).bladeMv = mv ∧ (t.supply inp).good = (s.supply inp).good
      ∧ (∀ o, o ≠ inp → t.supply o = s.supply o) ∧ OnlyBoard [A.sbStatus] s t) ∧
  (∀ (s : State) (inp : SupplyInput), (s.supply inp).ramp = .ramping →
    Completes (exec (.softStartComplete inp) s) fun t =>
      (t.supply inp).ramp = .complete ∧ (t.supply inp).busMv = (s.supply inp).bladeMv
      ∧ (∀ o, o ≠ inp → t.supply o = s.supply o) ∧ OnlyBoard [A.sbStatus] s t) ∧
  (∀ (s : State) (inp : SupplyInput) (mv : Nat), (s.supply inp).ramp = .ramping → mv < 36000 →
    Completes (exec (.softStartAbort inp mv) s) fun t =>
      (t.supply inp).ramp = .idle ∧ (t.supply inp).busMv = 0
      ∧ (∀ o, o ≠ inp → t.supply o = s.supply o) ∧ OnlyBoard [A.sbStatus] s t) ∧
  (∀ (s : State), s.board.mgmtUp = false → (s.board.main.ramp ≠ .idle ∨ s.board.backup.ramp ≠ .idle) →
    Completes (exec .mgmtStart s) fun t =>
      t.board.mgmtUp = true ∧ t.board.main.good = s.board.main.good ∧ t.board.backup.good = s.board.backup.good
      ∧ OnlyBoard [A.sbStatus] s t) ∧
  (∀ (s : State) (inp : SupplyInput) (mv : Nat), s.board.mgmtUp = true → (s.supply inp).good = false →
    Completes (exec (.inputWindowRestart inp mv) s) fun t =>
      (t.supply inp).window = (if 41000 ≤ mv ∧ mv ≤ 60500 then some s.now else none) ∧ (t.supply inp).good = false
      ∧ (∀ o, o ≠ inp → t.supply o = s.supply o) ∧ OnlyBoard [A.sbStatus] s t) ∧
  (∀ (s : State) (inp : SupplyInput) (w : Nat), s.board.mgmtUp = true → (s.supply inp).good = false →
      (s.supply inp).window = some w →
    Completes (exec (.inputGood inp) s) fun t =>
      (t.supply inp).good = true ∧ (t.supply inp).lost = false ∧ (t.supply inp).window = none ∧ w + 20000000 ≤ t.now
      ∧ (∀ o, o ≠ inp → t.supply o = s.supply o) ∧ SameMemory s t)

/-- R40, R41, R43, R128, R133: losing an input, both, or the node board. -/
def Obligations.SupplyLossStopsWhatDependsOnIt : Prop :=
  (∀ (s : State) (inp : SupplyInput) (mv : Nat), s.board.mgmtUp = true → (s.supply inp).lost = false → (mv < 38000 ∨ 60500 < mv) →
    Completes (exec (.inputLost inp mv) s) fun t => (t.supply inp).lost = true ∧ (t.supply inp).good = false ∧ (t.supply inp).bladeMv = mv) ∧
  (∀ (s : State) (mv : Nat), s.board.mgmtUp = true → s.board.main.lost = false → (mv < 38000 ∨ 60500 < mv) → s.ready = false →
      (s.board.powered = true ∨ s.board.railRun = true ∨ s.railFailed = true) →
    Completes (exec (.inputLost .main mv) s) fun t =>
      t.readiness = 0 ∧ t.board.powered = false ∧ t.board.railRun = false ∧ t.mem = []) ∧
  (∀ (s : State), s.board.mgmtUp = true → s.board.main.good = false → s.board.backup.good = false →
    Completes (exec .uvloStop s) fun t =>
      t.board.mgmtUp = false ∧ t.board.powered = false ∧ t.mem = [] ∧ t.board.main.busMv = 0 ∧ t.board.backup.busMv = 0
      ∧ t.part = s.part ∧ t.pending = s.pending) ∧
  (∀ (s : State), Completes (exec .moduleRemoval s) fun t =>
      t.board.removed = true ∧ t.board.mgmtUp = false ∧ t.board.powered = false ∧ t.mem = [] ∧ t.board.main = Supply.absent
      ∧ t.board.backup = Supply.absent ∧ t.part = s.part ∧ t.pending = s.pending)

/-- R58, R62, R76, R77, R128, R132, R140: rails, reset pin and trip. -/
def Obligations.RailSequenceEndsInResetOrFailure : Prop :=
  (∀ s : State, s.board.railRun = true → s.board.rails + 1 < s.railSteps →
    Completes (exec .railGroupGood s) fun t => t = { s with board := { s.board with rails := s.board.rails + 1 } }) ∧
  (∀ s : State, s.board.railRun = true → s.railSteps ≤ s.board.rails + 1 →
    Completes (exec .railGroupGood s) fun t =>
      t.readiness = 0 ∧ t.board.powered = true ∧ t.board.railRun = false ∧ t.mem = []
      ∧ (∃ m, t.board.modReset = some m ∧ m.cause = if s.board.tripped then 5 else 1)) ∧
  (∀ s : State, s.board.railRun = true →
    Completes (exec .railFail s) fun t =>
      t.readiness = 15 ∧ t.board.powered = false ∧ t.board.railRun = false ∧ t.mem = []
      ∧ t.fld A.bootStatus F.bootStatus_FAIL_CAUSE = 1 ∧ t.fld A.bootStatus F.bootStatus_FAIL_UNIT = (s.board.rails + 1) % 256) ∧
  (∀ s : State, s.board.mgmtUp = true → s.board.modReset = none → s.board.railRun = false → s.board.powered = true →
    Completes (exec .resetPin s) fun t =>
      t.readiness = 0 ∧ t.board.resetLow = true ∧ t.mem = [] ∧ t.poison = [] ∧ t.ctl = Control.reset ∧ t.comp = Compute.reset
      ∧ t.syn = Sync.reset ∧ t.fab = Fabric.reset ∧ (∃ m, t.board.modReset = some m ∧ m.cause = 2 ∧ m.startTick = s.now)) ∧
  (∀ (s : State) (m : ModReset), s.board.mgmtUp = true → s.board.modReset = some m →
    Completes (exec .resetPin s) fun t => t = { s with board := { s.board with resetLow := true, lowFrom := s.now - 2000 } }) ∧
  (∀ (s : State) (stack : Bool) (i c : Nat), s.board.powered = true → i < (if stack then 8 else 9) →
      (if stack then 115 else 125) ≤ c →
    Completes (exec (.thermalTrip stack i c) s) fun t =>
      t.readiness = 0 ∧ t.board.powered = false ∧ t.board.tripped = true ∧ t.board.thermLow = true ∧ t.mem = [])

/-- R50, R52, R77, R128, R134, R135, R137, R138, R140: from the end of a module reset to HOST_CONFIG. -/
def Obligations.ResetAndBootAdvanceReadiness : Prop :=
  (∀ (s : State) (m : ModReset) (us geo dieC stackC : Nat) (b : Bool) (bonds : List (Nat × Nat)) (links : List (Nat × Nat × Nat)),
      s.board.modReset = some m → m.locked = true → s.board.powered = true → s.board.main.good = true →
      dieC < 115 → stackC < 105 → s.flag A.sbStatus F.sbStatus_REF_OK = true →
    Completes (exec (.moduleResetEnd us b geo dieC stackC bonds links) s) fun t =>
      t.readiness = 1 ∧ t.board.modReset = none ∧ t.board.resetLow = false ∧ t.board.resetEnd = t.now ∧ m.startTick + 198000 ≤ t.now
      ∧ t.fld A.sbStatus F.sbStatus_GEO = geo % 16) ∧
  (∀ (s : State) (us geo dieC stackC : Nat) (b : Bool) (bonds : List (Nat × Nat)) (links : List (Nat × Nat × Nat)),
      115 ≤ dieC ∨ 105 ≤ stackC →
    Completes (exec (.moduleResetEnd us b geo dieC stackC bonds links) s) fun t => t = s) ∧
  (∀ (s : State) (m : ModReset) (us geo dieC stackC : Nat) (b : Bool) (bonds : List (Nat × Nat)) (links : List (Nat × Nat × Nat)),
      s.board.modReset = some m → s.board.powered = true → s.board.main.good = true → dieC < 115 → stackC < 105 →
      s.flag A.sbStatus F.sbStatus_REF_OK = false →
    Completes (exec (.moduleResetEnd us b geo dieC stackC bonds links) s) fun t =>
      t = { s with board := { s.board with modReset := some { m with refWait := true } } }) ∧
  (∀ (s : State) (b : Bool), s.readiness = 1 → s.flag A.bootCfg F.bootCfg_SLOT_PREF = b →
      s.slotFails (if b then s.board.slotB else s.board.slotA) = none →
    Completes (exec .secureBootComplete s) fun t =>
      t.readiness = 2 ∧ t.board.perst = false ∧ t.board.refclkOut = true ∧ t.flag A.bootStatus F.bootStatus_SLOT_USED = b
      ∧ t.flag A.bootStatus F.bootStatus_SLOT_FALLBACK = false) ∧
  (∀ (s : State) (b : Bool) (u : Nat), s.readiness = 1 → s.flag A.bootCfg F.bootCfg_SLOT_PREF = b →
      s.slotFails (if b then s.board.slotB else s.board.slotA) = some u →
      s.slotFails (if b then s.board.slotA else s.board.slotB) = none →
    Completes (exec .secureBootComplete s) fun t =>
      t.readiness = 2 ∧ t.board.perst = false ∧ t.board.refclkOut = true ∧ t.flag A.bootStatus F.bootStatus_SLOT_USED = !b
      ∧ t.flag A.bootStatus F.bootStatus_SLOT_FALLBACK = true) ∧
  (∀ (s : State) (b : Bool) (u v : Nat), s.readiness = 1 → s.flag A.bootCfg F.bootCfg_SLOT_PREF = b →
      s.slotFails (if b then s.board.slotB else s.board.slotA) = some u →
      s.slotFails (if b then s.board.slotA else s.board.slotB) = some v →
    Completes (exec .secureBootComplete s) fun t =>
      t.readiness = 15 ∧ t.fld A.bootStatus F.bootStatus_FAIL_CAUSE = 2 ∧ t.fld A.bootStatus F.bootStatus_FAIL_UNIT = u
      ∧ t.flag A.bootStatus F.bootStatus_SLOT_FALLBACK = true ∧ t.mem = s.mem ∧ t.board.perst = s.board.perst) ∧
  (∀ (s : State) (bs bp ws : List Nat), s.readiness = 2 → s.board.trained = false → (∀ n ∈ bs, n < 8) → (∀ n ∈ bp, n < 36) →
      bp.Nodup → (bp = [] ∨ s.part.hasCapacity = true) → (∀ w ∈ ws, posBad w = false ∧ w % 4 = 0) →
    Completes (exec (.memoryTrainingDone bs bp ws) s) fun t =>
      t.board.trained = true ∧ (t.readiness = 2 ∨ t.readiness = 15) ∧ SameMemory s t
      ∧ (bs = [] → bp = [] → t.readiness = 2)
      ∧ (bs ≠ [] → t.readiness = 15 ∧ t.fld A.bootStatus F.bootStatus_FAIL_CAUSE = 3)
      ∧ (∀ u ∈ bs, (∀ v ∈ bs, u ≤ v) → t.fld A.bootStatus F.bootStatus_FAIL_UNIT = u)
      ∧ (∀ p ∈ bp, ∀ q ∈ bp, p ≠ q → packageBuses p = packageBuses q → t.readiness = 15)) ∧
  (∀ s : State, s.readiness = 2 → s.board.trained = false →
    Completes (exec (.memoryTrainingDone [] [] []) s) fun t =>
      t = { s with board := { s.board with trained := true } }) ∧
  (∀ (s : State) (p : Nat), s.readiness = 2 → s.board.trained = false → p < 36 → s.part.hasCapacity = true →
      s.isMarked (pkgPos p) = true ∨ (s.markLimit (pkgPos p) = none ∧ s.markWorn (pkgPos p) = false) →
    Completes (exec (.memoryTrainingDone [] [p] []) s) fun t =>
      t.readiness = 2 ∧ t.board.trained = true ∧ t.isMarked (pkgPos p) = true ∧ t.flag A.bootStatus F.bootStatus_ERASURE_AT_BOOT = true) ∧
  (∀ s : State, s.readiness = 2 → s.board.trained = true →
    Completes (exec (.memoryInitDone []) s) fun t =>
      t.readiness = 3 ∧ t.fld A.hcRunning F.hcRunning_MASK = 1 ∧ t.flag (A.chCfg 0) F.chCfg_ENABLE = true ∧ t.poison = []
      ∧ t.undef = cutUndef 0 0xC0300000000 s.undef) ∧
  (∀ (s : State) (us : List Nat), s.readiness = 2 → s.board.trained = true → us ≠ [] →
      (∀ n ∈ us, n < 8 ∨ (n < 16 ∧ s.part.hasCapacity = true)) →
    Completes (exec (.memoryInitDone us) s) fun t =>
      t.readiness = 15 ∧ t.fld A.bootStatus F.bootStatus_FAIL_CAUSE = 3 ∧ t.mem = s.mem
      ∧ ∀ u ∈ us, (∀ v ∈ us, u ≤ v) → t.fld A.bootStatus F.bootStatus_FAIL_UNIT = u)

/-- R54 to R57, R61, R649: the compute brake. -/
def Obligations.BrakeFollowsItsPinAndTimers : Prop :=
  (∀ s : State, s.board.mgmtUp = true → s.board.modReset = none → s.flag A.sbStatus F.sbStatus_BRAKED = false → s.board.powered = false →
    Completes (exec .brakeRecognised s) fun t =>
      t.flag A.sbStatus F.sbStatus_BRAKED = true
      ∧ t.fld A.sbStatus F.sbStatus_BRAKE_COUNT = min (s.fld A.sbStatus F.sbStatus_BRAKE_COUNT + 1) 0xFFFF
      ∧ t.board.stuckFrom = s.now ∧ t.board.releaseFrom = s.now ∧ OnlyBoard [A.sbStatus] s t) ∧
  (∀ s : State, s.board.mgmtUp = true → s.board.modReset = none → s.flag A.sbStatus F.sbStatus_BRAKED = false → s.board.powered = true →
    Completes (exec .brakeRecognised s) fun t =>
      t.flag A.sbStatus F.sbStatus_BRAKED = true ∧ t.flag A.pwrStatus F.pwrStatus_BRAKING = true
      ∧ t.fld A.sbStatus F.sbStatus_BRAKE_COUNT = min (s.fld A.sbStatus F.sbStatus_BRAKE_COUNT + 1) 0xFFFF
      ∧ (s.braking = false → t.fld A.pwrStatus F.pwrStatus_L_TOWER = 0 ∧ t.fld A.pwrStatus F.pwrStatus_L_CAP = 0)) ∧
  (∀ s : State, s.flag A.sbStatus F.sbStatus_BRAKED = true →
    Completes (exec .brakedAssert s) (fun t => t = { s with board := { s.board with brakedLow := true } })
    ∧ Completes (exec .brakeReleaseTimerRestart s) (fun t => t = { s with board := { s.board with releaseFrom := s.now } })
    ∧ Completes (exec .brakeRelease s) (fun t => t.flag A.sbStatus F.sbStatus_BRAKED = false ∧ t.board.brakedLow = false
        ∧ s.board.releaseFrom + 200000 ≤ t.now ∧ t.mem = s.mem)) ∧
  (∀ s : State, s.flag A.sbStatus F.sbStatus_BRAKED = true → s.flag A.sbStatus F.sbStatus_BRAKE_STUCK = false →
    Completes (exec .brakeStuck s) fun t =>
      t.flag A.sbStatus F.sbStatus_BRAKE_STUCK = true ∧ t.flag A.sbStatus F.sbStatus_BRAKED = true
      ∧ s.board.stuckFrom + 12000000000 ≤ t.now ∧ (t.rd A.alert).toNat.testBit 0 = true ∧ SameRegs [A.sbStatus, A.alert] s t ∧ t.mem = s.mem) ∧
  (∀ s : State, s.flag A.sbStatus F.sbStatus_BRAKED = true → s.flag A.sbStatus F.sbStatus_BRAKE_STUCK = true →
    Completes (exec .brakeStuckClear s) fun t =>
      t.flag A.sbStatus F.sbStatus_BRAKE_STUCK = false ∧ t.board.stuckFrom = s.now ∧ OnlyBoard [A.sbStatus] s t) ∧
  (∀ s : State, s.flag A.sbStatus F.sbStatus_BRAKE_STUCK = false → exec .brakeStuckClear s = .next s)

/-- R50, R61, R66 to R70, R85, R617: reference and clocks. -/
def Obligations.ClocksFollowReferenceDroopAndGlides : Prop :=
  (∀ s : State, s.board.powered = true → s.board.modReset = none → s.board.refLost = false →
    Completes (exec .refLoss s) fun t => t.board.refLost = true ∧ t.board.refFrom = s.now ∧ t.flag A.sbStatus F.sbStatus_REF_OK = false) ∧
  (∀ (s : State) (ok : Bool), s.board.mgmtUp = true → s.flag A.sbStatus F.sbStatus_REF_OK ≠ ok →
    Completes (exec (.refOkChange ok) s) fun t =>
      t.flag A.sbStatus F.sbStatus_REF_OK = ok ∧ t.board.refFrom = s.now ∧ OnlyBoard [A.sbStatus] s t) ∧
  (∀ (s : State) (m : ModReset) (j : Nat), islandNumbered j = true → lockable s.part j = true → s.board.modReset = some m →
      s.board.powered = true → s.flag A.sbStatus F.sbStatus_REF_OK = true →
    Completes (exec (.generatorLock j) s) fun t =>
      t.flag (A.clkIsland j) F.clkIsland_LOCKED = true ∧ OnlyBoard [A.clkIsland j] s t) ∧
  (∀ (s : State) (j : Nat), islandNumbered j = true → s.flag A.sbStatus F.sbStatus_REF_OK = false → exec (.generatorLock j) s = .next s) ∧
  (∀ (s : State) (j n : Nat), islandNumbered j = true → hasDroop j = true → islandPresent s.part j = true → s.board.powered = true →
      0 < n → 0 < s.fld (A.clkDroop (droopDie j)) F.clkDroop_MAX_STRETCH →
    Completes (exec (.droopDetect j n) s) fun t =>
      Assoc.getD t.board.stretch j 0 = min (s.fld (A.clkDroop (droopDie j)) F.clkDroop_MAX_STRETCH) (Assoc.getD s.board.stretch j 0 + n)
      ∧ t.mem = s.mem ∧ t.board.main = s.board.main) ∧
  (∀ (s : State) (j : Nat), islandNumbered j = true → hasDroop j = true →
    Completes (exec (.droopRecover j) s) fun t =>
      Assoc.getD t.board.stretch j 0 = Assoc.getD s.board.stretch j 0 - 1 ∧ t.mem = s.mem ∧ t.board.main = s.board.main) ∧
  (∀ (s : State) (j : Nat), islandNumbered j = true → s.flag (A.clkIsland j) F.clkIsland_GLIDING = true →
    Completes (exec (.freqGlideComplete j) s) fun t =>
      t.fld (A.clkIsland j) F.clkIsland_FREQ_MHZ = s.islandTarget j % 65536 ∧ t.flag (A.clkIsland j) F.clkIsland_GLIDING = false
      ∧ OnlyRegs ((lockedWith j).map A.clkIsland) s t)

/-- R62, R76, R77, R79 to R82, R179, R638: resets by command. -/
def Obligations.ResetCommandsStopAndEnd : Prop :=
  (∀ (s : State) (ch : Nat) (p : Packet), s.accepts ch 0x110 p → p.length = 16 →
    Completes (exec (.resetModule ch p) s) fun t =>
      t.readiness = 0 ∧ t.fld A.resetCause F.resetCause_CAUSE = 4 ∧ t.mem = [] ∧ t.ctl = Control.reset ∧ t.comp = Compute.reset
      ∧ t.board.modReset = some { cause := 4, locked := false, refWait := false, startTick := s.now }) ∧
  (∀ (s : State) (ch k : Nat) (p : Packet), s.accepts ch 0x111 p → p.length = 24 → k < 4 → pword p 0 = k → s.eclipse = false →
    (s.towerResetting k = false → Completes (exec (.resetTower ch p) s) fun t =>
      t.towerResetting k = true ∧ Assoc.get? t.board.towerRst k = some (some ch) ∧ t.fld (A.errRecovery k) F.errRecovery_TOWER_RESET = 1
      ∧ (∀ e ∈ t.xlt.tower, e.1 ≠ k) ∧ (∀ w ∈ t.xlt.walks, w.tower ≠ k))
    ∧ (s.towerResetting k = true → RepliesWith (exec (.resetTower ch p) s) ch St.busy [] fun t => t = s.taken ch 0x111 p)) ∧
  (∀ (s : State) (ch k : Nat), k < 4 → Assoc.get? s.board.towerRst k = some (some ch) →
      (∀ e ∈ s.comp.tiles, e.1 / 17 = k → ∀ x ∈ e.2, x.draining = false) →
    RepliesWith (exec (.towerWritebackDone k) s) ch St.ok [] fun t =>
      ∃ u : State, t = u.runDeferredSignals k ∧ u.towerResetting k = false ∧ (∀ e ∈ u.board.towerHad, e.1 ≠ k)
        ∧ (∀ c, c < 64 → (u.core k c).l1 = []) ∧ (∀ r ∈ u.err.recov, ¬(r.level = 3 ∧ r.unit = k))) ∧
  (∀ (s : State) (ch k : Nat) (lost : List Nat), k < 4 → Assoc.get? s.board.towerRst k = some (some ch) →
      (∀ e ∈ s.comp.tiles, e.1 / 17 = k → ∀ x ∈ e.2, x.draining = false) →
    RepliesWith (exec (.towerWritebackTimeout k lost) s) ch St.ok [] fun t =>
      ∃ u : State, t = u.runDeferredSignals k ∧ u.towerResetting k = false ∧ (∀ e ∈ u.board.towerHad, e.1 ≠ k)
        ∧ (∀ c, c < 64 → (u.core k c).l1 = []) ∧ (∀ r ∈ u.err.recov, ¬(r.level = 3 ∧ r.unit = k))) ∧
  (∀ (s : State) (ch k : Nat), k < 4 → s.board.towerRst = [(k, some ch)] → s.l2.slices = [] → s.err.recov = [] → s.syn.deferred = [] →
      (∀ e ∈ s.comp.tiles, e.1 / 17 = k → ∀ x ∈ e.2, x.draining = false) →
    RepliesWith (exec (.towerWritebackDone k) s) ch St.ok [] fun t =>
      t.board = { s.board with towerRst := [], towerHad := s.board.towerHad.filter (fun e => e.1 ≠ k) } ∧ (∀ c, c < 64 → (t.core k c).l1 = [])
      ∧ t.mem = s.mem ∧ t.poison = s.poison
      ∧ SameRegs [A.errRecovery 0, A.errRecovery 1, A.errRecovery 2, A.errRecovery 3] s t) ∧
  (∀ (s : State) (k j : Nat) (sl : Slice) (l : L2Line), k < 4 → j < 32 → s.board.towerRst = [(k, none)] → s.l2.slices = [(32 * k + j, sl)] →
      sl.lines = [l] → sl.slots = [] → isPinnedLine l.line = false → s.err.recov = [] → s.syn.deferred = [] →
      (∀ e ∈ s.comp.tiles, e.1 / 17 = k → ∀ x ∈ e.2, x.draining = false) →
    Completes (exec (.towerWritebackTimeout k [l.line]) s) fun t =>
      t.towerResetting k = false ∧ (∀ h ∈ l.dirtySectors, l.line * 128 + 64 * h ∈ t.poison) ∧ (t.slice (32 * k + j)).lines = []
      ∧ Assoc.getD s.board.towerFrom k 0 + basenetTicks 2000000 ≤ t.now) ∧
  (∀ (s : State) (ch c : Nat) (p : Packet), s.accepts ch 0x112 p → p.length = 24 → c < 256 → pword p 0 = c → s.ctxOpen c = true → s.eclipse = false →
      s.ctxResetting c = false →
    Completes (exec (.resetContext ch p) s) fun t =>
      t.ctxResetting c = true ∧ Assoc.get? t.board.ctxRst c = some (some ch)
      ∧ (∀ k j, (s.core k j).ctxs.contains c = true → j < 64 → (t.core k j).l1 = [])
      ∧ ∀ r ∈ t.err.recov, ¬(r.level = 1 ∧ t.qCtx r.unit = c)) ∧
  (∀ (s : State) (ch c : Nat) (pages : List Nat), c < 256 → Assoc.get? s.board.ctxRst c = some (some ch) → s.ctxWrites c = false →
      s.ctxDrains c = false → (∀ e ∈ s.board.towerHad, e.2 ≠ c) → (∀ m ∈ s.xlt.migrates, m.ctx ≠ c) →
    Completes (exec (.contextResetDone c pages) s) fun t =>
      t.ctxResetting c = false ∧ { chan := ch, ctx := c, new := false } ∈ t.pwr.asks ∧ (∀ r ∈ t.err.recov, ¬(r.level = 2 ∧ r.unit = c))
      ∧ (∀ e ∈ t.xlt.base, ∀ x ∈ e.2, x.ctx ≠ c) ∧ (∀ e ∈ t.xlt.cluster, ∀ x ∈ e.2, x.ctx ≠ c) ∧ (∀ e ∈ t.xlt.tower, ∀ x ∈ e.2, x.ctx ≠ c)) ∧
  (∀ (s : State) (ch c : Nat), c < 256 → s.board.ctxRst = [(c, some ch)] → s.ctxWrites c = false → s.ctxDrains c = false →
      (∀ e ∈ s.board.towerHad, e.2 ≠ c) → s.xlt.epochs = [] →
      s.xlt.migrates = [] → s.fab.copies = [] → s.l2.slices = [] → s.err.recov = [] →
    Completes (exec (.contextResetDone c []) s) fun t =>
      t.board = { s.board with ctxRst := [] } ∧ t.pwr = { s.pwr with asks := s.pwr.asks ++ [{ chan := ch, ctx := c, new := false }] }
      ∧ (∀ e ∈ t.xlt.base, ∀ x ∈ e.2, x.ctx ≠ c) ∧ (∀ e ∈ t.xlt.cluster, ∀ x ∈ e.2, x.ctx ≠ c) ∧ (∀ e ∈ t.xlt.tower, ∀ x ∈ e.2, x.ctx ≠ c)
      ∧ t.mem = s.mem ∧ SameRegs [A.errRecovery 0, A.errRecovery 1, A.errRecovery 2, A.errRecovery 3] s t) ∧
  (∀ (s : State) (ch k kind i : Nat) (p : Packet), s.accepts ch 0x113 p → p.length = 24 → k < 4 → kind < 6 → i < 128 → i < resetCount kind →
      pword p 0 = k + kind * 2 ^ 8 + i * 2 ^ 16 → s.resetPresent k kind i = true → s.eclipse = false → s.towerResetting k = false →
      s.unitResetting (resetUnit k kind i) = false →
    (kind ≠ 5 → (s.assigned k kind i = false ∨ s.readsFenced k kind i = true) → Completes (exec (.resetUnit ch p) s) fun t =>
      t = { s.taken ch 0x113 p with board := { s.board with unitRst := s.board.unitRst ++ [(resetUnit k kind i, some ch)] } })
    ∧ (s.assigned k kind i = true → s.readsFenced k kind i = false → RepliesWith (exec (.resetUnit ch p) s) ch St.busy [] fun t =>
        t = s.taken ch 0x113 p)
    ∧ (kind = 5 → s.assigned k kind i = false → Completes (exec (.resetUnit ch p) s) fun t =>
        t.portState (4 * k + i) = (if s.portState (4 * k + i) = 5 then 5 else if s.portState (4 * k + i) = 2 then 3 else 1)
        ∧ t.fport (4 * k + i) = FabPort.idle
        ∧ t.board.unitRst = s.board.unitRst ++ [(resetUnit k kind i, some ch)])
    ∧ (kind = 5 → s.assigned k kind i = false → s.portState (4 * k + i) = 0 → Completes (exec (.resetUnit ch p) s) fun t =>
        t.portState (4 * k + i) = 1 ∧ (∀ j, j < 9 → t.rd (portCnt (4 * k + i) j) = 0) ∧ t.fport (4 * k + i) = FabPort.idle
        ∧ t.board = { s.board with unitRst := s.board.unitRst ++ [(resetUnit k kind i, some ch)] }
        ∧ SameRegs (portStatusOf (4 * k + i) :: (List.range 9).map (portCnt (4 * k + i))) s t)) ∧
  (∀ (s : State) (ch u idx : Nat), s.board.unitRst[idx]? = some (u, some ch) →
      (bitsOf u 0 4 ≠ 12 ∨ (s.portState (bitsOf u 8 8) ≠ 1 ∧ s.portState (bitsOf u 8 8) ≠ 3)) →
    RepliesWith (exec (.unitResetDone idx) s) ch St.ok [] fun t => t.board.unitRst = s.board.unitRst.eraseIdx idx ∧ t.mem = s.mem) ∧
  (∀ (s : State) (ch k e : Nat), k < 4 → e < 17 → s.board.unitRst = [(unitCode 1 k 0 e 0, some ch)] →
    RepliesWith (exec (.unitResetDone 0) s) ch St.ok [] fun t =>
      t.tilesOf k e = [] ∧ (∀ j, j < 9 → t.rd (A.mxeCntBusy k e + 8 * j) = 0) ∧ t.board = { s.board with unitRst := [] } ∧ t.mem = s.mem
      ∧ SameRegs (A.mxeStatus k e :: (List.range 9).map (fun j => A.mxeCntBusy k e + 8 * j)) s t)

/-- R88 to R92, R95, R123: how packets come to a channel. -/
def Obligations.DoorbellsAndDequeueMoveTheRings : Prop :=
  (∀ (s : State) (ch src v : Nat), ch < 64 → s.mayRing ch src = true →
    Completes (exec (.cmdTailDoorbell ch src v) s) fun t =>
      t.fld (A.chCmdPtr ch) F.chCmdPtr_TAIL = v % 2 ^ 17 ∧ t.fld (A.chCmdPtr ch) F.chCmdPtr_HEAD = s.fld (A.chCmdPtr ch) F.chCmdPtr_HEAD
      ∧ OnlyRegs [A.chCmdPtr ch] s t) ∧
  (∀ (s : State) (ch src v : Nat), ch < 64 → s.mayRing ch src = true → (s.chan ch).held = none →
    Completes (exec (.rplHeadDoorbell ch src v) s) fun t =>
      t.fld (A.chRplPtr ch) F.chRplPtr_HEAD = v % 2 ^ 17 ∧ t.fld (A.chRplPtr ch) F.chRplPtr_TAIL = s.fld (A.chRplPtr ch) F.chRplPtr_TAIL
      ∧ OnlyRegs [A.chRplPtr ch] s t) ∧
  (∀ (s : State) (ch src v : Nat), ch < 64 → s.mayRing ch src = true →
    Completes (exec (.rplHeadDoorbell ch src v) s) fun t => t.fld (A.chRplPtr ch) F.chRplPtr_HEAD = v % 2 ^ 17) ∧
  (∀ (s : State) (ch src v : Nat), ch < 64 → s.mayRing ch src = false →
    Completes (exec (.cmdTailDoorbell ch src v) s) (fun t =>
      t.fld A.directStoreCnt F.directStoreCnt_COUNT = min (s.fld A.directStoreCnt F.directStoreCnt_COUNT + 1) 0xFFFFFFFF
      ∧ OnlyRegs [A.directStoreCnt] s t)
    ∧ Completes (exec (.rplHeadDoorbell ch src v) s) (fun t =>
      t.fld A.directStoreCnt F.directStoreCnt_COUNT = min (s.fld A.directStoreCnt F.directStoreCnt_COUNT + 1) 0xFFFFFFFF
      ∧ OnlyRegs [A.directStoreCnt] s t)) ∧
  (∀ (s : State) (a src : Nat), (windowOf a).1 = .control → doorbellAt a = none →
    Completes (exec (.directStoreDrop a src) s) fun t =>
      t.fld A.directStoreCnt F.directStoreCnt_COUNT = min (s.fld A.directStoreCnt F.directStoreCnt_COUNT + 1) 0xFFFFFFFF
      ∧ OnlyRegs [A.directStoreCnt] s t) ∧
  (∀ (s : State) (ch a n : Nat) (l : List Nat), ch < 60 → s.nextCh = some ch → s.headSlots ch 1 = [a] → s.headSlots ch (slotsOf n) = a :: l →
      slotsOf n ≤ s.cmdUsed ch → leNat (s.rdBytes (a + 8) 2) = n → lengthOk n = true →
      (∀ x ∈ a :: l, s.tierRange x 64 = true ∧ s.poisoned x 64 = false ∧ s.crosses .cc x = true) →
      s.l2.slices = [] → s.err.armed = [] → s.err.downCh = [] →
      s.precheck ch (parsePacket (((a :: l).flatMap (fun x => s.rdBytes x 64)).take n)).1
        (parsePacket (((a :: l).flatMap (fun x => s.rdBytes x 64)).take n)).2 = none →
    Completes (exec (.packetDequeue ch) s) fun t =>
      (t.chan ch).current = some (parsePacket (((a :: l).flatMap (fun x => s.rdBytes x 64)).take n)) ∧ (t.chan ch).lastPkt = s.now
      ∧ t.rd (A.chCmdPtr ch) = (s.advanceHead ch (slotsOf n)).rd (A.chCmdPtr ch) ∧ t.mem = s.mem) ∧
  (∀ (s : State) (ch : Nat), ch < 64 → s.nextCh ≠ some ch → exec (.packetDequeue ch) s = .next s) ∧
  (∀ (s : State) (ch : Nat) (bs : List Byte) (rest : List (List Byte)), 60 ≤ ch → ch < 64 → s.nextCh = some ch →
      (s.chan ch).arrived = bs :: rest → s.precheck ch (parsePacket bs).1 (parsePacket bs).2 = none →
    Completes (exec (.packetDequeue ch) s) fun t =>
      (t.chan ch).current = some (parsePacket bs) ∧ (t.chan ch).arrived = rest ∧ (t.chan ch).lastPkt = s.now
      ∧ t.regs = s.regs ∧ t.mem = s.mem) ∧
  (∀ (s : State) (ch a : Nat), ch < 60 → s.chEnabled ch = true → (s.chan ch).current = none → (s.chan ch).held = none →
      s.cmdUsed ch ≠ 0 → s.headSlots ch 1 = [a] → s.tierRange a 64 = false →
    Completes (exec (.ringFault ch) s) fun t =>
      t.chEnabled ch = false ∧ t.flag (A.chStatus ch) F.chStatus_RING_FAULT = true ∧ (t.chan ch).txn = none) ∧
  (∀ (s : State) (ch : Nat) (r : Reply) (i : Bool), ch < 60 → s.chEnabled ch = true → (s.chan ch).current = none → (s.chan ch).held = some (r, i) →
      (∃ a ∈ ringAddrs (s.ringBase (A.chRplBase ch)) (s.ringSlots (A.chRplBase ch)) (s.fld (A.chRplPtr ch) F.chRplPtr_TAIL)
        (slotsOf (16 + 8 * r.details.length)), s.tierRange a 64 = false) →
    Completes (exec (.ringFault ch) s) fun t =>
      t.chEnabled ch = false ∧ t.flag (A.chStatus ch) F.chStatus_RING_FAULT = true ∧ (t.chan ch).txn = none ∧ (t.chan ch).held = none)

/-- R88, R89, R96, R122, R123: how a reply leaves on a memory ring. -/
def Obligations.ReplyEntersItsRing : Prop :=
  (∀ (s : State) (ch op : Nat) (p : Packet) (st : Nat) (ds : List Nat) (a : Nat), ch < 60 → (s.chan ch).current = some (op, p) →
      (s.chan ch).resetting = false → s.l2.slices = [] → s.err.downCh = [] → s.undef = [] → ds.length ≤ 6 →
      ringUsed (s.ringSlots (A.chRplBase ch)) (s.fld (A.chRplPtr ch) F.chRplPtr_TAIL) (s.fld (A.chRplPtr ch) F.chRplPtr_HEAD)
        < s.ringSlots (A.chRplBase ch) →
      ringAddrs (s.ringBase (A.chRplBase ch)) (s.ringSlots (A.chRplBase ch)) (s.fld (A.chRplPtr ch) F.chRplPtr_TAIL) 1 = [a] →
      s.tierRange a 64 = true →
      (s.reply ch st ds).rdBytes a 64 = (Reply.mk st op p.seq (match (s.chan ch).txn with | none => 0 | some t => t.id)
          (ds.map (BitVec.ofNat 64))).bytes
      ∧ (s.reply ch st ds).fld (A.chRplPtr ch) F.chRplPtr_TAIL
          = (s.fld (A.chRplPtr ch) F.chRplPtr_TAIL + 1) % (2 * s.ringSlots (A.chRplBase ch)) % 2 ^ 17
      ∧ ((s.reply ch st ds).chan ch).current = none ∧ ((s.reply ch st ds).chan ch).held = none) ∧
  (∀ (s : State) (ch op : Nat) (p : Packet) (st : Nat) (ds : List Nat), ch < 60 → (s.chan ch).current = some (op, p) →
      (s.chan ch).resetting = false → ds.length ≤ 6 →
      s.ringSlots (A.chRplBase ch) ≤ ringUsed (s.ringSlots (A.chRplBase ch)) (s.fld (A.chRplPtr ch) F.chRplPtr_TAIL)
        (s.fld (A.chRplPtr ch) F.chRplPtr_HEAD) →
      (∃ r i, ((s.reply ch st ds).chan ch).held = some (r, i) ∧ r.status = st ∧ r.opcode = op ∧ r.seq = p.seq
        ∧ r.details = ds.map (BitVec.ofNat 64))
      ∧ (s.reply ch st ds).flag (A.chStatus ch) F.chStatus_STALLED_RPL = true ∧ (s.reply ch st ds).mem = s.mem
      ∧ ((s.reply ch st ds).chan ch).current = none)

/-- R101, R105, R107 to R110: transactions. -/
def Obligations.TransactionsOpenAndClose : Prop :=
  (∀ (s : State) (ch : Nat) (p : Packet), s.accepts ch 0x001 p → p.length = 16 → (s.chan ch).txn = none →
    RepliesWith (exec (.beginCmd ch p) s) ch St.ok
      [if (s.chan ch).lastTxn = 65535 then 1 else (s.chan ch).lastTxn + 1, (s.rd A.commitStamp).toNat] fun u =>
      (u.chan ch).txn = some { id := if (s.chan ch).lastTxn = 65535 then 1 else (s.chan ch).lastTxn + 1,
                               beginStamp := (s.rd A.commitStamp).toNat, entries := [], reads := [] }
      ∧ SameRegs [A.chStatus ch, A.shadowUse] s u ∧ u.mem = s.mem) ∧
  (∀ (s : State) (ch : Nat) (p : Packet) (x : Txn), s.accepts ch 0x003 p → p.length = 16 → (s.chan ch).txn = some x → p.txn = x.id →
    RepliesWith (exec (.rollback ch p) s) ch St.ok [x.entries.length] fun u =>
      (u.chan ch).txn = none ∧ SameRegs [A.chStatus ch, A.shadowUse] s u ∧ u.mem = s.mem) ∧
  (∀ (s : State) (ch : Nat) (p : Packet) (x : Txn), s.accepts ch 0x002 p → p.length = 16 → (s.chan ch).txn = some x → p.txn = x.id →
      x.entries = [] → s.storeTaken ch = false → (∀ a ∈ x.reads, s.stampOf a ≤ x.beginStamp) →
    RepliesWith (exec (.commitCmd ch p) s) ch St.ok [(s.rd A.commitStamp).toNat, 0] fun u =>
      (u.chan ch).txn = none ∧ SameRegs [A.chStatus ch, A.shadowUse] s u ∧ u.mem = s.mem) ∧
  (∀ (s : State) (ch : Nat) (p : Packet) (x : Txn), s.accepts ch 0x002 p → p.length = 16 → (s.chan ch).txn = some x → p.txn = x.id →
      s.storeTaken ch = false → (s.taken ch 0x002 p).commitFails x = none → (∀ e ∈ x.entries, persIndex e.addr = none) →
    let out := x.entries.foldl applyEntry (s.taken ch 0x002 p, [])
    let v := if out.2.isEmpty then out.1 else out.1.stampChange out.2
    RepliesWith (exec (.commitCmd ch p) s) ch St.ok [(v.rd A.commitStamp).toNat, x.entries.length] fun u =>
      (u.chan ch).txn = none ∧ SameRegs [A.chStatus ch, A.shadowUse] v u ∧ u.mem = v.mem) ∧
  (∀ (s : State) (ch : Nat) (p : Packet) (x : Txn) (e : ShadowEntry), s.accepts ch 0x002 p → p.length = 16 → (s.chan ch).txn = some x →
      p.txn = x.id → s.storeTaken ch = false → (s.taken ch 0x002 p).commitFails x = none → e ∈ x.entries → persIndex e.addr ≠ none →
    Completes (exec (.commitCmd ch p) s) fun t =>
      (t.chan ch).durable = some { writes := s.persistentWrites x, commit := true, count := x.entries.length, rest := [] }
      ∧ (t.chan ch).txn = some x ∧ t.regs = s.regs ∧ t.mem = s.mem) ∧
  (∀ (s : State) (ch : Nat) (p : Packet) (x : Txn) (a : Nat) (l : List Nat), s.accepts ch 0x002 p → p.length = 16 →
      (s.chan ch).txn = some x → p.txn = x.id → s.storeTaken ch = false → x.watch = a :: l → x.beginStamp < s.stampOf a →
    RepliesWith (exec (.commitCmd ch p) s) ch St.conflict [a, s.stampOf a] fun u =>
      (u.chan ch).txn = none ∧ SameRegs [A.chStatus ch, A.shadowUse] s u ∧ u.mem = s.mem) ∧
  (∀ (s : State) (ch : Nat) (p : Packet), s.accepts ch 0x002 p → (s.chan ch).txn = none →
    Completes (exec (.commitCmd ch p) s) fun t =>
      t = (s.taken ch 0x002 p).illegal ch 0x002 1 ∧ t.fld (A.chIllegal ch) F.chIllegal_LAST_OPCODE = 2
      ∧ t.fld (A.chIllegal ch) F.chIllegal_LAST_REASON = 1 ∧ (t.chan ch).current = none) ∧
  (∀ (s : State) (ch : Nat) (p : Packet), s.accepts ch 0x003 p → (s.chan ch).txn = none →
    Completes (exec (.rollback ch p) s) fun t =>
      t = (s.taken ch 0x003 p).illegal ch 0x003 2 ∧ t.fld (A.chIllegal ch) F.chIllegal_LAST_OPCODE = 3
      ∧ t.fld (A.chIllegal ch) F.chIllegal_LAST_REASON = 2 ∧ (t.chan ch).current = none) ∧
  (∀ (s : State) (ch : Nat) (p : Packet) (x : Txn), s.accepts ch 0x001 p → (s.chan ch).txn = some x →
    Completes (exec (.beginCmd ch p) s) fun t =>
      t = (s.taken ch 0x001 p).illegal ch 0x001 4 ∧ t.fld (A.chIllegal ch) F.chIllegal_LAST_OPCODE = 1
      ∧ t.fld (A.chIllegal ch) F.chIllegal_LAST_REASON = 4 ∧ (t.chan ch).current = none) ∧
  (∀ (s : State) (ch : Nat) (x : Txn) (d : Durable), ch < 64 → (s.chan ch).durable = some d → d.commit = true → (s.chan ch).txn = some x →
    let out := x.entries.foldl applyEntry (s, [])
    let v := if out.2.isEmpty then out.1 else out.1.stampChange out.2
    RepliesWith (exec (.commitDurable ch true) s) ch St.ok [(v.rd A.commitStamp).toNat, x.entries.length] fun u =>
      (u.chan ch).txn = none ∧ SameRegs [A.chStatus ch, A.shadowUse] v u ∧ u.mem = v.mem) ∧
  (∀ (s : State) (ch : Nat) (x : Txn) (d : Durable) (e : ShadowEntry), ch < 64 → (s.chan ch).durable = some d → d.commit = true →
      (s.chan ch).txn = some x → x.entries.find? (fun e => (persIndex e.addr).isSome) = some e →
    RepliesWith (exec (.commitDurable ch false) s) ch St.storeFailed [e.addr] fun u => u = (s.storeFailed e.addr).dropTxn ch) ∧
  (∀ (s : State) (ch : Nat) (x : Txn), ch < 64 → (s.chan ch).txn = some x → (s.chan ch).durable = none →
    Completes (exec (.txnTimeout ch) s) fun t =>
      (t.chan ch).txn = none ∧ t.flag (A.chStatus ch) F.chStatus_TXN_TIMED_OUT = true
      ∧ (s.chan ch).lastPkt + 2000000000 ≤ t.now ∧ SameRegs [A.chStatus ch, A.shadowUse] s t ∧ t.mem = s.mem)

/-- R11, R13, R99, R100, R109, R112 to R114, R205: registers by packet. -/
def Obligations.RegisterPacketsReadAndWrite : Prop :=
  (∀ (s : State) (ch : Nat) (p : Packet) (a n : Nat), s.accepts ch 0x004 p → p.length = 32 → pword p 0 = a → pword p 1 = n → 1 ≤ n → n ≤ 64 →
      (∀ i, i < n → (regAt (a + 8 * i)).isSome = true) →
    let out := (s.taken ch 0x004 p).readAll ch ((List.range n).map (fun i => a + 8 * i))
    exec (.regRead ch p) s
      = .next (out.2.replyWith ch St.ok (out.1 ++ (List.range n).map (fun i => BitVec.ofNat 64 (s.stampOf (a + 8 * i)))) false)
    ∧ out.1.length = n ∧ out.2.mem = s.mem
    ∧ ((s.chan ch).txn = none → ∀ i, i < n → a + 8 * i ≠ A.bootStatus → a + 8 * i ≠ A.sbStatus →
        (a + 8 * i < A.clkIsland 0 ∨ A.clkIsland 4608 ≤ a + 8 * i) → out.1[i]? = some (s.rd (a + 8 * i)))) ∧
  (∀ (s : State) (ch : Nat) (p : Packet) (a : Nat), s.accepts ch 0x004 p → p.length = 32 → pword p 0 = a → pword p 1 = 1 →
      (regAt a).isSome = true → (s.chan ch).txn = none → a ≠ A.bootStatus → a ≠ A.sbStatus →
      (a < A.clkIsland 0 ∨ A.clkIsland 4608 ≤ a) →
    exec (.regRead ch p) s
      = .next ((s.taken ch 0x004 p).replyWith ch St.ok [s.rd a, BitVec.ofNat 64 (s.stampOf a)] false)) ∧
  (∀ (s : State) (ch : Nat) (p : Packet), s.accepts ch 0x004 p → p.length = 32 → pword p 1 < 128 → (pword p 1 = 0 ∨ 64 < pword p 1) →
    RepliesWith (exec (.regRead ch p) s) ch St.invalid [] fun u => u = s.taken ch 0x004 p) ∧
  (∀ (s : State) (ch i : Nat) (p : Packet), s.accepts ch 0x004 p → p.length = 32 → 1 ≤ pword p 1 → pword p 1 ≤ 64 → i < pword p 1 →
      regAt (pword p 0 + 8 * i) = none →
    RepliesWith (exec (.regRead ch p) s) ch St.badAddress [] fun u => u = s.taken ch 0x004 p) ∧
  (∀ (s : State) (ch : Nat) (p : Packet), s.accepts ch 0x005 p → p.length = 16 + 24 * (triplesOf p.params).length → p.params ≠ [] →
      p.params.length % 3 = 0 → s.readiness ≠ 2 →
      (∀ x ∈ triplesOf p.params, x.1 ≠ A.bootStatus ∧ persIndex x.1 = none ∧ ∃ r is, regAt x.1 = some (r, is) ∧ r.plain = true
        ∧ chDenied ch x.1 r = false) →
    RepliesWith (exec (.regWrite ch p) s) ch St.ok [(triplesOf p.params).length] fun u =>
      SameRegs ((triplesOf p.params).map (·.1)) s u ∧ u.mem = s.mem ∧ u.board = s.board) ∧
  (∀ (s : State) (ch : Nat) (p : Packet) (a v m : Word) (r : RegRow) (is : List Nat), s.accepts ch 0x005 p → p.length = 40 →
      p.params = [a, v, m] → persIndex a.toNat = none → regAt a.toNat = some (r, is) → r.plain = true → chDenied ch a.toNat r = false →
      s.readiness ≠ 2 →
    RepliesWith (exec (.regWrite ch p) s) ch St.ok [1] fun u =>
      u.rd a.toNat = s.merged r a.toNat v m ∧ SameRegs [a.toNat] s u ∧ u.mem = s.mem) ∧
  (∀ (s : State) (ch : Nat) (p : Packet) (a v m : Word) (r : RegRow) (is : List Nat), s.accepts ch 0x005 p → p.length = 40 →
      p.params = [a, v, m] → persIndex a.toNat = none → regAt a.toNat = some (r, is) → r.cls = .immediate → r.ofScale = false →
      chDenied ch a.toNat r = false → s.readiness ≠ 2 → s.regUnitGone r is = false →
    (∀ t, (s.taken ch 0x005 p).writeNow r is a.toNat v m = .ok t → RepliesWith (exec (.regWrite ch p) s) ch St.ok [1] fun u => u = t)
    ∧ (∀ st, (s.taken ch 0x005 p).writeNow r is a.toNat v m = .error st →
        RepliesWith (exec (.regWrite ch p) s) ch st [0] fun u => u = s.taken ch 0x005 p)) ∧
  (∀ (s : State) (ch : Nat) (p : Packet) (a v m : Word), s.accepts ch 0x005 p → p.length = 40 → p.params = [a, v, m] → s.storeTaken ch = false →
      (regAt a.toNat = none ∨ ∃ r is, regAt a.toNat = some (r, is) ∧ r.ofScale = true) →
    RepliesWith (exec (.regWrite ch p) s) ch St.badAddress [0] fun u => u = s.taken ch 0x005 p) ∧
  (∀ (s : State) (ch : Nat) (p : Packet) (a v m : Word) (r : RegRow) (is : List Nat), s.accepts ch 0x005 p → p.length = 40 →
      p.params = [a, v, m] → s.storeTaken ch = false → regAt a.toNat = some (r, is) → r.cls = .staged → r.ofScale = false → chDenied ch a.toNat r = false →
      s.readiness ≠ 2 → (s.chan ch).txn = none →
    Completes (exec (.regWrite ch p) s) fun t =>
      t = (s.taken ch 0x005 p).illegal ch 0x005 3 [0] ∧ t.fld (A.chIllegal ch) F.chIllegal_LAST_OPCODE = 5
      ∧ t.fld (A.chIllegal ch) F.chIllegal_LAST_REASON = 3) ∧
  (∀ (s : State) (ch : Nat) (p : Packet) (a v m : Word) (r : RegRow) (is : List Nat) (x : Txn), s.accepts ch 0x005 p → p.length = 40 →
      p.params = [a, v, m] → regAt a.toNat = some (r, is) → r.cls = .staged → r.ofScale = false → chDenied ch a.toNat r = false →
      s.readiness ≠ 2 → s.regUnitGone r is = false → (s.chan ch).txn = some x → p.txn = x.id → (∀ e ∈ x.entries, e.addr ≠ a.toNat) →
      x.entries.length < 1024 → persIndex a.toNat = none → s.shadowUse.1 < 16384 →
    RepliesWith (exec (.regWrite ch p) s) ch St.ok [1] fun u =>
      (u.chan ch).txn = some { x with entries := x.entries ++ [{ addr := a.toNat, val := v &&& m, mask := m }] }
      ∧ SameRegs [A.chStatus ch, A.shadowUse] s u ∧ u.mem = s.mem) ∧
  (∀ (s : State) (ch : Nat) (p : Packet) (a v m : Word) (r : RegRow) (is : List Nat), s.accepts ch 0x005 p → p.length = 40 →
      p.params = [a, v, m] → s.storeTaken ch = false → regAt a.toNat = some (r, is) → r.cls = .persistent → r.ofScale = false →
      chDenied ch a.toNat r = false → s.readiness ≠ 2 → s.regUnitGone r is = false → (s.chan ch).txn = none →
      s.inRange r is (s.merged r a.toNat v m) = true → s.supplyEvent = false → s.worn a.toNat = false →
    Completes (exec (.regWrite ch p) s) fun t =>
      (t.chan ch).durable = some { writes := [(a.toNat, s.merged r a.toNat v m)], commit := false, count := 0, rest := [] }
      ∧ t.regs = s.regs ∧ t.mem = s.mem) ∧
  (∀ (s : State) (ch a : Nat) (v : Word) (op : Nat) (p : Packet), ch < 64 → (s.chan ch).current = some (op, p) →
      (s.chan ch).durable = some { writes := [(a, v)], commit := false, count := 0, rest := [] } →
    RepliesWith (exec (.rwpWriteDurable ch true) s) ch St.ok [1] (fun u =>
      u = ((((s.modChan ch (fun c => { c with durable := none })).wr a v).stampChange [a]).wear a))
    ∧ RepliesWith (exec (.rwpWriteDurable ch false) s) ch St.storeFailed [0] (fun u =>
      u = (s.modChan ch (fun c => { c with durable := none })).storeFailed a)) ∧
  (∀ (s : State) (ch : Nat) (p : Packet) (i : Nat), s.accepts ch 0x007 p → p.length = 24 → persIndex (pword p 0) = some i →
    RepliesWith (exec (.persInfo ch p) s) ch St.ok
      [i, s.fld (A.persWear i) F.persWear_WEAR, s.stampOf (pword p 0), (s.rd (pword p 0)).toNat] fun u => u = s.taken ch 0x007 p) ∧
  (∀ (s : State) (ch : Nat) (p : Packet), s.accepts ch 0x007 p → p.length = 24 → persIndex (pword p 0) = none →
    RepliesWith (exec (.persInfo ch p) s) ch St.badAddress [] fun u => u = s.taken ch 0x007 p)

/-- R98, R111, R130, R692, R711, R716: the module as a whole and its channels. -/
def Obligations.IdentityReadinessAndChannels : Prop :=
  (∀ (s : State) (ch : Nat) (p : Packet), s.accepts ch 0x000 p → p.length = 16 →
    RepliesWith (exec (.nop ch p) s) ch St.ok [] fun u => u = s.taken ch 0x000 p) ∧
  (∀ (s : State) (ch : Nat) (p : Packet), s.accepts ch 0x100 p → p.length = 16 →
    RepliesWith (exec (.identify ch p) s) ch St.ok
      [(s.rd (A.ctlId 0)).toNat, (s.rd (A.ctlId 1)).toNat, (s.rd (A.ctlId 2)).toNat, (s.rd (A.ctlId 3)).toNat, (s.rd A.ctlSerial).toNat,
       (s.rd A.capDev).toNat] fun u => u = s.taken ch 0x100 p) ∧
  (∀ (s : State) (ch : Nat) (p : Packet), s.accepts ch 0x101 p → p.length = 16 →
    RepliesWith (exec (.readyStatus ch p) s) ch St.ok
      [(F.bootStatus_STATE_MS.set (s.rd A.bootStatus) (min (2 ^ 32 - 1) ((s.now - s.board.stateFrom) / 200000))).toNat,
       s.fld A.bootSvn F.bootSvn_MIN_SVN, s.board.ccSvn, (s.now - s.board.resetEnd) / 200] fun u => u = s.taken ch 0x101 p) ∧
  (∀ (s : State) (ch : Nat) (p : Packet), s.accepts ch 0x102 p → p.length = 24 → pword p 0 = 3 → s.readiness = 3 →
      (∀ e ∈ s.ctl.chans, ∀ d, e.2.durable = some d → d.commit = false) → s.l2.ranges = [] →
    RepliesWith (exec (.readyAdvance ch p) s) ch St.ok [] fun u =>
      u.readiness = 4 ∧ SameRegs [A.bootStatus] s u ∧ u.mem = s.mem ∧ u.board = { s.board with stateFrom := s.now }) ∧
  (∀ (s : State) (ch : Nat) (p : Packet), s.accepts ch 0x102 p → p.length = 24 → pword p 0 < 16 → pword p 0 ≠ 3 →
    RepliesWith (exec (.readyAdvance ch p) s) ch St.invalid [] fun u => u = s.taken ch 0x102 p) ∧
  (∀ (s : State) (ch : Nat) (p : Packet), s.accepts ch 0x102 p → p.length = 24 → pword p 0 = 3 → s.readiness ≠ 3 →
    RepliesWith (exec (.readyAdvance ch p) s) ch St.busy [] fun u => u = s.taken ch 0x102 p) ∧
  (∀ (s : State) (ch n : Nat) (p : Packet), s.accepts ch 0x006 p → p.length = 24 → pword p 0 = n → n < 64 → n ≠ ch →
      (s.chan n).current = none →
    RepliesWith (exec (.channelReset ch p) s) ch St.ok [] fun u =>
      (u.chan n).txn = none ∧ (u.chan n).arrived = [] ∧ (u.chan n).held = none ∧ u.rd (A.chIllegal n) = 0
      ∧ u.fld (A.chCmdPtr n) F.chCmdPtr_HEAD = u.fld (A.chCmdPtr n) F.chCmdPtr_TAIL
      ∧ u.fld (A.chRplPtr n) F.chRplPtr_HEAD = u.fld (A.chRplPtr n) F.chRplPtr_TAIL
      ∧ u.rd (A.chCfg n) = s.rd (A.chCfg n) ∧ u.rd (A.chPermit n) = s.rd (A.chPermit n) ∧ u.mem = s.mem) ∧
  (∀ (s : State) (ch n : Nat) (p : Packet), s.accepts ch 0x006 p → p.length = 24 → pword p 0 = n → n < 64 → n ≠ ch →
      (s.chan n).current ≠ none →
    Completes (exec (.channelReset ch p) s) fun t => (t.chan n).resetting = true ∧ (t.chan ch).busy = false ∧ t.regs = s.regs ∧ t.mem = s.mem) ∧
  (∀ (s : State) (ch : Nat) (p : Packet), s.accepts ch 0x006 p → p.length = 24 → pword p 0 = ch →
    RepliesWith (exec (.channelReset ch p) s) ch St.invalid [] fun u => u = s.taken ch 0x006 p) ∧
  (∀ (s : State) (mask : Nat),
    Completes (exec (.ctlAlertClear mask) s) fun t =>
      (∀ b, b < 14 → mask.testBit b = true → s.alertHolds b = false → (t.rd A.alert).toNat.testBit b = false)
      ∧ SameRegs [A.alert] s t ∧ t.mem = s.mem)

/-- R152, R158, R159, R167, R179, R188, R189, R215, R217: the passes of a tile. -/
def Obligations.TilePassesRunReplayAndSquash : Prop :=
  (∀ (s : State) (k e busy waitW : Nat) (t : Tile) (ts : List Tile), k < 4 → e < 17 → s.tilesOf k e = t :: ts → t.started < t.desc.passes →
    Completes (exec (.tilePassStart k e busy waitW false) s) fun u =>
      u.tilesOf k e = { t with started := t.started + 1 } :: ts
      ∧ (u.rd (A.mxeCntProd k e)).toNat
          = min (2 ^ 48 - 1) ((s.rd (A.mxeCntProd k e)).toNat + t.desc.m * t.desc.n * (t.desc.passSpan t.started).2.1)
      ∧ OnlyComp [A.mxeStatus k e, A.mxeCntBusy k e, A.mxeCntWaitW k e, A.mxeCntProd k e] s u) ∧
  (∀ (s : State) (k e : Nat) (t : Tile) (ts : List Tile), k < 4 → e < 17 → s.tilesOf k e = t :: ts → t.ended < t.started →
      s.comp.badWords = [] → s.err.armed = [] → (∀ r ∈ t.desc.reads t.ended, s.firstPoison (spBase t.cluster + r.1) r.2 = none) →
      ((s.passAcc t t.ended).1.any (·.ovf) = false ∨ t.mayReplay = false ∨ t.desc.passes ≤ t.ended + 1) →
    Completes (exec (.passEnd k e false) s) fun u =>
      u.tilesOf k e = { t with ended := t.ended + 1, acc := (s.passAcc t t.ended).1, pmax := (s.passAcc t t.ended).2 } :: ts
      ∧ OnlyComp [A.mxeStatus k e] s u) ∧
  (∀ (s : State) (k e : Nat) (t n : Tile) (ts : List Tile), k < 4 → e < 17 → s.tilesOf k e = t :: n :: ts → t.ended < t.started →
      s.comp.badWords = [] → s.err.armed = [] → (∀ r ∈ t.desc.reads t.ended, s.firstPoison (spBase t.cluster + r.1) r.2 = none) →
      (s.passAcc t t.ended).1.any (·.ovf) = true → t.mayReplay = true → t.ended + 1 < t.desc.passes →
    Completes (exec (.passEnd k e false) s) fun u =>
      u.tilesOf k e = { t.again with anchor := t.anchor + t.step, attempt := t.attempt + 1, eNeed := t.anchor + t.step }
          :: (if n.started = 0 then n else n.again) :: ts
      ∧ (u.rd (A.mxeCntReplay k e)).toNat = min (2 ^ 48 - 1) ((s.rd (A.mxeCntReplay k e)).toNat + 1)
      ∧ OnlyComp [A.mxeStatus k e, A.mxeCntReplay k e, A.mxeCntSquash k e] s u) ∧
  (∀ (s : State) (k e : Nat) (t : Tile) (ts : List Tile), k < 4 → e < 17 → s.tilesOf k e = t :: ts → t.desc.passes ≤ t.ended →
      t.checked = false → t.errRec = false → (t.desc.split = true → s.splitExponentError t = false) →
      (t.desc.split = true ∨ (t.acc.any (·.ovf) = false ∧ outputOverflow t = false) ∨ t.mayReplay = false) →
    Completes (exec (.checkPoint k e false) s) fun u =>
      u.tilesOf k e = { t with checked := true } :: ts ∧ OnlyComp [A.mxeStatus k e] s u) ∧
  (∀ (s : State) (k e : Nat) (t : Tile), k < 4 → e < 17 → s.tilesOf k e = [t] → t.desc.passes ≤ t.ended → t.checked = false →
      t.errRec = false → t.desc.split = false → (t.acc.any (·.ovf) = true ∨ outputOverflow t = true) → t.mayReplay = true →
    Completes (exec (.checkPoint k e false) s) fun u =>
      (∃ t', u.tilesOf k e = [t'] ∧ t'.anchor = t.anchor + t.step ∧ t'.attempt = t.attempt + 1 ∧ t'.acc = [] ∧ t'.started = 0
        ∧ t'.eNeed = (if t.acc.any (·.ovf) then t.anchor + t.step else t.eNeed)
        ∧ t'.shift = (if outputOverflow t && !t.desc.anchorSrc && t.xen then t.shift + t.step else t.shift)
        ∧ t'.xNeed = (if outputOverflow t && !t.desc.anchorSrc && t.xen then t.shift + t.step else t.xNeed))
      ∧ OnlyComp [A.mxeStatus k e, A.mxeCntReplay k e] s u)

/-- R153, R155, R177, R179, R209: the end of a tile. -/
def Obligations.TilesDrainAndCommit : Prop :=
  (∀ (s : State) (k e : Nat) (bad : Option Nat) (t : Tile) (ts : List Tile), k < 4 → e < 17 → s.tilesOf k e = t :: ts → t.checked = true →
      t.draining = false →
    Completes (exec (.drainStart k e bad) s) fun u => ∃ t', u.tilesOf k e = t' :: ts ∧ t'.draining = true ∧ t'.desc = t.desc ∧ t'.acc = t.acc) ∧
  (∀ (s : State) (k e : Nat) (t : Tile) (ts : List Tile), k < 4 → e < 17 → s.tilesOf k e = t :: ts → t.checked = true → t.draining = false →
      s.comp.badWords = [] → rowBytes t.desc.fmtC t.desc.n ≤ t.desc.ld 4 →
      (∀ w ∈ s.drainChunks t none, s.writeHeld (.engine k e) t.cluster w = none) →
    Completes (exec (.drainStart k e none) s) fun u =>
      (∃ t', u.tilesOf k e = t' :: ts ∧ t'.draining = true ∧ t'.desc = t.desc ∧ t'.acc = t.acc)
      ∧ (∀ a, (a < spBase t.cluster + t.desc.addr 4 ∨ spBase t.cluster + t.desc.addr 4 + t.desc.m * t.desc.ld 4 ≤ a) → u.rdByte a = s.rdByte a)
      ∧ SameRegs [A.mxeStatus k e] s u) ∧
  (∀ (s : State) (k e : Nat) (t : Tile) (ts : List Tile), k < 4 → e < 17 → s.tilesOf k e = t :: ts → t.draining = true →
      s.stalled (.engine k e) = false →
    Completes (exec (.tileCommit k e) s) fun u =>
      u.tilesOf k e = ts ∧ u.mem = s.mem
      ∧ (u.rd (A.mxeCntTiles k e)).toNat = min (2 ^ 48 - 1) ((s.rd (A.mxeCntTiles k e)).toNat + 1)
      ∧ (t.desc.split = false → u.fld (A.mxeStatus k e) F.mxeStatus_LAST_ANCHOR = Machine.ofInt 16 t.anchor)
      ∧ (u.syn = s.syn ∨ t.desc.sigEn = true)
      ∧ (t.desc.sigEn = true → u.syn = (s.signal (.engine k e) (some t.owner.ctx) (some t.owner) t.desc.signal 1 1).syn)
      ∧ SameRegs ([A.mxeStatus k e, A.mxeCntTiles k e, A.mxeCntSat k e] ++ (if t.desc.split || t.desc.anchorSrc then []
          else (List.range 4).map (scaleAddr t.desc.scaleRec))) s u) ∧
  (∀ (s : State) (k e : Nat) (t : Tile) (ts : List Tile), k < 4 → e < 17 → s.tilesOf k e = t :: ts → t.draining = true →
      s.stalled (.engine k e) = false → t.desc.split = false → t.desc.anchorSrc = false → t.attempt = 0 → t.sat = false →
      s.fld (scaleAddr t.desc.scaleRec 0) F.scale0_MODE = 0 →
    Completes (exec (.tileCommit k e) s) fun u =>
      u.rd (scaleAddr t.desc.scaleRec 0) = s.rd (scaleAddr t.desc.scaleRec 0)
      ∧ u.fld (scaleAddr t.desc.scaleRec 3) F.scale3_TILES = min (2 ^ 48 - 1) (s.fld (scaleAddr t.desc.scaleRec 3) F.scale3_TILES + 1)
      ∧ u.fld (scaleAddr t.desc.scaleRec 2) F.scale2_STEP_PMAX
          = max (s.fld (scaleAddr t.desc.scaleRec 2) F.scale2_STEP_PMAX) (histByte t.pmax)
      ∧ u.fld (scaleAddr t.desc.scaleRec 2) F.scale2_STEP_OMAX
          = max (s.fld (scaleAddr t.desc.scaleRec 2) F.scale2_STEP_OMAX) (histByte (tileOmax t)))

/-- R205, R206, R211 to R214: scale records by command. -/
def Obligations.ScaleRecordsByCommand : Prop :=
  (∀ (s : State) (ch : Nat) (p : Packet) (r n : Nat), s.accepts ch 0x604 p → p.length = 24 → pword p 0 = r + n * 2 ^ 16 → r < 16384 →
      1 ≤ n → n ≤ 64 → r / 4096 = (r + n - 1) / 4096 →
    RepliesWith (exec (.scaleRead ch p) s) ch St.ok ((rangeFrom r n).flatMap s.scaleWords) fun u => u = s.taken ch 0x604 p) ∧
  (∀ (s : State) (ch : Nat) (p : Packet) (r : Nat), s.accepts ch 0x605 p → p.length = 88 → pword p 0 = r → r < 16384 →
      ((pword p 5 &&& 0x3000000000 = 0 ∧ s.fld (scaleAddr r 0) F.scale0_MODE ≠ 3)
        ∨ (pword p 5 &&& 0x3000000000 = 0x3000000000 ∧ pword p 1 &&& 0x3000000000 ≠ 0x3000000000)) →
    RepliesWith (exec (.scaleWriteWrite ch p) s) ch St.ok (s.scaleWords r) fun u =>
      (∀ i, i < 3 → ∀ b, b < 64 → (u.rd (scaleAddr r i)).toNat.testBit b
        = if (pword p (5 + i)).testBit b && ((i = 0 && b < 46) || i = 1 || (i = 2 && (b < 18 || 32 ≤ b)))
          then (pword p (1 + i)).testBit b else (s.rd (scaleAddr r i)).toNat.testBit b)
      ∧ OnlyRegs [scaleAddr r 0, scaleAddr r 1, scaleAddr r 2] (s.taken ch 0x605 p) u) ∧
  (∀ (s : State) (ch : Nat) (p : Packet) (r : Nat), s.accepts ch 0x605 p → p.length = 24 → pword p 0 = r + 2 ^ 16 → r < 16384 →
      s.recordNamed r = true →
    RepliesWith (exec (.scaleWriteAdvance ch p) s) ch St.busy [] fun u => u = s.taken ch 0x605 p) ∧
  (∀ (s : State) (ch : Nat) (p : Packet) (r : Nat), s.accepts ch 0x605 p → p.length = 24 → pword p 0 = r + 2 ^ 16 → r < 16384 →
      s.recordNamed r = false →
    RepliesWith (exec (.scaleWriteAdvance ch p) s) ch St.ok (s.scaleWords r) fun u =>
      u.rd (scaleAddr r 2) = 0
      ∧ u.fld (scaleAddr r 1) F.scale1_PHIST = (s.fld (scaleAddr r 1) F.scale1_PHIST * 256 + s.fld (scaleAddr r 2) F.scale2_STEP_PMAX) % 2 ^ 32
      ∧ u.fld (scaleAddr r 1) F.scale1_OHIST = (s.fld (scaleAddr r 1) F.scale1_OHIST * 256 + s.fld (scaleAddr r 2) F.scale2_STEP_OMAX) % 2 ^ 32
      ∧ u.fld (scaleAddr r 0) F.scale0_STEPS = (s.fld (scaleAddr r 0) F.scale0_STEPS + 1) % 65536
      ∧ u.fld (scaleAddr r 0) F.scale0_LAST_REPLAYED = s.fld (scaleAddr r 0) F.scale0_REPLAYED
      ∧ u.fld (scaleAddr r 0) F.scale0_REPLAYED = 0
      ∧ (s.fld (scaleAddr r 0) F.scale0_MODE = 2 → u.scaleInt (scaleAddr r 0) F.scale0_ANCHOR = s.scaleInt (scaleAddr r 0) F.scale0_ANCHOR)
      ∧ (s.fld (scaleAddr r 0) F.scale0_MODE ≠ 2 → u.fld (scaleAddr r 1) F.scale1_PHIST ≠ 0 →
          u.scaleInt (scaleAddr r 0) F.scale0_ANCHOR
            = (let x := maxdec (u.fld (scaleAddr r 1) F.scale1_PHIST) + (s.fld (scaleAddr r 0) F.scale0_MARGIN : Int)
               if s.flag (scaleAddr r 2) F.scale2_EREQ_V then max x (s.scaleInt (scaleAddr r 2) F.scale2_STEP_EREQ) else x))
      ∧ OnlyRegs [scaleAddr r 0, scaleAddr r 1, scaleAddr r 2] (s.taken ch 0x605 p) u) ∧
  (∀ (s : State) (ch : Nat) (p : Packet) (r : Nat), s.accepts ch 0x605 p → p.length = 24 → pword p 0 = r + 2 * 2 ^ 16 → r < 16384 →
    RepliesWith (exec (.scaleWriteClear ch p) s) ch St.ok (s.scaleWords r) fun u =>
      u.rd (scaleAddr r 0) = 0x200000000 ∧ u.rd (scaleAddr r 1) = 0 ∧ u.rd (scaleAddr r 2) = 0 ∧ u.rd (scaleAddr r 3) = 0
      ∧ OnlyRegs ((List.range 4).map (scaleAddr r)) (s.taken ch 0x605 p) u)

/-- R198: zero results. -/
def Obligations.ZeroSumsKeepTheirSign : Prop :=
  (∀ (a : Acc) (e x : Int) (f : Fmt) (rnd : Rnd) (ieee : Bool), a.nan = false → a.pinf = false → a.ninf = false → a.ovf = false → a.w = 0 →
    (a.output e x f rnd ieee).1 = f.zeroBits (rnd = .down)) ∧
  (∀ (a : Acc) (e x : Int) (f : Fmt) (rnd : Rnd) (ieee : Bool), a.nan = false → a.pinf = false → a.ninf = false → a.ovf = false → a.w ≠ 0 →
      (roundTo (a.value e x) f rnd).1 = 0 → beyond f (a.value e x).neg 0 (roundTo (a.value e x) f rnd).2 = false →
    (a.output e x f rnd ieee).1 = f.zeroBits (decide (a.w < 0))) ∧
  (∀ neg, Fmt.int8.zeroBits neg = 0 ∧ Fmt.int4.zeroBits neg = 0 ∧ Fmt.int32.zeroBits neg = 0
    ∧ Fmt.e4m3.zeroBits neg = (if neg then 0x80 else 0) ∧ Fmt.e5m2.zeroBits neg = (if neg then 0x80 else 0)
    ∧ Fmt.f16.zeroBits neg = (if neg then 0x8000 else 0) ∧ Fmt.bf16.zeroBits neg = (if neg then 0x8000 else 0)
    ∧ Fmt.f32.zeroBits neg = (if neg then 0x80000000 else 0) ∧ Fmt.f64.zeroBits neg = (if neg then 0x8000000000000000 else 0))

/-- R165, R189, R191, R193, R203, R204: exact sums. -/
def Obligations.ApertureRecordsCombineInAnyOrder : Prop :=
  (∀ (l m : List ApRec) (r : ApRec), l.Perm m → (∀ x ∈ l, x.anchor = r.anchor) → l.foldl ApRec.add r = m.foldl ApRec.add r) ∧
  (∀ a b c : ApRec, (a.add b).add c = a.add (b.add c)) ∧
  (∀ r : ApRec, r.w < 2 ^ 128 → r.flags < 16 → -32768 ≤ r.anchor → r.anchor ≤ 32767 → ApRec.ofBytes r.bytes = r ∧ r.bytes.length = 24) ∧
  (∀ (e x y : Int), 14 ≤ e → e ≤ 100 → -128 ≤ x → x ≤ 127 → -128 ≤ y → y ≤ 127 →
    place ((Dy.ofInt x 0).mul (Dy.ofInt y 0)) e = (x * y * (2 : Int) ^ (100 - e).toNat, false)) ∧
  (∀ e : Int, (e < 14 → (place ((Dy.ofInt (-128) 0).mul (Dy.ofInt (-128) 0)) e).2 = true)
    ∧ (100 < e → place ((Dy.ofInt 1 0).mul (Dy.ofInt 1 0)) e = (0, false))) ∧
  (∀ (e x y : Int), 6 ≤ e → e ≤ 100 → -8 ≤ x → x ≤ 7 → -8 ≤ y → y ≤ 7 →
    place ((Dy.ofInt x 0).mul (Dy.ofInt y 0)) e = (x * y * (2 : Int) ^ (100 - e).toNat, false)) ∧
  (∀ (q : Int) (n : Nat), 1 ≤ n → -(2 : Int) ^ (8 * n - 2) ≤ q → q ≤ (2 : Int) ^ (8 * n - 2) →
    (digits q n).length = n ∧ unslice (digits q n) = q ∧ ∀ d ∈ digits q n, -128 ≤ d ∧ d ≤ 127)

/-- R254 to R256, R271: loading a beam. -/
def Obligations.BeamImagesLoad : Prop :=
  (∀ (s : State) (ch : Nat) (p : Packet) (k b c : Nat), s.accepts ch 0x600 p → p.length = 32 → k < 4 → b < 2 → c < 256 →
      pword p 0 = k + b * 4 + c * 256 → pword p 1 % 64 = 0 → s.eclipse = false → s.flag (A.beamBank k b) F.beamBank_IN_USE = false →
      (s.beam k).load = none → s.ctxOpen c = true →
    Completes (exec (.beamLoad ch p) s) fun u =>
      (u.beam k).load = some { bank := b, ctx := c, addr := pword p 1, chan := ch } ∧ u.flag (A.beamBank k b) F.beamBank_VALID = false
      ∧ u.fld (A.beamBank k b) F.beamBank_CONTEXT = c ∧ u.flag (A.beamStatus k) F.beamStatus_LOADING = true
      ∧ OnlyComp [A.beamBank k b, A.beamStatus k] (s.taken ch 0x600 p) u) ∧
  (∀ (s : State) (ch : Nat) (p : Packet), s.accepts ch 0x600 p → p.length = 32 →
      (pword p 0 &&& 0xFFFFFFFFFFFF00F8 ≠ 0 ∨ pword p 1 % 64 ≠ 0) →
    RepliesWith (exec (.beamLoad ch p) s) ch St.invalid [2 ^ 64 - 1] fun u => u = s.taken ch 0x600 p) ∧
  (∀ (s : State) (ch : Nat) (p : Packet) (k b c : Nat), s.accepts ch 0x600 p → p.length = 32 → k < 4 → b < 2 → c < 256 →
      pword p 0 = k + b * 4 + c * 256 → pword p 1 % 64 = 0 →
      (s.flag (A.beamBank k b) F.beamBank_IN_USE = true ∨ (s.beam k).load.isSome = true) →
    RepliesWith (exec (.beamLoad ch p) s) ch St.busy [] fun u => u = s.taken ch 0x600 p) ∧
  (∀ (s y z : State) (k : Nat) (l : BeamLoad) (wb dc : Nat) (ws : List BWord), k < 4 → (s.beam k).load = some l → l.bank < (s.beam k).banks.length →
      s.rangeIn l.addr 64 = true → s.ccRead l.addr 64 = (y, true) → headerBad (y.rdBytes l.addr 64) = none →
      wb = leNat (((y.rdBytes l.addr 64).drop 8).take 4) → dc = leNat (((y.rdBytes l.addr 64).drop 16).take 2) →
      s.rangeIn l.addr (64 * ceilDiv (0x40 + wb) 64 + 64 * dc) = true →
      y.ccRead (l.addr + 64) (64 * ceilDiv (0x40 + wb) 64 + 64 * dc - 64) = (z, true) → z.comp = s.comp →
      z.windowLen (windowOf l.addr).1 = s.windowLen (windowOf l.addr).1 → z.poisoned l.addr 64 = false →
      z.poisoned l.addr (64 * ceilDiv (0x40 + wb) 64 + 64 * dc) = false → parseArea (z.rdWords (l.addr + 0x40) (wb / 8)) 0 (wb / 8) = .ok ws →
      secondPass ws (leNat (((y.rdBytes l.addr 64).drop 12).take 4)) dc = none →
    RepliesWith (exec (.beamLoadComplete k) s) l.chan St.ok [wb, dc] fun u =>
      (u.beam k).load = none
      ∧ (u.beam k).banks.getD l.bank default
          = { words := z.rdWords (l.addr + 0x40) (wb / 8),
              descs := (List.range dc).map (fun i => z.rdWords (l.addr + 64 * ceilDiv (0x40 + wb) 64 + 64 * i) 8),
              entry := leNat (((y.rdBytes l.addr 64).drop 12).take 4) }
      ∧ u.flag (A.beamBank k l.bank) F.beamBank_VALID = true ∧ u.flag (A.beamStatus k) F.beamStatus_LOADING = false
      ∧ OnlyComp [A.beamBank k l.bank, A.beamStatus k] z u) ∧
  (∀ (s y : State) (k o : Nat) (l : BeamLoad), k < 4 → (s.beam k).load = some l → s.rangeIn l.addr 64 = true → s.ccRead l.addr 64 = (y, true) →
      y.comp = s.comp → y.rangeIn l.addr 64 = true → y.poisoned l.addr 64 = false → headerBad (y.rdBytes l.addr 64) = some o →
    RepliesWith (exec (.beamLoadComplete k) s) l.chan St.invalid [o] fun u =>
      (u.beam k).load = none ∧ (u.beam k).banks = (s.beam k).banks ∧ OnlyComp [A.beamStatus k] y u) ∧
  (∀ (s y z : State) (k o : Nat) (l : BeamLoad) (wb dc : Nat), k < 4 → (s.beam k).load = some l →
      s.rangeIn l.addr 64 = true → s.ccRead l.addr 64 = (y, true) → headerBad (y.rdBytes l.addr 64) = none →
      wb = leNat (((y.rdBytes l.addr 64).drop 8).take 4) → dc = leNat (((y.rdBytes l.addr 64).drop 16).take 2) →
      s.rangeIn l.addr (64 * ceilDiv (0x40 + wb) 64 + 64 * dc) = true →
      y.ccRead (l.addr + 64) (64 * ceilDiv (0x40 + wb) 64 + 64 * dc - 64) = (z, true) → z.comp = s.comp →
      z.windowLen (windowOf l.addr).1 = s.windowLen (windowOf l.addr).1 → z.poisoned l.addr 64 = false →
      z.poisoned l.addr (64 * ceilDiv (0x40 + wb) 64 + 64 * dc) = false →
      (parseArea (z.rdWords (l.addr + 0x40) (wb / 8)) 0 (wb / 8) = .error o
       ∨ ∃ ws, parseArea (z.rdWords (l.addr + 0x40) (wb / 8)) 0 (wb / 8) = .ok ws
           ∧ secondPass ws (leNat (((y.rdBytes l.addr 64).drop 12).take 4)) dc = some o) →
    RepliesWith (exec (.beamLoadComplete k) s) l.chan St.invalid [o] fun u =>
      (u.beam k).load = none ∧ (u.beam k).banks = (s.beam k).banks ∧ OnlyComp [A.beamStatus k] z u)

/-- R251, R257 to R260, R262, R265, R268, R270: a beam's life. -/
def Obligations.BeamsStartPauseStepAndEnd : Prop :=
  (∀ (s : State) (ch : Nat) (p : Packet) (k b a : Nat), s.accepts ch 0x601 p → p.length = 32 → s.beamStartCheck (pword p 0) (pword p 1) = none →
      bit (pword p 0) 3 = false → k = bitsOf (pword p 0) 0 2 → b = bitsOf (pword p 0) 2 1 →
      a = (if bit (pword p 0) 5 then ((s.beam k).banks.getD b default).entry else bitsOf (pword p 1) 0 17) → a < 2 ^ 17 →
    (waitIn ((s.beam k).banks.getD b default).words a = none → RepliesWith (exec (.beamStart ch p) s) ch St.ok [] fun u =>
      u.beamState k = 1 ∧ u.beamPc k = a ∧ u.fld (A.beamStatus k) F.beamStatus_BANK = b
      ∧ u.flag (A.beamBank k b) F.beamBank_IN_USE = true ∧ u.rd (A.beamLc k) = 0
      ∧ (∀ i, i < 8 → u.rd (A.mxeBeamCntCycles k + 8 * i) = 0)
      ∧ (u.beam k).cfg = s.rd (A.beamCfg k) ∧ (u.beam k).owner = { ctx := s.fld (A.beamBank k b) F.beamBank_CONTEXT, entry := none }
      ∧ OnlyTraced ([A.beamStatus k, A.beamBank k b, A.beamLc k, A.beamStretch k] ++ (List.range 8).map (fun i => A.mxeBeamCntCycles k + 8 * i))
          (s.taken ch 0x601 p) u)
    ∧ (∀ x, waitIn ((s.beam k).banks.getD b default).words a = some x →
        s.objBoundTo (x.f 16 16) (s.fld (A.beamBank k b) F.beamBank_CONTEXT) = true →
      RepliesWith (exec (.beamStart ch p) s) ch St.ok [] fun u =>
        u.beamState k = 2 ∧ u.beamPc k = a ∧ u.flag (A.beamBank k b) F.beamBank_IN_USE = true ∧ (u.beam k).waiting = true
        ∧ (u.waitOf (.beam k)).isSome = true ∧ u.mem = s.mem)) ∧
  (∀ (s : State) (ch : Nat) (p : Packet) (k : Nat), s.accepts ch 0x601 p → p.length = 32 → s.beamStartCheck (pword p 0) (pword p 1) = none →
      bit (pword p 0) 3 = true → k = bitsOf (pword p 0) 0 2 → waitIn (s.beamBankOf k).words (s.beamPc k) = none →
    RepliesWith (exec (.beamStart ch p) s) ch St.ok [] fun u =>
      u.beamState k = 1 ∧ u.beamPc k = s.beamPc k ∧ (u.beam k).cfg = s.rd (A.beamCfg k) ∧ (u.beam k).owner = (s.beam k).owner
      ∧ OnlyTraced [A.beamStatus k, A.beamStretch k, A.mxeBeamCntPause k, A.mxeBeamCntCycles k] (s.taken ch 0x601 p) u) ∧
  (∀ (s : State) (ch : Nat) (p : Packet) (k n : Nat), s.accepts ch 0x602 p → p.length = 24 → pword p 0 = k → k < 4 → s.eclipse = false →
      1 ≤ s.beamState k → s.beamState k ≤ 3 → (s.beam k).stepChan = none → n = (s.rd (A.mxeBeamCntCycles k)).toNat →
    RepliesWith (exec (.beamStopPause ch p) s) ch St.ok
      [s.beamPc k, if s.beamState k = 1 then n else min (2 ^ 48 - 1) (n + arrayCycles (s.now - (s.beam k).since))] fun u =>
      u.beamState k = 4 ∧ u.fld (A.beamStop k) F.beamStop_CAUSE = 2 ∧ u.fld (A.beamStop k) F.beamStop_ADDR = s.beamPc k
      ∧ u.waitOf (.beam k) = none ∧ u.comp.tiles = s.comp.tiles ∧ u.comp.chains = s.comp.chains ∧ u.mem = s.mem) ∧
  (∀ (s : State) (ch : Nat) (p : Packet) (k m : Nat), s.accepts ch 0x602 p → p.length = 24 → pword p 0 = k + 16 * m → k < 4 → m < 2 →
      s.eclipse = false → s.beamState k = 0 →
    RepliesWith (exec (if m = 0 then .beamStopPause ch p else .beamStopAbort ch p) s) ch St.ok [] fun u => u = s.taken ch 0x602 p) ∧
  (∀ (s : State) (ch : Nat) (p : Packet) (k : Nat), s.accepts ch 0x602 p → p.length = 24 → pword p 0 = k + 16 → k < 4 → s.eclipse = false →
      (1 ≤ s.beamState k ∧ s.beamState k ≤ 3 ∨ s.beamState k = 5) → (s.beam k).stepChan = none →
    Completes (exec (.beamStopAbort ch p) s) fun u =>
      u.beamState k = 6 ∧ (u.beam k).aborting = (s.beam k).aborting ++ [ch] ∧ (u.chan ch).current = some (0x602, p)
      ∧ u.waitOf (.beam k) = none ∧ u.comp.tiles = s.comp.tiles ∧ u.comp.chains = s.comp.chains ∧ u.mem = s.mem) ∧
  (∀ (s : State) (k cycles ch : Nat) (op : Nat) (p : Packet), k < 4 → s.beamState k = 6 → s.beamQuiet k = true →
      (s.beam k).owner.entry = none → (s.beam k).stepChan = none → (s.beam k).aborting = [ch] → (s.chan ch).current = some (op, p) → ch < 64 →
    RepliesWith (exec (.beamAbortComplete k cycles) s) ch St.ok [] fun u =>
      u.beamState k = 0 ∧ u.fld (A.beamStop k) F.beamStop_CAUSE = 3 ∧ (u.beam k).out = (s.beam k).out ∧ u.mem = s.mem
      ∧ u.syn.flying = s.syn.flying) ∧
  (∀ (s : State) (ch : Nat) (p : Packet) (k n : Nat), s.accepts ch 0x603 p → p.length = 24 → pword p 0 = k + n * 2 ^ 16 → k < 4 → 1 ≤ n →
      n < 65536 → s.eclipse = false → s.beamState k = 4 →
    (s.plainAt k (s.beamPc k) = true → Completes (exec (.beamStep ch p) s) fun u =>
      u.beamState k = 1 ∧ u.beamPc k = s.beamPc k ∧ (u.beam k).stepLeft = n ∧ (u.beam k).stepChan = some ch ∧ (u.beam k).cycles = 0
      ∧ OnlyTraced [A.beamStatus k, A.beamStretch k, A.mxeBeamCntPause k, A.mxeBeamCntCycles k] (s.taken ch 0x603 p) u)
    ∧ (∀ x, waitIn (s.beamBankOf k).words (s.beamPc k) = some x → s.objBoundTo (x.f 16 16) (s.beamCtx k) = true →
      Completes (exec (.beamStep ch p) s) fun u =>
        u.beamState k = 2 ∧ u.beamPc k = s.beamPc k ∧ (u.beam k).stepLeft = n ∧ (u.beam k).stepChan = some ch ∧ (u.beam k).waiting = true
        ∧ (u.waitOf (.beam k)).isSome = true ∧ u.mem = s.mem)) ∧
  (∀ (s : State) (ch : Nat) (p : Packet) (k n : Nat), s.accepts ch 0x603 p → p.length = 24 → pword p 0 = k + n * 2 ^ 16 → k < 4 → 1 ≤ n →
      n < 65536 → s.beamState k ≠ 4 →
    RepliesWith (exec (.beamStep ch p) s) ch St.busy [] fun u => u = s.taken ch 0x603 p) ∧
  (∀ (s : State) (k cycles : Nat), k < 4 → s.beamState k = 5 → s.beamQuiet k = true → (s.beam k).unitErr = none → s.beamAlone k = true →
      (s.beam k).last < 2 ^ 17 →
    Completes (exec (.beamFinish k cycles) s) fun u =>
      u.beamState k = 0 ∧ u.fld (A.beamStop k) F.beamStop_CAUSE = 1 ∧ u.fld (A.beamStop k) F.beamStop_ADDR = (s.beam k).last
      ∧ (u.beam k).out = (s.beam k).out ++ (match (s.beam k).done with
          | some obj => [{ op := 1, obj := obj, value := 1, after := false, seq := (s.beam k).seq, first := (s.beam k).first,
                           owner := (s.beam k).owner }]
          | none => [])
      ∧ u.mem = s.mem ∧ u.ctl = s.ctl ∧ u.err = s.err)

/-- R230, R231, R238 to R240, R243, R244, R246, R249, R261, R270: issue. -/
def Obligations.BeamWordsIssueAndWait : Prop :=
  (∀ (s : State) (k det ext : Nat) (w : BWord), k < 4 → (s.beamState k = 1 ∨ s.beamState k = 3) → (s.beam k).unitErr = none →
      (s.beam k).waiting = false → s.beamWord k = some w → w.at' = s.beamPc k → w.slots = [] → w.at' + w.units < 2 ^ 17 → (s.beam k).stepLeft = 0 →
      (s.beam k).out.length ≤ 32 → (s.beam k).held.length ≤ 16 →
      s.plainAt k (w.at' + w.units) = true → (∀ d ∈ (s.beam k).lends, d.left ≠ 1) →
    Completes (exec (.beamWordIssue k det ext false) s) fun u =>
      u.beamState k = 1 ∧ u.beamPc k = w.at' + w.units
      ∧ (u.rd (A.mxeBeamCntWords k)).toNat = min (2 ^ 48 - 1) ((s.rd (A.mxeBeamCntWords k)).toNat + 1)
      ∧ OnlyComp ([A.beamStatus k, A.mxeBeamCntWords k, A.mxeBeamCntCycles k, A.mxeBeamCntSlipDet k, A.mxeBeamCntSlipExt k]
          ++ (List.range 4).map (A.mxeLend k)) s u) ∧
  (∀ (s : State) (k det ext : Nat) (w : BWord) (x : BSlot), k < 4 → (s.beamState k = 1 ∨ s.beamState k = 3) → (s.beam k).unitErr = none →
      (s.beam k).waiting = false → s.beamWord k = some w → w.slots = [x] → x.kind = .seq → x.op = 4 → (s.beam k).stepChan = none →
      (s.beam k).out.length ≤ 32 → (s.beam k).held.length ≤ 16 → (∀ d ∈ (s.beam k).lends, d.left ≠ 1) →
    Completes (exec (.beamWordIssue k det ext false) s) fun u =>
      u.beamState k = 5 ∧ (u.beam k).last = w.at' ∧ u.comp.tiles = s.comp.tiles ∧ u.comp.chains = s.comp.chains ∧ u.syn = s.syn
      ∧ u.mem = s.mem) ∧
  (∀ (s v : State) (k e det ext : Nat) (w : BWord) (x : BSlot), k < 4 →
      v = (if s.beamState k = 3 then s.beamSlip k (s.beam k).slipExt (det + ext) else s).spanEnds k →
      (s.beamState k = 1 ∨ s.beamState k = 3) → (s.beam k).unitErr = none → (s.beam k).waiting = false → s.beamWord k = some w →
      w.slots = [x] → x.kind = .mxe → x.op = 1 → v.physEngine k x.idx = some e → e < 17 → v.slotError k x = none → v.slotWaits k x = false →
      (s.beam k).out.length ≤ 32 → (s.beam k).held.length ≤ 16 → (s.beam k).stepLeft = 0 →
      s.plainAt k ((w.at' + w.units) % 2 ^ 17) = true →
    Completes (exec (.beamWordIssue k det ext false) s) fun u =>
      (∃ t, u.tilesOf k e = s.tilesOf k e ++ [t] ∧ t.desc = tileOfSlot x ∧ t.started = 0 ∧ t.attempt = 0 ∧ t.acc = []
        ∧ t.src = .beam ((s.beam k).seq + 1) ∧ t.owner = (s.beam k).owner)
      ∧ u.mem = s.mem ∧ u.syn = s.syn) ∧
  (∀ (s v : State) (k det ext : Nat) (w : BWord) (x : BSlot), k < 4 →
      v = (if s.beamState k = 3 then s.beamSlip k (s.beam k).slipExt (det + ext) else s).spanEnds k →
      (s.beamState k = 1 ∨ s.beamState k = 3) → (s.beam k).unitErr = none → (s.beam k).waiting = false → s.beamWord k = some w →
      w.slots = [x] → x.kind = .mxe → v.slotError k x = none → v.slotWaits k x = true →
      (s.beam k).out.length ≤ 32 → (s.beam k).held.length ≤ 16 →
    Completes (exec (.beamWordIssue k det ext false) s) fun u =>
      u.beamState k = 3 ∧ u.beamPc k = s.beamPc k ∧ (u.beam k).slipExt = (v.slotCauses k x).any id
      ∧ (s.beamState k = 3 → (s.beam k).slipExt = false →
          (u.rd (A.mxeBeamCntSlipDet k)).toNat = min (2 ^ 48 - 1) ((s.rd (A.mxeBeamCntSlipDet k)).toNat + det + ext))
      ∧ (s.beamState k = 3 → (s.beam k).slipExt = true →
          (u.rd (A.mxeBeamCntSlipExt k)).toNat = min (2 ^ 48 - 1) ((s.rd (A.mxeBeamCntSlipExt k)).toNat + det + ext))
      ∧ OnlyComp ([A.beamStatus k] ++ (if s.beamState k = 3 then [A.mxeBeamCntCycles k, A.mxeBeamCntSlipDet k, A.mxeBeamCntSlipExt k] else []))
          s u) ∧
  (∀ (s v : State) (k det ext cause : Nat) (w : BWord) (x : BSlot), k < 4 →
      v = (if s.beamState k = 3 then s.beamSlip k (s.beam k).slipExt (det + ext) else s).spanEnds k → s.beamAlone k = true →
      (s.beamState k = 1 ∨ s.beamState k = 3) → (s.beam k).unitErr = none → (s.beam k).waiting = false → s.beamWord k = some w →
      w.slots = [x] → x.kind = .mxe → v.slotError k x = some cause →
    Completes (exec (.beamWordIssue k det ext false) s) fun u =>
      u.beamState k = 0 ∧ u.fld (A.beamStop k) F.beamStop_CAUSE = cause ∧ u.fld (A.beamStop k) F.beamStop_ADDR = s.beamPc k
      ∧ u.rd (A.mxeBeamCntWords k) = s.rd (A.mxeBeamCntWords k) ∧ u.comp.tiles = s.comp.tiles ∧ u.mem = s.mem) ∧
  (∀ (s : State) (k cycles : Nat) (w : Wait), k < 4 → s.waitOf (.beam k) = some w → w.refused = false → w.met = true →
      condAccepted (s.objType w.obj) w.cond = true → s.objBoundTo w.obj w.ctx = true → (s.beam k).waited + cycles ≤ s.waitLimit k →
    Completes (exec (.beamWaitAnswer k cycles) s) fun u =>
      u.beamState k = 1 ∧ (u.beam k).waiting = false ∧ u.waitOf (.beam k) = none
      ∧ (u.rd (A.mxeBeamCntWait k)).toNat = min (2 ^ 48 - 1) ((s.rd (A.mxeBeamCntWait k)).toNat + cycles)
      ∧ SameRegs [A.beamStatus k, A.mxeBeamCntWait k, A.mxeBeamCntCycles k, objReg0 w.obj] s u ∧ u.mem = s.mem) ∧
  (∀ (s : State) (k cycles : Nat) (w : Wait), k < 4 → s.waitOf (.beam k) = some w → w.refused = false → w.met = false →
      condAccepted (s.objType w.obj) w.cond = true → s.objBoundTo w.obj w.ctx = true → (s.beam k).waited + cycles ≤ s.waitLimit k →
    Completes (exec (.beamWaitAnswer k cycles) s) fun u =>
      u.beamState k = s.beamState k ∧ u.waitOf (.beam k) = some w
      ∧ OnlyComp [A.mxeBeamCntWait k, A.mxeBeamCntCycles k] s u) ∧
  (∀ (s : State) (k cycles : Nat) (w : Wait), k < 4 → s.waitOf (.beam k) = some w → s.beamState k = 2 → s.beamAlone k = true →
      s.waitLimit k ≤ (s.beam k).waited + cycles →
    Completes (exec (.beamWaitTimeout k cycles) s) fun u =>
      u.beamState k = 0 ∧ u.fld (A.beamStop k) F.beamStop_CAUSE = 8 ∧ u.fld (A.beamStop k) F.beamStop_ADDR = s.beamPc k
      ∧ u.waitOf (.beam k) = none ∧ u.mem = s.mem) ∧
  (∀ (s : State) (k cycles : Nat), k < 4 → (s.beam k).waited + cycles < s.waitLimit k → exec (.beamWaitTimeout k cycles) s = .next s) ∧
  (∀ (s : State) (k : Nat) (x : BeamSignal) (rest : List BeamSignal), k < 4 → (s.beam k).held = x :: rest →
      (x.after = true → s.beamOps k x.first x.seq = false) → (s.beam k).out.length < 32 →
    (s.beamState k ≠ 6 ∨ x.seq ≤ (s.beam k).first → Completes (exec (.heldSignalMove k) s) fun u =>
      (u.beam k).held = rest ∧ (u.beam k).out = (s.beam k).out ++ [x] ∧ OnlyComp [] s u)
    ∧ (s.beamState k = 6 → (s.beam k).first < x.seq → s.beamWorks k = false → Completes (exec (.heldSignalMove k) s) fun u =>
      (u.beam k).held = rest ∧ (u.beam k).out = (s.beam k).out ++ [x] ∧ (u.beam k).lends = [] ∧ u.mem = s.mem ∧ u.syn = s.syn)) ∧
  (∀ (s : State) (k : Nat) (x : BeamSignal) (rest : List BeamSignal), k < 4 → (s.beam k).out = x :: rest →
    Completes (exec (.signalSend k) s) fun u =>
      (u.beam k).out = rest
      ∧ u.syn.flying = s.syn.flying ++ [{ who := .beam k, ctx := some x.owner.ctx, obj := x.obj, op := x.op, value := x.value,
                                          owner := some x.owner, seq := x.seq }]
      ∧ u.regs = s.regs ∧ u.mem = s.mem)

/-- R242, R278, R280, R285, R287, R293, R296, R300, R301: a pass and its end. -/
def Obligations.ChainsStreamAndComplete : Prop :=
  (∀ (s : State) (k x : Nat) (c : Chain), k < 4 → x < 8 → streaming (s.chainsOf k x) = some c → s.stalled (.vxe k x) = false →
      beamFirst (s.chainsOf k x) c = false → c.wrote = false → s.comp.badWords = [] → s.err.armed = [] →
      (∀ w ∈ (c.withOut (s.runPass (vxeCluster k x) c)).out.take (c.cycles - (c.ins.length + 15)), s.writeHeld (.vxe k x) (vxeCluster k x) w = none) →
    Completes (exec (.vxePassStreamed k x) s) fun u =>
      u.chainsOf k x = (s.chainsOf k x).set ((s.chainsOf k x).idxOf c) { c.withOut (s.runPass (vxeCluster k x) c) with streamed := true }
      ∧ (streaming (u.chainsOf k x) = none → u.fld (A.vxeStatus k x) F.vxeStatus_PASS_LEFT = 0)
      ∧ (u.rd (A.vxeCntElems k x)).toNat = min (2 ^ 48 - 1) ((s.rd (A.vxeCntElems k x)).toNat + c.elems)
      ∧ (u.rd (A.vxeCntStream k x)).toNat = min (2 ^ 48 - 1) ((s.rd (A.vxeCntStream k x)).toNat + c.cycles)
      ∧ SameRegs [A.vxeStatus k x, A.vxeCntStream k x, A.vxeCntElems k x] s u ∧ u.mem = s.mem ∧ u.poison = s.poison ∧ u.undef = s.undef) ∧
  (∀ (s : State) (k x : Nat) (c : Chain), k < 4 → x < 8 → streaming (s.chainsOf k x) = some c → s.stalled (.vxe k x) = false →
      beamFirst (s.chainsOf k x) c = false → c.wrote = true →
    Completes (exec (.vxePassStreamed k x) s) fun u =>
      u.chainsOf k x = (s.chainsOf k x).set ((s.chainsOf k x).idxOf c) { c with streamed := true }
      ∧ (u.rd (A.vxeCntElems k x)).toNat = min (2 ^ 48 - 1) ((s.rd (A.vxeCntElems k x)).toNat + c.elems) ∧ u.mem = s.mem) ∧
  (∀ (s : State) (k x : Nat) (c : Chain), k < 4 → x < 8 → (s.chainsOf k x).find? (·.streamed) = some c → s.stalled (.vxe k x) = false →
      c.wrote = true →
    Completes (exec (.chainComplete k x false) s) fun u =>
      u.chainsOf k x = (s.chainsOf k x).erase c ∧ u.mem = s.mem
      ∧ (u.rd (A.vxeCntChains k x)).toNat = min (2 ^ 48 - 1) ((s.rd (A.vxeCntChains k x)).toNat + 1)) ∧
  (∀ (s : State) (k x : Nat) (c : Chain), k < 4 → x < 8 → (s.chainsOf k x).find? (·.streamed) = some c → s.stalled (.vxe k x) = false →
      s.comp.badWords = [] → s.err.armed = [] → c.wrote = false →
      (∀ w ∈ c.out, s.writeHeld (.vxe k x) (vxeCluster k x) w = none) →
    Completes (exec (.chainComplete k x false) s) fun u =>
      u.chainsOf k x = (s.chainsOf k x).erase c
      ∧ (u.rd (A.vxeCntChains k x)).toNat = min (2 ^ 48 - 1) ((s.rd (A.vxeCntChains k x)).toNat + 1)
      ∧ (u.rd (A.vxeCntOor k x)).toNat = min (2 ^ 48 - 1) ((s.rd (A.vxeCntOor k x)).toNat + c.oor.foldl (· + ·) 0)
      ∧ u.syn.flying = s.syn.flying ++ (c.ins.filter (fun v => v.opc = 0x30)).map (fun v =>
          { who := .vxe k x, ctx := some c.owner.ctx, obj := v.imm32 % 65536, op := 1, value := 1, owner := some c.owner, seq := 0 })
      ∧ (∀ a, (∀ w ∈ c.out, ∀ b ∈ w, a < b.1 ∨ b.1 + b.2.1.length ≤ a) → u.rdByte a = s.rdByte a)
      ∧ (∀ pa bs, c.out = [[(pa, bs, false)]] → (∀ r ∈ s.undef, r.whole = false) → u.rdBytes pa bs.length = bs)
      ∧ SameRegs [A.vxeStatus k x, A.vxeCntChains k x, A.vxeCntOor k x, A.vxeCntSr k x, A.vxeCntPoison k x] s u) ∧
  (∀ (s : State) (k x : Nat) (c : Chain), k < 4 → x < 8 → (s.chainsOf k x).find? (·.streamed) = some c → s.stalled (.vxe k x) = false →
      s.err.armed = [] → s.err.recov = [] → c.owner.entry = none → c.wrote = false →
    Completes (exec (.chainComplete k x true) s) fun u =>
      u.chainsOf k x = (s.chainsOf k x).erase c ∧ u.mem = s.mem ∧ u.syn = s.syn
      ∧ u.rd (A.vxeCntChains k x) = s.rd (A.vxeCntChains k x)) ∧
  (∀ (v : VInstr) (a b : Int) (c : Machine.Num), v.typ = 1 → v.opc = 0x20 → v.sat = false →
    vexec v (.fin (Dy.ofInt a 0)) (.fin (Dy.ofInt b 0)) c = (.fin (Dy.ofInt (Int.bmod (a + b) (2 ^ 32)) 0), 0)) ∧
  (∀ (v : VInstr) (a b : Int) (c : Machine.Num), v.typ = 0 → v.opc = 0x10 → v.sat = true →
    vexec v (.fin (Dy.ofInt a 0)) (.fin (Dy.ofInt b 0)) c
      = (if 127 < a * b then (.fin (Dy.ofInt 127 0), 1) else if a * b < -128 then (.fin (Dy.ofInt (-128) 0), 1)
         else (.fin (Dy.ofInt (a * b) 0), 0)))

/-- R303, R307, R310, R313, R314, R324, R338: instructions that access no memory. -/
def Obligations.ThreadsComputeBranchAndVote : Prop :=
  (∀ (s u : State) (k c g lane m w : Nat) (v : Group) (r : Nat → Thread),
      s.mayIssue u k c g lane m w v .alu .none →
      (∀ l ∈ lanesOf m, (rvKind w (v.thread l).frm).isSome = true ∧ rvPlain w (v.thread l) = .ok (r l)) →
    Completes (exec (.threadAluFp k c g lane) s) fun t =>
      Retires t k c g m v r ∧ t.mem = u.mem ∧ SameRegs (issueRegs k c g) u t
      ∧ (v.subs.Pairwise (fun x y => x &&& y = 0) → ∀ v', t.group k c g = some v' → ∀ x ∈ v'.subs, x &&& m ≠ 0 →
          ∀ i j, i < 32 → j < 32 → x.testBit i = true → x.testBit j = true → (r i).pc = (r j).pc)) ∧
  (∀ (s u : State) (k c g lane m w : Nat) (v : Group) (r : Nat → Thread),
      s.mayIssue u k c g lane m w v .branch .none →
      (∀ l ∈ lanesOf m, (rvKind w (v.thread l).frm).isSome = true ∧ rvPlain w (v.thread l) = .ok (r l)) →
    Completes (exec (.threadBranch k c g lane) s) fun t =>
      Retires t k c g m v r ∧ t.mem = u.mem ∧ SameRegs (issueRegs k c g) u t
      ∧ (v.subs.Pairwise (fun x y => x &&& y = 0) → ∀ v', t.group k c g = some v' → ∀ x ∈ v'.subs, x &&& m ≠ 0 →
          ∀ i j, i < 32 → j < 32 → x.testBit i = true → x.testBit j = true → (r i).pc = (r j).pc)) ∧
  (∀ (s u : State) (k c g lane m w cycle : Nat) (v : Group), s.mayIssue u k c g lane m w v .csr .none →
    Completes (exec (.threadCsrAccess k c g lane cycle) s) fun t =>
      Retires t k c g m v (fun l => rvCsr w cycle (u.now / 2) (v.thread l)) ∧ t.mem = u.mem ∧ SameRegs (issueRegs k c g) u t) ∧
  (∀ (s u : State) (k c g lane m w : Nat) (v : Group), s.mayIssue u k c g lane m w v .fence .none →
    Completes (exec (.threadFence k c g lane) s) fun t =>
      Retires t k c g m v (fun l => (v.thread l).next) ∧ (t.core k c).l1 = [] ∧ t.mem = u.mem ∧ SameRegs (issueRegs k c g) u t) ∧
  (∀ (s u : State) (k c g lane m w : Nat) (v : Group), s.mayIssue u k c g lane m w v .fenceI .none →
    Completes (exec (.threadFenceI k c g lane) s) fun t =>
      Retires t k c g m v (fun l => (v.thread l).next) ∧ t.mem = u.mem ∧ SameRegs (issueRegs k c g) u t) ∧
  (∀ (s u : State) (k c g lane m w : Nat) (v : Group), s.mayIssue u k c g lane m w v .gfence .none →
    Completes (exec (.gfence k c g lane) s) fun t =>
      Retires t k c g m v (fun l => (v.thread l).next) ∧ (2 ≤ Rv.imm w % 8 → (t.core k c).l1 = [])
      ∧ (Rv.imm w % 8 < 2 → (t.core k c).l1 = (u.core k c).l1) ∧ t.mem = u.mem ∧ SameRegs (issueRegs k c g) u t) ∧
  (∀ (s u : State) (k c g lane m w : Nat) (v : Group), s.mayIssue u k c g lane m w v .spin .none →
    Completes (exec (.gspin k c g lane) s) fun t =>
      Retires t k c g m v (fun l => { (v.thread l).next with spinning := true }) ∧ t.mem = u.mem ∧ SameRegs (issueRegs k c g) u t) ∧
  (∀ (s u : State) (k c g lane m w ballot : Nat) (v : Group), s.mayIssue u k c g lane m w v .vote .none → ballot < 2 ^ 32 →
      (∀ l, l < 32 → ballot.testBit l = (m.testBit l && decide ((v.thread l).xr (Rv.rs1 w) ≠ 0))) →
    Completes (exec (.gvote k c g lane) s) fun t =>
      Retires t k c g m v (fun l => ((v.thread l).setReg (Rv.rd w)
        (match Rv.f7 w with | 0 => ballot | 1 => b2n (ballot ≠ 0) | _ => b2n (ballot = m))).next)
      ∧ t.mem = u.mem ∧ SameRegs (issueRegs k c g) u t) ∧
  (∀ (s u : State) (k c g lane m w : Nat) (v : Group) (src : Nat → Option Nat), s.mayIssue u k c g lane m w v .shfl .none →
      (∀ l, src l = (let b := (v.thread l).xr (Rv.rs2 w)
        let n : Option Nat := match Rv.f7 w with
          | 0 => some (b % 32) | 1 => some (l ^^^ (b % 32)) | 2 => if b ≤ l then some (l - b) else none | _ => some (l + b)
        n.bind (fun i => if i < 32 ∧ m.testBit i = true then some i else none))) →
    Completes (exec (.gshfl k c g lane) s) fun t =>
      Retires t k c g m v (fun l => ((v.thread l).setReg (Rv.rd w) ((v.thread ((src l).getD l)).xr (Rv.rs1 w))).next)
      ∧ t.mem = u.mem ∧ SameRegs (issueRegs k c g) u t) ∧
  (∀ (s u : State) (k c g lane m w : Nat) (v : Group), s.mayIssue u k c g lane m w v .gid .none →
    Completes (exec (.gid k c g lane) s) fun t =>
      Retires t k c g m v (fun l => ((v.thread l).setReg (Rv.rd w)
        ([l, g, c % 16, c / 16, k, v.index, (v.thread l).cmask, m, v.arg.toNat].getD (Rv.imm w) v.owner.ctx)).next)
      ∧ t.mem = u.mem ∧ SameRegs (issueRegs k c g) u t) ∧
  (∀ (t : Thread) (n : Nat), (t.setReg 0 n).xr 0 = 0 ∧ (t.setReg 0 n).x = t.x ∧ (t.setReg 0 n).f = t.f)

/-- R303, R309, R314, R315, R324, R342, R344, R394, R395: accesses of threads. -/
def Obligations.ThreadsLoadStoreAndAtomics : Prop :=
  (∀ (s u z : State) (k c g lane w pa : Nat) (v : Group) (e : XEntry) (x : L1Line),
      s.mayIssue u k c g lane (laneBit lane) w v .load .none →
      u.reaches z k c g v (memArgs .load w (v.thread lane)) pa e → (windowOf pa).1.isTier = true → leafRed e.leaf = 0 →
      leafPolicy e.leaf ≠ 2 → (z.core k c).l1.find? (fun y => y.line = pa / 128) = some x → x.poison.testBit (pa % 128 / 64) = false →
    Completes (exec (.threadLoad k c g lane) s) fun t =>
      (let o := if Rv.op w = 0x07 then 8 + Rv.f3 w else Rv.f3 w
       let rd := if Rv.op w = 0x07 then Rv.rd w + 32 else Rv.rd w
       let n := (memArgs .load w (v.thread lane)).2.1
       Retires t k c g (laneBit lane) v (fun l => { (v.thread l).next with
         loads := if rd = 0 then [] else [{ rd := rd, value := loadValue o ((x.bytes.drop (pa % 128)).take n) }] }))
      ∧ t.mem = z.mem ∧ t.requests = [] ∧ SameRegs (issueRegs k c g) z t) ∧
  (∀ (s u z : State) (k c g lane w pa : Nat) (v : Group) (e : XEntry) (x : L1Line),
      s.mayIssue u k c g lane (laneBit lane) w v .ldaq .none → Rv.imm w % 8 < 2 →
      u.reaches z k c g v (memArgs .ldaq w (v.thread lane)) pa e → (windowOf pa).1.isTier = true → leafRed e.leaf = 0 →
      leafPolicy e.leaf ≠ 2 → (z.core k c).l1.find? (fun y => y.line = pa / 128) = some x → x.poison.testBit (pa % 128 / 64) = false →
    Completes (exec (.gldaq k c g lane) s) fun t =>
      (let o := if bit (Rv.imm w) 3 then 3 else 2
       let rd := Rv.rd w
       let n := (memArgs .ldaq w (v.thread lane)).2.1
       Retires t k c g (laneBit lane) v (fun l => { (v.thread l).next with
         loads := if rd = 0 then [] else [{ rd := rd, value := loadValue o ((x.bytes.drop (pa % 128)).take n) }] }))
      ∧ t.mem = z.mem ∧ t.requests = [] ∧ SameRegs (issueRegs k c g) z t) ∧
  (∀ (s u z : State) (k c g lane w pa : Nat) (v : Group) (e : XEntry),
      s.mayIssue u k c g lane (laneBit lane) w v .load .none →
      u.reaches z k c g v (memArgs .load w (v.thread lane)) pa e → (windowOf pa).1.isTier = true →
      (z.core k c).l1.find? (fun y => y.line = pa / 128) = none →
    Completes (exec (.threadLoad k c g lane) s) fun t =>
      Retires t k c g (laneBit lane) v (fun l => (v.thread l).next)
      ∧ (∃ r, t.l2.flying = z.l2.flying ++ [r] ∧ r.kind = .read ∧ r.pa = pa ∧ r.who = .thread k c g lane
          ∧ r.rd = (if Rv.op w = 0x07 then Rv.rd w + 32 else Rv.rd w)
          ∧ r.len = (memArgs .load w (v.thread lane)).2.1)
      ∧ t.mem = z.mem ∧ SameRegs (issueRegs k c g) z t) ∧
  (∀ (s u z : State) (k c g lane w pa : Nat) (v : Group) (e : XEntry),
      s.mayIssue u k c g lane (laneBit lane) w v .ldaq .none → Rv.imm w % 8 < 2 →
      u.reaches z k c g v (memArgs .ldaq w (v.thread lane)) pa e → (windowOf pa).1.isTier = true →
      (z.core k c).l1.find? (fun y => y.line = pa / 128) = none →
    Completes (exec (.gldaq k c g lane) s) fun t =>
      Retires t k c g (laneBit lane) v (fun l => (v.thread l).next)
      ∧ (∃ r, t.l2.flying = z.l2.flying ++ [r] ∧ r.kind = .read ∧ r.pa = pa ∧ r.who = .thread k c g lane
          ∧ r.rd = Rv.rd w
          ∧ r.len = (memArgs .ldaq w (v.thread lane)).2.1)
      ∧ t.mem = z.mem ∧ SameRegs (issueRegs k c g) z t) ∧
  (∀ (s u z : State) (k c g lane w pa : Nat) (v : Group) (e : XEntry),
      s.mayIssue u k c g lane (laneBit lane) w v .store .none →
      u.reaches z k c g v (memArgs .store w (v.thread lane)) pa e → (windowOf pa).1.isTier = true → leafRed e.leaf = 0 →
    Completes (exec (.threadStore k c g lane) s) fun t =>
      Retires t k c g (laneBit lane) v (fun l => (v.thread l).next)
      ∧ (∃ r, t.l2.flying = z.l2.flying ++ [r] ∧ r.kind = .write ∧ r.pa = pa ∧ r.who = .thread k c g lane
          ∧ r.bytes = leBytes (memArgs .store w (v.thread lane)).2.1
              (if Rv.op w = 0x27 then (v.thread lane).fr (Rv.rs2 w) else (v.thread lane).xr (Rv.rs2 w)))
      ∧ t.mem = z.mem ∧ SameRegs (issueRegs k c g) z t) ∧
  (∀ (s u z : State) (k c g lane w pa : Nat) (v : Group) (e : XEntry),
      s.mayIssue u k c g lane (laneBit lane) w v .strl .none →
      u.reaches z k c g v (memArgs .strl w (v.thread lane)) pa e → (windowOf pa).1.isTier = true → leafRed e.leaf = 0 →
    Completes (exec (.gstrl k c g lane) s) fun t =>
      Retires t k c g (laneBit lane) v (fun l => (v.thread l).next)
      ∧ (∃ r, t.l2.flying = z.l2.flying ++ [r] ∧ r.kind = .write ∧ r.pa = pa ∧ r.who = .thread k c g lane
          ∧ r.bytes = leBytes (memArgs .strl w (v.thread lane)).2.1
              (if Rv.op w = 0x27 then (v.thread lane).fr (Rv.rs2 w) else (v.thread lane).xr (Rv.rs2 w)))
      ∧ t.mem = z.mem ∧ SameRegs (issueRegs k c g) z t) ∧
  (∀ (s u z : State) (k c g lane m w : Nat) (v : Group) (rs : List (Nat × Nat × Nat × Reach)),
      s.mayIssue u k c g lane m w v .load .none → u.reachAll k c [(g, m)] .load w = (z, some rs) → z.comp = u.comp → z.requests = [] →
      (∀ r ∈ rs, ∃ pa e, r.2.2.2 = .at pa e ∧ (windowOf pa).1.isTier = true ∧ (z.core k c).l1.all (fun y => y.line ≠ pa / 128) = true) →
    Completes (exec (.threadLoad k c g lane) s) fun t =>
      Retires t k c g m v (fun l => (v.thread l).next)
      ∧ t.l2.flying.map (·.who) = z.l2.flying.map (·.who) ++ (lanesOf m).map (fun l => Issuer.thread k c g l)
      ∧ (∀ r ∈ t.l2.flying.drop z.l2.flying.length, r.kind = .read ∧ r.owner = v.owner) ∧ t.mem = z.mem) ∧
  (∀ (s u z : State) (k c g lane m w : Nat) (v : Group) (rs : List (Nat × Nat × Nat × Reach)),
      s.mayIssue u k c g lane m w v .ldaq .none → Rv.imm w % 8 < 2 → u.reachAll k c [(g, m)] .ldaq w = (z, some rs) → z.comp = u.comp → z.requests = [] →
      (∀ r ∈ rs, ∃ pa e, r.2.2.2 = .at pa e ∧ (windowOf pa).1.isTier = true ∧ (z.core k c).l1.all (fun y => y.line ≠ pa / 128) = true) →
    Completes (exec (.gldaq k c g lane) s) fun t =>
      Retires t k c g m v (fun l => (v.thread l).next)
      ∧ t.l2.flying.map (·.who) = z.l2.flying.map (·.who) ++ (lanesOf m).map (fun l => Issuer.thread k c g l)
      ∧ (∀ r ∈ t.l2.flying.drop z.l2.flying.length, r.kind = .read ∧ r.owner = v.owner) ∧ t.mem = z.mem) ∧
  (∀ (s u z : State) (k c g lane m w : Nat) (v : Group) (rs : List (Nat × Nat × Nat × Reach)),
      s.mayIssue u k c g lane m w v .store .none → u.reachAll k c [(g, m)] .store w = (z, some rs) → z.comp = u.comp → z.requests = [] →
      (∀ r ∈ rs, ∃ pa e, r.2.2.2 = .at pa e ∧ (windowOf pa).1.isTier = true ∧ leafRed e.leaf = 0) →
    Completes (exec (.threadStore k c g lane) s) fun t =>
      Retires t k c g m v (fun l => (v.thread l).next)
      ∧ t.l2.flying.map (·.who) = z.l2.flying.map (·.who) ++ (lanesOf m).map (fun l => Issuer.thread k c g l)
      ∧ (∀ r ∈ t.l2.flying.drop z.l2.flying.length, r.kind = .write ∧ r.owner = v.owner) ∧ t.mem = z.mem) ∧
  (∀ (s u z : State) (k c g lane m w : Nat) (v : Group) (rs : List (Nat × Nat × Nat × Reach)),
      s.mayIssue u k c g lane m w v .strl .none → u.reachAll k c [(g, m)] .strl w = (z, some rs) → z.comp = u.comp → z.requests = [] →
      (∀ r ∈ rs, ∃ pa e, r.2.2.2 = .at pa e ∧ (windowOf pa).1.isTier = true ∧ leafRed e.leaf = 0) →
    Completes (exec (.gstrl k c g lane) s) fun t =>
      Retires t k c g m v (fun l => (v.thread l).next)
      ∧ t.l2.flying.map (·.who) = z.l2.flying.map (·.who) ++ (lanesOf m).map (fun l => Issuer.thread k c g l)
      ∧ (∀ r ∈ t.l2.flying.drop z.l2.flying.length, r.kind = .write ∧ r.owner = v.owner) ∧ t.mem = z.mem) ∧
  (∀ (s u z z1 y : State) (k c g lane w pa : Nat) (v : Group) (e : XEntry) (bs : List Byte),
      s.mayIssue u k c g lane (laneBit lane) w v .ldaq .none → 2 ≤ Rv.imm w % 8 →
      u.reaches z k c g v (memArgs .ldaq w (v.thread lane)) pa e →
      z.homesClear k c false [(g, lane, (memArgs .ldaq w (v.thread lane)).1, .at pa e)] (memArgs .ldaq w (v.thread lane)).2.1 = (z1, true) →
      z1.comp = z.comp →
      (z1.clearL1 k c).physRead pa (memArgs .ldaq w (v.thread lane)).2.1 (.thread k c g lane) (some v.owner) (leafPolicy e.leaf) e.evict
        = (y, .ok bs false) → y.comp = (z1.clearL1 k c).comp →
    Completes (exec (.gldaq k c g lane) s) fun t =>
      Retires t k c g (laneBit lane) v (fun l => { (v.thread l).next with
        loads := if Rv.rd w = 0 then [] else [{ rd := Rv.rd w, value := loadValue (if bit (Rv.imm w) 3 then 3 else 2) bs }] })
      ∧ (t.core k c).l1 = [] ∧ t.mem = y.mem) ∧
  (∀ (s u z z1 y : State) (k c g lane w pa : Nat) (v : Group) (e : XEntry) (bs : List Byte),
      s.mayIssue u k c g lane (laneBit lane) w v .lr .none → u.reaches z k c g v (memArgs .lr w (v.thread lane)) pa e →
      z.homesClear k c false [(g, lane, (memArgs .lr w (v.thread lane)).1, .at pa e)] (memArgs .lr w (v.thread lane)).2.1 = (z1, true) →
      z1.comp = z.comp →
      (z1.dropL1 k c (pa / 128)).physRead pa (2 ^ Rv.f3 w) (.thread k c g lane) (some v.owner) (leafPolicy e.leaf) e.evict
        = (y, .ok bs false) → y.comp = (z1.dropL1 k c (pa / 128)).comp →
    Completes (exec (.threadLr k c g lane) s) fun t =>
      Retires t k c g (laneBit lane) v (fun l =>
        ({ (v.thread l) with lastAt := some ((memArgs .lr w (v.thread l)).1 % 2 ^ 57) }.setReg (Rv.rd w)
          (Machine.ofInt 64 (sext (8 * 2 ^ Rv.f3 w) (leNat bs)))).next)
      ∧ t.resv = y.resv.filter (fun r => r.who ≠ .thread k c g lane)
          ++ [{ who := .thread k c g lane, line := pa / 128, va := (memArgs .lr w (v.thread lane)).1 % 2 ^ 57 }]
      ∧ t.mem = y.mem) ∧
  (∀ (s u z z1 : State) (k c g lane w pa : Nat) (v : Group) (e : XEntry),
      s.mayIssue u k c g lane (laneBit lane) w v .sc .none → u.reaches z k c g v (memArgs .sc w (v.thread lane)) pa e →
      z.homesClear k c true [(g, lane, (memArgs .sc w (v.thread lane)).1, .at pa e)] (memArgs .sc w (v.thread lane)).2.1 = (z1, true) →
      z1.comp = z.comp →
    Completes (exec (.threadSc k c g lane) s) fun t =>
      if z1.resv.any (fun r => r.who = .thread k c g lane && r.line = pa / 128) then
        Retires t k c g (laneBit lane) v (fun l =>
          (((v.thread l).succeeded ((memArgs .sc w (v.thread l)).1 % 2 ^ 57)).setReg (Rv.rd w) 0).next)
        ∧ t.mem = (State.physWrite { (z1.dropL1 k c (pa / 128)) with resv := z1.resv.filter (fun r => r.who ≠ .thread k c g lane) } pa
            (leBytes (2 ^ Rv.f3 w) ((v.thread lane).xr (Rv.rs2 w))) false (.thread k c g lane) v.owner (leafPolicy e.leaf) e.evict).1.mem
      else
        Retires t k c g (laneBit lane) v (fun l =>
          (((v.thread l).failed ((memArgs .sc w (v.thread l)).1 % 2 ^ 57)).setReg (Rv.rd w) 1).next)
        ∧ t.mem = z1.mem ∧ t.resv = z1.resv.filter (fun r => r.who ≠ .thread k c g lane)) ∧
  (∀ (s u z z1 y : State) (k c g lane w pa retries : Nat) (v : Group) (e : XEntry) (bs : List Byte),
      s.mayIssue u k c g lane (laneBit lane) w v .amo .none → u.reaches z k c g v (memArgs .amo w (v.thread lane)) pa e →
      z.homesClear k c true [(g, lane, (memArgs .amo w (v.thread lane)).1, .at pa e)] (memArgs .amo w (v.thread lane)).2.1 = (z1, true) →
      z1.comp = z.comp →
      (z1.dropL1 k c (pa / 128)).physRead pa (2 ^ Rv.f3 w) (.thread k c g lane) (some v.owner) (leafPolicy e.leaf) e.evict
        = (y, .ok bs false) → y.comp = (z1.dropL1 k c (pa / 128)).comp →
    Completes (exec (.threadAmo k c g lane retries) s) fun t =>
      (let new := amoResult (Rv.f7 w / 4) (8 * 2 ^ Rv.f3 w) (leNat bs) ((v.thread lane).xr (Rv.rs2 w))
       (∃ v', t.group k c g = some v' ∧ v'.thread lane =
          (let n := ((if new = leNat bs then (v.thread lane).failed ((memArgs .amo w (v.thread lane)).1 % 2 ^ 57)
              else (v.thread lane).succeeded ((memArgs .amo w (v.thread lane)).1 % 2 ^ 57)).setReg (Rv.rd w)
              (Machine.ofInt 64 (sext (8 * 2 ^ Rv.f3 w) (leNat bs)))).next
           { n with instret := n.instret + 1 }))
       ∧ t.mem = (y.physWrite pa (leBytes (2 ^ Rv.f3 w) new) false (.thread k c g lane) v.owner (leafPolicy e.leaf) e.evict).1.mem)) ∧
  (∀ (s : State) (k c g lane rd : Nat) (v : Group) (b : LoadBack), k < 4 → c < 64 → g < 8 → lane < 32 → s.group k c g = some v →
      v.threads.length = 32 → (v.thread lane).loads = [b] → b.rd = rd →
    Completes (exec (.threadLoadReturn k c g lane rd) s) fun t =>
      t.group k c g = some (v.setThread lane ({ (v.thread lane) with loads := [] }.setReg rd b.value))
      ∧ t.mem = s.mem ∧ t.l2 = s.l2 ∧ SameRegs [A.tcGroup0 k c g, A.tcGroup1 k c g] s t) ∧
  (∀ (s : State) (m waits : Nat) (r : HomeReq), m < 16 → s.l2.flying = [r] → r.kind = .write → windowOf r.pa = (.scratch m, r.pa - spBase m) →
      s.physFaults r.pa r.len true = false → s.crosses r.who r.pa = true → s.writeHeld r.who m [(r.pa, r.bytes, false)] = none → s.comp.badWords = [] → s.undef = [] →
    Completes (exec (.sidePlaneAccess m 0 [] [] waits) s) fun t =>
      t.l2.flying = [] ∧ t.rdBytes r.pa r.bytes.length = r.bytes
      ∧ (∀ a, (a < r.pa ∨ r.pa + r.bytes.length ≤ a) → t.rdByte a = s.rdByte a)
      ∧ SameRegs [A.tcSpCntSideWait (m / 4) (m % 4)] s t) ∧
  (∀ (s : State) (k c g lane waits m rd : Nat) (r : HomeReq) (v : Group), m < 16 → k < 4 → c < 64 → g < 8 → lane < 32 →
      s.l2.flying = [r] → r.kind = .read → windowOf r.pa = (.scratch m, r.pa - spBase m) →
      s.physFaults r.pa r.len false = false → s.crosses r.who r.pa = true → s.comp.badWords = [] → s.err.armed = [] → s.firstPoison r.pa r.len = none →
      r.who = .thread k c g lane → s.group k c g = some v → v.threads.length = 32 → r.l1 = false → r.rd = rd → rd ≠ 0 →
    Completes (exec (.sidePlaneAccess m 0 [] [] waits) s) fun t =>
      (∃ v', t.group k c g = some v' ∧ (v'.thread lane).loads = (v.thread lane).loads
          ++ [{ rd := rd, value := loadValue r.op (s.rdBytes r.pa r.len) }])
      ∧ t.l2.flying = [] ∧ t.mem = s.mem)

/-- R304, R305, R306, R311, R312, R322, R323: convergence, barriers, ends and placement. -/
def Obligations.ThreadsConvergeMeetAndEnd : Prop :=
  (∀ (s u : State) (k c g lane m w mm a : Nat) (v : Group),
      s.mayIssue u k c g lane m w v .conv .none → m ∈ v.subs → v.subs.Pairwise (fun x y => x &&& y = 0) →
      (∀ x ∈ v.subs, x < 2 ^ 32) → (∀ l ∈ lanesOf m, (v.thread l).pc = a) → (∀ x ∈ v.subs, x ≠ m → v.holdsConv a x = false) →
      mm = (v.subs.filter (fun x => x = m || v.standsAt a x)).foldl (· ||| ·) 0 →
    Completes (exec (.gconv k c g lane []) s) fun t =>
      (∃ v', t.group k c g = some v' ∧ mm ∈ v'.subs
        ∧ (∀ l ∈ lanesOf mm, v'.thread l = { (v.thread l).next with cmask := mm, spin := 0, spinning := false, wait := .none,
                                                                      instret := (v.thread l).instret + 1 })
        ∧ ∀ l, l < 32 → mm.testBit l = false → v'.thread l = v.thread l)
      ∧ t.mem = u.mem ∧ SameRegs (issueRegs k c g) u t) ∧
  (∀ (s u : State) (k c g lane m w a x : Nat) (v : Group), s.mayIssue u k c g lane m w v .conv .none →
      (∀ l ∈ lanesOf m, (v.thread l).pc = a) → x ∈ v.subs → x ≠ m → v.holdsConv a x = true → v.subs.Pairwise (fun y z => y &&& z = 0) → m ∈ v.subs →
    Completes (exec (.gconv k c g lane []) s) fun t =>
      (∃ v', t.group k c g = some v' ∧ v'.subs = v.subs
        ∧ ∀ l, l < 32 → v'.thread l = if m.testBit l then { v.thread l with wait := .conv } else v.thread l)
      ∧ t.mem = u.mem) ∧
  (∀ (s0 s u : State) (k c g lane m w mm a : Nat) (v : Group),
      s = s0.notBefore (Assoc.getD v.timers lane 0 + threadTicks (2 ^ F.tcDieCfg_CONV_WAIT_LOG2.get v.cfg)) →
      s.mayIssue u k c g lane m w v .conv .conv → m ∈ v.subs → v.subs.Pairwise (fun x y => x &&& y = 0) →
      (∀ x ∈ v.subs, x < 2 ^ 32) → (∀ l ∈ lanesOf m, (v.thread l).pc = a) →
      mm = (v.subs.filter (fun x => x = m || v.standsAt a x)).foldl (· ||| ·) 0 →
    Completes (exec (.gconvTimeout k c g lane []) s0) fun t =>
      (∃ v', t.group k c g = some v' ∧ mm ∈ v'.subs
        ∧ (∀ l ∈ lanesOf mm, v'.thread l = { (v.thread l).next with cmask := mm, spin := 0, spinning := false, wait := .none,
                                                                      instret := (v.thread l).instret + 1 })
        ∧ ∀ l, l < 32 → mm.testBit l = false → v'.thread l = v.thread l)
      ∧ t.mem = u.mem ∧ SameRegs (tcCnt k c 6 :: issueRegs k c g) u t) ∧
  (∀ (s u : State) (k c g lane m w o n a : Nat) (v y : Group),
      s.mayIssue u k c g lane m w v .conv .none → v.subs = [m] → (∀ l ∈ lanesOf m, (v.thread l).pc = a) →
      (u.core k c).packs = [] → (u.core k c).conv.find? (fun e => e.1 = o && e.2.2 = a) = some (o, n, a) → u.group k c o = some y → o ≠ g →
      n &&& m = 0 → y.launch = v.launch → n ∈ y.subs → u.slotState k c o = 1 →
      F.tcDieCfg_REPACK_EN.get v.cfg = 1 → F.tcDieCfg_REPACK_EN.get y.cfg = 1 →
    Completes (exec (.gconv k c g lane [o]) s) fun t =>
      (t.core k c).packs = [if g < o then [(g, m), (o, n)] else [(o, n), (g, m)]]
      ∧ t.issueSet k c g lane = (if g < o then [(g, m), (o, n)] else [(o, n), (g, m)])) ∧
  (∀ (s u : State) (k c g lane m w M r : Nat) (v : Group), s.mayIssue u k c g lane m w v .bar .none → Rv.rs1 w = 0 →
      (∀ l ∈ lanesOf m, (v.thread l).cmask = M) → m &&& M = m → r &&& m = 0 → M < 2 ^ 32 → r < 2 ^ 32 →
      (Assoc.get? v.bars (Rv.imm w % 4) = some { mask := M, arrived := r } ∨ Assoc.get? v.bars (Rv.imm w % 4) = none ∧ r = 0) →
    Completes (exec (.gbar k c g lane) s) fun t =>
      (∃ v', t.group k c g = some v' ∧
        (if M &&& ((r ||| m ||| v.mask (·.ended)) ^^^ (2 ^ 32 - 1)) = 0 then
          Assoc.get? v'.bars (Rv.imm w % 4) = none
          ∧ (∀ l ∈ lanesOf m, v'.thread l = { (v.thread l).next with instret := (v.thread l).instret + 1 })
          ∧ (∀ l, l < 32 → (v.thread l).wait = .bar (Rv.imm w % 4) → v'.thread l = { v.thread l with wait := .none })
        else
          Assoc.get? v'.bars (Rv.imm w % 4) = some { mask := M, arrived := r ||| m }
          ∧ (∀ l ∈ lanesOf m, v'.thread l = { (v.thread l).next with wait := .bar (Rv.imm w % 4), instret := (v.thread l).instret + 1 }))
        ∧ ∀ l, l < 32 → m.testBit l = false → (v.thread l).wait ≠ .bar (Rv.imm w % 4) → v'.thread l = v.thread l)
      ∧ t.mem = u.mem ∧ SameRegs (A.tcGroup2 k c g :: issueRegs k c g) u t) ∧
  (∀ (s : State) (k c g bar l : Nat) (v : Group) (b : BarInst), k < 4 → c < 64 → g < 8 → bar < 4 → s.group k c g = some v →
      Assoc.get? v.bars bar = some b → s.slotState k c g = 1 → lowestBit (v.mask (fun t => t.wait = .bar bar)) 32 = some l →
    (s.debugOpen v.owner.ctx = true → s.eclipse = false → Completes (exec (.barrierStall k c g bar) s) fun t =>
      (∃ v', t.group k c g = some v' ∧ v'.threads = v.threads) ∧ t.slotState k c g = 3 ∧ t.fld (A.tcGroup0 k c g) F.tcGroup0_CAUSE = 4
      ∧ t.fld (A.tcGroup0 k c g) F.tcGroup0_FAULT_LANE = l ∧ t.rd (A.tcGroup3 k c g) = BitVec.ofNat 64 (v.thread l).pc
      ∧ Assoc.getD v.timers (32 + bar) 0 + threadTicks (2 ^ F.tcDieCfg_BAR_TIMEOUT_LOG2.get v.cfg) ≤ t.now)
    ∧ (s.debugOpen v.owner.ctx = false → Completes (exec (.barrierStall k c g bar) s) fun t =>
      t.group k c g = none ∧ t.slotState k c g = 0)) ∧
  (∀ (s u : State) (k c g lane m w : Nat) (v : Group), s.mayIssue u k c g lane m w v .exit .none → v.bars = [] →
      v.mask (fun t => !t.ended) &&& (m ^^^ (2 ^ 32 - 1)) ≠ 0 →
    Completes (exec (.gexit k c g lane) s) fun t =>
      Retires t k c g m v (fun l => { (v.thread l) with ended := true, spinning := false }) ∧ t.slotState k c g = 1
      ∧ t.mem = u.mem ∧ SameRegs (issueRegs k c g) u t) ∧
  (∀ (s u : State) (k c g lane m w : Nat) (v : Group), s.mayIssue u k c g lane m w v .exit .none → v.bars = [] →
      v.mask (fun t => !t.ended) &&& (m ^^^ (2 ^ 32 - 1)) = 0 → s.comp.launches = [] →
    Completes (exec (.gexit k c g lane) s) fun t =>
      t.group k c g = none ∧ t.slotState k c g = 0 ∧ t.mem = u.mem ∧ SameRegs (A.tcStatus k c :: A.tcGroup2 k c g :: issueRegs k c g) u t) ∧
  (∀ (s : State) (l k c g : Nat) (v : Launch), k < 4 → c < 64 → g < 8 → Assoc.get? s.comp.launches l = some v → v.stop = false →
      v.next < bitsOf (v.w.getD 4 0) 0 25 → s.group k c g = none → s.mayPlace k c v = true →
    Completes (exec (.groupPlace l k c g) s) fun t =>
      (∃ x, t.group k c g = some x ∧ x.owner = v.owner ∧ x.launch = l ∧ x.index = v.next ∧ x.arg.toNat = v.w.getD 1 0 % 2 ^ 64
        ∧ x.subs = [bitsOf (v.w.getD 5 0) 0 32] ∧ x.bars = []
        ∧ ∀ i, i < 32 → (x.thread i).pc = v.w.getD 0 0 ∧ (x.thread i).instret = 0 ∧ (x.thread i).ended = !bit (v.w.getD 5 0) i
            ∧ (bit (v.w.getD 5 0) i = true →
                (x.thread i).xr 2 = (v.w.getD 2 0 + (32 * v.next + i + 1) * bitsOf (v.w.getD 3 0) 0 32) % 2 ^ 64
                ∧ (x.thread i).xr 10 = v.w.getD 1 0 % 2 ^ 64 ∧ (x.thread i).xr 11 = (32 * v.next + i) % 2 ^ 64))
      ∧ Assoc.get? t.comp.launches l = some { v with next := v.next + 1 } ∧ t.slotState k c g = 1
      ∧ t.fld (A.tcGroup0 k c g) F.tcGroup0_LAUNCH_IDX = v.next % 2 ^ F.tcGroup0_LAUNCH_IDX.w ∧ t.mem = s.mem
      ∧ SameRegs [A.tcGroup0 k c g, A.tcGroup1 k c g, A.tcGroup2 k c g, A.tcGroup3 k c g, A.tcStatus k c] s t)

/-- R169, R296, R314, R316, R319, R320, R321, R512, R513: signals, waits and engines. -/
def Obligations.ThreadsSignalWaitAndFeedEngines : Prop :=
  (∀ (s u z : State) (k c g lane w obj : Nat) (v : Group), s.mayIssue u k c g lane (laneBit lane) w v .sig .none →
      obj = (v.thread lane).xr (Rv.rs1 w) % 65536 → (∀ e ∈ u.board.towerRst, e.1 ≠ objTower obj) →
      u.reachesObj (.thread k c g lane) obj = true →
      u.objOp (some v.owner.ctx) obj (Rv.f7 w % 4)
        (if Rv.f7 w % 4 = 2 then (v.thread lane).xr (Rv.rs2 w) else (v.thread lane).xr (Rv.rs2 w) % 2 ^ 32) = (z, true) → z.comp = u.comp →
    Completes (exec (.gsig k c g lane) s) fun t =>
      Retires t k c g (laneBit lane) v (fun l => (v.thread l).next) ∧ t.mem = z.mem ∧ t.syn = z.syn ∧ SameRegs (issueRegs k c g) z t) ∧
  (∀ (s u : State) (k c g lane w obj : Nat) (v : Group), s.mayIssue u k c g lane (laneBit lane) w v .gwait .none →
      obj = (v.thread lane).xr (Rv.rs1 w) % 65536 → u.objBoundTo obj v.owner.ctx = true → condAccepted (u.objType obj) (Rv.f7 w % 4) = true →
    Completes (exec (.gwait k c g lane) s) fun t =>
      Retires t k c g (laneBit lane) v (fun l => { (v.thread l).next with wait := .gwait (Rv.rd w) (Rv.f7 w / 4) })
      ∧ t.mem = u.mem ∧ t.syn = (u.beginWait (.thread k c g lane) v.owner.ctx obj (Rv.f7 w % 4) ((v.thread lane).xr (Rv.rs2 w) % 2 ^ 32)).syn) ∧
  (∀ (s : State) (k c g lane rd scope : Nat) (v : Group) (x : Wait), k < 4 → c < 64 → g < 8 → lane < 32 →
      s.group k c g = some v → v.threads.length = 32 → (v.thread lane).wait = .gwait rd scope → s.slotState k c g = 1 →
      s.waitOf (.thread k c g lane) = some x →
    (x.met = true → Completes (exec (.gwaitWake k c g lane) s) fun t =>
      t.group k c g = some (v.setThread lane ({ (v.thread lane) with wait := .none }.setReg rd 0))
      ∧ t.waitOf (.thread k c g lane) = none ∧ (2 ≤ scope → (t.core k c).l1 = []) ∧ t.mem = s.mem)
    ∧ (x.met = false → Completes (exec (.gwaitTimeout k c g lane) s) fun t =>
      t.group k c g = some (v.setThread lane ({ (v.thread lane) with wait := .none }.setReg rd 1))
      ∧ t.waitOf (.thread k c g lane) = none ∧ (t.core k c).l1 = (s.core k c).l1 ∧ t.mem = s.mem
      ∧ x.since + threadTicks (2 ^ F.tcDieCfg_GWAIT_TIMEOUT_LOG2.get v.cfg) ≤ t.now)) ∧
  (∀ (s u : State) (k c g lane w e off : Nat) (v : Group) (d : TileDesc), s.mayIssue u k c g lane (laneBit lane) w v .mx .none →
      u.physEngine k (4 * (c / 16) + Rv.f7 w) = some e → u.engineLent k e = true → u.flag (A.mxePort k e) F.mxePort_OWNER_VALID = true →
      u.fld (A.mxePort k e) F.mxePort_OWNER_TC = c % 16 → u.fld (A.mxePort k e) F.mxePort_OWNER_GROUP = g →
      u.fld (A.mxePort k e) F.mxePort_OWNER_THREAD = lane → v.owner.ctx = u.beamCtx k → u.mxeFenced k e = false → (u.tilesOf k e).length < 4 →
      off = (v.thread lane).xr (Rv.rs1 w) → off % 64 = 0 → off < spBytes → u.err.armed = [] → u.comp.badWords = [] →
      d = { w := u.rdWords (spBase (threadCluster k c) + off) 8 } → u.poisoned (spBase (threadCluster k c) + off) 64 = false →
      u.descOk k v.owner.ctx d = true →
    Completes (exec (.mxissue k c g lane) s) fun t =>
      Retires t k c g (laneBit lane) v (fun l => { (v.thread l).next with
        loads := if Rv.rd w = 0 then [] else [{ rd := Rv.rd w, value := 0 }] })
      ∧ (∃ x, t.tilesOf k e = u.tilesOf k e ++ [x] ∧ x.desc = d ∧ x.owner = v.owner)
      ∧ t.fld (A.mxePort k e) F.mxePort_LAST_STATUS = 0 ∧ t.mem = u.mem) ∧
  (∀ (s u : State) (k c g lane w e st : Nat) (v : Group), s.mayIssue u k c g lane (laneBit lane) w v .mx .none →
      u.physEngine k (4 * (c / 16) + Rv.f7 w) = some e → u.mxeFenced k e = false →
      (if u.engineLent k e && u.flag (A.mxePort k e) F.mxePort_OWNER_VALID && u.fld (A.mxePort k e) F.mxePort_OWNER_TC = c % 16
        && u.fld (A.mxePort k e) F.mxePort_OWNER_GROUP = g && u.fld (A.mxePort k e) F.mxePort_OWNER_THREAD = lane
        && decide (v.owner.ctx = u.beamCtx k)
       then 4 ≤ (u.tilesOf k e).length ∧ st = 1 else st = 2) →
    Completes (exec (.mxissue k c g lane) s) fun t =>
      Retires t k c g (laneBit lane) v (fun l => { (v.thread l).next with
        loads := if Rv.rd w = 0 then [] else [{ rd := Rv.rd w, value := st }] })
      ∧ t.tilesOf k e = u.tilesOf k e ∧ t.fld (A.mxePort k e) F.mxePort_LAST_STATUS = st ∧ t.mem = u.mem) ∧
  (∀ (s u z : State) (k c g lane w j x lo hi : Nat) (v : Group) (i : VInstr), s.mayIssue u k c g lane (laneBit lane) w v .vx .none →
      j = c / 16 → x = Rv.f7 w % 2 → lo = (v.thread lane).xr (Rv.rs1 w) → hi = (v.thread lane).xr (Rv.rs2 w) → bit (Rv.f7 w) 1 = bit lo 0 →
      u.flag (A.vxeStatus k (2 * j + x)) F.vxeStatus_LENT = true → v.owner.ctx = u.beamCtx k →
      (∃ d ∈ (u.beam k).lends, d.cl = j ∧ d.vx.testBit x = true ∧ d.tc = c % 16 ∧ d.grp = g ∧ d.thr = lane) → u.vxeFenced k (2 * j + x) = false →
      u.chainsOf k (2 * j + x) = [] → u.vxeFetch k (2 * j + x) lo hi = (z, some i) → z = u → i.opc ≠ 0x30 → chainAccepts [] i false = true →
    Completes (exec (.vxissue k c g lane) s) fun t =>
      Retires t k c g (laneBit lane) v (fun l => { (v.thread l).next with
        loads := if Rv.rd w = 0 then [] else [{ rd := Rv.rd w, value := 0 }] })
      ∧ (∃ ch, t.chainsOf k (2 * j + x) = [ch] ∧ ch.ins = [i]) ∧ t.fld (A.vxeStatus k (2 * j + x)) F.vxeStatus_LAST_PORT = 0 ∧ t.mem = u.mem) ∧
  (∀ (s u : State) (k c g lane w : Nat) (v : Group), s.mayIssue u k c g lane (2 ^ 32 - 1) w v .fmma .none →
    Completes (exec (.fmma k c g lane) s) fun t =>
      Retires t k c g (2 ^ 32 - 1) v (fun l => (fragMma w v.threads).getD l default) ∧ t.mem = u.mem
      ∧ SameRegs (tcCnt k c 5 :: issueRegs k c g) u t)

/-- R303, R327, R328, R329, R330, R331, R332, R337: faults of groups and the debugger. -/
def Obligations.ThreadsFaultAndAreDebugged : Prop :=
  (∀ (s u : State) (k c g lane m w : Nat) (v : Group), s.mayIssue u k c g lane m w v .ecall .none → lane = (lanesOf m).headD 0 →
      (∀ l ∈ lanesOf m, (v.thread l).pc = (v.thread lane).pc) → u.debugOpen v.owner.ctx = true → u.eclipse = false →
    Completes (exec (.threadEcall k c g lane) s) fun t =>
      (∃ v', t.group k c g = some v' ∧ v'.threads = v.threads) ∧ t.slotState k c g = 3 ∧ t.fld (A.tcGroup0 k c g) F.tcGroup0_CAUSE = 12
      ∧ t.fld (A.tcGroup0 k c g) F.tcGroup0_FAULT_LANE = lane ∧ t.rd (A.tcGroup3 k c g) = BitVec.ofNat 64 (v.thread lane).pc) ∧
  (∀ (s u : State) (k c g lane m w : Nat) (v : Group), u.debugOpen v.owner.ctx = false →
    (s.mayIssue u k c g lane m w v .ecall .none → Completes (exec (.threadEcall k c g lane) s) fun t =>
      t.group k c g = none ∧ t.slotState k c g = 0)
    ∧ (s.mayIssue u k c g lane m w v .ebreak .none → Completes (exec (.threadEbreak k c g lane) s) fun t =>
      t.group k c g = none ∧ t.slotState k c g = 0)) ∧
  (∀ (s u : State) (k c g lane m w : Nat) (v : Group), s.mayIssue u k c g lane m w v .ebreak .none →
      u.debugOpen v.owner.ctx = true →
    Completes (exec (.threadEbreak k c g lane) s) fun t =>
      (∃ v', t.group k c g = some v' ∧ v'.threads = v.threads) ∧ t.slotState k c g = 2 ∧ t.fld (A.tcGroup0 k c g) F.tcGroup0_CAUSE = 3
      ∧ t.mem = u.mem) ∧
  (∀ (s : State) (ch w k c g : Nat) (p : Packet), s.accepts ch 0x700 p → p.length = 24 → w = pword p 0 → w &&& grpBits = w →
      k = grpTower w → c = grpCore w → g = grpSlot w → s.grpCheck w = none → s.slotState k c g = 1 → s.pwr.stopped = none →
      ((s.taken ch 0x700 p).haltGroup k c g 1).grpQuiet k c g = true →
    ∃ ds, ds.length = 4 ∧ RepliesWith (exec (.tcGroupHalt ch p) s) ch St.ok ds fun t =>
      ds = t.grpWords k c g ∧ t.slotState k c g = 2 ∧ t.fld (A.tcGroup0 k c g) F.tcGroup0_CAUSE = 1 ∧ t.mem = s.mem
      ∧ (t.group k c g).map (·.threads) = (s.group k c g).map (·.threads)) ∧
  (∀ (s : State) (ch w k c g : Nat) (p : Packet), s.accepts ch 0x700 p → p.length = 24 → w = pword p 0 → w &&& grpBits = w →
      k = grpTower w → c = grpCore w → g = grpSlot w → s.grpCheck w = none → s.slotState k c g = 1 → s.pwr.stopped = none →
      ((s.taken ch 0x700 p).haltGroup k c g 1).grpQuiet k c g = false →
    Completes (exec (.tcGroupHalt ch p) s) fun t =>
      t.slotState k c g = 2 ∧ t.fld (A.tcGroup0 k c g) F.tcGroup0_CAUSE = 1 ∧ (t.chan ch).current = some (0x700, p) ∧ (t.chan ch).busy = false
      ∧ t.mem = s.mem) ∧
  (∀ (s : State) (ch w k c g : Nat) (p : Packet), s.accepts ch 0x701 p → p.length = 24 → w = pword p 0 → w &&& (grpBits + 2 ^ 24) = w →
      k = grpTower w → c = grpCore w → g = grpSlot w → s.grpCheck w = none → s.slotState k c g = 2 → s.eclipse = false →
    RepliesWith (exec (.tcGroupResume ch p) s) ch St.ok [] fun t =>
      t.slotState k c g = 1 ∧ t.fld (A.tcGroup0 k c g) F.tcGroup0_CAUSE = 0 ∧ t.mem = s.mem
      ∧ (t.group k c g).map (·.threads) = (s.group k c g).map (·.threads) ∧ SameRegs [A.tcGroup0 k c g, A.tcStatus k c] s t) ∧
  (∀ (s z : State) (ch w k c g l : Nat) (p : Packet) (v v' : Group), s.accepts ch 0x702 p → p.length = 24 → w = pword p 0 →
      w &&& (grpBits + 0x1F000000) = w → k = grpTower w → c = grpCore w → g = grpSlot w → l = bitsOf w 24 5 → s.grpCheck w = none →
      s.slotState k c g = 2 → s.eclipse = false → s.group k c g = some v → (v.thread l).ended = false →
      (∀ e ∈ s.issueSet k c g l, e.1 = g ∧ ∀ i ∈ lanesOf e.2, (v.thread i).wait = .none) →
      z = (s.taken ch 0x702 p).issue k c g l (fun _ => true) { step := true } →
    (z.group k c g = some v' → z.slotState k c g = 2 → (z.core k c).turns ≠ (s.core k c).turns →
      ∃ ds, ds.length = 5 ∧ RepliesWith (exec (.tcGroupStep ch p) s) ch St.ok ds fun t =>
        ds = t.grpWords k c g ++ [(v'.thread l).pc] ∧ t.slotState k c g = 2 ∧ t.group k c g = some v' ∧ t.mem = z.mem
        ∧ (t.fld (A.tcGroup0 k c g) F.tcGroup0_CAUSE = 2 ∨ t.fld (A.tcGroup0 k c g) F.tcGroup0_CAUSE = 3))
    ∧ ((z.core k c).turns = (s.core k c).turns → Completes (exec (.tcGroupStep ch p) s) fun t =>
        t = { z with ctl := t.ctl } ∧ (t.chan ch).busy = false)) ∧
  (∀ (s : State) (ch w a k c g : Nat) (p : Packet) (v : Group), s.accepts ch 0x703 p → p.length = 32 → w = pword p 0 → a = pword p 1 →
      w &&& grpBits = w → a &&& 0x7F7F1F = a → k = grpTower w → c = grpCore w → g = grpSlot w → s.grpCheck w = none →
      1 ≤ bitsOf a 16 7 → bitsOf a 16 7 ≤ 64 → bitsOf a 8 7 + bitsOf a 16 7 ≤ 69 → s.slotState k c g ≠ 1 → s.group k c g = some v →
    RepliesWith (exec (.tcGroupRead ch p) s) ch St.ok
      ((rangeFrom (bitsOf a 8 7) (bitsOf a 16 7)).map (fun i => s.threadReg k c g (bitsOf a 0 5) (v.thread (bitsOf a 0 5)) i))
      fun t => t = s.taken ch 0x703 p) ∧
  (∀ (s : State) (k c g l i : Nat) (t : Thread),
      (i < 32 → s.threadReg k c g l t i = t.xr i) ∧ (32 ≤ i → i < 64 → s.threadReg k c g l t i = t.fr (i - 32))
      ∧ s.threadReg k c g l t 64 = t.pc ∧ s.threadReg k c g l t 65 = t.fcsr ∧ s.threadReg k c g l t 66 = t.cmask) ∧
  (∀ (s : State) (ch w a k c g l n i : Nat) (p : Packet) (v : Group), s.accepts ch 0x704 p → p.length = 40 → w = pword p 0 → a = pword p 1 →
      n = pword p 2 → w &&& grpBits = w → a &&& 0x7F7F1F = a → k = grpTower w → c = grpCore w → g = grpSlot w → s.grpCheck w = none →
      l = bitsOf a 0 5 → i = bitsOf a 8 7 → bitsOf a 16 7 = 1 → i < 64 → s.slotState k c g ≠ 1 → s.group k c g = some v →
    RepliesWith (exec (.tcGroupWrite ch p) s) ch St.ok [] fun t =>
      t.group k c g = some (v.setThread l ((v.thread l).setReg i n)) ∧ t.mem = s.mem) ∧
  (∀ (s : State) (ch w a k c g l n : Nat) (p : Packet) (v : Group), s.accepts ch 0x704 p → p.length = 40 → w = pword p 0 → a = pword p 1 →
      n = pword p 2 → w &&& grpBits = w → a &&& 0x7F7F1F = a → k = grpTower w → c = grpCore w → g = grpSlot w → s.grpCheck w = none →
      l = bitsOf a 0 5 → bitsOf a 8 7 = 64 → bitsOf a 16 7 = 1 → n % 4 = 0 → s.slotState k c g ≠ 1 → s.group k c g = some v →
      v.threads.length = 32 → (v.thread l).ended = false →
    RepliesWith (exec (.tcGroupWrite ch p) s) ch St.ok [] fun t =>
      (∃ v', t.group k c g = some v' ∧ (v'.thread l).pc = n ∧ laneBit l ∈ v'.subs ∧ ∀ x ∈ v'.subs, x ≠ laneBit l → x.testBit l = false)
      ∧ t.mem = s.mem) ∧
  (∀ (s : State) (ch w k c g : Nat) (p : Packet), w = pword p 0 → w &&& grpBits = w → pword p 1 = 0x10000 → k = grpTower w →
      c = grpCore w → g = grpSlot w → s.grpCheck w = none → s.slotState k c g = 1 →
    (s.accepts ch 0x703 p → p.length = 32 → RepliesWith (exec (.tcGroupRead ch p) s) ch St.busy [] fun t => t = s.taken ch 0x703 p)
    ∧ (s.accepts ch 0x704 p → p.length = 40 → RepliesWith (exec (.tcGroupWrite ch p) s) ch St.busy [] fun t => t = s.taken ch 0x704 p))

/-- R346, R348, R350, R351, R353 to R356, R361, R362: the descriptors of a tensor mover. -/
def Obligations.MoversMoveCompleteAndStop : Prop :=
  (∀ (s : State) (k m cl : Nat) (d : Move), k < 4 → m < 16 → cl = 4 * k + m / 4 → (s.mover k m).queue = [d] → (s.mover k m).stopped = none →
      d.started = false → d.fail = none → d.w.length = 8 → d.pos < 4096 → s.unitsHeld = false → s.fld (A.tmStatus k m) F.tmStatus_STATE ≠ 4 →
      s.stalled (.mover k m) = false → s.moveOk d = true → d.dir = false → d.mKind = 2 → d.fmtS = d.fmtD → isMx d.fmtD = false →
      isSliced d.fmtD = false → d.rows = 1 → d.valid 0 = d.count 0 → d.valid 1 = d.count 1 → d.chain = false → s.comp.badWords = [] →
      s.err.armed = [] → s.undef = [] → s.poisoned (spBase cl + d.mAddr) d.spRow = false → s.comp.tiles = [] →
    Completes (exec (.moveDescStart k m) s) fun t =>
      (t.mover k m).queue = [{ d with started := true, elems := d.count 0 }]
      ∧ t.rdBytes (spBase cl + d.sp) d.spRow = s.rdBytes (spBase cl + d.mAddr) d.spRow
      ∧ (∀ a, (a < spBase cl + d.sp ∨ spBase cl + d.sp + d.spRow ≤ a) → t.rdByte a = s.rdByte a)
      ∧ SameRegs [A.tmStatus k m, A.tmProgress k m, A.tcTmCntBytesRd k m, A.tcTmCntBytesWr k m] s t) ∧
  (∀ (s z : State) (k m cl : Nat) (d : Move) (rs : List (Nat × List (Byte × Bool))) (out : MoveOut) (bs : List (Byte × Bool)),
      k < 4 → m < 16 → cl = 4 * k + m / 4 → (s.mover k m).queue = [d] → (s.mover k m).stopped = none →
      d.started = false → d.fail = none → d.w.length = 8 → d.pos < 4096 → s.unitsHeld = false → s.fld (A.tmStatus k m) F.tmStatus_STATE ≠ 4 →
      s.stalled (.mover k m) = false → s.moveOk d = true → d.dir = false → d.mKind = 0 → d.chain = false →
      s.readRowsVa k m d d.readRows = (z, rs, .ok bs) → z.comp = s.comp → s.comp.tiles = [] → s.comp.badWords = [] → s.err.armed = [] →
      out = d.loadOut ((List.range d.rows).map (fun r => d.loadRow r (match rs.find? (fun x => x.1 = r) with | some x => x.2 | none => []))) →
    Completes (exec (.moveDescStart k m) s) fun t =>
      (t.mover k m).queue = [{ d with started := true, elems := d.rows * d.count 0 }]
      ∧ (∀ o ps, out.1 = [(o, ps)] → z.undef = [] → t.rdBytes (spBase cl + o) ps.length = ps.map (·.1))
      ∧ (∀ a, (∀ p ∈ out.1, a < spBase cl + p.1 ∨ spBase cl + p.1 + p.2.length ≤ a) → t.rdByte a = z.rdByte a)
      ∧ (t.rd (A.tcTmCntOor k m)).toNat = min (2 ^ 48 - 1) ((z.rd (A.tcTmCntOor k m)).toNat + out.2)
      ∧ (t.rd (A.tcTmCntBytesRd k m)).toNat = min (2 ^ 48 - 1) ((z.rd (A.tcTmCntBytesRd k m)).toNat
          + (if isMx d.fmtD || isSliced d.fmtD then 2 else 1) * (rs.map (fun r => r.2.length)).foldl (· + ·) 0)
      ∧ (t.rd (A.tcTmCntBytesWr k m)).toNat
          = min (2 ^ 48 - 1) ((z.rd (A.tcTmCntBytesWr k m)).toNat + (out.1.map (fun p => p.2.length)).foldl (· + ·) 0)
      ∧ SameRegs [A.tmStatus k m, A.tmProgress k m, A.tcTmCntBytesRd k m, A.tcTmCntBytesWr k m, A.tcTmCntOor k m, A.tcTmCntPoison k m] z t) ∧
  (∀ (s z : State) (k m cl oor : Nat) (d : Move) (bs rs : List (Byte × Bool)),
      k < 4 → m < 16 → cl = 4 * k + m / 4 → (s.mover k m).queue = [d] → (s.mover k m).stopped = none →
      d.started = false → d.fail = none → d.w.length = 8 → d.pos < 4096 → s.unitsHeld = false → s.fld (A.tmStatus k m) F.tmStatus_STATE ≠ 4 →
      s.stalled (.mover k m) = false → s.moveOk d = true → d.dir = true → d.mKind = 0 → d.rows = 1 → d.row = 0 → d.chain = false →
      isMx d.fmtS = false → s.comp.badWords = [] → s.err.armed = [] → s.storeRow cl d 0 = (bs, oor) →
      s.writeVa (.cluster cl) d.owner.ctx d.mAddr bs (.mover k m) d.owner d.id = (z, .ok rs) → z.comp = s.comp →
    Completes (exec (.moveDescStart k m) s) fun t =>
      t.mem = z.mem ∧ t.poison = z.poison ∧ (∃ e, (t.mover k m).queue = [e] ∧ e.started = true ∧ e.elems = d.count 0)
      ∧ SameRegs [A.tmStatus k m, A.tmProgress k m, A.tcTmCntBytesRd k m, A.tcTmCntBytesWr k m, A.tcTmCntOor k m, A.tcTmCntPoison k m] z t) ∧
  (∀ (s : State) (k m : Nat) (d : Move), k < 4 → m < 16 → (s.mover k m).queue = [d] → (s.mover k m).stopped = none →
      d.started = false → d.fail = none → d.w.length = 8 → s.unitsHeld = false → s.fld (A.tmStatus k m) F.tmStatus_STATE ≠ 4 →
      s.stalled (.mover k m) = false → (4096 ≤ d.pos ∨ s.moveOk d = false) →
    Completes (exec (.moveDescStart k m) s) fun t =>
      (t.mover k m).queue = [{ d with started := true, fail := some (0x06, spBase (4 * k + m / 4) + 64 * d.off, 0), elems := 0 }]
      ∧ t.mem = s.mem ∧ t.err = s.err ∧ SameRegs [A.tmStatus k m, A.tmProgress k m] s t) ∧
  (∀ (s : State) (k m : Nat) (d : Move), k < 4 → m < 16 → (s.mover k m).queue = [d] → d.started = true → d.done = false → d.fail = none →
      d.chain = false → d.owner.entry = none → s.moveStalled k m d.id = false → s.sliceWaits (.mover k m) = false →
      s.usesDone (fun u => u = .move k m d.id) = true →
    Completes (exec (.moveDescComplete k m 0) s) fun t =>
      (t.mover k m).queue = [] ∧ t.fld (A.tmStatus k m) F.tmStatus_QUEUED = 0
      ∧ (t.rd (A.tcTmCntDesc k m)).toNat = min (2 ^ 48 - 1) ((s.rd (A.tcTmCntDesc k m)).toNat + 1)
      ∧ t.syn.flying = s.syn.flying ++ (if d.sigEn then
          [{ who := .mover k m, ctx := some d.owner.ctx, obj := d.signal, op := 1, value := 1, owner := some d.owner, seq := 0 }] else [])
      ∧ t.mem = s.mem ∧ SameRegs [A.tmStatus k m, A.tmProgress k m, A.tcTmCntDesc k m] s t) ∧
  (∀ (s : State) (k m : Nat) (d e : Move), k < 4 → m < 16 → (s.mover k m).queue = [d, e] → d.id ≠ e.id → d.started = true → d.done = false →
      e.started = true → e.done = false → e.fail = none → s.moveStalled k m e.id = false → s.sliceWaits (.mover k m) = false →
      s.usesDone (fun u => u = .move k m e.id) = true →
    Completes (exec (.moveDescComplete k m 1) s) fun t =>
      (t.mover k m).queue = [d, { e with done := true }] ∧ t.syn = s.syn ∧ t.mem = s.mem
      ∧ (t.rd (A.tcTmCntDesc k m)).toNat = min (2 ^ 48 - 1) ((s.rd (A.tcTmCntDesc k m)).toNat + 1)
      ∧ SameRegs [A.tmStatus k m, A.tmProgress k m, A.tcTmCntDesc k m] s t) ∧
  (∀ (s : State) (k m cls addr aux : Nat) (d : Move) (rest : List Move), k < 4 → m < 16 → (s.mover k m).queue = d :: rest →
      d.fail = some (cls, addr, aux) → d.owner.entry = none → (∀ x ∈ rest, x.owner.entry = none) →
      s.fld (A.tmStatus k m) F.tmStatus_STATE ≠ 4 → s.err.recov = [] →
    Completes (exec (.moveStop k m) s) fun t =>
      (t.mover k m).queue = [] ∧ t.fld (A.tmStatus k m) F.tmStatus_CUR_DESC = d.off % 2 ^ 19
      ∧ t.fld (A.tmProgress k m) F.tmProgress_ELEMS_DONE = d.elems % 2 ^ 48 ∧ t.syn.flying = s.syn.flying ∧ t.mem = s.mem) ∧
  (∀ (s : State) (k m : Nat) (d : Move), k < 4 → m < 16 → d ∈ (s.mover k m).queue → d.started = true → d.done = false →
    Completes (exec (.moveRequestRetry k m) s) fun t =>
      (t.rd (A.tcTmCntRetry k m)).toNat = min (2 ^ 48 - 1) ((s.rd (A.tcTmCntRetry k m)).toNat + 1) ∧ OnlyRegs [A.tcTmCntRetry k m] s t)

/-- R155, R156, R345, R356, R358, R362: holds, and the marks of lines. -/
def Obligations.StalledWritesResumeOrTimeOut : Prop :=
  (∀ (s : State) (i cycles k m pa : Nat) (bs : List Byte) (w : Stall) (d : Move), s.comp.stalls = [w] → i = 0 → w.who = .mover k m →
      w.chunks = [[(pa, bs, false)]] → s.comp.tiles = [] → s.comp.badWords = [] → s.undef = [] → (s.mover k m).queue = [d] → d.started = true →
      d.done = false → d.fail = none → d.mKind ≠ 1 → k < 4 → m < 16 → w.eng < 68 →
    Completes (exec (.holdStallResume i cycles) s) fun t =>
      t.comp.stalls = [] ∧ t.rdBytes pa bs.length = bs ∧ (∀ a, (a < pa ∨ pa + bs.length ≤ a) → t.rdByte a = s.rdByte a)
      ∧ (t.mover k m).queue = [{ d with elems := d.rows * d.count 0 }]
      ∧ (t.rd (A.tcTmCntHold k m)).toNat = min (2 ^ 48 - 1) ((s.rd (A.tcTmCntHold k m)).toNat + cycles)
      ∧ (t.rd (A.mxeCntHold (w.eng / 17) (w.eng % 17))).toNat
          = min (2 ^ 48 - 1) ((s.rd (A.mxeCntHold (w.eng / 17) (w.eng % 17))).toNat + cycles)
      ∧ SameRegs [A.tmStatus k m, A.tmProgress k m, A.tcTmCntHold k m, A.mxeCntHold (w.eng / 17) (w.eng % 17)] s t) ∧
  (∀ (s : State) (i cycles : Nat) (w : Stall) (x : Tile), s.comp.stalls[i]? = some w → s.stallTile w = some x → cycles < 2 ^ x.holdLog2 →
    exec (.holdTimeout i cycles) s = .next s) ∧
  (∀ (s : State) (i cycles k m pa : Nat) (bs : List Byte) (p : Bool) (c : List Chunk) (rest : List (List Chunk)) (w : Stall) (d : Move)
      (x : Tile), s.comp.stalls = [w] → i = 0 → w.who = .mover k m → w.item = d.id → w.chunks = ((pa, bs, p) :: c) :: rest →
      s.stallTile w = some x → 2 ^ x.holdLog2 ≤ cycles → (s.mover k m).queue = [d] → d.started = true → d.done = false → k < 4 → m < 16 →
      w.eng < 68 →
    Completes (exec (.holdTimeout i cycles) s) fun t =>
      t.comp.stalls = [] ∧ (t.mover k m).queue = [{ d with fail := some (0x05, pa, d.elems) }] ∧ t.mem = s.mem
      ∧ (t.rd (A.tcTmCntHold k m)).toNat = min (2 ^ 48 - 1) ((s.rd (A.tcTmCntHold k m)).toNat + cycles)
      ∧ (t.rd (A.mxeCntHold (w.eng / 17) (w.eng % 17))).toNat
          = min (2 ^ 48 - 1) ((s.rd (A.mxeCntHold (w.eng / 17) (w.eng % 17))).toNat + cycles)
      ∧ SameRegs [A.tmStatus k m, A.tmProgress k m, A.tcTmCntHold k m, A.mxeCntHold (w.eng / 17) (w.eng % 17)] s t) ∧
  (∀ (s : State) (pa : Nat) (bs : List Byte) (who : Issuer) (o : Option Owner), pa % 64 = 0 → bs.length = 64 → s.comp.badWords = [] →
      pa ∉ (s.spStore pa bs false who o).poison ∧ pa ∈ (s.spStore pa bs true who o).poison) ∧
  (∀ (s : State) (pa : Nat) (bs : List Byte) (who : Issuer) (o : Option Owner), bs.length < 64 → s.comp.badWords = [] →
      (s.spStore pa bs false who o).poison = s.poison)

/-- R367, R369, R370, R374, R375, R392, R393, R401: accesses at a slice. -/
def Obligations.SlicesReadFillAndWrite : Prop :=
  (∀ (s : State) (k sl k' c g lane : Nat) (r : HomeReq) (v : Group), k < 4 → sl < 32 → s.l2.flying = [r] → r.kind = .read →
      s.homeKey r.pa = some (32 * k + sl) → s.physFaults r.pa r.len false = false → s.err.armed = [] → s.err.downCh = [] →
      (s.slice (32 * k + sl)).slots = [] → (s.slice (32 * k + sl)).dir = [] → r.pa % 128 + r.len ≤ 128 → 0 < r.len → r.l1 = false →
      s.crosses r.who r.pa = true → s.l2.weak = [] →
      s.readHits (32 * k + sl) r.pa r.len = true → s.firstPoison r.pa r.len = none → r.who = .thread k' c g lane → k' < 4 → c < 64 → g < 8 →
      lane < 32 → s.group k' c g = some v → v.threads.length = 32 → r.rd ≠ 0 →
    Completes (exec (.l2Read k sl 0 0 [] false) s) fun t =>
      t.l2.flying = [] ∧ (∃ v', t.group k' c g = some v' ∧ (v'.thread lane).loads = (v.thread lane).loads
          ++ [{ rd := r.rd, value := loadValue r.op (s.rdBytes r.pa r.len) }])
      ∧ (t.rd (l2Cnt (32 * k + sl) 0)).toNat = min (2 ^ 48 - 1) ((s.rd (l2Cnt (32 * k + sl) 0)).toNat + 1) ∧ t.mem = s.mem) ∧
  (∀ (s : State) (k sl : Nat) (r : HomeReq), k < 4 → sl < 32 → s.l2.flying = [r] → r.kind = .read →
      s.homeKey r.pa = some (32 * k + sl) → s.physFaults r.pa r.len false = false → s.err.armed = [] → s.err.downCh = [] →
      s.slice (32 * k + sl) = Slice.empty → r.pa % 128 + r.len ≤ 128 → 0 < r.len → r.l1 = false → isPinnedLine (r.pa / 128) = false →
      r.policy ≠ 2 → s.pinWays k sl ≤ 12 → s.crosses r.who r.pa = true → s.l2.weak = [] →
    Completes (exec (.l2Read k sl 0 0 [] false) s) fun t =>
      t.l2.flying = [] ∧ (∃ x, (t.slice (32 * k + sl)).misses = [x] ∧ x.line = r.pa / 128 ∧ x.install = true
          ∧ (∃ q, x.reqs = [q] ∧ q = { r with bytes := s.rdBytes r.pa r.len, red := q.red }
            ∧ (s.firstPoison (r.pa / 128 * 128) 128 = none → q.red % 4 = 0)))
      ∧ (t.rd (l2Cnt (32 * k + sl) 1)).toNat = min (2 ^ 48 - 1) ((s.rd (l2Cnt (32 * k + sl) 1)).toNat + 1)
      ∧ t.fld (A.l2SliceStatus k sl) F.l2SliceStatus_MISS_USED = 1 ∧ t.mem = s.mem) ∧
  (∀ (s : State) (k sl k' c g lane : Nat) (x : Miss) (r : HomeReq) (v : Group), k < 4 → sl < 32 → (s.slice (32 * k + sl)).misses = [x] →
      x.reqs = [r] → x.line = r.pa / 128 → r.pa % 128 + r.len ≤ 128 → r.kind = .read → r.red % 4 = 0 → x.bad = 0 → r.l1 = false →
      s.err.downCh = [] → { r with bytes := [], red := 0 } ∉ s.l2.flying → x.install = true →
      ((s.slice (32 * k + sl)).find x.line).isSome = true → r.who = .thread k' c g lane → k' < 4 → c < 64 → g < 8 → lane < 32 →
      s.group k' c g = some v → v.threads.length = 32 → r.rd ≠ 0 →
    Completes (exec (.l2MissFill k sl 0) s) fun t =>
      (t.slice (32 * k + sl)).misses = [] ∧ t.readHits (32 * k + sl) r.pa r.len = true
      ∧ (∃ v', t.group k' c g = some v' ∧ (v'.thread lane).loads = (v.thread lane).loads ++ [{ rd := r.rd, value := loadValue r.op r.bytes }])
      ∧ t.mem = s.mem) ∧
  (∀ (s : State) (k sl : Nat) (r : HomeReq) (l : L2Line), k < 4 → sl < 32 → s.l2.flying = [r] → r.kind = .write →
      s.homeKey r.pa = some (32 * k + sl) → s.physFaults r.pa r.len true = false → r.len = r.bytes.length → s.err.downCh = [] →
      (s.slice (32 * k + sl)).slots = [] → (s.slice (32 * k + sl)).dir = [] → r.pa % 128 + r.len ≤ 128 → 0 < r.len → r.policy < 2 →
      isPinnedLine (r.pa / 128) = false → s.board.towerRst = [] → s.undef = [] → s.crosses r.who r.pa = true → s.l2.weak = [] →
      (s.slice (32 * k + sl)).lines = [l] → l.line = r.pa / 128 → (∀ a, a / 128 = r.pa / 128 → s.homeKey a = some (32 * k + sl)) →
    Completes (exec (.l2Write k sl 0) s) fun t =>
      t.l2.flying = [] ∧ t.rdBytes r.pa r.len = r.bytes ∧ (∀ a, (a < r.pa ∨ r.pa + r.len ≤ a) → t.rdByte a = s.rdByte a)
      ∧ (r.policy = 0 → ∀ a, a / 128 = r.pa / 128 → t.behindByte a = s.behindByte a)
      ∧ (r.policy = 1 → t.behindBytes r.pa r.len = r.bytes)
      ∧ (t.rd (l2Cnt (32 * k + sl) 0)).toNat = min (2 ^ 48 - 1) ((s.rd (l2Cnt (32 * k + sl) 0)).toNat + 1)) ∧
  (∀ (s : State) (k sl off : Nat) (data : List Byte) (r : Recall), k < 4 → sl < 32 → (s.slice (32 * k + sl)).recalls = [r] →
      (s.slice (32 * k + sl)).dir = [(r.line, true)] → (s.slice (32 * k + sl)).slots = [] → 0 < data.length → off + data.length ≤ 128 →
      (∀ a, a / 128 = r.line → s.homeKey a = some (32 * k + sl)) → s.undef = [] → s.crosses .host (r.line * 128) = true →
      s.l2.weak = [] →
    Completes (exec (.hostRecallResponse k sl 0 off data false) s) fun t =>
      (t.slice (32 * k + sl)).recalls = [] ∧ (t.slice (32 * k + sl)).dir = (if r.inval || r.evict then [] else [(r.line, false)])
      ∧ t.rdBytes (r.line * 128 + off) data.length = data
      ∧ ∀ a, (a < r.line * 128 + off ∨ r.line * 128 + off + data.length ≤ a) → t.rdByte a = s.rdByte a) ∧
  (∀ (s : State) (pa key who : Nat) (own : Bool), s.homeKey pa = some key → s.populated pa = true → (s.slice key).dir = [] →
      (s.slice key).recalls = [] → (s.slice key).slots = [] → s.err.downCh = [] → s.poison = [] → key < 128 → s.l2.weak = [] →
      s.crosses .host pa = true → s.missRoom key (pa / 128 * 128) 128 = true →
    Completes (exec (.hostCacheRead pa own who) s) fun t =>
      (t.slice key).dir = [(pa / 128, own)] ∧ Assoc.get? t.ctl.answers who = some (BitVec.ofNat 64 (s.rd64 (pa / 8 * 8)))
      ∧ t.fld (A.l2SliceStatus (key / 32) (key % 32)) F.l2SliceStatus_DIR_USED = 1 ∧ t.mem = s.mem) ∧
  (∀ (s : State) (pa key : Nat) (data : List Byte) (keep : Bool), s.homeKey pa = some key → (s.slice key).dir = [(pa / 128, true)] →
      (s.slice key).slots = [] → 0 < data.length → pa % 128 + data.length ≤ 128 → s.undef = [] → s.crosses .host pa = true →
      s.l2.weak = [] →
    Completes (exec (.hostWriteback pa data false keep) s) fun t =>
      (t.slice key).dir = (if keep then [(pa / 128, false)] else []) ∧ t.rdBytes pa data.length = data
      ∧ ∀ a, (a < pa ∨ pa + data.length ≤ a) → t.rdByte a = s.rdByte a)

/-- R387 to R391, R401: reductions in place. -/
def Obligations.ReduceWritesApplyWaitAndDrain : Prop :=
  (∀ (s : State) (k sl : Nat) (r : HomeReq) (l : L2Line) (e : Word) (n : Nat), k < 4 → sl < 32 → s.l2.flying = [r] → r.kind = .reduce →
      s.homeKey r.pa = some (32 * k + sl) → (s.slice (32 * k + sl)).waiting = [] → (s.slice (32 * k + sl)).dir = [] →
      (s.slice (32 * k + sl)).slots = [] → (s.slice (32 * k + sl)).lines = [l] → l.line = r.pa / 128 → isPinnedLine l.line = false →
      e = s.redEntry k r.owner.ctx r.red → F.l2RedTable_VALID.get e = 1 → F.l2RedTable_OP.get e < 8 → n = redBytes (F.l2RedTable_FMT.get e) →
      r.pa % n = 0 → r.bytes.length = n → s.undef = [] → s.board.towerRst = [] → s.crosses r.who r.pa = true → s.l2.weak = [] →
    Completes (exec (.l2ReduceWrite k sl 0 0) s) fun t =>
      t.l2.flying = []
      ∧ t.rdBytes r.pa n = leBytes n (redInt (F.l2RedTable_OP.get e) (8 * n) (leNat (s.rdBytes r.pa n)) (leNat r.bytes))
      ∧ (∀ a, (a < r.pa ∨ r.pa + n ≤ a) → t.rdByte a = s.rdByte a)
      ∧ (t.rd (l2Cnt (32 * k + sl) 6)).toNat = min (2 ^ 48 - 1) ((s.rd (l2Cnt (32 * k + sl) 6)).toNat + 1)) ∧
  (∀ (s : State) (k sl : Nat) (r : HomeReq) (l : L2Line) (e : Word) (n : Nat), k < 4 → sl < 32 → s.l2.flying = [r] → r.kind = .reduce →
      s.homeKey r.pa = some (32 * k + sl) → (s.slice (32 * k + sl)).waiting = [] → (s.slice (32 * k + sl)).dir = [] →
      (s.slice (32 * k + sl)).slots = [] → (s.slice (32 * k + sl)).lines = [l] → l.line = r.pa / 128 → isPinnedLine l.line = false →
      e = s.redEntry k r.owner.ctx r.red → F.l2RedTable_VALID.get e = 1 → F.l2RedTable_OP.get e = 8 → n = redBytes (F.l2RedTable_FMT.get e) →
      2 ≤ F.l2RedTable_FMT.get e → r.pa % n = 0 → r.bytes.length = n → s.board.towerRst = [] → s.crosses r.who r.pa = true →
      s.l2.weak = [] →
    Completes (exec (.l2ReduceWrite k sl 0 0) s) fun t =>
      t.l2.flying = [] ∧ t.mem = s.mem ∧ t.poison = s.poison
      ∧ (let anchor := sext 16 (F.l2RedTable_ANCHOR.get e)
         let f := redFmt (F.l2RedTable_FMT.get e)
         let e0 : RedElem :=
           { i := r.pa % 128 / n, acc := Acc.zero.entry anchor 0 (f.decode (leNat (s.rdBytes r.pa n))), count := 0,
             poison := s.poisoned r.pa n }
         let x : RedSlot :=
           { line := l.line, ctx := r.owner.ctx, fmt := F.l2RedTable_FMT.get e, rnd := F.l2RedTable_RND.get e, anchor := anchor,
             elems := [e0.contribute anchor f (leNat r.bytes) false] }
         (t.slice (32 * k + sl)).slots = [x])
      ∧ t.fld (A.l2SliceStatus k sl) F.l2SliceStatus_OPEN_SLOTS = 1
      ∧ (t.rd (l2Cnt (32 * k + sl) 6)).toNat = min (2 ^ 48 - 1) ((s.rd (l2Cnt (32 * k + sl) 6)).toNat + 1)) ∧
  (∀ (s : State) (key line : Nat) (r : RedSlot) (e : RedElem), (s.slice key).slots = [r] → r.line = line → r.elems = [e] → e.poison = false →
      s.undef = [] → key < 128 → 2 ≤ r.fmt → r.fmt ≤ 5 → e.i * redBytes r.fmt + redBytes r.fmt ≤ 128 →
    ((s.drainSlot key line).slice key).slots = []
    ∧ (s.drainSlot key line).rdBytes (line * 128 + e.i * redBytes r.fmt) (redBytes r.fmt)
        = leBytes (redBytes r.fmt) ((e.acc.toRec r.anchor).convert 0 (redFmt r.fmt) (Rnd.ofCode r.rnd)).1
    ∧ ((s.drainSlot key line).rd (l2Cnt key 7)).toNat = min (2 ^ 48 - 1) ((s.rd (l2Cnt key 7)).toNat + 1)) ∧
  (∀ (s : State) (k sl cycles k' c g lane : Nat) (r : HomeReq) (v : Group), k < 4 → sl < 32 → (s.slice (32 * k + sl)).waiting = [r] →
      r.who = .thread k' c g lane → s.group k' c g = some v → s.debugOpen v.owner.ctx = false → v.owner.entry = none → s.err.recov = [] →
      k' < 4 → c < 64 → g < 8 → s.comp.launches = [] → s.slotState k' c g = 1 → 2 ^ r.limit ≤ cycles →
    Completes (exec (.redStallTimeout k sl 0 cycles) s) fun t =>
      (t.slice (32 * k + sl)).waiting = [] ∧ t.group k' c g = none ∧ t.mem = s.mem
      ∧ (t.rd (l2Cnt (32 * k + sl) 8)).toNat = min (2 ^ 48 - 1) ((s.rd (l2Cnt (32 * k + sl) 8)).toNat + cycles)) ∧
  (∀ (s : State) (k sl idx cycles : Nat) (r : HomeReq), k < 4 → sl < 32 → (s.slice (32 * k + sl)).waiting[idx]? = some r →
      cycles < 2 ^ r.limit →
    exec (.redStallTimeout k sl idx cycles) s = .next s)

/-- R377 to R385: range and pin commands. -/
def Obligations.RangeAndPinCommands : Prop :=
  (∀ (s : State) (ch : Nat) (p : Packet), s.accepts ch 0x400 p → p.length = 40 → s.absentTier (pword p 0) = false →
      pword p 0 % 128 = 0 → pword p 1 % 128 = 0 → 0 < pword p 1 → pword p 1 ≤ 2 ^ 42 → s.tierRange (pword p 0) (pword p 1) = true →
      pword p 2 &&& (2 ^ 64 - 1 - rangeOpts 0) = 0 → bit (pword p 2) 0 = false →
      s.eclipse = false →
    Completes (exec (.l2PrefetchRange ch p) s) fun t =>
      t.l2.ranges = s.l2.ranges ++ [{ kind := 0, addr := pword p 0, len := pword p 1, opts := pword p 2, chan := ch }]
      ∧ (∀ k sl, k < 4 → sl < 32 → s.homeKey (pword p 0) = some (32 * k + sl) → t.flag (A.l2SliceStatus k sl) F.l2SliceStatus_RANGE_BUSY = true)
      ∧ (t.chan ch).current = some (0x400, p) ∧ t.mem = s.mem
      ∧ SameRegs ((List.range 128).map (fun key => A.l2SliceStatus (key / 32) (key % 32))) s t) ∧
  (∀ (s : State) (ch : Nat) (p : Packet), s.accepts ch 0x401 p → p.length = 40 → s.absentTier (pword p 0) = false →
      pword p 0 % 128 = 0 → pword p 1 % 128 = 0 → 0 < pword p 1 → pword p 1 ≤ 2 ^ 42 → s.tierRange (pword p 0) (pword p 1) = true →
      pword p 2 &&& (2 ^ 64 - 1 - rangeOpts 1) = 0 → bit (pword p 2) 0 = false → (bit (pword p 2) 3 && bit (pword p 2) 5) = false →
      s.eclipse = false →
    Completes (exec (.l2FlushRange ch p) s) fun t =>
      t.l2.ranges = s.l2.ranges ++ [{ kind := 1, addr := pword p 0, len := pword p 1, opts := pword p 2, chan := ch }]
      ∧ (∀ k sl, k < 4 → sl < 32 → s.homeKey (pword p 0) = some (32 * k + sl) → t.flag (A.l2SliceStatus k sl) F.l2SliceStatus_RANGE_BUSY = true)
      ∧ (t.chan ch).current = some (0x401, p) ∧ t.mem = s.mem
      ∧ SameRegs ((List.range 128).map (fun key => A.l2SliceStatus (key / 32) (key % 32))) s t) ∧
  (∀ (s : State) (ch : Nat) (p : Packet), s.accepts ch 0x402 p → p.length = 40 → s.absentTier (pword p 0) = false →
      pword p 0 % 128 = 0 → pword p 1 % 128 = 0 → 0 < pword p 1 → pword p 1 ≤ 2 ^ 42 → s.tierRange (pword p 0) (pword p 1) = true →
      pword p 2 &&& (2 ^ 64 - 1 - rangeOpts 2) = 0 → bit (pword p 2) 0 = false →
      s.eclipse = false →
    Completes (exec (.l2InvalRange ch p) s) fun t =>
      t.l2.ranges = s.l2.ranges ++ [{ kind := 2, addr := pword p 0, len := pword p 1, opts := pword p 2, chan := ch }]
      ∧ (∀ k sl, k < 4 → sl < 32 → s.homeKey (pword p 0) = some (32 * k + sl) → t.flag (A.l2SliceStatus k sl) F.l2SliceStatus_RANGE_BUSY = true)
      ∧ (t.chan ch).current = some (0x402, p) ∧ t.mem = s.mem
      ∧ SameRegs ((List.range 128).map (fun key => A.l2SliceStatus (key / 32) (key % 32))) s t) ∧
  (∀ (s : State) (key : Nat) (r : RangeCmd) (l : L2Line), s.l2.ranges = [r] → r.len = 128 → r.addr % 128 = 0 → r.kind = 1 → r.opts = 0 →
      key < 128 → (∀ a, a / 128 = r.addr / 128 → s.homeKey a = some key) → (s.slice key).lines = [l] → l.line = r.addr / 128 →
      (s.slice key).slots = [] → (s.slice key).dir = [] → (s.slice key).misses = [] →
    RepliesWith (exec (.l2RangeComplete 0) s) r.chan St.ok [l.dirtySectors.length, 0] fun t =>
      t.l2.ranges = [] ∧ t.mem = s.mem ∧ (∀ a, a / 128 = l.line → t.behindByte a = t.rdByte a)
      ∧ (t.rd (l2Cnt key 4)).toNat = min (2 ^ 48 - 1) ((s.rd (l2Cnt key 4)).toNat + l.dirtySectors.length)) ∧
  (∀ (s : State) (key : Nat) (r : RangeCmd) (l : L2Line), s.l2.ranges = [r] → r.len = 128 → r.addr % 128 = 0 → r.kind = 2 →
      (r.opts = 0 ∨ r.opts = 16) → key < 128 → (∀ a, a / 128 = r.addr / 128 → s.homeKey a = some key) → (s.slice key).lines = [l] →
      l.line = r.addr / 128 → (s.slice key).slots = [] → (s.slice key).dir = [] → (s.slice key).misses = [] → s.undef = [] →
    RepliesWith (exec (.l2RangeComplete 0) s) r.chan St.ok [1, 0] fun t =>
      t.l2.ranges = [] ∧ (t.slice key).lines = []
      ∧ (r.opts = 0 → t.mem = s.mem)
      ∧ (r.opts = 16 → ∀ i x, (i, x) ∈ l.behind → l.behind.Pairwise (fun a b => a.1 ≠ b.1) →
          t.rdByte (l.line * 128 + i) = x)) ∧
  (∀ (s : State) (key : Nat) (r : RangeCmd), s.l2.ranges = [r] → r.len = 128 → r.addr % 128 = 0 → r.kind = 0 → r.opts = 0 →
      key < 128 → (∀ a, a / 128 = r.addr / 128 → s.homeKey a = some key) → s.slice key = Slice.empty → isPinnedLine (r.addr / 128) = false →
      s.pinWays (key / 32) (key % 32) ≤ 12 → s.err.downCh = [] →
    RepliesWith (exec (.l2RangeComplete 0) s) r.chan St.ok [1, 0] fun t =>
      t.l2.ranges = [] ∧ t.readHits key r.addr 128 = true ∧ t.mem = s.mem) ∧
  (∀ (s : State) (ch k n sl : Nat) (p : Packet), s.accepts ch 0x403 p → p.length = 32 → pword p 0 = k + 256 * n → k < 4 → n ≤ 12 →
      pword p 1 = sl → 0 < sl → sl < 2 ^ 32 → (∀ i, i < 32 → sl.testBit i = true → s.pinWays k i ≤ n) → s.eclipse = false →
      (∀ x ∈ s.l2.pins, x.tower ≠ k) →
    Completes (exec (.l2Pin ch p) s) fun t =>
      t.l2.pins = s.l2.pins ++ [{ tower := k, ways := n, slices := sl, unpin := false, chan := ch }] ∧ t.mem = s.mem
      ∧ (∀ i, i < 32 → sl.testBit i = true → t.flag (A.l2SliceStatus k i) F.l2SliceStatus_PIN_BUSY = true)
      ∧ SameRegs ((List.range 32).map (A.l2SliceStatus k)) s t) ∧
  (∀ (s : State) (ch k n sl : Nat) (p : Packet), s.accepts ch 0x404 p → p.length = 32 → pword p 0 = k + 256 * n → k < 4 → n < 16 →
      pword p 1 = sl → 0 < sl → sl < 2 ^ 32 → (∀ i, i < 32 → sl.testBit i = true → n ≤ s.pinWays k i) → s.eclipse = false →
      (∀ x ∈ s.l2.pins, x.tower ≠ k) →
    Completes (exec (.l2Unpin ch p) s) fun t =>
      t.l2.pins = s.l2.pins ++ [{ tower := k, ways := n, slices := sl, unpin := true, chan := ch }] ∧ t.mem = s.mem
      ∧ (∀ i, i < 32 → sl.testBit i = true → t.flag (A.l2SliceStatus k i) F.l2SliceStatus_PIN_BUSY = true)
      ∧ SameRegs ((List.range 32).map (A.l2SliceStatus k)) s t) ∧
  (∀ (s : State) (k sl : Nat) (x : PinCmd), s.l2.pins = [x] → x.tower = k → x.unpin = false → x.slices = 2 ^ sl → k < 4 → sl < 32 →
      s.pinWays k sl ≤ x.ways → x.ways ≤ 12 → s.slice (32 * k + sl) = Slice.empty →
    RepliesWith (exec (.l2PinComplete k) s) x.chan St.ok [0] fun t =>
      t.l2.pins = [] ∧ t.pinWays k sl = x.ways ∧ t.flag (A.l2SliceStatus k sl) F.l2SliceStatus_PIN_BUSY = false
      ∧ (∀ a, pinBase k sl + s.pinWays k sl * wayBytes ≤ a → a < pinBase k sl + x.ways * wayBytes → t.rdByte a = 0)
      ∧ (∀ a, (a < pinBase k sl + s.pinWays k sl * wayBytes ∨ pinBase k sl + x.ways * wayBytes ≤ a) → t.rdByte a = s.rdByte a)) ∧
  (∀ (s : State) (k sl : Nat) (x : PinCmd), s.l2.pins = [x] → x.tower = k → x.unpin = true → x.slices = 2 ^ sl → k < 4 → sl < 32 →
      x.ways ≤ s.pinWays k sl → s.slice (32 * k + sl) = Slice.empty → s.requests = [] →
    RepliesWith (exec (.l2UnpinComplete k) s) x.chan St.ok [] fun t =>
      t.l2.pins = [] ∧ t.pinWays k sl = x.ways ∧ t.flag (A.l2SliceStatus k sl) F.l2SliceStatus_PIN_BUSY = false
      ∧ (∀ a, (a < pinBase k sl + x.ways * wayBytes ∨ pinBase k sl + s.pinWays k sl * wayBytes ≤ a) → t.rdByte a = s.rdByte a))

/-- R408, R411, R412, R416, R428, R429, R437: the 72/64 code at work. -/
def Obligations.ControllersDecodeWriteAndScrub : Prop :=
  (∀ (e : Pattern) (marked : List Nat), e ≠ [] → (Pattern.xor e poisonForm).isCodeword = false → e.isCodeword = false →
      2 * (e.filter (fun x => !marked.contains x.1)).length + marked.length ≤ 8 → decodeWord e marked = .corrected e) ∧
  (∀ (s : State) (pa ode : Nat) (pl : Place) (ctx : Option Nat) (class0 : Bool), s.place pa = some pl → pa % 64 = 0 → s.populated pa = true →
      s.err.downCh = [] → s.err.armed = [] →
    Completes (exec (.memCtlRead pa [] ctx class0 ode) s) fun t =>
      (t.rd (memCnt (pl.ctl / 4) (pl.ctl % 4) 0)).toNat = min (2 ^ 48 - 1) ((s.rd (memCnt (pl.ctl / 4) (pl.ctl % 4) 0)).toNat + 1)
      ∧ (s.behindPoison pa = true → (t.rd (memCnt (pl.ctl / 4) (pl.ctl % 4) 5)).toNat
          = min (2 ^ 48 - 1) ((s.rd (memCnt (pl.ctl / 4) (pl.ctl % 4) 5)).toNat + 1))
      ∧ t.mem = s.mem ∧ t.poison = s.poison ∧ SameRegs ([0, 5, 7, 8].map (memCnt (pl.ctl / 4) (pl.ctl % 4))) s t
      ∧ (s.behindPoison pa = false → OnlyRegs ([0, 5, 7, 8].map (memCnt (pl.ctl / 4) (pl.ctl % 4))) s t)) ∧
  (∀ (s : State) (pa : Nat) (pl : Place) (e : Pattern), s.place pa = some pl → pa % 64 = 0 → s.populated pa = true →
      s.err.downCh = [] → s.err.armed = [] → s.behindPoison pa = false → e.Pairwise (fun a b => a.1 < b.1) →
      (∀ x ∈ e, x.1 < 72 ∧ 0 < x.2 ∧ x.2 < 256) → e ≠ [] → (Pattern.xor e poisonForm).isCodeword = false → e.isCodeword = false →
      2 * (e.filter (fun x => !(s.markedAt pl).contains x.1)).length + (s.markedAt pl).length ≤ 8 →
      s.flag (A.memCfg (pl.ctl / 4)) F.memCfg_AUTO_MARK = false →
    Completes (exec (.memCtlRead pa e none false 0) s) fun t =>
      (t.rd (memCnt (pl.ctl / 4) (pl.ctl % 4) 3)).toNat = min (2 ^ 48 - 1) ((s.rd (memCnt (pl.ctl / 4) (pl.ctl % 4) 3)).toNat + 1)
      ∧ t.mem = s.mem ∧ t.poison = s.poison ∧ t.l2 = s.l2 ∧ SameRegs ([0, 3, 7, 8].map (memCnt (pl.ctl / 4) (pl.ctl % 4))) s t) ∧
  (∀ (s : State) (pa : Nat) (pl : Place) (e : Pattern), s.place pa = some pl → pa % 64 = 0 → s.populated pa = true →
      s.err.downCh = [] → s.err.armed = [] → s.behindPoison pa = false → e.Pairwise (fun a b => a.1 < b.1) →
      (∀ x ∈ e, x.1 < 72 ∧ 0 < x.2 ∧ x.2 < 256) → decodeWord e (s.markedAt pl) = .bad →
    Completes (exec (.memCtlRead pa e none false 0) s) fun t =>
      t.behindPoison pa = true ∧ (∀ a, t.rdByte a = s.rdByte a) ∧ (∀ a ∈ s.poison, a ∈ t.poison)
      ∧ (t.rd (memCnt (pl.ctl / 4) (pl.ctl % 4) 4)).toNat = min (2 ^ 48 - 1) ((s.rd (memCnt (pl.ctl / 4) (pl.ctl % 4) 4)).toNat + 1)) ∧
  (∀ (s : State) (pa : Nat) (pl : Place) (rmw class0 : Bool), s.place pa = some pl → s.err.downCh = [] →
    Completes (exec (.memCtlWrite pa rmw class0) s) fun t =>
      (t.rd (memCnt (pl.ctl / 4) (pl.ctl % 4) 1)).toNat = min (2 ^ 48 - 1) ((s.rd (memCnt (pl.ctl / 4) (pl.ctl % 4) 1)).toNat + 1)
      ∧ (t.rd (memCnt (pl.ctl / 4) (pl.ctl % 4) 2)).toNat
          = min (2 ^ 48 - 1) ((s.rd (memCnt (pl.ctl / 4) (pl.ctl % 4) 2)).toNat + b2n rmw)
      ∧ OnlyRegs ([1, 2].map (memCnt (pl.ctl / 4) (pl.ctl % 4))) s t) ∧
  (∀ (s : State) (k u a : Nat), s.hasCtl k u = true → s.fld (A.memCfg k) F.memCfg_SCRUB_HOURS ≠ 0 →
      s.flag (A.memCtlStatus k u) F.memCtlStatus_SELF_REFRESH = false → a = s.sectorAddr k u (Assoc.getD s.memc.patrol (4 * k + u) 0) →
      s.err.downCh = [] → s.err.armed = [] →
    Completes (exec (.patrolScrub k u []) s) fun t =>
      Assoc.getD t.memc.patrol (4 * k + u) 0 = (Assoc.getD s.memc.patrol (4 * k + u) 0 + 1) % s.ctlSectors u
      ∧ (t.rd (memCnt k u 6)).toNat = min (2 ^ 48 - 1) ((s.rd (memCnt k u 6)).toNat + 1) ∧ t.mem = s.mem ∧ t.poison = s.poison) ∧
  (∀ (s : State) (ch : Nat) (p : Packet), s.accepts ch 0x502 p → p.length = 40 → s.absentTier (pword p 0) = false → pword p 0 % 64 = 0 →
      pword p 1 % 64 = 0 → 0 < pword p 1 → pword p 1 ≤ 2 ^ 42 → s.tierRange (pword p 0) (pword p 1) = true →
      (pword p 2 = 0 ∨ pword p 2 % 2 ^ 16 = 1 ∧ pword p 2 < 2 ^ 32 ∧ s.objType (bitsOf (pword p 2) 16 16) ≠ 0) → s.eclipse = false →
    Completes (exec (.memScrubRange ch p) s) fun t =>
      t.memc.scrubs = s.memc.scrubs ++ [{ addr := pword p 0, len := pword p 1,
                                          done := if bit (pword p 2) 0 then some (bitsOf (pword p 2) 16 16) else none, chan := ch }]
      ∧ (t.chan ch).current = some (0x502, p) ∧ t.regs = s.regs ∧ t.mem = s.mem ∧ t.l2 = s.l2) ∧
  (∀ (s : State) (r : ScrubCmd) (pl : Place), s.memc.scrubs = [r] → r.len = 64 → r.addr % 64 = 0 → s.place r.addr = some pl →
      s.err.downCh = [] → s.err.armed = [] →
    RepliesWith (exec (.memScrubRangeComplete 0 []) s) r.chan St.ok [1, 0, 0] fun t =>
      ∃ v : State, t = (match r.done with | some o => v.signalDone none o | none => v) ∧ v.memc.scrubs = [] ∧ v.mem = s.mem
        ∧ v.poison = s.poison ∧ v.syn = s.syn
        ∧ (v.rd (memCnt (pl.ctl / 4) (pl.ctl % 4) 6)).toNat
            = min (2 ^ 48 - 1) ((s.rd (memCnt (pl.ctl / 4) (pl.ctl % 4) 6)).toNat + 1)) ∧
  (∀ (s : State) (k u : Nat), s.hasCtl k u = true →
    Completes (exec (.markPeriodEnd k u) s) fun t =>
      t = { s with now := t.now, memc := { s.memc with counts := t.memc.counts, full := t.memc.full, periods := t.memc.periods } }
      ∧ Assoc.getD s.memc.periods (4 * k + u) s.board.resetEnd + s.markPeriod k ≤ t.now
      ∧ ∀ e, e ∈ t.memc.counts ↔ e ∈ s.memc.counts ∧ e.1 / 2 ^ 30 ≠ 4 * k + u)

/-- R414, R415, R417, R422, R424 to R427, R436, R437, R609: marks, temperature and channel faults. -/
def Obligations.MarksTemperatureAndChannels : Prop :=
  (∀ (s : State) (ch w : Nat) (p : Packet), s.accepts ch 0x500 p → p.length = 24 → w = pword p 0 →
      posBad w = false → (w % 4 = 1 → s.part.hasCapacity = true) → s.isMarked w = false → s.markLimit w = none →
      s.eclipse = false → s.supplyEvent = false → s.markWorn w = false →
    Completes (exec (.memErasureMark ch p) s) fun t =>
      t.memc.marks = s.memc.marks ++ [{ pos := w, set := true, chan := some ch }] ∧ (t.chan ch).current = some (0x500, p)
      ∧ t.regs = s.regs ∧ t.mem = s.mem) ∧
  (∀ (s : State) (ch w : Nat) (p : Packet), s.accepts ch 0x501 p → p.length = 24 → w = pword p 0 →
      posBad w = false → (w % 4 = 1 → s.part.hasCapacity = true) → s.isMarked w = true →
      s.eclipse = false → s.supplyEvent = false → s.markWorn w = false →
    Completes (exec (.memErasureClear ch p) s) fun t =>
      t.memc.marks = s.memc.marks ++ [{ pos := w, set := false, chan := some ch }] ∧ (t.chan ch).current = some (0x501, p)
      ∧ t.regs = s.regs ∧ t.mem = s.mem) ∧
  (∀ (s : State) (ch w : Nat) (p : Packet), s.accepts ch 0x501 p → p.length = 24 → w = pword p 0 →
      posBad w = false → (w % 4 = 1 → s.part.hasCapacity = true) → s.isMarked w = false →
    RepliesWith (exec (.memErasureClear ch p) s) ch St.notFound [] fun t => t = s.taken ch 0x501 p) ∧
  (∀ (s : State) (ch w : Nat) (p : Packet), s.accepts ch 0x500 p → p.length = 24 → w = pword p 0 →
      posBad w = false → (w % 4 = 1 → s.part.hasCapacity = true) → s.isMarked w = true →
    RepliesWith (exec (.memErasureMark ch p) s) ch St.ok [s.markChanges w] fun t => t = s.taken ch 0x500 p) ∧
  (∀ (s : State) (c : MarkChange) (ch : Nat), s.memc.marks = [c] → c.chan = some ch → posBad c.pos = false → s.isMarked c.pos = !c.set →
      (c.pos % 4 = 1 → s.part.hasCapacity = true) →
      (∀ x ∈ posCtls c.pos, s.fld (A.memEraseStat x.1 x.2) F.memEraseStat_CHANGES < 100000) →
    Completes (exec (.markDurable 0 true) s) fun t =>
      t.memc.marks = [] ∧ t.isMarked c.pos = c.set
      ∧ (∀ x ∈ posCtls c.pos, t.fld (A.memEraseStat x.1 x.2) F.memEraseStat_CHANGES = s.fld (A.memEraseStat x.1 x.2) F.memEraseStat_CHANGES + 1)) ∧
  (∀ (s : State) (k u n : Nat), s.hasCtl k u = true →
    Completes (exec (.requestAgeing k u n) s) fun t =>
      (t.rd (memCnt k u 10)).toNat = min (2 ^ 48 - 1) ((s.rd (memCnt k u 10)).toNat + n) ∧ OnlyRegs [memCnt k u 10] s t) ∧
  (∀ (s : State) (k u c lim : Nat), k < 4 → u < 2 → c < 256 → lim = s.fld (A.memCfg k) F.memCfg_THROTTLE_C →
      s.flag (A.memCtlStatus k u) F.memCtlStatus_SELF_REFRESH = false →
    Completes (exec (.stackTempRead k u c 0) s) fun t =>
      t.fld (A.memCtlStatus k u) F.memCtlStatus_TEMP_C = c
      ∧ t.fld (A.memCtlStatus k u) F.memCtlStatus_MAX_TEMP_C = max c (s.fld (A.memCtlStatus k u) F.memCtlStatus_MAX_TEMP_C)
      ∧ (lim ≤ c → t.flag (A.memCtlStatus k u) F.memCtlStatus_THROTTLED = true
          ∧ t.fld (A.memCtlStatus k u) F.memCtlStatus_RATE_PCT = max 25 (100 - 10 * (c - lim + 1)))
      ∧ (c + 3 ≤ lim → t.flag (A.memCtlStatus k u) F.memCtlStatus_THROTTLED = false ∧ t.fld (A.memCtlStatus k u) F.memCtlStatus_RATE_PCT = 100)
      ∧ (c < lim → lim < c + 3 → t.flag (A.memCtlStatus k u) F.memCtlStatus_THROTTLED = s.flag (A.memCtlStatus k u) F.memCtlStatus_THROTTLED
          ∧ t.fld (A.memCtlStatus k u) F.memCtlStatus_RATE_PCT = s.fld (A.memCtlStatus k u) F.memCtlStatus_RATE_PCT)
      ∧ (105 ≤ c → t.flag (A.memCtlStatus k u) F.memCtlStatus_LNT_PAUSED = true)
      ∧ (c ≤ 102 → t.flag (A.memCtlStatus k u) F.memCtlStatus_LNT_PAUSED = false)
      ∧ t.mem = s.mem) ∧
  (∀ (s : State) (k u : Nat) (hot : Bool), s.hasCtl k u = true → 2 ≤ u → s.flag (A.memCtlStatus k u) F.memCtlStatus_SELF_REFRESH = false →
    Completes (exec (.busTempIndication k u hot) s) fun t =>
      t.flag (A.memCtlStatus k u) F.memCtlStatus_THROTTLED = hot
      ∧ t.fld (A.memCtlStatus k u) F.memCtlStatus_RATE_PCT = (if hot then 50 else 100) ∧ t.mem = s.mem) ∧
  (∀ (s : State) (k u : Nat), s.hasCtl k u = true → exec (.memRefresh k u) s = .next s) ∧
  (∀ (s : State) (k u ch n : Nat), s.hasChannel k u ch = true → n = Assoc.getD s.err.repeats (channelKey k u ch) 0 →
      n < s.fld A.errCfg F.errCfg_MEM_RETRIES → (4 * k + u, ch) ∉ s.err.downCh →
    Completes (exec (.memLinkRetry k u ch) s) fun t =>
      t = { s with regs := t.regs, err := { s.err with repeats := Assoc.set s.err.repeats (channelKey k u ch) (n + 1) } }
      ∧ (t.rd (errCounter k 2)).toNat = min (2 ^ 48 - 1) ((s.rd (errCounter k 2)).toNat + 1) ∧ SameRegs [errCounter k 2] s t) ∧
  (∀ (s : State) (k u ch : Nat), s.hasChannel k u ch = true →
      s.fld A.errCfg F.errCfg_MEM_RETRIES ≤ Assoc.getD s.err.repeats (channelKey k u ch) 0 → (4 * k + u, ch) ∉ s.err.downCh →
    Completes (exec (.memChannelRetrain k u ch) s) (fun t =>
      t.err.repeats = Assoc.del s.err.repeats (channelKey k u ch) ∧ t.err.downCh = s.err.downCh ∧ t.mem = s.mem ∧ t.memc = s.memc)
    ∧ Completes (exec (.memChannelDown k u ch) s) (fun t =>
      t.err.repeats = Assoc.del s.err.repeats (channelKey k u ch) ∧ t.err.downCh = s.err.downCh ++ [(4 * k + u, ch)]
      ∧ (t.rd A.alert).toNat.testBit 8 = true ∧ t.mem = s.mem ∧ t.memc = s.memc))

/-- R441, R443 to R445, R448, R450, R451, R457 to R461: the lantern units. -/
def Obligations.LanternUnitsScanMergeAndLoad : Prop :=
  (∀ (s : State) (ch : Nat) (p : Packet) (n slot count : Nat), s.accepts ch 0x800 p → p.length = 32 → n < 64 → s.lntFenced n = false →
      8 ≤ slot → slot < 16 → 1 ≤ count → count ≤ 64 → pword p 0 = n + slot * 2 ^ 8 + count * 2 ^ 16 → pword p 1 % 8 = 0 →
      s.rangeIn (pword p 1) (8 * count) = true → s.eclipse = false →
      (∀ e ∈ s.lnt.units, e.1 = n → ∀ r ∈ e.2.queue, r.kind ≠ 1 ∨ r.prog ≠ slot) → (∀ l ∈ s.lnt.loads, l.unit ≠ n ∨ l.slot ≠ slot) →
      (∀ d ∈ s.lnt.disp, n ∈ d.left → bitsOf (d.w.getD 0 0) 0 4 ≠ 1 ∨ bitsOf (d.w.getD 0 0) 4 4 ≠ slot) →
    Completes (exec (.lntProgramLoad ch p) s) fun t =>
      t.lnt = { s.lnt with loads := s.lnt.loads ++ [{ unit := n, slot := slot, addr := pword p 1, count := count, chan := ch }] }
      ∧ (t.chan ch).current = some (0x800, p) ∧ t.regs = s.regs ∧ t.mem = s.mem) ∧
  (∀ (s z : State) (n slot : Nat) (l : LntLoad), n < 64 → 8 ≤ slot → slot < 16 → s.lnt.loads = [l] → l.unit = n → l.slot = slot →
      l.count ≤ 64 → s.ccRead l.addr (8 * l.count) = (z, true) → z.lnt = s.lnt → z.firstPoison l.addr (8 * l.count) = none →
      lopsFail [] (z.rdWords l.addr l.count) 0 = none → z.undef = [] →
    RepliesWith (exec (.lntProgramLoadDone n slot) s) l.chan St.ok [l.count] fun t =>
      t.lnt.loads = [] ∧ slot ∈ (t.lunit n).loaded
      ∧ t.rdWords (slotBase n slot) 64 = z.rdWords l.addr l.count ++ List.replicate (64 - l.count) 0
      ∧ (∀ a, (a < slotBase n slot ∨ slotBase n slot + 512 ≤ a) → t.rdByte a = z.rdByte a)
      ∧ SameRegs [lntStatusOf n, lntProgressOf n, lntCnt n 3] z t) ∧
  (∀ (s z : State) (n slot i : Nat) (l : LntLoad), n < 64 → s.lnt.loads = [l] → l.unit = n → l.slot = slot →
      s.ccRead l.addr (8 * l.count) = (z, true) → z.lnt = s.lnt → z.firstPoison l.addr (8 * l.count) = none →
      lopsFail [] (z.rdWords l.addr l.count) 0 = some i →
    RepliesWith (exec (.lntProgramLoadDone n slot) s) l.chan St.invalid [i] fun t => t = { z with lnt := { s.lnt with loads := [] } }) ∧
  (∀ (s : State) (q i n m : Nat) (d : LntDisp) (r : LntReq), s.lnt.disp = [d] → d.q = q → d.n = i → d.left = [n, m] → n < m → m < 64 →
      r = LntReq.fresh d.w d.owner 0 → r.units = [n, m] → (d.checked = true ∨ s.lntAccepted d.owner.ctx r = true) → (r.kind = 1 → s.scanWaits d.owner.ctx r = false) → s.board.unitRst = [] → s.xlt.migrates = [] →
      s.board.towerRst = [] → (s.lunit n).queue.length < 8 →
    Completes (exec (.lntDispatch q i) s) fun t =>
      (t.lunit n).queue = (s.lunit n).queue ++ [r]
      ∧ ((s.lunit m).queue.length < 8 → t.lnt.disp = [] ∧ (t.lunit m).queue = (s.lunit m).queue ++ [{ r with member := 1 }])
      ∧ (8 ≤ (s.lunit m).queue.length → t.lunit m = s.lunit m ∧ t.lnt.disp = [{ d with left := [m], checked := true }])
      ∧ t.mem = s.mem ∧ SameRegs [lntStatusOf n, lntProgressOf n, lntCnt n 3, lntStatusOf m, lntProgressOf m, lntCnt m 3] s t) ∧
  (∀ (s : State) (n : Nat) (r : LntReq) (rest : List LntReq), n < 64 → (s.lunit n).queue = r :: rest → r.started = false →
      s.lntRuns n = true → r.kind = 1 → s.undef = [] → s.err.armed = [] → s.poisoned (lntBase n + r.qoff) (r.nq * r.d * 2) = false →
      progKinds (s.progOf n r) = 1 → s.comp.badWords = [] →
    Completes (exec (.lntRequestStart n 0 []) s) fun t =>
      (∃ a, let qs := (List.range (r.nq * r.d)).map (fun i => leNat (s.rdBytes (lntBase n + r.qoff + 2 * i) 2))
        (t.lunit n).queue = { r with started := true, areas := a, flags := 0, queries := qs } :: rest)
      ∧ t.rdBytes (lntBase n + r.soff) (r.nq * qblockBytes r.dv r.k) = (List.range r.nq).flatMap (fun _ => emptyBlock r)
      ∧ (∀ a, (a < lntBase n + r.soff ∨ lntBase n + r.soff + r.nq * qblockBytes r.dv r.k ≤ a) → t.rdByte a = s.rdByte a)
      ∧ SameRegs [lntStatusOf n, lntProgressOf n, lntCnt n 3, lntCnt n 5] s t) ∧
  (∀ (s : State) (n corr : Nat) (bad : List Nat) (r : LntReq) (rest : List LntReq), n < 64 → (s.lunit n).queue = r :: rest →
      r.started = false → s.lntRuns n = true → r.kind = 2 →
    Completes (exec (.lntRequestStart n corr bad) s) fun t =>
      (t.lunit n).queue = { r with started := true } :: rest ∧ t.mem = s.mem ∧ SameRegs [lntStatusOf n, lntProgressOf n, lntCnt n 3, lntCnt n 5] s t) ∧
  (∀ (s z : State) (n pa : Nat) (r : LntReq) (rest : List LntReq) (e : XEntry) (p : Place), n < 64 → (s.lunit n).queue = r :: rest →
      r.started = true → s.lntRuns n = true → r.kind = 1 → r.stop = none → r.next + 1 = r.nrec →
      s.translate (.base (lntTower n)) r.owner.ctx ((r.base + r.next * r.rb) % 2 ^ 57) .lantern = (z, .ok e) → z.lnt = s.lnt →
      pa = e.target ((r.base + r.next * r.rb) % 2 ^ 57) → (windowOf pa).1.isTier = true → z.rangeIn pa r.rb = true → r.rb ≤ 128 →
      z.place pa = some p → p.unit ≠ n →
    Completes (exec (.lntRecordScan n) s) fun t =>
      (t.lunit n).queue = { r with next := r.nrec } :: rest ∧ t.mem = z.mem ∧ SameRegs [lntStatusOf n, lntProgressOf n, lntCnt n 3] z t) ∧
  (∀ (s z : State) (n pa x b : Nat) (v : Int) (r : LntReq) (rest : List LntReq) (e : XEntry) (p : Place), n < 64 → (s.lunit n).queue = r :: rest →
      r.started = true → s.lntRuns n = true → r.kind = 1 → r.stop = none → r.next < r.nrec → r.prog = 4 →
      s.translate (.base (lntTower n)) r.owner.ctx ((r.base + r.next * r.rb) % 2 ^ 57) .lantern = (z, .ok e) → z.lnt = s.lnt →
      pa = e.target ((r.base + r.next * r.rb) % 2 ^ 57) → (windowOf pa).1.isTier = true → z.rangeIn pa r.rb = true → r.rb ≤ 128 →
      z.place pa = some p → p.unit = n → (sectorsOf pa r.rb).any z.behindPoison = false → z.undef = [] →
      z.comp.badWords = [] → z.err.armed = [] →
      v = (xInt x - sext 32 (r.p 0)) / (2 : Int) ^ bitsOf (r.p 2) 24 3 →
      x = ldxValue (z.behindBytes pa r.rb) { op := 2, off := bitsOf (r.p 2) 0 9, mod := bitsOf (r.p 2) 16 3 } →
    Completes (exec (.lntRecordScan n) s) fun t =>
      (let d := if 0 ≤ v ∧ v < r.num then 0 else 1
       (t.lunit n).queue = { r with next := r.next + 1, scanned := r.scanned + 1, dropped := r.dropped + d } :: rest)
      ∧ (v = b → b < r.num →
          t.rd64 (lntBase n + r.soff + 8 * b) = (z.rd64 (lntBase n + r.soff + 8 * b) + 1) % 2 ^ 64
          ∧ ∀ a, (a < lntBase n + r.soff + 8 * b ∨ lntBase n + r.soff + 8 * b + 8 ≤ a) → t.rdByte a = z.rdByte a)
      ∧ (v < 0 ∨ (r.num : Int) ≤ v → t.mem = z.mem)
      ∧ (t.rd (lntCnt n 0)).toNat = min (2 ^ 48 - 1) ((z.rd (lntCnt n 0)).toNat + r.rb)
      ∧ (t.rd (lntCnt n 1)).toNat = min (2 ^ 48 - 1) ((z.rd (lntCnt n 1)).toNat + 1)
      ∧ SameRegs [lntStatusOf n, lntProgressOf n, lntCnt n 3, lntCnt n 0, lntCnt n 1] z t) ∧
  (∀ (s z : State) (n : Nat) (r : LntReq) (rest : List LntReq) (bs : List (Byte × Bool)), n < 64 → (s.lunit n).queue = r :: rest →
      r.started = true → s.lntRuns n = true → r.kind = 1 → r.stop = none → r.nrec ≤ r.next → r.owner.entry = none → r.spoilt = false → bit r.flags 3 = false →
      r.poisoned = 0 → s.comp.badWords = [] → s.err.armed = [] → s.poisoned (lntBase n + r.soff) (r.layout (s.progOf n r)).2.2.2 = false → z.lnt = s.lnt →
      s.writeVa (.base (lntTower n)) r.owner.ctx ((r.result + r.member * r.rstride) % 2 ^ 57)
        ((partialHeader r.prog r.nq (progKinds (s.progOf n r)) (r.flags &&& 2) r.d r.dv r.k r.num n 0 r.scanned r.emitted 0 r.dropped 1
          ++ s.rdBytes (lntBase n + r.soff) (r.layout (s.progOf n r)).2.2.2).map (fun b => (b, false))) (.lantern n) r.owner = (z, .ok bs) →
    Completes (exec (.lntRequestComplete n) s) fun t =>
      (t.lunit n).queue = rest ∧ t.mem = z.mem ∧ t.poison = z.poison
      ∧ (t.rd (lntCnt n 2)).toNat = min (2 ^ 48 - 1) ((z.rd (lntCnt n 2)).toNat + 1)
      ∧ (t.rd (lntCnt n 6)).toNat = min (2 ^ 48 - 1) ((z.rd (lntCnt n 6)).toNat + (64 + (r.layout (s.progOf n r)).2.2.2))
      ∧ t.syn.flying = z.syn.flying ++ (if bit (r.word 0) 15 then
          [{ who := .lantern n, ctx := some r.owner.ctx, obj := bitsOf (r.word 2) 48 16, op := 1, value := 1, owner := some r.owner, seq := 0 }] else [])
      ∧ SameRegs [lntStatusOf n, lntProgressOf n, lntCnt n 3, lntCnt n 2, lntCnt n 6] z t) ∧
  (∀ (s y z : State) (n : Nat) (r : LntReq) (rest : List LntReq) (l : List (Marked × Marked)) (m : Marked) (bs : List (Byte × Bool)), n < 64 →
      (s.lunit n).queue = r :: rest → r.started = true → s.lntRuns n = true → r.kind = 2 → r.owner.entry = none → bit (r.p 0) 7 = false →
      s.readPartials n r (List.range (bitsOf (r.word 0) 56 8)) = .got y l → y.lnt = s.lnt → z.lnt = s.lnt →
      (l.map (·.1)).all (headerFits (l.headD ([], [])).1) = true → 64 + (shapeOf (l.headD ([], [])).1).size ≤ r.rstride →
      (l.drop 1).foldl (fun (a : Option Marked) e => a.bind (fun x => mergeImages (shapeOf (l.headD ([], [])).1) x e.2))
        (some (l.headD ([], [])).2) = some m →
      y.writeVa (.base (lntTower n)) r.owner.ctx r.result (mergedHeader (l.map (·.1)) false 0 ++ m) (.lantern n) r.owner = (z, .ok bs) →
    Completes (exec (.lntMerge n) s) fun t =>
      (t.lunit n).queue = rest ∧ t.mem = z.mem ∧ t.poison = z.poison
      ∧ (t.rd (lntCnt n 2)).toNat = min (2 ^ 48 - 1) ((z.rd (lntCnt n 2)).toNat + 1)
      ∧ t.syn.flying = z.syn.flying ++ (if bit (r.word 0) 15 then
          [{ who := .lantern n, ctx := some r.owner.ctx, obj := bitsOf (r.word 2) 48 16, op := 1, value := 1, owner := some r.owner, seq := 0 }] else [])
      ∧ SameRegs [lntStatusOf n, lntProgressOf n, lntCnt n 3, lntCnt n 2, lntCnt n 6] z t) ∧
  (∀ (s y z : State) (n : Nat) (r : LntReq) (rest : List LntReq) (l : List (Marked × Marked)) (out : Marked) (bs : List (Byte × Bool)),
      n < 64 → (s.lunit n).queue = r :: rest → r.started = true → s.lntRuns n = true → r.kind = 2 → r.owner.entry = none →
      s.readPartials n r (List.range (bitsOf (r.word 0) 56 8)) = .got y l → y.lnt = s.lnt →
      64 + (shapeOf (l.headD ([], [])).1).size ≤ r.rstride →
      (if (l.map (·.1)).all (headerFits (l.headD ([], [])).1) then
        (l.drop 1).foldl (fun (a : Option Marked) e => a.bind (fun x => mergeImages (shapeOf (l.headD ([], [])).1) x e.2))
          (some (l.headD ([], [])).2) = none ∧ out = mergedSoFar l
       else out = mergedSoFar (l.takeWhile (fun e => headerFits (l.headD ([], [])).1 e.1))) → out ≠ [] →
      y.writeVa (.base (lntTower n)) r.owner.ctx r.result out (.lantern n) r.owner = (z, .ok bs) → z.lnt = s.lnt → z.err.recov = [] →
    Completes (exec (.lntMerge n) s) fun t =>
      (t.lunit n).queue = rest ∧ t.mem = z.mem ∧ t.poison = z.poison ∧ t.syn.flying = z.syn.flying) ∧
  (∀ (s y : State) (n : Nat) (r : LntReq) (rest : List LntReq) (l : List (Marked × Marked)), n < 64 →
      (s.lunit n).queue = r :: rest → r.started = true → s.lntRuns n = true → r.kind = 2 → r.owner.entry = none → y.lnt = s.lnt → y.err.recov = [] →
      s.readPartials n r (List.range (bitsOf (r.word 0) 56 8)) = .got y l → r.rstride < 64 + (shapeOf (l.headD ([], [])).1).size →
    Completes (exec (.lntMerge n) s) fun t =>
      (t.lunit n).queue = rest ∧ t.mem = y.mem ∧ t.syn.flying = y.syn.flying) ∧
  (∀ (s : State) (ch n : Nat) (p : Packet), s.accepts ch 0x801 p → p.length = 40 → n < 64 → pword p 0 < 256 → pword p 1 = 2 ^ n →
      pword p 2 = 0 → (∀ r ∈ (s.lunit n).queue, r.owner.entry = none) → s.lnt.disp = [] →
    RepliesWith (exec (.lntCancel ch p) s) ch St.ok [((s.lunit n).queue.filter (fun r => r.owner.ctx = pword p 0)).length] fun t =>
      (t.lunit n).queue = (s.lunit n).queue.filter (fun r => r.owner.ctx ≠ pword p 0)
      ∧ (∀ m, m ≠ n → t.lunit m = s.lunit m) ∧ t.mem = s.mem ∧ SameRegs [lntStatusOf n, lntProgressOf n, lntCnt n 3] (s.taken ch 0x801 p) t)

/-- R473 to R481, R497 to R499: walks, the caches and contexts. -/
def Obligations.WalksInstallRunsAndContextsOpen : Prop :=
  (∀ (s : State) (ch c n root : Nat) (p : Packet), s.accepts ch 0x200 p → p.length = 32 → c < 256 → 9 ≤ n → n ≤ 18 →
      pword p 0 = c + n * 2 ^ 8 → pword p 1 = root → root < 2 ^ 52 → root % (8 * 2 ^ n) = 0 → s.tierRange root (8 * 2 ^ n) = true →
      s.ctxOpen c = false → s.eclipse = false →
    RepliesWith (exec (.ctxOpen ch p) s) ch St.ok [] fun t =>
      t.rd (A.xltRoot c) = BitVec.ofNat 64 (1 + 2 * n + root) ∧ t.ctxOpen c = true ∧ t.rd (A.xltEpoch c) = 0 ∧ t.rd (A.xltFault c) = 0
      ∧ t.rd (A.xltFaultVa c) = 0 ∧ (∀ a ∈ t.xlt.advice, a.ctx ≠ c) ∧ (∀ x, ∀ e ∈ t.xcache x, e.ctx ≠ c)
      ∧ (∀ k, ∀ e ∈ t.xtower k, e.ctx ≠ c) ∧ t.mem = s.mem
      ∧ SameRegs [A.xltRoot c, A.xltEpoch c, A.xltFault c, A.xltFaultVa c] (s.taken ch 0x200 p) t) ∧
  (∀ (s : State) (ch c : Nat) (p : Packet), s.accepts ch 0x201 p → p.length = 24 → c < 256 → pword p 0 = c → s.ctxOpen c = true →
      s.ctxInUse c = false →
    RepliesWith (exec (.ctxClose ch p) s) ch St.ok [] fun t =>
      t.rd (A.xltRoot c) = 0 ∧ t.ctxOpen c = false ∧ (∀ a ∈ t.xlt.advice, a.ctx ≠ c) ∧ (∀ x, ∀ e ∈ t.xcache x, e.ctx ≠ c)
      ∧ (∀ k, ∀ e ∈ t.xtower k, e.ctx ≠ c) ∧ t.mem = s.mem) ∧
  (∀ (s : State) (k key v l : Nat) (w : Walk), k < 4 → s.xlt.walks = [w] → w.tower = k → s.homeKey w.addr = some key → w.addr % 8 = 0 →
      (s.slice key).dir = [] → (s.slice key).recalls = [] → (s.slice key).slots = [] → s.err.armed = [] → s.err.downCh = [] → s.poisoned w.addr 8 = false →
      s.l2.weak = [] → s.missRoom key w.addr 8 = true → s.pathOpen (.tower k) (s.owningDie w.addr) w.addr = true →
      v = s.rd64 w.addr → bit v 0 = true → bit v 1 = false → bitsOf v 2 10 = 0 → bitsOf v 52 12 = 0 → w.level = l + 1 → l < 3 →
      s.tierRange (bitsOf v 12 40 * 4096) 4096 = true →
    Completes (exec (.xltWalk k 0) s) fun t =>
      (let a := bitsOf v 12 40 * 4096 + w.va / 2 ^ (12 + 9 * l) % 512 * 8
       t.xlt.walks = [{ w with level := l, addr := a }])
      ∧ (t.rd (A.xltCntWalk k)).toNat = min (2 ^ 48 - 1) ((s.rd (A.xltCntWalk k)).toNat + 1)
      ∧ (∀ x, t.xcache x = s.xcache x) ∧ (∀ j, t.xtower j = s.xtower j) ∧ t.mem = s.mem) ∧
  (∀ (s : State) (k key v sh span : Nat) (w : Walk), k < 4 → s.xlt.walks = [w] → w.tower = k → w.cache.tower = k → s.homeKey w.addr = some key →
      w.addr % 8 = 0 → (s.slice key).dir = [] → (s.slice key).recalls = [] → (s.slice key).slots = [] → s.err.armed = [] → s.err.downCh = [] →
      s.poisoned w.addr 8 = false → s.l2.weak = [] → s.missRoom key w.addr 8 = true →
      s.pathOpen (.tower k) (s.owningDie w.addr) w.addr = true → w.joined = [] →
      v = s.rd64 w.addr → bit v 0 = true → bit v 1 = true → bitsOf v 56 8 = 0 → w.level < 3 →
      bitsOf v 52 4 ≤ 9 → sh = 12 + 9 * w.level → span = sh + bitsOf v 52 4 → bitsOf v 12 40 * 4096 % 2 ^ sh = 0 →
      bitsOf v 12 40 * 4096 % 2 ^ span = w.va / 2 ^ sh * 2 ^ sh % 2 ^ span → permits v w.acc = true →
    Completes (exec (.xltWalk k 0) s) fun t =>
      t.xlt.walks = [] ∧ t.xlt.faults = s.xlt.faults
          ++ [{ cache := w.cache, ctx := w.ctx, va := w.va, acc := w.acc, kind := 0, level := 0, entry := 0, record := 0, unit := w.unit, miss := w.miss }]
      ∧ (∃ e, (t.xcache w.cache).head? = some e ∧ (t.xtower k).head? = some e ∧ e.covers w.ctx w.va = true ∧ e.span = span ∧ e.leaf = v
          ∧ e.target w.va = bitsOf v 12 40 * 4096 + w.va % 2 ^ sh)
      ∧ (t.rd (A.xltCntWalk k)).toNat = min (2 ^ 48 - 1) ((s.rd (A.xltCntWalk k)).toNat + 1) ∧ t.mem = s.mem) ∧
  (∀ (s : State) (k key v : Nat) (w : Walk), k < 4 → s.xlt.walks = [w] → w.tower = k → s.homeKey w.addr = some key → w.addr % 8 = 0 →
      (s.slice key).dir = [] → (s.slice key).recalls = [] → (s.slice key).slots = [] → s.err.armed = [] → s.err.downCh = [] → s.poisoned w.addr 8 = false →
      s.l2.weak = [] → s.missRoom key w.addr 8 = true → s.pathOpen (.tower k) (s.owningDie w.addr) w.addr = true → w.joined = [] →
      v = s.rd64 w.addr → bit v 0 = false →
    Completes (exec (.xltWalk k 0) s) fun t =>
      t.xlt.walks = [] ∧ t.xlt.faults = s.xlt.faults
          ++ [{ cache := w.cache, ctx := w.ctx, va := w.va, acc := w.acc, kind := 1, level := w.level, entry := v, record := 0, unit := w.unit,
                miss := w.miss }]
      ∧ (∀ x, t.xcache x = s.xcache x) ∧ (∀ j, t.xtower j = s.xtower j) ∧ t.mem = s.mem) ∧
  (∀ (s : State) (c : XCache) (ctx va : Nat) (acc : AccessKind) (e : XEntry), (s.xcache c).find? (·.covers ctx va) = some e →
      permits e.leaf acc = true → (acc.writes = true → s.migrating ctx va 1 = false) →
    ∃ z, s.translate c ctx va acc = (z, .ok e) ∧ z.mem = s.mem ∧ OnlyRegs [A.xltCntLookup c.tower] s { z with xlt := s.xlt })

/-- R483 to R485, R487 to R489, R492, R493: invalidation, migration and advice. -/
def Obligations.EpochsMigrationsAndAdvice : Prop :=
  (∀ (s : State) (ch c va len e : Nat) (all : Bool) (p : Packet), s.accepts ch 0x300 p → p.length = 40 → c < 256 → pword p 0 = c + 256 * b2n all →
      pword p 1 = va → pword p 2 = len → (if all then va = 0 ∧ len = 0 else va % 4096 = 0 ∧ len % 4096 = 0 ∧ 4096 ≤ len ∧ va + len ≤ 2 ^ 57) →
      s.ctxOpen c = true → s.epochsOpen c < 16 → e = (s.fld (A.xltEpoch c) F.xltEpoch_ISSUED + 1) % 2 ^ 32 →
    RepliesWith (exec (.xltInvalidate ch p) s) ch St.ok [e] fun t =>
      t.xlt.epochs = s.xlt.epochs
          ++ [{ ctx := c, e := e, va := va, len := len, all := all, done := none, chan := none, tail := [], towers := 0 }]
      ∧ t.fld (A.xltEpoch c) F.xltEpoch_ISSUED = e ∧ t.fld (A.xltEpoch c) F.xltEpoch_DONE = s.fld (A.xltEpoch c) F.xltEpoch_DONE
      ∧ (∀ x, t.xcache x = s.xcache x) ∧ t.mem = s.mem ∧ SameRegs [A.xltEpoch c] (s.taken ch 0x300 p) t) ∧
  (∀ (s : State) (ch c : Nat) (p : Packet), s.accepts ch 0x300 p → p.length = 40 → c < 256 → pword p 0 = c + 256 → pword p 1 = 0 → pword p 2 = 0 →
      s.ctxOpen c = true → 16 ≤ s.epochsOpen c →
    RepliesWith (exec (.xltInvalidate ch p) s) ch St.busy [] fun t => t = s.taken ch 0x300 p) ∧
  (∀ (s : State) (x : Epoch), x.ctx < 256 → s.xlt.epochs = [x] → s.epochReady x = true → x.towers = 0 → x.done = none → x.chan = none →
    Completes (exec (.xltEpochComplete x.ctx) s) fun t =>
      t.xlt.epochs = [] ∧ t.fld (A.xltEpoch x.ctx) F.xltEpoch_DONE = x.e % 2 ^ 32
      ∧ (∀ c e, e ∈ t.xcache c ↔ e ∈ s.xcache c ∧ ¬(e.ctx = x.ctx ∧ (x.all = true ∨ overlaps x.va x.len e.va (2 ^ e.span) = true)))
      ∧ (∀ k e, e ∈ t.xtower k ↔ e ∈ s.xtower k ∧ ¬(e.ctx = x.ctx ∧ (x.all = true ∨ overlaps x.va x.len e.va (2 ^ e.span) = true)))
      ∧ t.mem = s.mem ∧ SameRegs ([A.xltEpoch x.ctx] ++ (List.range 4).map A.xltCntInval) s t) ∧
  (∀ (s : State) (x : Epoch) (ch : Nat), x.ctx < 256 → s.xlt.epochs = [x] → s.epochReady x = true → x.towers = 0 → x.done = none → x.chan = some ch →
    RepliesWith (exec (.xltEpochComplete x.ctx) s) ch St.ok (x.e :: x.tail) fun t =>
      t.xlt.epochs = [] ∧ t.fld (A.xltEpoch x.ctx) F.xltEpoch_DONE = x.e % 2 ^ 32) ∧
  (∀ (s : State) (ch c va len dest : Nat) (p : Packet) (pages : List (Nat × Nat × Nat × Nat)), s.accepts ch 0x302 p → p.length = 48 → c < 256 →
      pword p 0 = c + 2 ^ 8 → pword p 1 = va → pword p 2 = len → pword p 3 = dest → va < 2 ^ 57 → len < 2 ^ 58 → va % 4096 = 0 → len % 4096 = 0 →
      dest < 2 ^ 52 → s.ctxOpen c = true → va + len ≤ 2 ^ (39 + F.xltRoot_ROOT_LOG2.get (s.rd (A.xltRoot c))) →
      s.rangePages c va (va + len) va (len / 4096) = (pages, none) → s.destCheck va len dest pages = none → s.xlt.advice = [] →
      s.moveBusy c va len = false → s.xlt.migrates.length < 4 → s.l2.slices = [] → s.err.downCh = [] →
    Completes (exec (.memPrefetchMigrate ch p) s) fun t =>
      t.xlt.migrates = s.xlt.migrates
          ++ [{ mode := 1, ctx := c, va := va, len := len, dest := dest, remote := 0, prio := 0, moved := 0, doneObj := none, chan := ch,
                advise := none }]
      ∧ (∀ i, i < len → t.migrating c (va + i) 1 = true) ∧ t.xlt.epochs = s.xlt.epochs ∧ (t.chan ch).current = some (0x302, p) ∧ t.mem = s.mem
      ∧ SameRegs [] (s.taken ch 0x302 p) t) ∧
  (∀ (s : State) (m : Migrate) (src addr ent e : Nat), s.xlt.migrates = [m] → m.mode = 1 → m.len = 4096 → m.va % 4096 = 0 → m.dest % 4096 = 0 →
      m.dest < 2 ^ 52 → m.doneObj = none → m.advise = none → s.eclipse = false → s.xlt.epochs = [] →
      s.inFlight { (default : Epoch) with ctx := m.ctx, va := m.va, len := m.len } = false → (∀ w ∈ s.xlt.walks, w.ctx ≠ m.ctx) → s.l2.weak = [] →
      s.rangePages m.ctx m.va (m.va + 4096) m.va 1 = ([(m.va, 0, addr, ent)], none) → ent < 2 ^ 64 → src = bitsOf ent 12 40 * 4096 →
      s.tierRange src 4096 = true → s.tierRange m.dest 4096 = true → s.tierRange addr 8 = true → addr % 8 = 0 →
      (addr + 8 ≤ m.dest ∨ m.dest + 4096 ≤ addr) → (addr + 8 ≤ src ∨ src + 4096 ≤ addr) → (src + 4096 ≤ m.dest ∨ m.dest + 4096 ≤ src) →
      s.l2.slices = [] → s.err.armed = [] → s.err.downCh = [] → s.undef = [] → m.ctx < 256 → e = (s.fld (A.xltEpoch m.ctx) F.xltEpoch_ISSUED + 1) % 2 ^ 32 →
    RepliesWith (exec (.migrateCopyDone 0) s) m.chan St.ok [4096, e] fun t =>
      t.rdBytes m.dest 4096 = s.rdBytes src 4096 ∧ t.rd64 addr = ent - src + m.dest
      ∧ (∀ a, (a < m.dest ∨ m.dest + 4096 ≤ a) → (a < addr ∨ addr + 8 ≤ a) → t.rdByte a = s.rdByte a)
      ∧ (∀ j, j < 64 → (t.poison.contains (m.dest + 64 * j) = s.poison.contains (src + 64 * j)))
      ∧ t.xlt.migrates = [] ∧ t.xlt.epochs = [] ∧ t.fld (A.xltEpoch m.ctx) F.xltEpoch_ISSUED = e ∧ t.fld (A.xltEpoch m.ctx) F.xltEpoch_DONE = e) ∧
  (∀ (s : State) (ch c win va len towers : Nat) (p : Packet), s.mayAdvise ch c 0 win va len towers p →
    Completes (exec (.memAdviseClear ch p) s) (s.Advises ch c 0 va len towers p)) ∧
  (∀ (s : State) (ch c win va len towers : Nat) (p : Packet), s.mayAdvise ch c 1 win va len towers p →
    Completes (exec (.memAdvisePreferTier ch p) s) (s.Advises ch c 1 va len towers p)) ∧
  (∀ (s : State) (ch c win va len towers : Nat) (p : Packet), s.mayAdvise ch c 2 win va len towers p →
    Completes (exec (.memAdviseReadMostly ch p) s) (s.Advises ch c 2 va len towers p)) ∧
  (∀ (s : State) (ch c win va len towers : Nat) (p : Packet), s.mayAdvise ch c 3 win va len towers p →
    Completes (exec (.memAdviseAccessedBy ch p) s) (s.Advises ch c 3 va len towers p)) ∧
  (∀ (s : State) (ch c win va len towers : Nat) (p : Packet), s.mayAdvise ch c 4 win va len towers p →
    Completes (exec (.memAdviseEvictFirst ch p) s) (s.Advises ch c 4 va len towers p))

/-- R486. -/
def Obligations.EpochStatusAnswersByItsPlace : Prop :=
  (∀ (s : State) (ch c e issued done : Nat) (p : Packet), s.accepts ch 0x301 p → p.length = 32 → c < 256 → e < 2 ^ 32 → pword p 0 = c →
      pword p 1 = e → s.ctxOpen c = true → issued = s.fld (A.xltEpoch c) F.xltEpoch_ISSUED → done = s.fld (A.xltEpoch c) F.xltEpoch_DONE →
    RepliesWith (exec (.xltEpochStatus ch p) s) ch
      (if (e + 2 ^ 32 - done) % 2 ^ 32 = 0 ∨ 2 ^ 31 ≤ (e + 2 ^ 32 - done) % 2 ^ 32 then St.ok
       else if (e + 2 ^ 32 - done) % 2 ^ 32 ≤ (issued + 2 ^ 32 - done) % 2 ^ 32 then St.epochPending else St.invalid)
      [issued, done] fun t => t = s.taken ch 0x301 p) ∧
  (∀ (s : State) (ch : Nat) (p : Packet), s.accepts ch 0x301 p → p.length ≠ 32 →
    RepliesWith (exec (.xltEpochStatus ch p) s) ch St.badLength [] fun t => t = s.taken ch 0x301 p) ∧
  (∀ (s : State) (ch c e : Nat) (p : Packet), s.accepts ch 0x301 p → p.length = 32 → c < 256 → e < 2 ^ 32 → pword p 0 = c → pword p 1 = e →
      s.ctxOpen c = false →
    RepliesWith (exec (.xltEpochStatus ch p) s) ch St.notFound [] fun t => t = s.taken ch 0x301 p)

/-- R510 to R515, R525, R528, R530: objects at their homes. -/
def Obligations.ObjectsTakeOperationsAndAnswerWaits : Prop :=
  (∀ (s : State) (i c k : Nat) (o : SynOp) (w : Wait), i < 65536 → k = i / 16384 → s.syn.flying = [o] → o.op = 1 → o.obj = i → o.ctx = some c →
      o.owner ≠ none → s.reachesObj o.who i = true → s.objBoundTo i c = true → (s.objType i = 1 ∨ s.objType i = 2) → s.board.towerRst = [] → s.syn.notifies = [] → s.syn.waits = [w] →
    Completes (exec (.synObjAdd 0) s) fun t =>
      t.syn.flying = [] ∧ t.objValue i = (s.objValue i + o.value) % 2 ^ 32
      ∧ t.syn.waits = [if w.obj = i ∧ w.refused = false ∧ s.waitAccepted w.ctx i w.cond = true ∧ condHolds w.cond (t.objValue i) w.value = true
                       then { w with met := true } else w]
      ∧ (t.rd (A.synCntOps k)).toNat = min (2 ^ 48 - 1) ((s.rd (A.synCntOps k)).toNat + 1)
      ∧ t.mem = s.mem ∧ SameRegs [objReg1 i, A.synCntOps k] s t) ∧
  (∀ (s : State) (i c k : Nat) (o : SynOp), i < 65536 → k = i / 16384 → s.syn.flying = [o] → o.op = 2 → o.obj = i → o.ctx = some c →
      o.owner ≠ none → s.reachesObj o.who i = true → s.objBoundTo i c = true → s.objType i = 2 → o.value = 0 → s.board.towerRst = [] → s.syn.notifies = [] → s.syn.waits = [] →
    Completes (exec (.synObjSet 0) s) fun t =>
      t.syn = { s.syn with flying := [] } ∧ t.objValue i = 1 ∧ t.mem = s.mem ∧ SameRegs [objReg1 i, A.synCntOps k] s t) ∧
  (∀ (s : State) (i c k : Nat) (o : SynOp), i < 65536 → k = i / 16384 → s.syn.flying = [o] → o.op = 3 → o.obj = i → o.ctx = some c →
      o.owner ≠ none → s.reachesObj o.who i = true → s.objBoundTo i c = true → s.objType i = 3 → 1 ≤ o.value → o.value ≤ s.fld (objReg0 i) F.synObj0_COUNT →
      s.fld (objReg1 i) F.synObj1_ARRIVED < s.fld (objReg0 i) F.synObj0_COUNT → s.board.towerRst = [] → s.syn.notifies = [] → s.syn.waits = [] →
    Completes (exec (.synObjArrive 0) s) fun t =>
      t.syn = { s.syn with flying := [] }
      ∧ (let a := s.fld (objReg1 i) F.synObj1_ARRIVED + o.value
         if s.fld (objReg0 i) F.synObj0_COUNT ≤ a then
           t.fld (objReg1 i) F.synObj1_ARRIVED = a - s.fld (objReg0 i) F.synObj0_COUNT ∧ t.objValue i = (s.objValue i + 1) % 2 ^ 32
         else t.fld (objReg1 i) F.synObj1_ARRIVED = a ∧ t.objValue i = s.objValue i)
      ∧ t.mem = s.mem ∧ SameRegs [objReg1 i, A.synCntOps k] s t) ∧
  (∀ (s : State) (i : Nat) (o : SynOp) (r : Res), i < 65536 → s.syn.flying = [o] → o.obj = i → o.who = .cc → s.board.towerRst = [] →
      s.reachesObj .cc i = true → ((∃ c, o.ctx = some c ∧ s.objBoundTo i c = false) ∨ s.opAccepted i o.op o.value = false) →
      (o.op = 1 ∧ r = exec (.synObjAdd 0) s ∨ o.op = 2 ∧ r = exec (.synObjSet 0) s ∨ o.op = 3 ∧ r = exec (.synObjArrive 0) s) →
    Completes r fun t => t.syn = { s.syn with flying := [] }
      ∧ (t.rd (A.synCntRefused (i / 16384))).toNat = min (2 ^ 48 - 1) ((s.rd (A.synCntRefused (i / 16384))).toNat + 1)
      ∧ OnlyRegs [A.synCntRefused (i / 16384)] { s with syn := t.syn } t) ∧
  (∀ (s : State) (o : SynOp) (r : Res), s.syn.flying = [o] → s.board.towerRst.any (fun e => e.1 = objTower o.obj) = true →
      s.reachesObj o.who o.obj = true →
      (o.op = 1 ∧ r = exec (.synObjAdd 0) s ∨ o.op = 2 ∧ r = exec (.synObjSet 0) s ∨ o.op = 3 ∧ r = exec (.synObjArrive 0) s) →
    Completes r fun t => t = { s with syn := { s.syn with flying := [], deferred := s.syn.deferred ++ [o] } }) ∧
  (∀ (s : State) (w : Wait) (k : Nat), s.syn.waits = [w] → k = objTower w.obj → s.reachesObj w.who w.obj = true → s.waitAccepted w.ctx w.obj w.cond = true →
    Completes (exec (.synWaitQuery 0) s) fun t =>
      t.syn.waits = [if condHolds w.cond (s.objValue w.obj) w.value = true then { w with met := true } else w]
      ∧ (t.rd (A.synCntQuery k)).toNat = min (2 ^ 48 - 1) ((s.rd (A.synCntQuery k)).toNat + 1) ∧ SameRegs [A.synCntQuery k] s t ∧ t.mem = s.mem) ∧
  (∀ (s : State) (w : Wait) (k b : Nat), s.syn.waits = [w] → k = objTower w.obj → w.who = .beam b → s.reachesObj w.who w.obj = true → s.waitAccepted w.ctx w.obj w.cond = false →
    Completes (exec (.synWaitQuery 0) s) fun t =>
      t.syn.waits = [{ w with refused := true }] ∧ OnlyRegs [A.synCntRefused k] { s with syn := t.syn } t
      ∧ (t.rd (A.synCntRefused k)).toNat = min (2 ^ 48 - 1) ((s.rd (A.synCntRefused k)).toNat + 1)) ∧
  (∀ (s : State) (i off who : Nat) (peer : Bool), i < 65536 → off < 64 → off % 8 = 0 → s.reachesObj .host i = true → s.windowShut i peer = false →
    Completes (exec (.objWindowLoad i off peer who) s) fun t =>
      Assoc.get? t.ctl.answers who = some (BitVec.ofNat 64 (if off = 0 then s.objValue i else if off = 8 then (s.rd (objReg0 i)).toNat
          else if off = 40 then s.notifyWord i else 0))
      ∧ t = { s with ctl := { s.ctl with answers := t.ctl.answers } }) ∧
  (∀ (s : State) (i off who : Nat) (peer : Bool), i < 65536 → off < 64 → off % 8 = 0 → s.reachesObj .host i = true → s.windowShut i peer = true →
    Completes (exec (.objWindowLoad i off peer who) s) fun t =>
      (t.rd (A.synCntRefused (i / 16384))).toNat = min (2 ^ 48 - 1) ((s.rd (A.synCntRefused (i / 16384))).toNat + 1)
      ∧ Assoc.get? t.ctl.answers who = some 0 ∧ OnlyRegs [A.synCntRefused (i / 16384)] { s with ctl := { s.ctl with answers := t.ctl.answers } } t) ∧
  (∀ (s : State) (i : Nat) (v : Word) (peer : Bool), i < 65536 → s.reachesObj .host i = true → s.windowShut i peer = false →
      s.board.towerRst = [] → s.syn.notifies = [] → s.syn.waits = [] → s.liveTrace = none →
    (s.objType i < 3 → Completes (exec (.objWindowAdd i v peer) s) fun t =>
      t.objValue i = (s.objValue i + v.toNat) % 2 ^ 32 ∧ t.syn = s.syn ∧ OnlyRegs [objReg1 i, A.synCntOps (i / 16384)] s t)
    ∧ (s.objType i = 2 → v = 0 → Completes (exec (.objWindowSet i v peer) s) fun t =>
      t.objValue i = 1 ∧ t.syn = s.syn ∧ OnlyRegs [objReg1 i, A.synCntOps (i / 16384)] s t)
    ∧ (s.objType i = 3 → 1 ≤ v.toNat % 2 ^ 32 → s.fld (objReg1 i) F.synObj1_ARRIVED + v.toNat % 2 ^ 32 < s.fld (objReg0 i) F.synObj0_COUNT →
      Completes (exec (.objWindowArrive i v peer) s) fun t =>
        t.fld (objReg1 i) F.synObj1_ARRIVED = s.fld (objReg1 i) F.synObj1_ARRIVED + v.toNat % 2 ^ 32 ∧ t.objValue i = s.objValue i
        ∧ OnlyRegs [objReg1 i, A.synCntOps (i / 16384)] s t)
    ∧ (s.objType i = 2 → v ≠ 0 → exec (.objWindowSet i v peer) s = .next (s.bump (A.synCntRefused (i / 16384)) 1))) ∧
  (∀ (s : State) (i c cond : Nat) (peer : Bool), i < 65536 → s.reachesObj .host i = true → s.windowShut i peer = false → condAccepted (s.objType i) cond = true → c < 2 ^ 32 →
    (condHolds cond (s.objValue i) c = false →
      Completes (exec (.notifyArm i (BitVec.ofNat 64 (c + cond * 2 ^ 32 + 2 ^ 34)) peer) s) fun t =>
        t.notifyWord i = c + cond * 2 ^ 32 + 2 ^ 34 ∧ t.flag (objReg0 i) F.synObj0_NOTIFY_ARMED = true ∧ t.ctl = s.ctl
        ∧ SameRegs [objReg0 i] s t)
    ∧ (condHolds cond (s.objValue i) c = true → s.fld (objReg0 i) F.synObj0_VECTOR % 1024 ≠ 0 →
      Completes (exec (.notifyArm i (BitVec.ofNat 64 (c + cond * 2 ^ 32 + 2 ^ 34)) peer) s) fun t =>
        t.notifyWord i = 0 ∧ t.flag (objReg0 i) F.synObj0_NOTIFY_ARMED = false
        ∧ t.ctl.raised = s.ctl.raised ++ [s.fld (objReg0 i) F.synObj0_VECTOR]
        ∧ (t.rd (A.synCntNotify (i / 16384))).toNat = min (2 ^ 48 - 1) ((s.rd (A.synCntNotify (i / 16384))).toNat + 1)
        ∧ SameRegs [objReg0 i, A.synCntNotify (i / 16384)] s t))

/-- R516 to R518, R523, R524, R526, R528, R529: binding, and the queue commands. -/
def Obligations.BindingAndQueueCommands : Prop :=
  (∀ (s : State) (ch c typ peer first count init n vec : Nat) (p : Packet), s.accepts ch 0x900 p → p.length = 32 → c < 256 → 1 ≤ typ → typ < 4 →
      peer < 2 → 1 ≤ count → count ≤ 16384 → first + count ≤ 65536 → init < 2 ^ 32 → n < 2 ^ 16 → vec < 2 ^ 16 → (typ = 3 → n ≠ 0) →
      pword p 0 = c + typ * 2 ^ 8 + peer * 2 ^ 10 + first * 2 ^ 16 + count * 2 ^ 32 → pword p 1 = init + n * 2 ^ 32 + vec * 2 ^ 48 →
      s.ctxOpen c = true → (∀ i, first ≤ i → i < first + count → s.objType i = 0) → s.eclipse = false →
    RepliesWith (exec (.synBind ch p) s) ch St.ok [] fun t =>
      (∀ i, first ≤ i → i < first + count → t.objType i = typ ∧ t.objBoundTo i c = true ∧ t.fld (objReg0 i) F.synObj0_PEER_EN = peer
        ∧ t.fld (objReg0 i) F.synObj0_VECTOR = vec ∧ t.fld (objReg0 i) F.synObj0_COUNT = (if typ = 3 then n else 0) ∧ t.objValue i = init
        ∧ t.fld (objReg1 i) F.synObj1_ARRIVED = 0)
      ∧ OnlyRegs ((objRange first count).flatMap (fun i => [objReg0 i, objReg1 i])) (s.taken ch 0x900 p) t) ∧
  (∀ (s : State) (ch c first count : Nat) (p : Packet), s.accepts ch 0x901 p → p.length = 24 → c < 256 → 1 ≤ count → count ≤ 16384 →
      first + count ≤ 65536 → pword p 0 = c + first * 2 ^ 16 + count * 2 ^ 32 →
      (∀ i, first ≤ i → i < first + count → s.objBoundTo i c = true ∧ s.flag (objReg0 i) F.synObj0_DOORBELL = false
        ∧ s.flag (objReg0 i) F.synObj0_NOTIFY_ARMED = false) → s.syn.waits = [] →
    RepliesWith (exec (.synRelease ch p) s) ch St.ok [] fun t =>
      (∀ i, first ≤ i → i < first + count → t.rd (objReg0 i) = 0 ∧ t.rd (objReg1 i) = 0)
      ∧ OnlyRegs ((objRange first count).flatMap (fun i => [objReg0 i, objReg1 i])) (s.taken ch 0x901 p) t) ∧
  (∀ (s : State) (ch q c size ec bell : Nat) (p : Packet), s.accepts ch 0x202 p → p.length = 40 → q < 4096 → c < 256 → 4 ≤ size → size ≤ 16 →
      ec < 4 → bell < 65536 → pword p 0 = q + c * 2 ^ 16 + size * 2 ^ 24 + ec * 2 ^ 30 + bell * 2 ^ 32 → pword p 1 % 4096 = 0 → pword p 2 = 0 →
      s.tierRange (pword p 1) (128 * 2 ^ size) = true → s.ctxOpen c = true → s.isCounter bell c = true → s.queue? q = none → s.eclipse = false →
    RepliesWith (exec (.queueCreate ch p) s) ch St.ok [] fun t =>
      (∃ v, t.queue? q = some v ∧ v.ring = pword p 1 ∧ v.base = s.objValue bell ∧ v.taken = 0 ∧ v.entries = [] ∧ v.stop = none)
      ∧ t.qState q = 1 ∧ t.rd (qStop q) = 0 ∧ t.fld (qCfg q) F.synQCfg_IN_USE = 1 ∧ t.fld (qCfg q) F.synQCfg_SIZE_LOG2 = size
      ∧ t.fld (qCfg q) F.synQCfg_EC = ec ∧ t.qCtx q = c ∧ t.fld (qCfg q) F.synQCfg_DOORBELL = bell
      ∧ t.flag (objReg0 bell) F.synObj0_DOORBELL = true ∧ t.mem = s.mem
      ∧ SameRegs [qCfg q, qStatus q, qStop q, objReg0 bell, A.errRecovery (q / 1024)] (s.taken ch 0x202 p) t) ∧
  (∀ (s : State) (ch q : Nat) (v : Queue) (p : Packet), s.accepts ch 0x204 p → p.length = 24 → q < 4096 → pword p 0 = q → s.queue? q = some v →
      s.qState q = 1 → v.entries = [] →
    RepliesWith (exec (.queueStop ch p) s) ch St.ok [v.taken % 2 ^ 32] fun t =>
      t.qState q = 3 ∧ t.fld (qStop q) F.synQStop_CAUSE = 1 ∧ t.fld (qStop q) F.synQStop_ENTRY = v.taken % 2 ^ 32 ∧ t.mem = s.mem) ∧
  (∀ (s : State) (ch q : Nat) (v : Queue) (e : QEntry) (p : Packet), s.accepts ch 0x204 p → p.length = 24 → q < 4096 → pword p 0 = q →
      s.queue? q = some v → s.qState q = 1 → v.entries = [e] → e.started = true → e.n < v.taken →
    Completes (exec (.queueStop ch p) s) fun t =>
      t.qState q = 2 ∧ (t.chan ch).current = some (0x204, p)
      ∧ t.queue? q = some { v with stop := some { entry := v.taken, cause := 1, chans := [ch] }, tag := none } ∧ t.mem = s.mem) ∧
  (∀ (s : State) (ch q : Nat) (v : Queue) (st : QStop), q < 4096 → s.queue? q = some v → s.qState q = 2 → v.stop = some st → st.chans = [ch] →
      v.entries = [] → st.entry ≤ v.taken →
    RepliesWith (exec (.queueStopComplete q) s) ch St.ok [v.taken % 2 ^ 32] fun t => t.qState q = 3 ∧ t.mem = s.mem) ∧
  (∀ (s : State) (ch q skip : Nat) (v : Queue) (st : QStop) (p : Packet), s.accepts ch 0x205 p → p.length = 24 → q < 4096 → skip < 2 →
      pword p 0 = q + skip * 2 ^ 16 → s.queue? q = some v → s.qState q = 3 → v.stop = some st → s.eclipse = false → 2 ≤ st.cause →
      (∀ e ∈ v.entries, st.entry ≤ e.n ∧ bit (e.word 0) 5 = false) → s.syn.waits = [] →
    RepliesWith (exec (.queueStart ch p) s) ch St.ok [] fun t =>
      t.qState q = 1 ∧ t.mem = s.mem
      ∧ ∃ u, t.queue? q = some u ∧ u.stop = none ∧ u.tag = none ∧ u.taken = v.taken
        ∧ u.entries = if skip = 0 then v.entries else (v.entries.filter (fun e => st.entry < e.n)).dropWhile (·.overlap)) ∧
  (∀ (s : State) (ch q tag : Nat) (v : Queue) (p : Packet), s.accepts ch 0x206 p → p.length = 24 → q < 4096 → pword p 0 = q → s.queue? q = some v →
      v.tag = some tag →
    RepliesWith (exec (.queueStatus ch p) s) ch St.ok [(s.rd (qCfg q)).toNat, (s.rd (qStatus q)).toNat, (s.rd (qStop q)).toNat, tag]
      fun t => t = s.taken ch 0x206 p) ∧
  (∀ (s : State) (ch q bell : Nat) (v : Queue) (p : Packet), s.accepts ch 0x203 p → p.length = 24 → q < 4096 → pword p 0 = q →
      s.queue? q = some v → s.qState q = 3 → bell = s.fld (qCfg q) F.synQCfg_DOORBELL → s.flag (qCfg q) F.synQCfg_SLOT_EN = false →
      s.syn.queues = [(q, v)] →
    RepliesWith (exec (.queueDestroy ch p) s) ch St.ok [] fun t =>
      t.syn.queues = [] ∧ t.rd (qCfg q) = 0 ∧ t.rd (qStatus q) = 0 ∧ t.rd (qStop q) = 0 ∧ t.flag (objReg0 bell) F.synObj0_DOORBELL = false
      ∧ t.mem = s.mem ∧ SameRegs [qCfg q, qStatus q, qStop q, objReg0 bell] (s.taken ch 0x203 p) t) ∧
  (∀ (s : State) (ch q : Nat) (p : Packet), s.accepts ch 0x203 p → p.length = 24 → q < 4096 → pword p 0 = q → (s.queue? q).isSome = true →
      s.qState q ≠ 3 →
    RepliesWith (exec (.queueDestroy ch p) s) ch St.busy [] fun t => t = s.taken ch 0x203 p)

/-- R519 to R525, R527, R619, R647: entries of a work queue. -/
def Obligations.QueueEntriesAreTakenStartAndComplete : Prop :=
  (∀ (s z : State) (q n a : Nat) (v : Queue), q < 4096 → s.queue? q = some v → s.qState q = 1 → v.entries = [] → v.skipTo = 0 → v.skipping = false →
      n = v.taken → n < (s.objValue (s.fld (qCfg q) F.synQCfg_DOORBELL) + 2 ^ 32 - v.base) % 2 ^ 32 →
      (s.objValue (s.fld (qCfg q) F.synQCfg_DOORBELL) + 2 ^ 32 - v.base) % 2 ^ 32 ≤ n + 2 ^ s.fld (qCfg q) F.synQCfg_SIZE_LOG2 →
      a = v.ring + n % 2 ^ s.fld (qCfg q) F.synQCfg_SIZE_LOG2 * 128 → s.board.ctxRst = [] → s.ccRead a 128 (.entry q n) = (z, true) →
      z.syn = s.syn → z.qState q = 1 →
      z.flag (qCfg q) F.synQCfg_SLOT_EN = false → bit ((z.rdWords a 16).getD 0 0) 5 = false →
    Completes (exec (.queueEntryTake q) s) fun t =>
      t.queue? q = some { v with taken := n + 1, entries := [QEntry.fresh n (z.rdWords a 16) (z.poisoned a 128)] }
      ∧ t.fld (qStatus q) F.synQStatus_TAKEN = (n + 1) % 2 ^ 32 ∧ t.mem = z.mem ∧ SameRegs [qStatus q] z t) ∧
  (∀ (s : State) (q n : Nat) (v : Queue), q < 4096 → s.queue? q = some v → s.qState q = 1 → v.entries = [] → v.stop = none → n = v.taken →
      n + 2 ^ s.fld (qCfg q) F.synQCfg_SIZE_LOG2 < (s.objValue (s.fld (qCfg q) F.synQCfg_DOORBELL) + 2 ^ 32 - v.base) % 2 ^ 32 → s.err.recov = [] →
      s.board.ctxRst = [] →
    Completes (exec (.queueEntryTake q) s) fun t =>
      t.qState q = 3 ∧ t.fld (qStop q) F.synQStop_CAUSE = 5 ∧ t.fld (qStop q) F.synQStop_ENTRY = n % 2 ^ 32
      ∧ (∃ u, t.queue? q = some u ∧ u.taken = n ∧ u.entries = []) ∧ t.mem = s.mem) ∧
  (∀ (s : State) (q : Nat) (v : Queue) (e : QEntry), q < 4096 → s.queue? q = some v → s.qState q = 1 → v.entries = [e] → e.started = false →
      s.phase = 0 → e.headerOk = true → e.kind = 5 → e.zeroFrom 8 = true → s.board.ctxRst = [] → s.pwr.held = [] →
      (bit (e.word 0) 5 = true → ∃ w, s.syn.waits = [w] ∧ w.who = .entry q e.n ∧ w.met = true ∧ w.refused = false) →
      (bit (e.word 0) 5 = false → s.syn.waits = []) →
    Completes (exec (.queueEntryStart q) s) fun t =>
      t.queue? q = some { v with entries := [{ e with started := true, ended := true }] } ∧ t.syn.waits = [] ∧ t.pwr.starts = s.pwr.starts
      ∧ t.mem = s.mem) ∧
  (∀ (s : State) (q : Nat) (v : Queue) (e : QEntry) (w : Wait), q < 4096 → s.queue? q = some v → s.qState q = 1 → v.entries = [e] →
      e.started = false → s.phase = 0 → e.headerOk = true → bit (e.word 0) 5 = true → s.syn.waits = [w] → w.who = .entry q e.n → w.met = false →
    exec (.queueEntryStart q) s = .next s) ∧
  (∀ (s : State) (q : Nat) (v : Queue) (e : QEntry), q < 4096 → s.queue? q = some v → s.qState q = 1 → v.entries = [e] → e.started = false →
      s.phase = 0 → e.headerOk = true → e.kind = 2 → bit (e.word 0) 5 = false → s.acceptKernel (s.qCtx q) e = .ok → s.board.ctxRst = [] →
      s.syn.waits = [] → s.pwr.held = [] → s.fld (qCfg q) F.synQCfg_EC = 0 →
    Completes (exec (.queueEntryStart q) s) fun t =>
      t.queue? q = some { v with entries := [{ e with started := true, ended := false }] }
      ∧ (∃ l, Assoc.get? t.comp.launches s.comp.nextLaunch = some l ∧ l.owner = { ctx := s.qCtx q, entry := some (q, e.n) } ∧ l.next = 0
          ∧ l.w = (e.w.drop 8).take 8) ∧ t.mem = s.mem) ∧
  (∀ (s : State) (q : Nat) (v : Queue) (e : QEntry), q < 4096 → s.queue? q = some v → s.qState q = 1 → v.entries = [e] → e.started = false →
      s.phase = 0 → e.headerOk = true → e.kind = 4 → bit (e.word 0) 5 = false → s.board.ctxRst = [] → s.syn.waits = [] → s.pwr.held = [] →
      s.fld (qCfg q) F.synQCfg_EC = 0 →
    Completes (exec (.queueEntryStart q) s) fun t =>
      (let o : Owner := { ctx := s.qCtx q, entry := some (q, e.n) }
       let d : LntDisp := { q := q, n := e.n, w := (e.w.drop 8).take 8, owner := o, left := (LntReq.fresh ((e.w.drop 8).take 8) o 0).units,
                            checked := false }
       t.lnt.disp = s.lnt.disp ++ [d]) ∧ t.mem = s.mem) ∧
  (∀ (s : State) (q : Nat) (v : Queue) (e : QEntry), q < 4096 → s.queue? q = some v → s.qState q = 1 → v.entries = [e] → v.stop = none →
      e.started = false → s.phase = 0 → e.headerOk = false → s.err.recov = [] → s.syn.waits = [] →
    Completes (exec (.queueEntryStart q) s) fun t =>
      t.qState q = 3 ∧ t.fld (qStop q) F.synQStop_CAUSE = 7 ∧ t.fld (qStop q) F.synQStop_ENTRY = e.n % 2 ^ 32
      ∧ (∃ u, t.queue? q = some u ∧ u.tag = some (e.word 2) ∧ u.entries = [QEntry.fresh e.n e.w e.bad]) ∧ t.mem = s.mem) ∧
  (∀ (s : State) (q ec : Nat) (v : Queue) (e : QEntry) (h : HeldEntry), q < 4096 → s.queue? q = some v → s.qState q = 1 → v.entries = [e] →
      e.started = false → s.phase = 0 → e.headerOk = true → e.kind = 2 → bit (e.word 0) 5 = false → s.acceptKernel (s.qCtx q) e = .ok →
      s.board.ctxRst = [] → s.syn.waits = [] → s.pwr.held = [h] → h.q = q → h.n = e.n → ec = s.fld (qCfg q) F.synQCfg_EC → ec ≠ 0 →
    Completes (exec (.entryHoldMax q) s) fun t =>
      t.queue? q = some { v with entries := [{ e with started := true, ended := false }] } ∧ t.pwr.held = []
      ∧ t.fld A.pwrStatus F.pwrStatus_HELD = 0
      ∧ (t.rd A.pwrCntEcForced).toNat = min (2 ^ 48 - 1) ((s.rd A.pwrCntEcForced).toNat + 1)
      ∧ t.now = max s.now (h.since + s.fld A.pwrEcCfg F.pwrEcCfg_HOLD_MAX * 20000000) ∧ (t.now, s.wNeed ec) ∈ t.pwr.starts ∧ t.mem = s.mem) ∧
  (∀ (s : State) (q : Nat) (v : Queue) (e : QEntry) (w : Wait), q < 4096 → s.queue? q = some v → s.qState q = 1 → v.entries = [e] → v.stop = none →
      e.started = false → s.phase = 0 → s.syn.waits = [w] → w.who = .entry q e.n → w.met = false → s.err.recov = [] →
    Completes (exec (.queueEntryWaitTimeout q) s) fun t =>
      t.qState q = 3 ∧ t.syn.waits = [] ∧ t.fld (qStop q) F.synQStop_CAUSE = 3 ∧ t.fld (qStop q) F.synQStop_ENTRY = e.n % 2 ^ 32 ∧ t.mem = s.mem
      ∧ t.now = max s.now (w.since + basenetTicks (2 ^ w.limit))) ∧
  (∀ (s : State) (q : Nat) (v : Queue) (e : QEntry), q < 4096 → s.queue? q = some v → s.qState q = 1 → v.entries = [e] → v.stop = none →
      e.started = true → e.ended = true → e.completed = false → e.signalled = false → e.marked = none → s.entryRecovering q e.n = false →
    Completes (exec (.queueEntryComplete q e.n) s) fun t =>
      (if bit (e.word 0) 6 then
        t.queue? q = some { v with entries := [{ e with completed := true, signalled := true }] }
        ∧ t.syn.flying = s.syn.flying ++ [{ who := .entry q e.n, ctx := some (s.qCtx q), obj := bitsOf (e.word 0) 48 16,
                                            op := bitsOf (e.word 0) 16 2, value := bitsOf (e.word 1) 32 32, owner := none, seq := 0 }]
       else t.queue? q = some { v with entries := [] } ∧ t.syn.flying = s.syn.flying)
      ∧ t.regs = s.regs ∧ t.mem = s.mem) ∧
  (∀ (s : State) (q : Nat) (v : Queue) (d e : QEntry), q < 4096 → s.queue? q = some v → s.qState q = 1 → v.entries = [d, e] → v.stop = none →
      d.n < e.n → d.started = true → d.completed = false → e.started = true → e.ended = true → e.completed = false → e.marked = none →
      s.entryRecovering q e.n = false →
    Completes (exec (.queueEntryComplete q e.n) s) fun t =>
      t.queue? q = some { v with entries := [d, { e with completed := true }] } ∧ t.syn.flying = s.syn.flying ∧ t.regs = s.regs ∧ t.mem = s.mem) ∧
  (∀ (s : State) (q cause : Nat) (v : Queue) (e : QEntry), q < 4096 → s.queue? q = some v → s.qState q = 1 → v.entries = [e] → v.stop = none →
      e.started = true → e.ended = true → e.completed = false → e.marked = some cause → cause < 16 → s.entryRecovering q e.n = false →
      s.comp = State.reset.comp → s.lnt = State.reset.lnt → s.syn.waits = [] →
    Completes (exec (.queueEntryComplete q e.n) s) fun t =>
      t.qState q = 3 ∧ t.fld (qStop q) F.synQStop_CAUSE = cause ∧ t.fld (qStop q) F.synQStop_ENTRY = e.n % 2 ^ 32
      ∧ t.syn.flying = s.syn.flying ∧ t.mem = s.mem)

/-- R535, R536, R539, R540, R545, R551 to R553, R620: the package's links and its interrupt router. -/
def Obligations.LinksReplayRetrainAndGoDown : Prop :=
  (∀ (s : State) (k c times : Nat), k < 4 → c < 32 → s.bondUp k c = true →
    Completes (exec (.bondFrameReplay k c times) s) fun t =>
      t.fld (A.bondCnt k) F.bondCnt_REPLAYS = min (2 ^ 32 - 1) (s.fld (A.bondCnt k) F.bondCnt_REPLAYS + 1)
      ∧ t.fld (A.bondCnt k) F.bondCnt_RETRAINS = s.fld (A.bondCnt k) F.bondCnt_RETRAINS
      ∧ (∀ n, n ∈ t.lnk.due ↔ n ∈ s.lnk.due ∨ (8 ≤ times ∧ n = bondKey k c))
      ∧ t = { s with regs := t.regs, lnk := { s.lnk with due := t.lnk.due } } ∧ SameRegs [A.bondCnt k] s t) ∧
  (∀ (s : State) (k c : Nat), k < 4 → c < 32 → s.bondUp k c = true → s.err.armed = [] → bondKey k c ∈ s.lnk.due →
    Completes (exec (.bondRetrain k c) s) fun t =>
      t.fld (A.bondCnt k) F.bondCnt_RETRAINS = min (2 ^ 16 - 1) (s.fld (A.bondCnt k) F.bondCnt_RETRAINS + 1)
      ∧ bondKey k c ∉ t.lnk.due ∧ bondKey k c ∈ t.lnk.training
      ∧ t = { s with regs := t.regs, lnk := { s.lnk with due := t.lnk.due, training := t.lnk.training } } ∧ SameRegs [A.bondCnt k] s t) ∧
  (∀ (s : State) (k c failing pads : Nat), k < 4 → c < 32 → bondKey k c ∈ s.lnk.training →
    (failing ≤ 16 → pads ≤ 512 → Completes (exec (.bondRetrainDone k c failing pads) s) fun t =>
      t.fld (A.bondStatus k) F.bondStatus_PADS_REPAIRED = pads ∧ t.fld (A.bondStatus k) F.bondStatus_CHANNELS_UP = s.fld (A.bondStatus k) F.bondStatus_CHANNELS_UP
      ∧ bondKey k c ∉ t.lnk.training ∧ t = { s with regs := t.regs, lnk := { s.lnk with training := t.lnk.training } }
      ∧ SameRegs [A.bondStatus k] s t)
    ∧ (16 < failing → s.bondUp k c = true → ∃ v, v.bondUp k c = false
        ∧ (∀ d, d < 32 → d ≠ c → v.bondUp k d = s.bondUp k d)
        ∧ v.fld (A.bondStatus k) F.bondStatus_UP_COUNT = (List.range 32).countP (v.bondUp k) ∧ SameRegs [A.bondStatus k] s v
        ∧ exec (.bondRetrainDone k c failing pads) s = .next (v.levelFault 3
            { queue := k, cls := 0x24, domain := 3, action := 8, unit := unitCode 10 k 0 c 0, injected := false }))) ∧
  (∀ (s : State) (l times recent a b : Nat) (far : Bool), l < 6 → linkEnds l = [a, b] → s.linkState l = 2 →
    Completes (exec (.ucieFlitReplay l far times recent) s) fun t =>
      t.fld ((if far then b else a) + 8) F.linkCnt_REPLAYS
        = min (2 ^ 32 - 1) (s.fld ((if far then b else a) + 8) F.linkCnt_REPLAYS + 1)
      ∧ (∀ n, n ∈ t.lnk.due ↔ n ∈ s.lnk.due ∨ ((16 ≤ times ∨ 1024 ≤ recent) ∧ n = linkKey l))
      ∧ t = { s with regs := t.regs, lnk := { s.lnk with due := t.lnk.due } } ∧ SameRegs [(if far then b else a) + 8] s t) ∧
  (∀ (s : State) (l a b : Nat), l < 6 → linkEnds l = [a, b] → s.linkState l = 2 → linkKey l ∈ s.lnk.due →
    Completes (exec (.ucieRetrain l) s) fun t =>
      t.fld a F.linkStatus_STATE = 3 ∧ t.fld b F.linkStatus_STATE = 3
      ∧ t.fld (a + 8) F.linkCnt_RETRAINS = min (2 ^ 16 - 1) (s.fld (a + 8) F.linkCnt_RETRAINS + 1)
      ∧ t.fld (b + 8) F.linkCnt_RETRAINS = min (2 ^ 16 - 1) (s.fld (b + 8) F.linkCnt_RETRAINS + 1) ∧ linkKey l ∉ t.lnk.due
      ∧ t = { s with regs := t.regs, lnk := { s.lnk with due := t.lnk.due } } ∧ SameRegs [a, b, a + 8, b + 8] s t) ∧
  (∀ (s : State) (l a b up half spares : Nat), l < 6 → linkEnds l = [a, b] → s.linkState l = 3 → up < 2 ^ linkModules l → half < 2 ^ linkModules l →
      half &&& up = half → spares < 256 →
    (up ≠ 0 → Completes (exec (.ucieRetrainDone l up half spares) s) fun t =>
      (∀ e, e = a ∨ e = b → t.fld e F.linkStatus_STATE = 2 ∧ t.fld e F.linkStatus_MODULES_UP = up ∧ t.fld e F.linkStatus_HALF_WIDTH = half
        ∧ t.fld e F.linkStatus_SPARES_USED = spares
        ∧ t.flag e F.linkStatus_DEGRADED = decide (up ≠ 2 ^ linkModules l - 1 ∨ half ≠ 0))
      ∧ t.mem = s.mem ∧ t.err = s.err ∧ SameRegs [a, b, A.alert, A.hostStatus] s t)
    ∧ (up = 0 → s.err.recov = [] → s.deviceStopped = false → s.eclipse = false → s.syn.queues = [] → s.comp.cores = [] →
        (∀ k, k < 4 → s.beamState k = 0) →
      Completes (exec (.ucieRetrainDone l up half spares) s) fun t =>
        t.fld a F.linkStatus_STATE = 0 ∧ t.fld b F.linkStatus_STATE = 0 ∧ t.fld A.errDevState F.errDevState_STATE = 1
        ∧ t.fld A.errDevState F.errDevState_CLASS = (if l < 4 then 0x28 else 0x29)
        ∧ ∃ v ∈ t.err.recov, v.level = 4 ∧ v.own = some (linkRecord l))) ∧
  (∀ (s : State) (idx v : Nat), s.ctl.raised[idx]? = some v → v < 65536 →
    Completes (exec (.interruptDeliver idx) s) fun t =>
      (∀ x, x ∈ t.ctl.ids ↔ x ∈ s.ctl.ids ∨ x = v) ∧ t.ctl.raised = s.ctl.raised.take idx ++ s.ctl.raised.drop (idx + 1)
      ∧ t.seip (v / 1024) = true ∧ t = { s with ctl := { s.ctl with raised := t.ctl.raised, ids := t.ctl.ids } }) ∧
  (∀ (s : State) (hart who n : Nat), hart < 64 → n < 1024 → s.ctl.ids.Pairwise (· < ·) → 1024 * hart + n ∈ s.ctl.ids →
      (∀ m, m < n → 1024 * hart + m ∉ s.ctl.ids) →
    Completes (exec (.siclaimRead hart who) s) fun t =>
      Assoc.get? t.ctl.answers who = some (BitVec.ofNat 64 n) ∧ (∀ x, x ∈ t.ctl.ids ↔ x ∈ s.ctl.ids ∧ x ≠ 1024 * hart + n)
      ∧ t = { s with ctl := { s.ctl with ids := t.ctl.ids, answers := t.ctl.answers } }) ∧
  (∀ (s : State) (hart who : Nat), hart < 64 → (∀ n, n < 1024 → 1024 * hart + n ∉ s.ctl.ids) →
    exec (.siclaimRead hart who) s = .next (s.answer who 0))

/-- R546 to R548, R514, R555, R556, R607: the PCIe ports. -/
def Obligations.PciePortsTrainAndCarryRequests : Prop :=
  (∀ (s : State) (q speed width : Nat), q < 2 → s.board.perst = false → speed ≤ 6 → width ∈ [1, 2, 4, 8, 16] → speed ≠ 0 →
      s.fld (A.peCfg q) F.peCfg_MAX_SPEED ≤ 6 → 1 ≤ s.fld (A.peCfg q) F.peCfg_MAX_SPEED →
    Completes (exec (.pcieLinkTrain q speed width) s) fun t =>
      t.fld (A.peStatus q) F.peStatus_SPEED = min speed (s.fld (A.peCfg q) F.peCfg_MAX_SPEED)
      ∧ t.fld (A.peStatus q) F.peStatus_WIDTH = min width (s.fld (A.peCfg q) F.peCfg_MAX_WIDTH) ∧ t.flag (A.peStatus q) F.peStatus_UP = true
      ∧ t.flag (A.peStatus q) F.peStatus_FLIT = decide (t.fld (A.peStatus q) F.peStatus_SPEED = 6)
      ∧ t.fld (A.peStatus q) F.peStatus_UR_COUNT = s.fld (A.peStatus q) F.peStatus_UR_COUNT
      ∧ t.portSet q = { p2p := s.flag (A.peCfg q) F.peCfg_P2P_EN, out := s.fld (A.peOutBase q) F.peOutBase_BASE * 2 ^ 28,
                        msi := s.fld (A.peMsiBase q) F.peMsiBase_BASE * 2 ^ 18 }
      ∧ t = { s with regs := t.regs, lnk := { s.lnk with ports := t.lnk.ports } } ∧ SameRegs [A.peStatus q] s t) ∧
  (∀ (s : State) (q addr off u : Nat) (bs : List Byte), q < 2 → s.flag (A.peStatus q) F.peStatus_UP = true → bs ≠ [] →
      windowOf addr = (.lntBuf u, off) → s.inWindow q addr bs.length true = true → s.physFaults addr bs.length true = false → s.undef = [] →
      ¬ (bs.length = 4 ∧ (s.portSet q).msi ≠ 0 ∧ (s.portSet q).msi ≤ addr) →
    Completes (exec (.pcieInbound q addr true 0 bs false) s) fun t =>
      t.rdBytes addr bs.length = bs ∧ (∀ a, a < addr ∨ addr + bs.length ≤ a → t.rdByte a = s.rdByte a) ∧ t.regs = s.regs ∧ t.lnk = s.lnk) ∧
  (∀ (s : State) (q addr off u n : Nat), q < 2 → s.flag (A.peStatus q) F.peStatus_UP = true → 0 < n → windowOf addr = (.lntBuf u, off) →
      s.inWindow q addr n false = true → s.physFaults addr n false = false → s.err.armed = [] → s.poison = [] →
    exec (.pcieInbound q addr false n [] false) s
      = .next (s.sendTlp { port := q, ecam := false, write := false, compl := true, ur := false, addr := addr, len := n,
                           bytes := s.rdBytes addr n, poison := false })) ∧
  (∀ (s z : State) (q addr n : Nat) (bs : List Byte), q < 2 → s.flag (A.peStatus q) F.peStatus_UP = true → 0 < n → bs.length = n →
      (windowOf addr).1.isTier = true → s.inWindow q addr n false = true → s.physFaults addr n false = false → s.eclipse = false →
      s.physRead addr n (.peer q) none = (z, .ok bs false) →
    exec (.pcieInbound q addr false n [] false) s
      = .next (z.sendTlp { port := q, ecam := false, write := false, compl := true, ur := false, addr := addr, len := n, bytes := bs,
                           poison := false })) ∧
  (∀ (s : State) (q addr n : Nat) (bs : List Byte), q < 2 → s.flag (A.peStatus q) F.peStatus_UP = true → 0 < n →
      (2 ^ 52 ≤ addr ∨ (windowOf addr).1 = .reserved ∨ ((windowOf addr).1.isTier = true ∧ s.inWindow q addr n false = false)) →
    exec (.pcieInbound q addr false n bs false) s
      = .next ((s.setFld (A.peStatus q) F.peStatus_UR_COUNT (min (2 ^ 32 - 1) (s.fld (A.peStatus q) F.peStatus_UR_COUNT + 1))).sendTlp
          { port := q, ecam := false, write := false, compl := true, ur := true, addr := addr, len := n, bytes := [], poison := false })) ∧
  (∀ (s : State) (q addr msi hart : Nat) (bs : List Byte), q < 2 → s.flag (A.peStatus q) F.peStatus_UP = true → bs.length = 4 →
      msi = (s.portSet q).msi → msi ≠ 0 → hart < 64 → msi + 4096 * hart ≤ addr → addr < msi + 4096 * (hart + 1) → addr < 2 ^ 52 →
      leNat bs % 1024 ≠ 0 →
    Completes (exec (.pcieInbound q addr true 0 bs false) s) fun t =>
      t = { s with ctl := { s.ctl with raised := s.ctl.raised ++ [1024 * hart + leNat bs % 1024] } }) ∧
  (∀ (s : State) (q addr off obj : Nat) (bs : List Byte), q < 2 → s.flag (A.peStatus q) F.peStatus_UP = true → windowOf addr = (.objects, off) →
      (s.portSet q).msi = 0 → obj < 65536 →
    (bs.length = 8 → off = 64 * obj + 16 →
      exec (.pcieInbound q addr true 0 bs false) s = .next (s.windowStore obj 1 (leNat bs % 2 ^ 32) true))
    ∧ (off = 64 * obj → s.reachesObj .host obj = true → s.windowShut obj true = false →
      exec (.pcieInbound q addr false 8 [] false) s
        = .next (s.sendTlp { port := q, ecam := false, write := false, compl := true, ur := false, addr := addr, len := 8,
                             bytes := leBytes 8 (s.objValue obj), poison := false }))) ∧
  (∀ (s : State) (q addr off : Nat) (bs : List Byte), q < 2 → s.flag (A.peStatus q) F.peStatus_UP = true → windowOf addr = (.control, off) →
      (s.portSet q).msi = 0 → bs ≠ [] → bs.length ≠ 8 →
    Completes (exec (.pcieInbound q addr true 0 bs false) s) fun t =>
      t.fld A.directStoreCnt F.directStoreCnt_COUNT = min (2 ^ 32 - 1) (s.fld A.directStoreCnt F.directStoreCnt_COUNT + 1)
      ∧ OnlyRegs [A.directStoreCnt] s t) ∧
  (∀ (s : State) (q off who len : Nat) (bs : List Byte), q < 2 → off < 256 * gib → 2 ^ 28 ≤ off →
    (s.flag (A.peStatus q) F.peStatus_UP = true → bs.length = len → 0 < len → len ≤ 8 →
      exec (.pcieOutbound q off who false len [] (some bs)) s
        = .next ((s.sendTlp { port := q, ecam := false, write := false, compl := false, ur := false,
                              addr := (s.portSet q).out + (off - 2 ^ 28), len := len, bytes := [], poison := false }).answer who
            (BitVec.ofNat 64 (leNat bs))))
    ∧ (s.flag (A.peStatus q) F.peStatus_UP = true →
      exec (.pcieOutbound q off who true 0 bs (some [])) s
        = .next (s.sendTlp { port := q, ecam := false, write := true, compl := false, ur := false,
                             addr := (s.portSet q).out + (off - 2 ^ 28), len := bs.length, bytes := bs, poison := false }))
    ∧ (s.flag (A.peStatus q) F.peStatus_UP = false → 0 < len → len ≤ 8 →
      exec (.pcieOutbound q off who false len [] none) s
        = .next ((s.setFld (A.peStatus q) F.peStatus_UR_COUNT (min (2 ^ 32 - 1) (s.fld (A.peStatus q) F.peStatus_UR_COUNT + 1))).answer who
            (BitVec.ofNat 64 (2 ^ (8 * len) - 1))))
    ∧ (s.flag (A.peStatus q) F.peStatus_UP = true →
      Completes (exec (.pcieOutbound q off who false len [] none) s) fun t =>
        t.lnk.waiting = s.lnk.waiting ++ [{ who := who, port := q, len := len }] ∧ t = { s with lnk := t.lnk })) ∧
  (∀ (s : State) (idx q who len : Nat), s.lnk.waiting[idx]? = some { who := who, port := q, len := len } → q < 2 → 0 < len → len ≤ 8 →
    Completes (exec (.pcieCompletionTimeout idx) s) fun t =>
      Assoc.get? t.ctl.answers who = some (BitVec.ofNat 64 (2 ^ (8 * len) - 1))
      ∧ t.fld (A.peStatus q) F.peStatus_UR_COUNT = min (2 ^ 32 - 1) (s.fld (A.peStatus q) F.peStatus_UR_COUNT + 1)
      ∧ t.lnk.waiting = s.lnk.waiting.eraseIdx idx
      ∧ t = { s with regs := t.regs, lnk := { s.lnk with waiting := t.lnk.waiting }, ctl := { s.ctl with answers := t.ctl.answers } }
      ∧ SameRegs [A.peStatus q] s t) ∧
  (∀ (s : State) (q : Nat), q < 2 → s.board.powered = true → s.board.modReset = none →
    Completes (exec (.pcieAer q) s) fun t =>
      t = s.record { queue := 4, cls := 0x2D, domain := 4, action := 0, unit := unitCode 14 0 0 q 0 }
      ∧ t.fld (errQSeq 4) F.errQSeqT_NEXT_SEQ = (s.fld (errQSeq 4) F.errQSeqT_NEXT_SEQ + 1) % 2 ^ 32
      ∧ (t.rd (errCounter 4 0)).toNat = min (2 ^ 48 - 1) ((s.rd (errCounter 4 0)).toNat + 1))

/-- R557, R559, R560, R562, R564, R565, R570, R600, R601, R607: fabric ports. -/
def Obligations.PortsTrainCarryAndDropPackets : Prop :=
  (∀ (s : State) (n lanes : Nat) (ok : Bool), n < 16 → s.part.portPresent n = true → (s.portState n = 1 ∨ s.portState n = 3) → 2 ≤ s.readiness →
      s.readiness ≤ 4 → s.eclipse = false → lanes < 256 →
    Completes (exec (.portTrain n lanes ok) s) fun t =>
      t.portState n = (if ok then 2 else s.portState n) ∧ t.portFailed n = !ok ∧ t.flag (portStatusOf n) F.portStatus_FAILED = !ok
      ∧ t.fld (portStatusOf n) F.portStatus_LANES_UP = (if ok then 0xFF else lanes)
      ∧ t = { s with regs := t.regs, fab := { s.fab with ports := t.fab.ports, portFrom := t.fab.portFrom } } ∧ SameRegs [portStatusOf n] s t) ∧
  (∀ (s : State) (n : Nat), n < 16 → s.part.portPresent n = true → s.eclipse = false →
    Completes (exec (.portTrainRetry n) s) fun t =>
      t.portState n = (if s.portState n = 1 ∨ s.portState n = 3 then 0 else if s.portState n = 0 then 1 else s.portState n)
      ∧ t.now = (if s.portState n = 0 ∨ s.portState n = 1 ∨ s.portState n = 3 then max s.now (Assoc.getD s.fab.portFrom n 0 + 200000000)
          else s.now)
      ∧ OnlyRegs [portStatusOf n] { s with now := t.now, fab := { s.fab with portFrom := t.fab.portFrom } } t) ∧
  (∀ (s : State) (n : Nat), n < 16 → s.part.portPresent n = true → s.portState n = 2 →
    Completes (exec (.portDown n) s) fun t =>
      t.portState n = 3 ∧ t.flag (portStatusOf n) F.portStatus_FAILED = true ∧ t.fld (portStatusOf n) F.portStatus_LANES_UP = 0
      ∧ (t.fport n).replay = [] ∧ (t.fport n).waiting = [] ∧ (∀ d ∈ t.fab.inbox, d.port ≠ n)
      ∧ t.fld (errQSeq (n / 4)) F.errQSeqT_NEXT_SEQ = (s.fld (errQSeq (n / 4)) F.errQSeqT_NEXT_SEQ + 1) % 2 ^ 32 ∧ t.mem = s.mem
      ∧ (∃ u, SameRegs [portStatusOf n] s u
          ∧ t = u.record { queue := n / 4, cls := 0x22, domain := 3, action := 0, unit := unitCode 12 (n / 4) 0 n 0 })) ∧
  (∀ (s : State) (n ack peer : Nat) (credits : List Nat), n < 16 → s.part.portPresent n = true → s.portState n = 2 → (s.fport n).waiting = [] →
      ack < 65536 → peer < 2 ^ 22 →
    Completes (exec (.linkPacket n ack credits peer) s) fun t =>
      (∀ e, e ∈ (t.fport n).replay ↔ e ∈ (s.fport n).replay ∧ (e.1 + 65536 - ack) % 65536 < 32768)
      ∧ (∀ v, v < 4 → (t.fport n).credits.getD v 0 = min (fullCredits.getD v 0) ((s.fport n).credits.getD v 0 + credits.getD v 0))
      ∧ t.fld (portStatusOf n) F.portStatus_PEER_ID = peer ∧ t.portState n = 2 ∧ t.fab.sent = s.fab.sent ∧ SameRegs [portStatusOf n] s t
      ∧ t.mem = s.mem) ∧
  (∀ (s : State) (n lseq : Nat) (p : FabPkt) (rest : List (Nat × FabPkt)), n < 16 → s.part.portPresent n = true → s.portState n = 2 →
      (s.fport n).replay = (lseq, p) :: rest → (s.fport n).resends < 32 →
    Completes (exec (.linkReplay n lseq) s) fun t =>
      t.fab.sent = (((lseq, p) :: rest).map (fun e => (n, e.2))).reverse ++ s.fab.sent
      ∧ (t.rd (portCnt n 4)).toNat = min (2 ^ 48 - 1) ((s.rd (portCnt n 4)).toNat + rest.length + 1)
      ∧ (t.rd (portCnt n 0)).toNat = min (2 ^ 48 - 1) ((s.rd (portCnt n 0)).toNat + rest.length + 1)
      ∧ (t.fport n).replay = (s.fport n).replay ∧ SameRegs [portCnt n 0, portCnt n 2, portCnt n 4] s t) ∧
  (∀ (s : State) (n lseq units : Nat) (p : FabPkt), n < 16 → s.part.portPresent n = true → s.portState n = 2 → s.portEth n = false →
    (pktValid p = false →
      Completes (exec (.fabPacketForward n lseq true units p) s) fun t =>
        (t.rd (portCnt n 8)).toNat = min (2 ^ 48 - 1) ((s.rd (portCnt n 8)).toNat + 1) ∧ OnlyRegs [portCnt n 8] s t)
    ∧ (Completes (exec (.fabPacketForward n lseq false units p) s) fun t =>
        (t.rd (portCnt n 8)).toNat = min (2 ^ 48 - 1) ((s.rd (portCnt n 8)).toNat + 1) ∧ OnlyRegs [portCnt n 8] s t)
    ∧ (pktValid p = true → lseq ≠ (s.fport n).rxSeq → exec (.fabPacketForward n lseq true units p) s = .next s)
    ∧ (pktValid p = true → lseq = (s.fport n).rxSeq → p.dst = s.ownId → s.ownId ≠ idUnset → s.eclipse = false →
        (p.tag = 0 ∧ (p.typ = 9 ∨ p.typ = 10)
          ∨ p.tag ≠ 0 ∧ p.typ ≠ 9 ∧ p.typ ≠ 10 ∧ ∃ i, s.slotOf p.tag = some i ∧ s.fld (A.fabTag i) F.fabTag_ROLE = 3) →
        Completes (exec (.fabPacketForward n lseq true units p) s) fun t =>
          t.fab.inbox = s.fab.inbox ++ [{ port := n, pkt := p }] ∧ (t.fport n).rxSeq = (lseq + 1) % 65536
          ∧ (t.rd (portCnt n 1)).toNat = min (2 ^ 48 - 1) ((s.rd (portCnt n 1)).toNat + 1) ∧ t.mem = s.mem
          ∧ SameRegs [portCnt n 1, portCnt n 3] s t)
    ∧ (pktValid p = true → lseq = (s.fport n).rxSeq → p.dst ≠ s.ownId → p.life ≤ max 1 units →
        Completes (exec (.fabPacketForward n lseq true units p) s) fun t =>
          (t.rd (portCnt n 7)).toNat = min (2 ^ 48 - 1) ((s.rd (portCnt n 7)).toNat + 1) ∧ t.fab.inbox = s.fab.inbox ∧ t.fab.sent = s.fab.sent
          ∧ SameRegs [portCnt n 1, portCnt n 3, portCnt n 7] s t)) ∧
  (∀ (s : State) (n out i e units lseq : Nat) (p : FabPkt), n < 16 → s.part.portPresent n = true → s.portState n = 2 → s.portEth n = false →
      pktValid p = true → lseq = (s.fport n).rxSeq → p.dst ≠ s.ownId → s.ownId ≠ idUnset → s.eclipse = false → max 1 units < p.life → p.tag ≠ 0 →
      p.typ ≠ 9 → p.typ ≠ 10 → out < 16 → out ≠ n → s.slotOf p.tag = some i → i < 64 → Assoc.getD s.fab.table p.dst 0 = e →
    (e = out + 2 ^ 8 + i * 2 ^ 10 → s.portState out = 2 → (s.fport out).waiting = [] → s.portEth out = false →
        pktNeed p ≤ (s.fport out).credits.getD (pktVc p) 0 → (s.fport out).replay = [] →
      Completes (exec (.fabPacketForward n lseq true units p) s) fun t =>
        let q : FabPkt := { p with life := p.life - max 1 units, hops := min 15 (p.hops + 1) }
        t.fab.sent = (out, q) :: s.fab.sent ∧ (t.fport out).replay = [((s.fport out).txSeq, q)]
        ∧ (t.fport out).credits.getD (pktVc p) 0 = (s.fport out).credits.getD (pktVc p) 0 - pktNeed p ∧ t.fab.inbox = s.fab.inbox
        ∧ (t.rd (portCnt out 0)).toNat = min (2 ^ 48 - 1) ((s.rd (portCnt out 0)).toNat + 1) ∧ t.mem = s.mem
        ∧ SameRegs [portCnt n 1, portCnt n 3, portCnt out 0, portCnt out 2] s t)
    ∧ (bitsOf e 8 2 = 0 ∨ (bitsOf e 10 6 = i ∧ bitsOf e 8 2 = 1 ∧ s.portState (bitsOf e 0 4) ≠ 2) →
      Completes (exec (.fabPacketForward n lseq true units p) s) fun t =>
        (t.rd (portCnt n 6)).toNat = min (2 ^ 48 - 1) ((s.rd (portCnt n 6)).toNat + 1) ∧ t.fab.sent = s.fab.sent ∧ t.fab.inbox = s.fab.inbox
        ∧ SameRegs [portCnt n 1, portCnt n 3, portCnt n 6] s t)
    ∧ (bitsOf e 8 2 ≠ 0 → bitsOf e 10 6 ≠ i →
      Completes (exec (.fabPacketForward n lseq true units p) s) fun t =>
        (t.rd (portCnt n 5)).toNat = min (2 ^ 48 - 1) ((s.rd (portCnt n 5)).toNat + 1) ∧ t.fab.sent = s.fab.sent ∧ t.fab.inbox = s.fab.inbox
        ∧ SameRegs [portCnt n 1, portCnt n 3, portCnt n 5] s t)) ∧
  (∀ (s : State) (n dest typ len units : Nat) (fcs : Bool) (p : FabPkt), n < 16 → s.part.portPresent n = true → s.portState n = 2 →
      s.portEth n = true →
    ((fcs = false ∨ dest ≠ 0x02494D000000 + s.ownId ∨ typ ≠ 0x88B5 ∨ len < 64 ∨ 9216 < len) →
      Completes (exec (.ethFrameReceive n dest typ len fcs units p) s) fun t =>
        (t.rd (portCnt n 8)).toNat = min (2 ^ 48 - 1) ((s.rd (portCnt n 8)).toNat + 1) ∧ OnlyRegs [portCnt n 8] s t)
    ∧ (fcs = true → dest = 0x02494D000000 + s.ownId → typ = 0x88B5 → 64 ≤ len → len ≤ 9216 → pktValid p = true → p.dst = s.ownId →
        s.ownId ≠ idUnset → s.eclipse = false → p.tag = 0 → (p.typ = 9 ∨ p.typ = 10) →
      Completes (exec (.ethFrameReceive n dest typ len fcs units p) s) fun t =>
        t.fab = { s.fab with inbox := s.fab.inbox ++ [{ port := n, pkt := p }] } ∧ SameRegs [portCnt n 1, portCnt n 3] s t)) ∧
  (∀ (s : State) (n quanta : Nat), n < 16 → s.part.portPresent n = true → s.portState n = 2 → s.portEth n = true → (s.fport n).waiting = [] →
    Completes (exec (.pauseFrame n quanta) s) fun t =>
      (quanta = 0 → (t.fport n).paused = 0) ∧ (0 < quanta → s.now < (t.fport n).paused) ∧ t.fab.sent = s.fab.sent ∧ t.regs = s.regs) ∧
  (∀ (s : State) (n i : Nat) (p : FabPkt) (a : Nat), n < 16 → s.part.portPresent n = true → (s.fport n).waiting[i]? = some (p, some a) → a < 16 →
    Completes (exec (.packetLifeExpired n i) s) fun t =>
      (t.fport n).waiting = (s.fport n).waiting.eraseIdx i
      ∧ (t.rd (portCnt a 7)).toNat = min (2 ^ 48 - 1) ((s.rd (portCnt a 7)).toNat + 1) ∧ t.fab.sent = s.fab.sent ∧ SameRegs [portCnt a 7] s t)

/-- R569, R570, R572 to R576, R597, R598: identity, routes, tags and teardown. -/
def Obligations.RoutesTagsAndTeardown : Prop :=
  (∀ (s : State) (ch id : Nat) (transit : Bool) (p : Packet), s.accepts ch 0xA00 p → p.length = 24 → pword p 0 = id → id < 2 ^ 22 →
      transit = (List.range 63).any (fun i => decide (s.fld (A.fabTag (i + 1)) F.fabTag_ROLE = 1)) →
    RepliesWith (exec (.fabIdSet ch p) s) ch
      (if id = 0x3FFFFF then St.invalid
       else if s.partState ≠ 0 ∨ transit = true then St.busy else St.ok) [] fun t =>
      t.ownId = (if id ≠ 0x3FFFFF ∧ s.partState = 0 ∧ transit = false then id else s.ownId)
      ∧ OnlyRegs [A.fabDevStatus] (s.taken ch 0xA00 p) t) ∧
  (∀ (s : State) (ch first count tag slot : Nat) (p : Packet), s.accepts ch 0xA01 p → 1 ≤ count → count ≤ 2016 →
      p.length = 32 + 8 * ceilDiv count 4 → first + count ≤ 2 ^ 22 → pword p 0 = first + count * 2 ^ 32 → pword p 1 = tag → tag < 2 ^ 20 →
      (tag = 0 ∧ slot = 0 ∨ tag ≠ 0 ∧ s.slotOf tag = some slot) →
    Completes (exec (.fabRouteWrite ch p) s) fun t =>
      ∃ es : List Nat, es.length = count ∧ t = { s.taken ch 0xA01 p with fab := { s.fab with writes := s.fab.writes ++ [(ch, first, es)] } }
      ∧ ∀ i, i < count → es.getD i 0 = (let e := pword p (2 + i / 4) / 2 ^ (16 * (i % 4)) % 2 ^ 16
          if e / 256 % 4 = 0 then 0 else e % 1024 + slot * 1024)) ∧
  (∀ (s : State) (ch first : Nat) (es : List Nat), s.fab.writes = [(ch, first, es)] →
    RepliesWith (exec (.routeWriteDone ch) s) ch St.ok [es.length] fun t =>
      (∀ g, Assoc.getD t.fab.table g 0 = if first ≤ g ∧ g < first + es.length then es.getD (g - first) 0 else Assoc.getD s.fab.table g 0)
      ∧ (∀ i, 1 ≤ i → i < 64 → t.fld (A.fabTag i) F.fabTag_ENTRIES = (t.fab.table.filter (fun e => bitsOf e.2 10 6 = i)).length % 2 ^ 23)
      ∧ t.fab.writes = [] ∧ SameRegs ((rangeFrom 1 63).map A.fabTag) s t) ∧
  (∀ (s : State) (ch tag role ctx i : Nat) (p : Packet), s.accepts ch 0xA02 p → p.length = 24 → 0 < tag → tag < 2 ^ 20 → (role = 1 ∨ role = 3) →
      ctx < 256 → pword p 0 = tag + role * 2 ^ 20 + ctx * 2 ^ 24 → s.ownId ≠ idUnset → s.slotOf tag = none → s.freeTagSlot = some i →
      (role = 3 → s.partState = 0 ∧ s.ctxOpen ctx = true) →
    RepliesWith (exec (.fabTagAdd ch p) s) ch St.ok [i] fun t =>
      t.fld (A.fabTag i) F.fabTag_TAG = tag ∧ t.fld (A.fabTag i) F.fabTag_ROLE = role
      ∧ t.fld (A.fabTag i) F.fabTag_CONTEXT = (if role = 3 then ctx else 0)
      ∧ (role = 3 → t.partState = 3 ∧ t.fld A.fabDevStatus F.fabDevStatus_MEMBER_TAG = tag ∧ t.fld A.fabDevStatus F.fabDevStatus_MEMBER_SLOT = i
          ∧ t.fld A.fabDevStatus F.fabDevStatus_CONTEXT = ctx)
      ∧ OnlyRegs (A.fabTag i :: if role = 3 then [A.fabDevStatus] else []) (s.taken ch 0xA02 p) t) ∧
  (∀ (s : State) (ch tag i : Nat) (p : Packet), s.accepts ch 0xA03 p → p.length = 24 → 0 < tag → tag < 2 ^ 20 → pword p 0 = tag →
      s.slotOf tag = some i → s.fld (A.fabTag i) F.fabTag_ROLE = 1 → s.fab.msgs = [] →
      (∀ j, 1 ≤ j → j < 64 → j ≠ i → s.fld (A.fabTag j) F.fabTag_ROLE = 0 ∨ s.fld (A.fabTag j) F.fabTag_TAG ≠ tag) →
    Completes (exec (.fabTagRemove ch p) s) fun t =>
      t.slotOf tag = none ∧ t.flag (A.fabTag i) F.fabTag_CLEARING = true ∧ (∀ x ∈ t.fab.tx, x.tag ≠ tag) ∧ (∀ x ∈ t.fab.rx, x.tag ≠ tag)
      ∧ t.fab.walks = s.fab.walks ++ [(i, some ch)] ∧ t.fab.table = s.fab.table ∧ t.mem = s.mem ∧ SameRegs [A.fabTag i] (s.taken ch 0xA03 p) t) ∧
  (∀ (s : State) (ch i : Nat), 1 ≤ i → i < 64 → s.fab.walks = [(i, some ch)] → s.fab.teardown = none → (∀ f ∈ s.fab.flares, f.held = false) →
    RepliesWith (exec (.tagRemoveWalkDone i) s) ch St.ok [] fun t =>
      t.fab.table = s.fab.table.map (fun e => if bitsOf e.2 10 6 = i then (e.1, e.2 % 1024) else e)
      ∧ t.flag (A.fabTag i) F.fabTag_CLEARING = false ∧ t.fab.walks = [] ∧ SameRegs ((rangeFrom 1 63).map A.fabTag) s t) ∧
  (∀ (s : State) (ch tag ctx slot : Nat) (p : Packet), s.accepts ch 0xA04 p → p.length = 24 → 0 < tag → tag < 2 ^ 20 → pword p 0 = tag →
      s.partState = 3 → s.fld A.fabDevStatus F.fabDevStatus_MEMBER_TAG = tag → s.fld A.fabDevStatus F.fabDevStatus_MEMBER_SLOT = slot →
      s.fld A.fabDevStatus F.fabDevStatus_CONTEXT = ctx → s.fab.flares = [] → (∀ q ∈ s.syn.queues, s.qCtx q.1 ≠ ctx ∨ s.qState q.1 ≠ 1) →
    Completes (exec (.partQuiesce ch p) s) fun t =>
      t.partState = 1 ∧ t.fab.teardown = some { tag := tag, ctx := ctx, chan := ch, start := s.now, forced := false, fence := none }
      ∧ t.slotOf tag = s.slotOf tag ∧ t.syn = s.syn ∧ t.mem = s.mem ∧ SameRegs [A.fabDevStatus] (s.taken ch 0xA04 p) t) ∧
  (∀ (s : State) (d : Teardown) (i : Nat), s.fab.teardown = some d → d.fence = none → s.drained d = true → s.slotOf d.tag = some i → 0 < d.tag →
      s.fab.msgs = [] → (∀ j, 1 ≤ j → j < 64 → j ≠ i → s.fld (A.fabTag j) F.fabTag_ROLE = 0 ∨ s.fld (A.fabTag j) F.fabTag_TAG ≠ d.tag) →
    Completes (exec .quiesceDrainDone s) fun t =>
      t.slotOf d.tag = none ∧ t.partState = 1 ∧ t.fld A.fabDevStatus F.fabDevStatus_MEMBER_TAG = 0 ∧ t.jobTag d.ctx = none
      ∧ t.fab.teardown = some { d with fence := some i } ∧ t.mem = s.mem ∧ SameRegs [A.fabDevStatus, A.fabTag i] s t) ∧
  (∀ (s : State) (d : Teardown) (i : Nat), 1 ≤ i → i < 64 → s.fab.teardown = some d → d.fence = some i → s.fab.walks = [(i, none)] →
      (∀ f ∈ s.fab.flares, f.held = false) →
    RepliesWith (exec (.tagRemoveWalkDone i) s) d.chan St.ok [b2n d.forced, (s.now - d.start) / 200] fun t =>
      t.partState = 0 ∧ t.fab.teardown = none ∧ t.flag A.fabDevStatus F.fabDevStatus_FORCED = d.forced
      ∧ SameRegs (A.fabDevStatus :: (rangeFrom 1 63).map A.fabTag) s t) ∧
  (∀ (s : State) (d : Teardown), s.fab.teardown = some d → d.fence = none → d.forced = false →
    (s.board.ctxRst.any (fun e => e.1 = d.ctx) = true →
      Completes (exec .quiesceDrainTimeout s) fun t =>
        t = { s with now := max s.now (d.start + s.fld A.fabCfg F.fabCfg_DRAIN_MS * 200000),
                     fab := { s.fab with teardown := some { d with forced := true } } })
    ∧ (s.board.ctxRst.any (fun e => e.1 = d.ctx) = false →
      Completes (exec .quiesceDrainTimeout s) fun t =>
        t.fab.teardown = some { d with forced := true } ∧ t.board.ctxRst.any (fun e => e.1 = d.ctx) = true
        ∧ t.now = max s.now (d.start + s.fld A.fabCfg F.fabCfg_DRAIN_MS * 200000)
        ∧ t = ({ s with now := max s.now (d.start + s.fld A.fabCfg F.fabCfg_DRAIN_MS * 200000),
                        fab := { s.fab with teardown := some { d with forced := true } } }).beginCtxReset d.ctx none))

/-- R482, R487, R491, R510, R566 to R568, R593: delivery end to end. -/
def Obligations.DeliveryEndToEnd : Prop :=
  (∀ (s z u v : State) (d : Delivered) (ctx k : Nat) (ps : List Piece) (bs : List (Byte × Bool)), s.fab.inbox = [d] → d.pkt.typ = 1 →
      s.tagCtx d.pkt.tag = some ctx → k = d.port / 4 →
      bs = (List.range d.pkt.payload.length).map (fun j => (d.pkt.payload.getD j 0, d.pkt.opb.testBit (j / 64))) →
      s.resolve (.base k) ctx .write (pagePieces d.pkt.opa bs.length) = (z, ps, .ok []) → (∀ p ∈ ps, leafRed p.2.2.leaf = 0) →
      z.fab.applied = [] → (∀ p ∈ ps, z.physFaults p.1 p.2.1 true = false) → z.homeUnderReset ps = false → z.arrivalReaches k ps = true →
      z.piecesHeld ps = false → z.clearPieces true ps ctx .fabric = (u, true) →
      u.writePieces ctx .fabric { ctx := ctx, entry := none } 0 ps bs = (v, .ok []) →
    Completes (exec (.fabWrite 0) s) fun t => t.mem = v.mem ∧ t.poison = v.poison
      ∧ t = (v.takeIn d).answerPkt d 4 (d.pkt.seq % 2 ^ 32) 0 (2 ^ 31) []) ∧
  (∀ (s z u : State) (d : Delivered) (ctx k : Nat) (ps : List Piece) (bs : List (Byte × Bool)), s.fab.inbox = [d] → d.pkt.typ = 2 →
      s.tagCtx d.pkt.tag = some ctx → k = d.port / 4 →
      s.resolve (.base k) ctx .read (pagePieces d.pkt.opa (d.pkt.opb % 2 ^ 13)) = (z, ps, .ok []) → z.homeUnderReset ps = false →
      z.arrivalReaches k ps = true → (s.clearPieces false ps ctx .fabric).2 = true →
      z.readPieces .fabric (some { ctx := ctx, entry := none }) ps = (u, .ok bs) →
    Completes (exec (.fabRead 0) s) fun t => t.mem = u.mem
      ∧ t = (u.takeIn d).answerPkt d 3 d.pkt.opa (maskOf (bs.map (·.2))) d.pkt.seq (bs.map (·.1))) ∧
  (∀ (s z : State) (d : Delivered) (ctx k kind level ent va : Nat) (ps : List Piece), s.fab.inbox = [d] → s.tagCtx d.pkt.tag = some ctx →
      k = d.port / 4 →
    (d.pkt.typ = 1 → s.resolve (.base k) ctx .write (pagePieces d.pkt.opa d.pkt.payload.length) = (z, ps, .xlt kind level ent va) →
      Completes (exec (.fabWrite 0) s) fun t => t.mem = z.mem
        ∧ t = ((z.arrivalFault k ctx .write kind level ent va).takeIn d).answerPkt d 4 (d.pkt.seq % 2 ^ 32 + 2 ^ 32) 0 (2 ^ 31) [])
    ∧ (d.pkt.typ = 2 → s.resolve (.base k) ctx .read (pagePieces d.pkt.opa (d.pkt.opb % 2 ^ 13)) = (z, ps, .xlt kind level ent va) →
      Completes (exec (.fabRead 0) s) fun t => t.mem = z.mem
        ∧ t = ((z.arrivalFault k ctx .read kind level ent va).takeIn d).answerPkt d 4 (d.pkt.seq % 2 ^ 32 + 2 ^ 32) 0 (2 ^ 31) [])) ∧
  (∀ (s : State) (d : Delivered) (r : RxStream) (obj op : Nat), s.fab.inbox = [d] → d.pkt.typ = 6 → s.board.towerRst = [] → obj < 65536 → op < 4 →
      s.pathOpen (.tower (d.port / 4)) (.tower (objTower obj)) (64 * obj) = true →
      d.pkt.opa = obj + op * 2 ^ 16 → s.fab.rx = [r] → r.src = d.pkt.src → r.tag = d.pkt.tag → d.pkt.seq < 2 ^ 32 → r.next < 2 ^ 32 →
    (d.pkt.seq = r.next → ∀ (v : State) (ok : Bool),
      ({ s with fab := { s.fab with inbox := [], rx := [{ r with next := (r.next + 1) % 2 ^ 32, last := s.now }] } }).objOp
        (s.tagCtx d.pkt.tag) obj op (d.pkt.opb % 2 ^ 32) = (v, ok) →
      Completes (exec (.fabSignal 0) s) fun t => t.fab.rx = [{ r with next := (r.next + 1) % 2 ^ 32, last := s.now }]
        ∧ t.objValue obj = v.objValue obj ∧ t.syn = v.syn
        ∧ t = v.answerPkt d 4 (d.pkt.seq + (if ok then 0 else 3) * 2 ^ 32) 0 (2 ^ 31) [])
    ∧ (d.pkt.seq = (r.next + 1) % 2 ^ 32 →
      Completes (exec (.fabSignal 0) s) fun t => t.objValue obj = s.objValue obj ∧ t.fab.rx = s.fab.rx
        ∧ t = { s with fab := { s.fab with inbox := [] } }.answerPkt d 4 (d.pkt.seq + 4 * 2 ^ 32) r.next (2 ^ 31) [])
    ∧ (r.next = (d.pkt.seq + 1) % 2 ^ 32 →
      Completes (exec (.fabSignal 0) s) fun t => t.objValue obj = s.objValue obj ∧ t.fab.rx = s.fab.rx
        ∧ t = { s with fab := { s.fab with inbox := [] } }.answerPkt d 4 d.pkt.seq 0 (2 ^ 31) [])) ∧
  (∀ (s : State) (d : Delivered) (obj : Nat), s.fab.inbox = [d] → d.pkt.typ = 6 → s.board.towerRst = [] → d.pkt.first = false → s.fab.rx = [] →
      obj = d.pkt.opa % 65536 → s.pathOpen (.tower (d.port / 4)) (.tower (objTower obj)) (64 * obj) = true → d.pkt.seq < 2 ^ 32 →
    Completes (exec (.fabSignal 0) s) fun t => t.objValue obj = s.objValue obj
      ∧ t = { s with fab := { s.fab with inbox := [] } }.answerPkt d 4 (d.pkt.seq + 5 * 2 ^ 32) 0 (2 ^ 31) []) ∧
  (∀ (s : State) (d : Delivered) (m : FabMsg) (k mv id : Nat), s.fab.inbox = [d] → d.pkt.typ = 4 → s.fab.msgs = [m] → m.acked = false →
      m.use = .move k mv id → m.pkt.seq = d.pkt.opa % 2 ^ 32 → m.pkt.dst = d.pkt.src → m.pkt.tag = d.pkt.tag →
    (d.pkt.opa / 2 ^ 32 % 16 = 0 →
      Completes (exec (.fabAck 0) s) fun t => t.fab = { s.fab with inbox := [], msgs := [{ m with acked := true }] } ∧ t.mem = s.mem
        ∧ t = ({ s with fab := { s.fab with inbox := [], msgs := [{ m with acked := true }] } }).moveAcked k mv id m.pkt.payload.length)
    ∧ (d.pkt.opa / 2 ^ 32 % 16 = 1 →
      Completes (exec (.fabAck 0) s) fun t => t = ({ s with fab := { s.fab with inbox := [] } }).useFail m 0x10)
    ∧ (d.pkt.opa / 2 ^ 32 % 16 = 2 →
      Completes (exec (.fabAck 0) s) fun t => t = ({ s with fab := { s.fab with inbox := [] } }).useFail m 0x11)) ∧
  (∀ (s : State) (d : Delivered) (m : FabMsg) (c : FabCopy) (ch va : Nat), s.fab.inbox = [d] → d.pkt.typ = 4 → s.fab.msgs = [m] →
      m.acked = false → m.use = .copy ch va → m.pkt.seq = d.pkt.opa % 2 ^ 32 → m.pkt.dst = d.pkt.src → m.pkt.tag = d.pkt.tag →
      d.pkt.opa / 2 ^ 32 % 16 = 0 → m.sent = 0 → s.fab.copies = [c] → c.chan = ch → c.left = [] → c.doneObj = none →
    RepliesWith (exec (.fabAck 0) s) ch St.ok [c.bytes, 0] fun t =>
      t = { s with fab := { s.fab with inbox := [], msgs := [], copies := [] } }) ∧
  (∀ (s : State) (d : Delivered) (x : TxStream) (a b : FabPkt), s.fab.inbox = [d] → d.pkt.typ = 4 → s.fab.msgs = [] → s.fab.tx = [x] →
      x.dst = d.pkt.src → x.tag = d.pkt.tag → x.unacked = [a, b] → d.pkt.opa = a.seq → a.seq < 2 ^ 31 → b.seq = a.seq + 1 →
    Completes (exec (.fabAck 0) s) fun t => t = { s with fab := { s.fab with inbox := [], tx := [{ x with unacked := [b], sent := 0 }] } }) ∧
  (∀ (s z : State) (d : Delivered) (m : FabMsg) (c : FabCopy) (ch va : Nat), s.fab.inbox = [d] → d.pkt.typ = 3 → s.fab.msgs = [m] →
      m.acked = false → m.use = .copy ch va → m.pkt.seq = d.pkt.seq → m.pkt.dst = d.pkt.src → m.pkt.typ = 2 →
      m.sent = 0 → s.fab.copies = [c] → c.chan = ch → c.left = [] → c.doneObj = none → z.fab = s.fab →
      s.writeVa (.base m.die) m.owner.ctx va
        ((List.range d.pkt.payload.length).map (fun j => (d.pkt.payload.getD j 0, d.pkt.opb.testBit (j / 64)))) .fabric m.owner = (z, .ok []) →
    RepliesWith (exec (.fabReadRsp 0) s) ch St.ok [c.bytes, 0] fun t =>
      t = { z with fab := { s.fab with inbox := [], msgs := [], copies := [] } }) ∧
  (∀ (s u : State) (m : FabMsg), s.fab.msgs = [m] → m.acked = false → m.die < 4 →
      u = { s with now := max s.now (m.last + s.fld A.fabCfg F.fabCfg_E2E_US * 200) } →
    (m.sent < s.fld A.fabCfg F.fabCfg_E2E_RETRIES →
      Completes (exec (.e2eResendTimeout false 0) s) fun t =>
        t.fab.msgs = [{ m with sent := m.sent + 1, last := u.now }] ∧ t.now = u.now ∧ t.mem = s.mem
        ∧ (t.rd (A.fabCntE2eRetx m.die)).toNat = min (2 ^ 48 - 1) ((s.rd (A.fabCntE2eRetx m.die)).toNat + 1)
        ∧ t = (({ u with fab := { s.fab with msgs := [{ m with sent := m.sent + 1, last := u.now }] } }).bump (A.fabCntE2eRetx m.die) 1).route
            { m.pkt with life := s.fld A.fabCfg F.fabCfg_LIFE } none m.die)
    ∧ (s.fld A.fabCfg F.fabCfg_E2E_RETRIES ≤ m.sent →
      Completes (exec (.e2eResendTimeout false 0) s) fun t => t.now = u.now ∧ t = (u.bump (A.fabCntE2eFail m.die) 1).useFail m 0x20)) ∧
  (∀ (s u : State) (x : TxStream) (a : FabPkt), s.fab.tx = [x] → x.unacked = [a] → x.die < 4 →
      u = { s with now := max s.now (x.since + s.fld A.fabCfg F.fabCfg_E2E_US * 200) } →
    (x.sent < s.fld A.fabCfg F.fabCfg_E2E_RETRIES →
      Completes (exec (.e2eResendTimeout true 0) s) fun t =>
        t.fab.tx = [{ x with sent := x.sent + 1, last := u.now, since := u.now }] ∧ t.now = u.now ∧ t.mem = s.mem
        ∧ (t.rd (A.fabCntE2eRetx x.die)).toNat = min (2 ^ 48 - 1) ((s.rd (A.fabCntE2eRetx x.die)).toNat + 1)
        ∧ t = (({ u with fab := { s.fab with tx := [{ x with sent := x.sent + 1, last := u.now, since := u.now }] } }).bump
            (A.fabCntE2eRetx x.die) 1).route { a with life := s.fld A.fabCfg F.fabCfg_LIFE } none x.die)
    ∧ (s.fld A.fabCfg F.fabCfg_E2E_RETRIES ≤ x.sent → s.fab.colls = [] →
      Completes (exec (.e2eResendTimeout true 0) s) fun t =>
        t.fab = { s.fab with tx := [] } ∧ t.now = u.now ∧ t.mem = s.mem
        ∧ t = (({ u with fab := { s.fab with tx := [] } }).bump (A.fabCntE2eFail x.die) 1).record
            { queue := x.die, cls := 0x20, domain := 0, action := 5, unit := unitCode 12 x.die 0 0 0,
              owner := (s.tagCtx x.tag).map (fun c => { ctx := c, entry := none }), detail := x.dst + a.typ * 2 ^ 24 })) ∧
  (∀ (s : State) (x : TxStream) (r : RxStream), s.fab.tx = [x] → s.fab.rx = [r] →
    (x.unacked = [] → Completes (exec (.streamIdleFree true 0) s) fun t =>
      t = { s with now := max s.now (x.last + 200000000), fab := { s.fab with tx := [] } })
    ∧ Completes (exec (.streamIdleFree false 0) s) fun t =>
      t = { s with now := max s.now (r.last + 200000000), fab := { s.fab with rx := [] } }) ∧
  (∀ (s : State) (ch ctx dst tag va rva n : Nat) (p : Packet), s.accepts ch 0x302 p → p.length = 48 → ctx < 256 → dst < 2 ^ 22 →
      pword p 1 = va → pword p 2 = n → pword p 3 = rva → va % 64 = 0 → rva % 64 = 0 → n % 64 = 0 → va + n ≤ 2 ^ 57 → rva + n ≤ 2 ^ 57 → 0 < n →
      s.ctxOpen ctx = true → s.jobTag ctx = some tag → s.prefetches < 4 → s.eclipse = false → s.err.armed = [] →
    (pword p 0 = ctx + 3 * 2 ^ 8 + dst * 2 ^ 32 → n ≤ 4096 →
      Completes (exec (.memPrefetchPull ch p) s) fun t =>
        t.fab.copies = s.fab.copies ++ [{ pull := true, ctx := ctx, chan := ch, bytes := n, dst := dst, tag := tag, rva := rva, va := va, left := [],
                                          doneObj := none }]
        ∧ (∃ m, t.fab.msgs = s.fab.msgs ++ [m] ∧ m.use = .copy ch va ∧ m.acked = false ∧ m.pkt.typ = 2 ∧ m.pkt.dst = dst ∧ m.pkt.tag = tag
            ∧ m.pkt.opa = rva ∧ m.pkt.opb = n)
        ∧ (t.chan ch).current = some (0x302, p) ∧ t.mem = s.mem)
    ∧ (pword p 0 = ctx + 2 * 2 ^ 8 + dst * 2 ^ 32 → va % 4096 + n ≤ 4096 → s.fab.copies = [] → ∀ (z : State) (c : FabCopy) (bs : List (Byte × Bool)),
        c = { pull := false, ctx := ctx, chan := ch, bytes := n, dst := dst, tag := tag, rva := rva, va := va, left := [], doneObj := none } →
        ({ s.taken ch 0x302 p with fab := { s.fab with copies := [c] } }).readVa (.base 0) ctx va n .read .fabric
          (some { ctx := ctx, entry := none }) = (z, .ok bs) → bs.length = n → z.fab.copies = [c] →
        Completes (exec (.memPrefetchPush ch p) s) fun t =>
          t.fab.copies = [c] ∧ t.mem = z.mem
          ∧ (∃ m, t.fab.msgs = z.fab.msgs ++ [m] ∧ m.use = .copy ch 0 ∧ m.acked = false ∧ m.pkt.typ = 1 ∧ m.pkt.dst = dst ∧ m.pkt.tag = tag
              ∧ m.pkt.opa = rva ∧ m.pkt.opb = maskOf (bs.map (·.2)) ∧ m.pkt.payload = bs.map (·.1))))

/-- R577 to R583, R593, R599: flares. -/
def Obligations.FlaresPrepareCommitAndAbort : Prop :=
  (∀ (s : State) (ch id slot : Nat) (d : List Nat) (p : Packet), s.accepts ch 0xA05 p → p.length = 56 + 8 * descRanges d →
      p.params.map (·.toNat) = 1 :: d → descValid d = true → id = descId d → memberId d 0 = some s.ownId → s.ownId ≠ idUnset →
      s.fab.flares = [] → s.mayJoin d = true → (s.slotOf (descTag d)).orElse (fun _ => s.freeTagSlot) = some slot → childrenOf d 0 ≠ [] →
    Completes (exec (.flarePrepare ch p) s) fun t =>
      t.partState = 2 ∧ t.fld A.fabDevStatus F.fabDevStatus_MEMBER_TAG = descTag d ∧ t.fld A.fabDevStatus F.fabDevStatus_CONTEXT = descCtx d
      ∧ t.fld (A.fabTag slot) F.fabTag_ROLE = 2 ∧ t.fld A.flareStatus0 F.flareStatus0_PHASE = 1
      ∧ t.fld A.flareStatus0 F.flareStatus0_ROOT = 1 ∧ t.fld A.flareStatus0 F.flareStatus0_FLARE_ID = id
      ∧ t.fab.flares = [{ id := id, desc := d, index := 0, parent := none,
                          kids := (childrenOf d 0).map (fun c => { index := c, deadline := s.now + descLevel d * heightOf d c, answer := none }),
                          phase := 1, held := false, chan := some ch, doneObj := none, since := s.now }]
      ∧ (∀ c ∈ childrenOf d 0, ∀ g, memberId d c = some g → t.Owes g 0 9 (1 + id * 2 ^ 32) c (descBytes d))
      ∧ t.mem = s.mem) ∧
  (∀ (s : State) (e : Delivered) (id i slot : Nat) (d : List Nat), s.fab.inbox = [e] → e.pkt.typ = 9 → e.pkt.opa = 1 + id * 2 ^ 32 → id < 2 ^ 32 →
      e.pkt.opb = i → i < 2 ^ 24 → e.pkt.payload = descBytes d → (∀ w ∈ d, w < 2 ^ 64) → s.turnOf e = .apply → s.fab.flares = [] →
      descValid d = true → memberId d i = some s.ownId →
    (s.mayJoin d = true → (s.slotOf (descTag d)).orElse (fun _ => s.freeTagSlot) = some slot → childrenOf d i = [] →
      Completes (exec (.flarePreparePkt 0) s) fun t =>
        t.partState = 2 ∧ t.fld A.fabDevStatus F.fabDevStatus_MEMBER_TAG = descTag d ∧ t.fld (A.fabTag slot) F.fabTag_ROLE = 2
        ∧ t.fld A.flareStatus0 F.flareStatus0_PHASE = 3 ∧ t.Owes e.pkt.src 0 9 (2 + id * 2 ^ 32) i (summaryBytes (1, [], false)) ∧ t.mem = s.mem
        ∧ ∃ u : State, t = (u.sendFlare e.pkt.src 2 id i (summaryBytes (1, [], false))).answerPkt e 4 (e.pkt.seq % 2 ^ 32) 0 (2 ^ 31) [])
    ∧ (s.partState = 1 → s.eclipse = false →
      Completes (exec (.flarePreparePkt 0) s) fun t =>
        t.partState = 1 ∧ t.fld A.flareStatus0 F.flareStatus0_PHASE = 2 ∧ t.fab.flares.map (fun f => (f.id, f.held)) = [(id, true)] ∧ t.mem = s.mem
        ∧ t.Owes e.pkt.src 0 9 (3 + id * 2 ^ 32) i (leBytes 8 s.holdBound) ∧ 2000 ≤ s.holdBound
        ∧ ∃ u : State, t = (u.sendFlare e.pkt.src 3 id i (leBytes 8 s.holdBound)).answerPkt e 4 (e.pkt.seq % 2 ^ 32) 0 (2 ^ 31) [])
    ∧ (s.partState = 3 →
      Completes (exec (.flarePreparePkt 0) s) fun t =>
        t.partState = 3 ∧ t.fab.flares = [] ∧ t.Owes e.pkt.src 0 9 (2 + id * 2 ^ 32) i (summaryBytes (0, [], false))
        ∧ t = (((s.takeIn e).advanceRx e).sendFlare e.pkt.src 2 id i (summaryBytes (0, [], false))).answerPkt e 4
            (e.pkt.seq % 2 ^ 32) 0 (2 ^ 31) [])) ∧
  (∀ (s : State) (e : Delivered) (f : Flare) (c dl n ch : Nat), s.fab.inbox = [e] → e.pkt.typ = 9 → f.id < 2 ^ 32 → e.pkt.opb = c → c < 2 ^ 24 →
      s.turnOf e = .apply → s.fab.flares = [f] → f.parent = none → f.kids = [{ index := c, deadline := dl, answer := none }] → f.held = false →
      f.chan = some ch → f.doneObj = none → e.pkt.payload = summaryBytes (n, [], false) → 0 < n → 1 + n = descMembers f.desc → n < 2 ^ 24 - 1 →
    (e.pkt.opa = 2 + f.id * 2 ^ 32 → 1 ≤ f.phase → f.phase ≤ 2 → s.now ≤ dl →
      Completes (exec (.flareAckPkt 0) s) fun t =>
        t.fld A.flareStatus0 F.flareStatus0_PHASE = 3 ∧ t.fld A.flareStatus1 F.flareStatus1_REACHED = 1 + n
        ∧ t.fld A.flareStatus0 F.flareStatus0_NENT = 0 ∧ t.partState = s.partState ∧ t.mem = s.mem
        ∧ ∃ u : State, t = (u.reply ch St.ok [1 + n, 0]).answerPkt e 4 (e.pkt.seq % 2 ^ 32) 0 (2 ^ 31) [] ∧ u.fab.flares = t.fab.flares)
    ∧ (e.pkt.opa = 5 + f.id * 2 ^ 32 → f.phase = 4 → s.now ≤ dl →
      Completes (exec (.flareCommitAckPkt 0) s) fun t =>
        t.fld A.flareStatus0 F.flareStatus0_PHASE = 5 ∧ t.fld A.flareStatus1 F.flareStatus1_REACHED = 1 + n ∧ t.partState = s.partState
        ∧ t.mem = s.mem
        ∧ ∃ u : State, t = (u.reply ch St.ok [1 + n, 0]).answerPkt e 4 (e.pkt.seq % 2 ^ 32) 0 (2 ^ 31) [] ∧ u.fab.flares = t.fab.flares)
    ∧ (e.pkt.opa = 2 + f.id * 2 ^ 32 → 3 ≤ f.phase → f.phase ≤ 6 →
      Completes (exec (.flareAckPkt 0) s) fun t =>
        t.fab.flares = [f] ∧ t.partState = s.partState ∧ (∀ g, memberId f.desc c = some g → t.Owes g 0 9 (6 + f.id * 2 ^ 32) c [])
        ∧ t = (((s.takeIn e).advanceRx e).sendKids f 6 [c]).answerPkt e 4 (e.pkt.seq % 2 ^ 32) 0 (2 ^ 31) [])) ∧
  (∀ (s : State) (e : Delivered) (f : Flare) (c dl b : Nat), s.fab.inbox = [e] → e.pkt.typ = 9 → e.pkt.opa = 3 + f.id * 2 ^ 32 → f.id < 2 ^ 32 →
      e.pkt.opb = c → c < 2 ^ 24 → s.turnOf e = .apply → s.fab.flares = [f] → f.parent = none →
      f.kids = [{ index := c, deadline := dl, answer := none }] → f.held = false → 1 ≤ f.phase → f.phase ≤ 2 → e.pkt.payload = leBytes 8 b → b < 2 ^ 64 →
    Completes (exec (.flareHeldPkt 0) s) fun t =>
      (let k : FlareChild := { index := c, deadline := max dl (s.now + 200 * b + descLevel f.desc * heightOf f.desc c), answer := none }
       t.fab.flares = [{ f with phase := 2, kids := [k] }])
      ∧ t.fld A.flareStatus0 F.flareStatus0_PHASE = 2 ∧ t.partState = s.partState ∧ t.mem = s.mem
      ∧ ∃ u : State, t = u.answerPkt e 4 (e.pkt.seq % 2 ^ 32) 0 (2 ^ 31) [] ∧ u.fab.flares = t.fab.flares) ∧
  (∀ (s : State) (f : Flare) (c dl g up : Nat), s.fab.flares = [f] → f.parent = some up → f.kids = [{ index := c, deadline := dl, answer := none }] →
      f.held = false → 1 ≤ f.phase → f.phase ≤ 2 → memberId f.desc c = some g → g < 2 ^ 22 → c < 2 ^ 24 →
    Completes (exec (.flareDeadline f.id c) s) fun t =>
      t.fld A.flareStatus0 F.flareStatus0_PHASE = 3 ∧ t.fld A.flareStatus0 F.flareStatus0_NENT = 1
      ∧ t.fld A.flareStatus1 F.flareStatus1_REACHED = 1 ∧ t.partState = s.partState ∧ t.now = max s.now dl ∧ t.mem = s.mem
      ∧ t.Owes up 0 9 (2 + f.id * 2 ^ 32) f.index (summaryBytes (1, [g + 2 ^ 22 + c * 2 ^ 24], false))) ∧
  (∀ (s : State) (ch c n dl slot : Nat) (f : Flare) (p : Packet), s.accepts ch 0xA06 p → p.length = 24 → pword p 0 = f.id → f.id < 2 ^ 32 →
      s.fab.flares = [f] → f.parent = none → f.phase = 3 → f.held = false → f.kids = [{ index := c, deadline := dl, answer := some (n, [], false) }] →
      0 < n → s.fld A.fabDevStatus F.fabDevStatus_MEMBER_SLOT = slot → 1 ≤ slot → slot < 64 →
    Completes (exec (.flareCommit ch p) s) fun t =>
      t.partState = 3 ∧ t.fld (A.fabTag slot) F.fabTag_ROLE = 3 ∧ t.fld (A.fabTag slot) F.fabTag_TAG = descTag f.desc
      ∧ t.fld A.fabDevStatus F.fabDevStatus_MEMBER_TAG = descTag f.desc ∧ t.fld A.flareStatus0 F.flareStatus0_PHASE = 4
      ∧ (let k : FlareChild := { index := c, deadline := s.now + descLevel f.desc * heightOf f.desc c, answer := none }
         t.fab.flares = [{ f with phase := 4, chan := some ch, kids := [k] }])
      ∧ (∀ g, memberId f.desc c = some g → t.Owes g 0 9 (4 + f.id * 2 ^ 32) c (descBytes f.desc)) ∧ t.mem = s.mem) ∧
  (∀ (s : State) (e : Delivered) (f : Flare) (slot : Nat), s.fab.inbox = [e] → e.pkt.typ = 9 → e.pkt.opa = 4 + f.id * 2 ^ 32 → f.id < 2 ^ 32 →
      s.turnOf e = .apply → s.fab.flares = [f] → f.parent = some e.pkt.src → f.phase = 3 → f.kids = [] → s.joiningFor f = true →
      s.fld A.fabDevStatus F.fabDevStatus_MEMBER_SLOT = slot → 1 ≤ slot → slot < 64 →
    Completes (exec (.flareCommitPkt 0) s) fun t =>
      t.partState = 3 ∧ t.fld (A.fabTag slot) F.fabTag_ROLE = 3 ∧ t.fld A.flareStatus0 F.flareStatus0_PHASE = 5 ∧ t.mem = s.mem
      ∧ t.Owes e.pkt.src 0 9 (5 + f.id * 2 ^ 32) f.index (summaryBytes (1, [], false))
      ∧ ∃ u : State, t = (u.sendFlare e.pkt.src 5 f.id f.index (summaryBytes (1, [], false))).answerPkt e 4 (e.pkt.seq % 2 ^ 32) 0 (2 ^ 31) []) ∧
  (∀ (s : State) (e : Delivered) (f : Flare) (slot ch : Nat) (p : Packet), s.fab.flares = [f] → 1 ≤ f.phase → f.phase ≤ 3 → f.kids = [] →
      s.joiningFor f = true → s.fld A.fabDevStatus F.fabDevStatus_MEMBER_SLOT = slot → 1 ≤ slot → slot < 64 → f.id < 2 ^ 32 → f.doneObj = none →
      (∀ x ∈ s.fab.table, bitsOf x.2 10 6 ≠ slot) →
    (s.accepts ch 0xA07 p → p.length = 24 → pword p 0 = f.id → f.parent = none → f.chan = none →
      RepliesWith (exec (.flareAbort ch p) s) ch St.ok [] fun t =>
        t.partState = 0 ∧ t.fld (A.fabTag slot) F.fabTag_ROLE = 0 ∧ t.fld (A.fabTag slot) F.fabTag_TAG = 0
        ∧ t.fld A.flareStatus0 F.flareStatus0_PHASE = 6)
    ∧ (s.fab.inbox = [e] → e.pkt.typ = 9 → e.pkt.opa = 6 + f.id * 2 ^ 32 → s.turnOf e = .apply → f.parent = some e.pkt.src → f.chan = none →
      Completes (exec (.flareAbortPkt 0) s) fun t =>
        t.partState = 0 ∧ t.fld (A.fabTag slot) F.fabTag_ROLE = 0 ∧ t.fld A.flareStatus0 F.flareStatus0_PHASE = 6 ∧ t.mem = s.mem
        ∧ ∃ u : State, t = u.answerPkt e 4 (e.pkt.seq % 2 ^ 32) 0 (2 ^ 31) [] ∧ u.fab.flares = t.fab.flares)
    ∧ (∀ up, f.parent = some up → f.chan = none → Completes (exec .joinTimeout s) fun t =>
        t.partState = 0 ∧ t.fld (A.fabTag slot) F.fabTag_ROLE = 0 ∧ t.fld A.flareStatus0 F.flareStatus0_PHASE = 6 ∧ t.mem = s.mem
        ∧ t.now = max s.now (f.since + s.fld A.fabCfg F.fabCfg_JOIN_MS * 200000)))

/-- R584 to R586, R588, R589, R602: collectives. -/
def Obligations.CollectivesStepAndReportLag : Prop :=
  (∀ (s : State) (ch n ctx mode op fmt rnd trig done ms elems parent root nch : Nat) (p : Packet), s.accepts ch 0xA08 p → p.length = 128 → n < 256 →
      ctx < 256 → (mode = 1 ∨ mode = 2 ∧ op = 0 ∧ fmt ≠ 0x10) → op < 6 → fmt ∈ [0x04, 0x05, 0x10, 0x11, 0x12] → (3 ≤ op → fmt = 0x10) → rnd < 4 →
      trig < 65536 → done < 65536 → ms < 65536 → 1 ≤ elems → elems < 2 ^ 32 → parent < 2 ^ 22 → root < 2 → (root = 1 → parent = 0) → nch ≤ 16 →
      pword p 0 = n + ctx * 2 ^ 8 + mode * 2 ^ 16 + op * 2 ^ 18 + fmt * 2 ^ 22 + rnd * 2 ^ 27 → pword p 1 = trig * 2 ^ 16 + done * 2 ^ 32 + ms * 2 ^ 48 →
      pword p 2 < 2 ^ 57 → pword p 3 < 2 ^ 57 → pword p 4 = elems → pword p 5 = parent + root * 2 ^ 22 + nch * 2 ^ 24 →
      (∀ i, i < 8 → pword p (6 + i) &&& 0xFFC00000FFC00000 = 0) → s.partState = 3 → s.fld A.fabDevStatus F.fabDevStatus_CONTEXT = ctx →
      (∀ c, s.coll? n = some c → c.running = false) → s.objBoundTo trig ctx = true → s.objBoundTo done ctx = true → s.syn.waits = [] →
    RepliesWith (exec (.collSetup ch p) s) ch St.ok [] fun t =>
      (∃ c, t.coll? n = some c ∧ c.ctx = ctx ∧ c.mode = mode ∧ c.op = op ∧ c.fmt = fmt ∧ c.rnd = rnd ∧ c.trig = trig ∧ c.done = done
        ∧ c.timeout = (if ms = 0 then 1000 else ms) ∧ c.src = pword p 2 ∧ c.dst = pword p 3 ∧ c.elems = elems ∧ c.parent = parent
        ∧ (c.root = true ↔ root = 1) ∧ c.kids = (List.range nch).map (fun i => pword p (6 + i / 2) / 2 ^ (32 * (i % 2)) % 2 ^ 22)
        ∧ c.step = 0 ∧ c.running = false ∧ c.segs = [])
      ∧ t.fld (collStatusOf n) F.collStatus_MODE = mode ∧ t.fld (collStatusOf n) F.collStatus_STATE = 0
      ∧ t.fld (collStatusOf n) F.collStatus_CONTEXT = ctx ∧ t.fld (collStatusOf n) F.collStatus_STEPS = 0
      ∧ t.fld (collStatusOf n) F.collStatus_NCHILD = nch
      ∧ (∃ w ∈ t.syn.waits, w.obj = trig ∧ w.cond = 3 ∧ w.value = 1 ∧ w.ctx = ctx) ∧ SameRegs [collStatusOf n, objReg0 trig] (s.taken ch 0xA08 p) t) ∧
  (∀ (s : State) (ch n : Nat) (p : Packet), s.accepts ch 0xA08 p → p.length = 128 → n < 256 → pword p 0 = n → (∀ i, 1 ≤ i → i < 14 → pword p i = 0) →
      (∀ c, s.coll? n = some c → c.running = false) → s.syn.waits = [] →
    RepliesWith (exec (.collSetup ch p) s) ch St.ok [] fun t =>
      t.coll? n = none ∧ t.rd (collStatusOf n) = 0 ∧ SameRegs [collStatusOf n] (s.taken ch 0xA08 p) t) ∧
  (∀ (s z : State) (n tag : Nat) (c : Coll) (w : Wait) (bs : List (Byte × Bool)), n < 256 → s.coll? n = some c → c.running = false → s.syn.waits = [w] →
      w.who = collWaiter n → w.met = true → s.collsHeld c.ctx = false → c.mode = 1 → c.root = false → c.kids = [] → c.segs = [] →
      c.segCount = 1 → 0 < c.elems → c.lag = [{ last := 0, total := 0, max := 0 }] → s.jobTag c.ctx = some tag →
      (((s.endWait (collWaiter n)).setColl n { c with running := true, start := s.now, inject := 0, written := 0 }).setFld (collStatusOf n)
          F.collStatus_STATE 1).readVa (.base (n % 4)) c.ctx (c.src % 2 ^ 57) (c.elems * c.esize) .read .fabric
            (some { ctx := c.ctx, entry := none }) = (z, .ok bs) →
      z.coll? n = some { c with running := true, start := s.now, inject := 0, written := 0 } → z.jobTag c.ctx = some tag →
      z.fld (collStatusOf n) F.collStatus_STATE = 1 →
    Completes (exec (.collStepStart n) s) fun t =>
      t.fld (collStatusOf n) F.collStatus_STATE = 1
      ∧ (∃ d, t.coll? n = some d ∧ d.running = true ∧ d.start = s.now ∧ d.inject = 1 ∧ d.step = c.step
          ∧ ∃ g ∈ d.segs, g.step = c.step ∧ g.seg = 0 ∧ g.up = true)) ∧
  (∀ (s : State) (n seg j step : Nat) (c : Coll) (d : Delivered), s.fab.inbox = [d] → d.pkt.typ = 7 → n < 256 → seg < 2 ^ 32 → c.kids.Nodup →
      d.pkt.opa = n + seg * 2 ^ 8 + c.step % 2 ^ 24 * 2 ^ 40 → s.coll? n = some c → c.kids[j]? = some d.pkt.src → 2 ≤ c.kids.length →
      c.step = step → c.step < 2 ^ 32 → s.fld (collStatusOf n) F.collStatus_STATE ≠ 2 → seg < c.segCount → c.segs = [] → s.turnOf d = .apply →
    Completes (exec (.fabColl 0) s) fun t =>
      (∃ e, t.coll? n = some e ∧ e.segs = [{ step := step, seg := seg, first := s.now, parts := [(j + 1, d.pkt.payload, d.pkt.opb)], up := false }])
      ∧ t.mem = s.mem ∧ t.syn = s.syn ∧ ∃ u : State, t = u.answerPkt d 4 (d.pkt.seq % 2 ^ 32) 0 (2 ^ 31) [] ∧ u.regs = s.regs) ∧
  (∀ (s z : State) (n seg : Nat) (c : Coll) (g : CollSeg) (d : Delivered), s.fab.inbox = [d] → d.pkt.typ = 8 → n < 256 → seg < 2 ^ 32 →
      d.pkt.opa = n + seg * 2 ^ 8 + c.step % 2 ^ 24 * 2 ^ 40 → s.coll? n = some c → c.running = true → c.root = false → c.step < 2 ^ 32 →
      d.pkt.src = c.parent → c.segs = [g] → g.step = c.step → g.seg = seg → g.up = true → s.turnOf d = .apply →
      s.writeResult n seg c d.pkt.payload (d.pkt.opb ≠ 0) = (z, true) → z.fab = s.fab →
    Completes (exec (.fabCollRes 0) s) fun t =>
      t.coll? n = some { c with written := c.written + 1, segs := [] } ∧ t.mem = z.mem
      ∧ t = (((z.takeIn d).advanceRx d).resultDone n seg d.pkt.payload (d.pkt.opb ≠ 0)).answerPkt d 4 (d.pkt.seq % 2 ^ 32) 0 (2 ^ 31) []) ∧
  (∀ (s : State) (n : Nat) (c : Coll), n < 256 → s.coll? n = some c → c.running = true → c.written = c.segCount → c.done < 65536 → c.step < 2 ^ 32 →
      s.syn.waits = [] →
    Completes (exec (.collStepComplete n) s) fun t =>
      t.fld (collStatusOf n) F.collStatus_STEPS = (c.step + 1) % 2 ^ 32 ∧ t.fld (collStatusOf n) F.collStatus_STATE = 0
      ∧ t.coll? n = some { c with running := false, step := (c.step + 1) % 2 ^ 32 }
      ∧ t.syn.flying = s.syn.flying ++ [{ who := collWaiter n, ctx := some c.ctx, obj := c.done, op := 1, value := 1, owner := none, seq := 0 }]
      ∧ (∃ w, t.syn.waits = [w] ∧ w.who = collWaiter n ∧ w.obj = c.trig ∧ w.cond = 3 ∧ w.value = ((c.step + 1) % 2 ^ 32 + 1) % 2 ^ 32) ∧ t.mem = s.mem
      ∧ SameRegs [collStatusOf n, objReg0 c.trig] s t) ∧
  (∀ (s : State) (n : Nat) (c : Coll) (k : Nat), n < 256 → s.coll? n = some c → c.running = true → c.kids = [k] → s.err.recov = [] →
      c.segs = [] →
    Completes (exec (.collStepTimeout n) s) fun t =>
      t.fld (collStatusOf n) F.collStatus_STATE = 2 ∧ t.syn.flying = s.syn.flying ∧ t.mem = s.mem
      ∧ t.fld (errQSeq (n % 4)) F.errQSeqT_NEXT_SEQ = (s.fld (errQSeq (n % 4)) F.errQSeqT_NEXT_SEQ + 1) % 2 ^ 32
      ∧ t.now = max s.now (c.start + (if c.timeout = 0 then 1000 else c.timeout) * 200000)
      ∧ t = (({ s with now := max s.now (c.start + (if c.timeout = 0 then 1000 else c.timeout) * 200000) }).record
          { queue := n % 4, cls := 0x21, domain := 0, action := 5, owner := some { ctx := c.ctx, entry := none },
            unit := unitCode 12 (n % 4) 0 (n / 4) 0, opref := c.step, addr := 0, aux := n }).failColl n) ∧
  (∀ (s r : State) (ch n clear : Nat) (c : Coll) (l : CollLag) (p : Packet), s.accepts ch 0xA09 p → p.length = 24 → n < 256 → clear < 2 →
      pword p 0 = n + clear * 2 ^ 8 → s.coll? n = some c → c.kids = [] → c.lag = [l] →
      r = (s.taken ch 0xA09 p).reply ch St.ok [s.fld (collStatusOf n) F.collStatus_STEPS, s.ownId + l.last * 2 ^ 32, l.total + l.max * 2 ^ 32] →
    Completes (exec (.collLagRead ch p) s) fun t =>
      t.coll? n = some (if clear = 1 then { c with lag := [{ last := 0, total := 0, max := 0 }] } else c)
      ∧ t = (if clear = 1 then { r with fab := { r.fab with colls := Assoc.set r.fab.colls n { c with lag := [{ last := 0, total := 0, max := 0 }] } } }
             else r)) ∧
  (∀ (s : State) (ch n : Nat) (p : Packet), s.accepts ch 0xA09 p → p.length = 24 → n < 256 → pword p 0 = n → s.coll? n = none →
    RepliesWith (exec (.collLagRead ch p) s) ch St.notFound [] fun t => t = s.taken ch 0xA09 p)

/-- R590 to R592, R597: the management channel and aggregators. -/
def Obligations.ManagementPacketsAndAggregators : Prop :=
  (∀ (s : State) (d : Delivered) (c : Nat), s.fab.inbox = [d] → d.pkt.typ = 10 → d.pkt.opa = 1 → s.turnOf d = .apply → s.mgmtChan d.pkt.src = some c →
    ((s.chan c).arrived.length < 8 →
      Completes (exec (.mgmtCommandPkt 0) s) fun t =>
        (t.chan c).arrived = (s.chan c).arrived ++ [d.pkt.payload] ∧ t.fab.cmdFrom = s.fab.cmdFrom ++ [(c, d.pkt.src)] ∧ t.mem = s.mem
        ∧ ∃ u : State, t = u.answerPkt d 4 (d.pkt.seq % 2 ^ 32) 0 (2 ^ 31) [] ∧ u.regs = s.regs)
    ∧ (8 ≤ (s.chan c).arrived.length →
      Completes (exec (.mgmtCommandPkt 0) s) fun t =>
        t.ctl = s.ctl ∧ t.fab.cmdFrom = s.fab.cmdFrom ∧ t.fab.rx = s.fab.rx
        ∧ t = (({ s with fab := { s.fab with inbox := [] } }).answerPkt d 4 (d.pkt.seq % 2 ^ 32 + 6 * 2 ^ 32) 0 (2 ^ 31) []).bump
            (A.fabCntPeerFull (d.port / 4)) 1)) ∧
  (∀ (s : State) (d : Delivered), s.fab.inbox = [d] → d.pkt.typ = 10 → d.pkt.opa = 1 → s.mgmtChan d.pkt.src = none → d.port < 16 →
    Completes (exec (.mgmtCommandPkt 0) s) fun t =>
      (t.rd (portCnt d.port 5)).toNat = min (2 ^ 48 - 1) ((s.rd (portCnt d.port 5)).toNat + 1)
      ∧ t = { s with regs := t.regs, fab := { s.fab with inbox := [] } } ∧ SameRegs [portCnt d.port 5] s t) ∧
  (∀ (s : State) (d : Delivered), s.fab.inbox = [d] → d.pkt.typ = 10 → s.turnOf d = .apply →
    (d.pkt.opa = 2 → Completes (exec (.mgmtReplyPkt 0) s) fun t => t.mem = s.mem ∧ t.ctl = s.ctl
      ∧ t = ((s.takeIn d).advanceRx d).answerPkt d 4 (d.pkt.seq % 2 ^ 32) 0 (2 ^ 31) [])
    ∧ (d.pkt.opa = 6 → Completes (exec (.mgmtAggPkt 0) s) fun t => t.mem = s.mem ∧ t.ctl = s.ctl
      ∧ t = ((s.takeIn d).advanceRx d).answerPkt d 4 (d.pkt.seq % 2 ^ 32) 0 (2 ^ 31) [])
    ∧ (d.pkt.opa = 4 → d.pkt.src < 2 ^ 22 → ∀ per, per < 2 ^ 64 → d.pkt.payload = leBytes 8 per →
      Completes (exec (.mgmtAttachPkt 0) s) fun t =>
        t.fld A.fabMgmtStatus F.fabMgmtStatus_AGG_ID = d.pkt.src ∧ t.fab.period = per ∧ t.fab.reports = (s.fab.reports + 1) % 2 ^ 32
        ∧ t.fab.reported = s.now ∧ t.Owes d.pkt.src 0 10 3 0 s.healthReport ∧ t.mem = s.mem
        ∧ ∃ u : State, t = u.answerPkt d 4 (d.pkt.seq % 2 ^ 32) 0 (2 ^ 31) [])
    ∧ (d.pkt.opa = 5 → s.fld A.fabMgmtStatus F.fabMgmtStatus_AGG_ID = d.pkt.src →
      Completes (exec (.mgmtDetachPkt 0) s) fun t =>
        t.fld A.fabMgmtStatus F.fabMgmtStatus_AGG_ID = idUnset ∧ t.fab.period = 0 ∧ t.mem = s.mem
        ∧ ∃ u : State, t = u.answerPkt d 4 (d.pkt.seq % 2 ^ 32) 0 (2 ^ 31) [] ∧ SameRegs [A.fabMgmtStatus] s u)
    ∧ (d.pkt.opa = 3 → ∀ (a : Aggregator) (t0 : Nat) (old : List Byte), s.fab.agg = some a → a.kids = [(d.pkt.src, old, t0)] → a.lost = [] →
      Completes (exec (.mgmtHealthPkt 0) s) fun t =>
        (∃ b, t.fab.agg = some b ∧ b.kids = [(d.pkt.src, d.pkt.payload, s.now)] ∧ d.pkt.src ∈ b.answered ∧ b.lost = [] ∧ b.chan = a.chan)
        ∧ t.mem = s.mem ∧ ∃ u : State, t = u.answerPkt d 4 (d.pkt.seq % 2 ^ 32) 0 (2 ^ 31) [])) ∧
  (∀ (s : State) (up : Nat), s.fld A.fabMgmtStatus F.fabMgmtStatus_AGG_ID = up → up ≠ idUnset → 0 < s.fab.period →
    Completes (exec .healthPeriod s) fun t =>
      t.fab.reports = (s.fab.reports + 1) % 2 ^ 32 ∧ t.fab.reported = t.now ∧ t.now = max s.now (s.fab.reported + s.fab.period * 200000)
      ∧ t.Owes up 0 10 3 0 s.healthReport ∧ t.mem = s.mem) ∧
  (∀ (s : State) (ch per up pa g : Nat) (p : Packet), s.accepts ch 0xA0A p → p.length = 40 → 10 ≤ per → per ≤ 10000 → up < 2 ^ 22 → pa % 64 = 0 →
      g < 2 ^ 22 → pword p 0 = per + 2 ^ 16 + up * 2 ^ 32 → pword p 1 = pa → pword p 2 = g → s.rangeIn pa 64 = true → s.fab.agg = none →
    Completes (exec (.aggAttach ch p) s) fun t =>
      t.fab.agg = some { period := per, upstream := up, pa := pa, kids := [(g, [], s.now)], answered := [], lost := [], alerting := [],
                         since := s.now, chan := some ch }
      ∧ t.fld A.fabMgmtStatus F.fabMgmtStatus_AGGREGATING = 1 ∧ t.fld A.fabMgmtStatus F.fabMgmtStatus_CHILDREN = 1
      ∧ t.fld A.fabMgmtStatus F.fabMgmtStatus_LOST = 0
      ∧ t.Owes g 0 10 4 0 (leBytes 8 per)) ∧
  (∀ (s : State) (ch g t0 : Nat) (old : List Byte) (a : Aggregator) (p : Packet), s.accepts ch 0xA0B p → p.length = 16 → s.fab.agg = some a →
      a.kids = [(g, old, t0)] → a.chan = none →
    RepliesWith (exec (.aggDetach ch p) s) ch St.ok [] fun t =>
      t.fab.agg = none ∧ t.fld A.fabMgmtStatus F.fabMgmtStatus_AGGREGATING = 0 ∧ t.fld A.fabMgmtStatus F.fabMgmtStatus_CHILDREN = 0
      ∧ t.fld A.fabMgmtStatus F.fabMgmtStatus_LOST = 0
      ∧ t.Owes g 0 10 5 0 []) ∧
  (∀ (s z : State) (ch g t0 : Nat) (a : Aggregator) (rep : List Byte), s.fab.agg = some a → a.kids = [(g, rep, t0)] → a.answered = [g] → a.lost = [] →
      a.alerting = [] → a.chan = some ch → rep ≠ [] → a.since + a.period * 200000 ≤ s.now → s.now < t0 + 3 * a.period * 200000 →
      s.physWrite a.pa rep false .cc { ctx := 0, entry := none } = (z, .ok [] false) → z.now = s.now → z.fab = s.fab →
    Completes (exec .aggPeriod s) fun t =>
      t.fab.agg = some { a with since := s.now, chan := none } ∧ t.fld A.fabMgmtStatus F.fabMgmtStatus_LOST = 0
      ∧ ∃ u : State, t = (u.reply ch St.ok [1]).sendOrdered 0 a.upstream 0 10 6 0
          ((u.reply ch St.ok [1]).healthReport ++ leBytes 8 1 ++ leBytes 8 0 ++ leBytes 8 0) ∧ u.mem = z.mem) ∧
  (∀ (s : State) (g t0 : Nat) (a : Aggregator), s.fab.agg = some a → a.kids = [(g, [], t0)] → a.answered = [] → a.lost = [] → a.alerting = [] →
      a.chan = none → t0 + 3 * a.period * 200000 ≤ s.now →
    Completes (exec .aggPeriod s) fun t =>
      t.fab.agg = some { a with since := t.now, lost := [g] } ∧ t.fld A.fabMgmtStatus F.fabMgmtStatus_LOST = 1
      ∧ t.now = max s.now (a.since + a.period * 200000) ∧ (t.rd A.alert).toNat.testBit 11 = true ∧ t.mem = s.mem
      ∧ ∃ u : State, t = u.sendOrdered 0 a.upstream 0 10 6 0 (u.healthReport ++ leBytes 8 0 ++ leBytes 8 0 ++ leBytes 8 1))

/-- R623. -/
def Obligations.RecordReadsAnswerHeldRecordsInOrder : Prop :=
  (∀ (s : State) (ch q n first : Nat) (p : Packet), s.accepts ch 0xB00 p → p.length = 24 → q < 5 → 1 ≤ n → n < 64 → first < 2 ^ 32 →
      pword p 0 = q + n * 2 ^ 8 + first * 2 ^ 32 →
    let ahead (i : Nat) : Nat := ((s.rd (errRecord q i 0)).toNat % 2 ^ 32 + 2 ^ 32 - first) % 2 ^ 32
    Completes (exec (.errRecordRead ch p) s) fun t =>
      ∃ l : List Nat, l.Nodup ∧ (∀ i, i ∈ l ↔ i < 256 ∧ s.rd (errRecord q i 0) ≠ 0 ∧ ahead i < 2 ^ 31) ∧ l.Pairwise (fun i j => ahead i ≤ ahead j)
        ∧ t = (s.taken ch 0xB00 p).replyWith ch St.ok
            (s.rd (errQStatus q) :: (l.take n).flatMap (fun i => (List.range 8).map (fun w => s.rd (errRecord q i w)))) false) ∧
  (∀ (s : State) (ch : Nat) (p : Packet), s.accepts ch 0xB00 p → p.length = 24 →
      (4 < pword p 0 % 8 ∨ pword p 0 / 2 ^ 8 % 64 = 0 ∨ pword p 0 &&& 0xFFFFC0F8 ≠ 0) →
    RepliesWith (exec (.errRecordRead ch p) s) ch St.invalid [] fun t => t = s.taken ch 0xB00 p)

/-- R624. -/
def Obligations.RecordAcksFreeUpToANumber : Prop :=
  (∀ (s : State) (ch q upto clear : Nat) (p : Packet), s.accepts ch 0xB01 p → p.length = 24 → q < 5 → clear < 2 → upto < 2 ^ 32 →
      pword p 0 = q + clear * 2 ^ 3 + upto * 2 ^ 32 →
    let freed (i : Nat) : Bool := decide (s.rd (errRecord q i 0) ≠ 0)
      && decide ((upto + 2 ^ 32 - (s.rd (errRecord q i 0)).toNat % 2 ^ 32) % 2 ^ 32 < 2 ^ 31)
    RepliesWith (exec (.errRecordAck ch p) s) ch St.ok [(List.range 256).countP freed] fun t =>
      (∀ i w, i < 256 → w < 8 → t.rd (errRecord q i w) = if freed i then 0 else s.rd (errRecord q i w))
      ∧ t.fld (errQStatus q) F.errQStatusT_HELD = (List.range 256).countP (fun i => decide (t.rd (errRecord q i 0) ≠ 0))
      ∧ t.flag (errQStatus q) F.errQStatusT_OVERFLOW = (if clear = 1 then false else s.flag (errQStatus q) F.errQStatusT_OVERFLOW)
      ∧ t.fld (errQSeq q) F.errQSeqT_LOST = (if clear = 1 then 0 else s.fld (errQSeq q) F.errQSeqT_LOST)
      ∧ t.fld (errQSeq q) F.errQSeqT_NEXT_SEQ = s.fld (errQSeq q) F.errQSeqT_NEXT_SEQ
      ∧ OnlyRegs (errQStatus q :: errQSeq q :: (List.range 256).flatMap (fun i => (List.range 8).map (errRecord q i))) (s.taken ch 0xB01 p) t) ∧
  (∀ (s : State) (ch : Nat) (p : Packet), s.accepts ch 0xB01 p → p.length = 24 → 4 < pword p 0 % 8 →
    RepliesWith (exec (.errRecordAck ch p) s) ch St.invalid [] fun t => t = s.taken ch 0xB01 p)

/-- R604, R616 to R618, R620 to R622, R625, R626, R630: records, injections and recoveries. -/
def Obligations.RecordsInjectionsAndRecoveryBounds : Prop :=
  (∀ (s : State) (q seq slot : Nat), q < 2 → s.board.powered = true → s.board.modReset = none → seq = s.fld A.errQSeqD F.errQSeqD_NEXT_SEQ →
      slot = seq % 256 →
    (s.rd (A.errRecordD slot 0) = 0 → s.fld A.errQStatusD F.errQStatusD_HELD < 256 → Completes (exec (.pcieAer q) s) fun t =>
      t.rd (A.errRecordD slot 0) = BitVec.ofNat 64 (seq + 4 * 2 ^ 32 + 4 * 2 ^ 36 + 0x2D * 2 ^ 48)
      ∧ t.rd (A.errRecordD slot 1) = BitVec.ofNat 64 (s.timeUs % 2 ^ 48) ∧ t.rd (A.errRecordD slot 2) = 0
      ∧ t.rd (A.errRecordD slot 3) = BitVec.ofNat 64 (14 + q * 2 ^ 8) ∧ t.rd (A.errRecordD slot 4) = 0 ∧ t.rd (A.errRecordD slot 5) = 0
      ∧ t.rd (A.errRecordD slot 6) = 0 ∧ t.rd (A.errRecordD slot 7) = 0
      ∧ t.fld A.errQSeqD F.errQSeqD_NEXT_SEQ = (seq + 1) % 2 ^ 32 ∧ t.fld A.errQStatusD F.errQStatusD_HELD = s.fld A.errQStatusD F.errQStatusD_HELD + 1
      ∧ t.fld A.errQSeqD F.errQSeqD_LOST = s.fld A.errQSeqD F.errQSeqD_LOST ∧ t.mem = s.mem ∧ t.err = s.err)
    ∧ (s.rd (A.errRecordD slot 0) ≠ 0 → Completes (exec (.pcieAer q) s) fun t =>
      (∀ i w, i < 256 → w < 8 → t.rd (A.errRecordD i w) = s.rd (A.errRecordD i w)) ∧ t.flag A.errQStatusD F.errQStatusD_OVERFLOW = true
      ∧ t.fld A.errQSeqD F.errQSeqD_LOST = min (2 ^ 32 - 1) (s.fld A.errQSeqD F.errQSeqD_LOST + 1)
      ∧ t.fld A.errQSeqD F.errQSeqD_NEXT_SEQ = (seq + 1) % 2 ^ 32
      ∧ (s.flag A.errQStatusD F.errQStatusD_OVERFLOW = false → (t.rd A.alert).toNat.testBit 7 = true) ∧ t.mem = s.mem)) ∧
  (∀ (s : State) (ch cls k ctx u addr : Nat) (p : Packet), s.accepts ch 0xB02 p → p.length = 40 → cls < 256 → k < 4 → ctx < 256 → u < 2 ^ 24 →
      pword p 1 = u → pword p 2 = addr → s.unitNamed u = true → u / 16 % 4 = k → s.debugOpen ctx = true →
    (pword p 0 = cls + k * 2 ^ 8 + ctx * 2 ^ 16 → canRaise cls (u % 16) = true → (s.err.armed.filter (fun i => i.tower = k)).length < 16 →
      RepliesWith (exec (.errInjectArm ch p) s) ch St.ok [] fun t =>
        t = { s.taken ch 0xB02 p with err := { s.err with armed := s.err.armed ++ [{ tower := k, cls := cls, unit := u, ctx := ctx, addr := addr }] } })
    ∧ (pword p 0 = cls + k * 2 ^ 8 + 2 ^ 10 + ctx * 2 ^ 16 →
      RepliesWith (exec (.errInjectDisarm ch p) s) ch St.ok [s.err.armed.countP (fun i => i.unit = u)] fun t =>
        (∀ i, i ∈ t.err.armed ↔ i ∈ s.err.armed ∧ i.unit ≠ u) ∧ t = { s.taken ch 0xB02 p with err := { s.err with armed := t.err.armed } })
    ∧ (pword p 0 = cls + k * 2 ^ 8 + ctx * 2 ^ 16 → canRaise cls (u % 16) = true → 16 ≤ (s.err.armed.filter (fun i => i.tower = k)).length →
      RepliesWith (exec (.errInjectArm ch p) s) ch St.busy [] fun t => t = s.taken ch 0xB02 p)) ∧
  (∀ (s : State) (v : Recovery) (o : Owner), s.err.recov = [v] → v.level = 0 → v.bounded = true → v.own = none → v.tower < 4 → v.owner = some o →
      o.entry = none → s.eclipse = false →
    Completes (exec (.opRecoveryBound 0) s) fun t =>
      t.board.ctxRst.any (fun e => e.1 = o.ctx) = true ∧ t.now = max s.now (v.since + s.fld A.errCfg F.errCfg_OP_LIMIT_US * 200)
      ∧ t = (({ s with now := max s.now (v.since + s.fld A.errCfg F.errCfg_OP_LIMIT_US * 200) }).endRecovery (fun x => x = v)).contain 2 v.related
          { queue := v.tower, cls := v.cls, domain := 0, action := 5, owner := some o, unit := v.unit, opref := v.opref, escal := true }) ∧
  (∀ (s : State) (v : Recovery) (o : Owner) (q n : Nat), s.err.recov = [v] → v.level = 0 → v.bounded = true → v.own = none → v.tower < 4 →
      v.owner = some o → o.entry = some (q, n) →
    Completes (exec (.opRecoveryBound 0) s) fun t =>
      t.now = max s.now (v.since + s.fld A.errCfg F.errCfg_OP_LIMIT_US * 200)
      ∧ t = (({ s with now := max s.now (v.since + s.fld A.errCfg F.errCfg_OP_LIMIT_US * 200) }).endRecovery (fun x => x = v)).contain 1 v.related
          { queue := v.tower, cls := v.cls, domain := 0, action := 5, owner := some o, unit := v.unit, opref := v.opref, escal := true }) ∧
  (∀ (s : State) (v : Recovery) (c k : Nat), s.err.recov = [v] → v.level = 2 → v.unit = c → c < 256 → v.deferred = false → k < 4 →
    Completes (exec (.ctxRecoveryBound c [k]) s) fun t =>
      t.now = max s.now (v.since + s.fld A.errCfg F.errCfg_CTX_LIMIT_MS * 200000)
      ∧ (s.eclipse = false → t.board.towerRst.any (fun e => e.1 = k) = true)
      ∧ t = (({ s with now := max s.now (v.since + s.fld A.errCfg F.errCfg_CTX_LIMIT_MS * 200000) }).endRecovery (fun x => x = v)).contain 3 v.related
          { queue := k, cls := v.cls, domain := 2, action := 7, owner := v.owner, unit := 0, opref := v.opref, escal := true }) ∧
  (∀ (s : State) (v : Recovery) (r : RecordReq), s.err.recov = [v] → v.level = 4 → v.deferred = false → s.eclipse = false → v.own = some r →
      s.board.refLost = false → r.queue = 4 → s.storeQuiet → s.err.quiesced = none →
    (Completes (exec (.deviceRecoveryRepair true) s) fun t =>
      t.err.recov = [] ∧ t.rd A.errDevState = 0 ∧ t.fld A.errQSeqD F.errQSeqD_NEXT_SEQ = (s.fld A.errQSeqD F.errQSeqD_NEXT_SEQ + 1) % 2 ^ 32
      ∧ t = (s.setRoutes.resumeDevice).record r)
    ∧ (s.flag A.errCfg F.errCfg_DEV_RESET_EN = true →
      Completes (exec (.deviceRecoveryRepair false) s) fun t =>
        t.fld A.resetCause F.resetCause_CAUSE = 6 ∧ t.board.modReset = some { cause := 6, locked := false, refWait := false, startTick := s.now }
        ∧ t.fld A.errLast0 ⟨32, 3⟩ = 4 ∧ t.fld A.errLast0 ⟨40, 4⟩ = 10 ∧ t.fld A.errLast0 ⟨48, 8⟩ = r.cls % 256)
    ∧ (s.flag A.errCfg F.errCfg_DEV_RESET_EN = true →
      Completes (exec .deviceQuiesceBound s) fun t =>
        t.fld A.resetCause F.resetCause_CAUSE = 6 ∧ t.board.modReset = some { cause := 6, locked := false, refWait := false, startTick := t.now }
        ∧ t.fld A.errLast0 ⟨32, 3⟩ = 4 ∧ t.fld A.errLast0 ⟨40, 4⟩ = 10 ∧ t.fld A.errLast0 ⟨48, 8⟩ = r.cls % 256
        ∧ t.now = max s.now (v.since + s.fld A.errCfg F.errCfg_DEV_QUIESCE_MS * 200000))
    ∧ (s.flag A.errCfg F.errCfg_DEV_RESET_EN = false →
      Completes (exec (.deviceRecoveryRepair false) s) fun t =>
        t.fld A.errDevState F.errDevState_STATE = 4 ∧ t.err.recov = [] ∧ (t.rd A.alert).toNat.testBit 13 = true ∧ t.mem = s.mem
        ∧ t.fld A.errQSeqD F.errQSeqD_NEXT_SEQ = (s.fld A.errQSeqD F.errQSeqD_NEXT_SEQ + 1) % 2 ^ 32 ∧ ∃ u : State, t = (u.record r).alertBit 13)
    ∧ (s.flag A.errCfg F.errCfg_DEV_RESET_EN = false →
      Completes (exec .deviceQuiesceBound s) fun t =>
        t.fld A.errDevState F.errDevState_STATE = 4 ∧ t.err.recov = [] ∧ (t.rd A.alert).toNat.testBit 13 = true ∧ t.mem = s.mem
        ∧ t.now = max s.now (v.since + s.fld A.errCfg F.errCfg_DEV_QUIESCE_MS * 200000) ∧ ∃ u : State, t = (u.record r).alertBit 13)) ∧
  (∀ (s : State) (ch : Nat), s.ccRuns = true → ch < 64 → s.packetWaits ch = true → s.storeQuiet →
    Completes (exec .ccWatchdog s) fun t =>
      t.fld A.resetCause F.resetCause_CAUSE = 6 ∧ t.board.modReset = some { cause := 6, locked := false, refWait := false, startTick := t.now }
      ∧ t.now = max s.now ((List.range 64).foldl (fun m n => max m (s.chan n).lastPkt) 0 + 200000000) ∧ t.fld A.errLast0 ⟨48, 8⟩ = 0x2C ∧ t.fld A.errLast0 ⟨40, 4⟩ = 10)

/-- R635 to R640, R664, R666: energy. -/
def Obligations.WindowsShareOutTheMeasuredEnergy : Prop :=
  (∀ (s : State) (m b z : Nat) (acts : List Activity), s.board.powered = true → s.board.modReset = none → s.pwr.reports = [] → s.pwr.asks = [] →
      (s.pwr.eMain + m) / 1000 < 2 ^ 64 → (s.pwr.eBkp + b) / 1000 < 2 ^ 64 → (s.pwr.eUnattr + m + b) / 1000 < 2 ^ 64 → 0 < s.pwr.gainD →
    Completes (exec (.powerWindowEnd m b acts z) s) fun t =>
      t.pwr.windows = s.pwr.windows + 1 ∧ t.pwr.eUnattr = s.pwr.eUnattr + m + b
      ∧ t.now = max s.now (s.board.resetEnd + 200000 * (s.pwr.windows + 1))
      ∧ (t.rd A.pwrEMain).toNat = (s.pwr.eMain + m) / 1000 ∧ (t.rd A.pwrEBkp).toNat = (s.pwr.eBkp + b) / 1000
      ∧ (t.rd A.pwrEUnattr).toNat = (s.pwr.eUnattr + m + b) / 1000
      ∧ t.fld A.pwrSenseP F.pwrSenseP_MAIN_W = min 65535 (m / 1000) ∧ t.fld A.pwrSenseP F.pwrSenseP_BKP_W = min 65535 (b / 1000)
      ∧ t.fld A.pwrModel F.pwrModel_WINDOWS = (s.pwr.windows + 1) % 2 ^ 32
      ∧ 2048 ≤ t.fld A.pwrModel F.pwrModel_GAIN ∧ t.fld A.pwrModel F.pwrModel_GAIN ≤ 8192
      ∧ t.pwr.gainD ≤ 2 * t.pwr.gainN ∧ t.pwr.gainN ≤ 2 * t.pwr.gainD
      ∧ SameRegs [A.pwrCntCapMs, A.pwrCntThermMs, A.pwrCntFillMj, A.pwrModel, A.pwrEMain, A.pwrEBkp, A.pwrEUnattr, A.pwrSenseP] s t ∧ t.mem = s.mem) ∧
  (∀ (s : State) (m b z c : Nat) (r : EnergyReport) (acts : List Activity), s.board.powered = true → s.board.modReset = none →
      s.pwr.reports = [(c, r)] → r.closed = false → s.ctxOpen c = true → r.kinds.length = 8 → s.pwr.asks = [] → 0 < s.pwr.gainD →
    Completes (exec (.powerWindowEnd m b acts z) s) fun t =>
      ∃ r', t.pwr.reports = [(c, r')] ∧ r'.device = r.device + m + b ∧ r'.windows = r.windows + 1 ∧ r'.closed = false ∧ r'.startUs = r.startUs
        ∧ r'.endUs = 1000 * (s.pwr.windows + 1) ∧ r'.kinds.length = 8
        ∧ r'.kinds.foldl (· + ·) 0 + r'.unattr = r.kinds.foldl (· + ·) 0 + r.unattr + m + b
        ∧ t.pwr.eUnattr = s.pwr.eUnattr + (r'.unattr - r.unattr)) ∧
  (∀ (s : State) (m b z ch : Nat) (acts : List Activity) (a : EnergyAsk), s.board.powered = true → s.board.modReset = none →
      s.pwr.asks = [a] → s.pwr.reports = [] → a.chan = ch →
    RepliesWith (exec (.powerWindowEnd m b acts z) s) ch St.notFound [] fun t => t.pwr.asks = [] ∧ t.pwr.windows = s.pwr.windows + 1) ∧
  (∀ (s : State) (ch c new : Nat) (p : Packet), s.accepts ch 0xC00 p → p.length = 24 → c < 256 → new < 2 → pword p 0 = c + new * 2 ^ 8 →
    (Assoc.get? s.pwr.reports c = none → RepliesWith (exec (.pwrEnergyReport ch p) s) ch St.notFound [] fun t => t = s.taken ch 0xC00 p)
    ∧ (∀ r, Assoc.get? s.pwr.reports c = some r →
      (r.closed = true → RepliesWith (exec (.pwrEnergyReport ch p) s) ch St.ok
        ([c + 256 + 2 ^ 16 * b2n r.clamped + 2 ^ 17 * b2n r.eclipse + 2 ^ 18 * b2n r.braked, r.startUs % 2 ^ 48, r.endUs % 2 ^ 48,
          r.kinds.foldl (· + ·) 0 / 1000, r.unattr / 1000, r.device / 1000] ++ (List.range 8).map (fun i => r.kinds.getD i 0 / 1000)
          ++ [r.windows % 2 ^ 32, r.gainMin % 2 ^ 16 + 2 ^ 16 * (r.gainMax % 2 ^ 16)]) fun t => t = s.taken ch 0xC00 p)
      ∧ (r.closed = false → Completes (exec (.pwrEnergyReport ch p) s) fun t =>
        t = { s.taken ch 0xC00 p with pwr := { s.pwr with asks := s.pwr.asks ++ [{ chan := ch, ctx := c, new := decide (new = 1) }] } }))) ∧
  (∀ (s : State) (ch : Nat) (p : Packet), s.accepts ch 0xC01 p → p.length = 16 →
    RepliesWith (exec (.pwrSupplyStatus ch p) s) ch St.ok
      [(s.rd A.pwrSupply).toNat, (s.rd (A.pwrSupplyT 0)).toNat, (s.rd (A.pwrSupplyT 1)).toNat, (s.rd (A.pwrSupplyT 2)).toNat,
       (s.rd (A.pwrSupplyT 3)).toNat, (s.rd (A.pwrSupplyT 4)).toNat, (s.rd (A.pwrSupplyT 5)).toNat, (s.rd (A.pwrSupplyT 6)).toNat,
       (s.rd A.pwrSenseP).toNat] fun t => t = s.taken ch 0xC01 p)

/-- R641 to R646, R649, R650, R652, R655, R662, R665: levels and supply events. -/
def Obligations.LevelsFollowTheirLimitsAndEclipseKeepsWork : Prop :=
  (∀ (s : State) (m : PowerSample), s.board.mgmtUp = true → s.board.powered = true → s.board.modReset = none → m.idle = [] →
    (s.braking = true → Completes (exec (.levelStep m) s) fun t =>
      t.rd A.pwrSenseIn = m.senseIn ∧ t.rd A.pwrTemp = m.temp
      ∧ t.pwr = { s.pwr with work := ((m.mainMw * 10 : Nat) : Int), stepAt := Assoc.set s.pwr.stepAt 4 t.now }
      ∧ t.now = (match Assoc.get? s.pwr.stepAt 4 with | some x => max s.now (x + 20000) | none => s.now)
      ∧ OnlyRegs [A.pwrSenseIn, A.pwrSenseP, A.pwrTemp, A.pwrTempAux] { s with now := t.now, pwr := t.pwr } t)
    ∧ (s.braking = false → Completes (exec (.levelStep m) s) fun t =>
      let p := m.mainMw * 10
      let up := m.upMw * 10
      let cap := s.fld A.pwrCfg F.pwrCfg_CAP_W * 10000
      let l := s.fld A.pwrStatus F.pwrStatus_L_CAP
      let l' := t.fld A.pwrStatus F.pwrStatus_L_CAP
      l' = (if cap < p ∨ t.phi < p then l - 1 else if l < 15 ∧ up ≤ cap ∧ up ≤ t.phi then l + 1 else l)
      ∧ t.pwr.ilevel = (if 100000 < m.mainMa then s.pwr.ilevel - 1 else if m.mainMa < 95000 then min 15 (s.pwr.ilevel + 1) else s.pwr.ilevel)
      ∧ (∀ k, k < 4 → t.level k = stepLevel (s.level k)
          (min (min l' (s.pwr.therm.getD k 15)) (min t.pwr.ilevel (s.fld (A.vf2 k) F.vf2_LMAX))))
      ∧ t.pwr.pref ≤ s.pwr.pref + s.fld A.pwrCfg F.pwrCfg_SLEW_WPS ∧ s.pwr.pref ≤ t.pwr.pref + s.fld A.pwrCfg F.pwrCfg_SLEW_WPS
      ∧ t.pwr.work = ((m.mainMw * 10 : Nat) : Int) - ((m.fillMw * 10 : Nat) : Int) ∧ t.rd A.pwrSenseIn = m.senseIn ∧ t.mem = s.mem)) ∧
  (∀ (s : State) (k hot : Nat), k < 4 → s.board.powered = true → s.board.modReset = none → s.pwr.therm.length = 4 →
    Completes (exec (.thermalLevelStep k hot) s) fun t =>
      let c := s.fld A.pwrCfg F.pwrCfg_THERM_C
      let old := s.pwr.therm.getD k 15
      t.pwr.therm.getD k 15 = (if c ≤ hot then old - 1 else if hot + 3 ≤ c then min 15 (old + 1) else old)
      ∧ (∀ j, j ≠ k → t.pwr.therm.getD j 15 = s.pwr.therm.getD j 15)
      ∧ t.now = (match Assoc.get? s.pwr.stepAt k with | some x => max s.now (x + 200000) | none => s.now)
      ∧ t = { s with now := t.now, pwr := { s.pwr with therm := t.pwr.therm, stepAt := Assoc.set s.pwr.stepAt k t.now } }) ∧
  (∀ (s : State) (mv : Nat), s.ready = true → s.board.tripped = false → s.phase = 0 → mv < 38000 → s.braking = false → s.board.lossBrake = false →
    Completes (exec (.mainLossConfirm mv) s) fun t =>
      t.phase = (if s.board.backup.good then 1 else 5) ∧ t.braking = true ∧ (∀ k, k < 4 → t.level k = 0) ∧ t.board.lossBrake = true
      ∧ t.board.main.good = false ∧ t.fld A.pwrSupply F.pwrSupply_EVENTS = min 65535 (s.fld A.pwrSupply F.pwrSupply_EVENTS + 1)
      ∧ t.fld (A.pwrSupplyT 0) F.pwrSupplyT_TIME_US = s.timeUs % 2 ^ 48 ∧ (∀ i, 1 ≤ i → i < 7 → t.rd (A.pwrSupplyT i) = 0)
      ∧ (s.board.backup.good = true → s.fld A.pwrCfg F.pwrCfg_ECL_VECTOR % 1024 ≠ 0 →
          t.ctl.raised = s.ctl.raised ++ [s.fld A.pwrCfg F.pwrCfg_ECL_VECTOR])
      ∧ (t.rd A.pwrCntBrake).toNat = min (2 ^ 48 - 1) ((s.rd A.pwrCntBrake).toNat + 1) ∧ t.mem = s.mem ∧ t.syn = s.syn) ∧
  (∀ s : State, (s.phase = 1 ∨ s.phase = 2) → s.flag A.sbStatus F.sbStatus_ON_BACKUP = false → s.board.backup.good = true →
    Completes (exec .backupConduct s) fun t =>
      t.flag A.sbStatus F.sbStatus_ON_BACKUP = true ∧ t.fld (A.pwrSupplyT 1) F.pwrSupplyT_TIME_US = s.timeUs % 2 ^ 48
      ∧ OnlyRegs [A.sbStatus, A.pwrSupplyT 1] s t) ∧
  (∀ (s : State) (a b : Nat), s.phase = 1 → s.pwr.stopped = none → (∀ k, k < 4 → s.beamState k = 0) → s.comp.cores = [] → s.lnt.units = [] →
      b ≤ a → a < 65536 →
    Completes (exec (.eclipseBegin a b) s) fun t =>
      t.phase = 2 ∧ t.eclipse = true ∧ t.fld A.pwrSupply F.pwrSupply_MIN_BUS_MV = b
      ∧ t.fld A.pwrSupply F.pwrSupply_BRIDGE_MJ = min 65535 (67 * (a ^ 2 - b ^ 2) / 20000000)
      ∧ t.fld (A.pwrSupplyT 2) F.pwrSupplyT_TIME_US = s.timeUs % 2 ^ 48
      ∧ (∀ n, n < 16 → s.part.portPresent n = true → s.eclPort n = false → s.portState n ≤ 3 → t.portState n = 0)
      ∧ (∀ n, n < 16 → s.eclPort n = true → t.portState n = s.portState n)
      ∧ (t.rd A.pwrCntEclipse).toNat = min (2 ^ 48 - 1) ((s.rd A.pwrCntEclipse).toNat + 1) ∧ t.mem = s.mem ∧ t.syn = s.syn) ∧
  (∀ s : State, s.phase = 2 → s.pwr.safe = false → s.atSafePoints = true → s.l2.slices = [] →
    Completes (exec .safePointsReached s) fun t =>
      t.pwr = { s.pwr with safe := true } ∧ t.fld (A.pwrSupplyT 3) F.pwrSupplyT_TIME_US = s.timeUs % 2 ^ 48
      ∧ OnlyRegs [A.pwrSupplyT 3] { s with pwr := t.pwr } t) ∧
  (∀ s : State, s.phase = 2 → s.pwr.safe = true →
    Completes (exec .eclipseHold s) fun t =>
      t.phase = 3 ∧ t.fld (A.pwrSupplyT 4) F.pwrSupplyT_TIME_US = s.timeUs % 2 ^ 48
      ∧ (∀ k u, k < 4 → u < 4 → s.flag (A.memCtlStatus k u) F.memCtlStatus_ENABLED = true →
          t.flag (A.memCtlStatus k u) F.memCtlStatus_SELF_REFRESH = true)
      ∧ OnlyRegs (A.pwrSupply :: A.pwrSupplyT 4 :: (List.range 16).map (fun c => A.memCtlStatus (c / 4) (c % 4))) s t) ∧
  (∀ s : State, s.phase = 3 → s.board.main.good = true →
    Completes (exec .eclipseReturn s) fun t =>
      t.phase = 4 ∧ t.flag A.sbStatus F.sbStatus_ON_BACKUP = false
      ∧ (∀ k u, k < 4 → u < 4 → s.flag (A.memCtlStatus k u) F.memCtlStatus_ENABLED = true →
          t.flag (A.memCtlStatus k u) F.memCtlStatus_SELF_REFRESH = false)
      ∧ OnlyRegs (A.pwrSupply :: A.sbStatus :: (List.range 16).map (fun c => A.memCtlStatus (c / 4) (c % 4))) s t) ∧
  (∀ (s : State) (z : SafePoints), s.phase = 4 → s.err.recov = [] → s.err.quiesced = none → s.pwr.stopped = some z → z.beams = [] → z.groups = [] →
      s.lnt.units = [] → s.flag A.sbStatus F.sbStatus_BRAKED = false → s.braking = true →
    Completes (exec .returnComplete s) fun t =>
      t.phase = 0 ∧ t.eclipse = false ∧ t.braking = false ∧ t.board.lossBrake = false ∧ t.pwr.stopped = none
      ∧ t.pwr.pref = s.pwr.work.toNat ∧ t.fld (A.pwrSupplyT 6) F.pwrSupplyT_TIME_US = s.timeUs % 2 ^ 48
      ∧ (∀ n, n < 16 → s.part.portPresent n = true → s.eclPort n = false → s.portState n = 0 → t.portState n = 1)
      ∧ t.mem = s.mem ∧ t.syn = s.syn)

/-- R670, R671, R673 to R680, R682, R685: ageing. -/
def Obligations.AgeingReplansTablesAndFencesUnits : Prop :=
  (∀ (s : State) (n ps : Nat), n < 1024 → ps < 65535 → s.board.powered = true → s.board.modReset = none →
    Completes (exec (.monitorSample n ps) s) fun t =>
      let i := 16 * n + s.monitorLevel n
      Assoc.get? t.age.delays n = some ps ∧ Assoc.get? t.age.cur i = some (max ps (Assoc.getD s.age.cur i 0))
      ∧ (∀ m, m ≠ n → Assoc.get? t.age.delays m = Assoc.get? s.age.delays m) ∧ (∀ j, j ≠ i → Assoc.get? t.age.cur j = Assoc.get? s.age.cur j)
      ∧ t = { s with age := { s.age with delays := t.age.delays, cur := t.age.cur } }) ∧
  (∀ s : State, (s.readiness = 3 ∨ s.ready = true) → s.fld A.ageStatus0 F.ageStatus0_POWERED_H + 1 < 2 ^ 24 →
      s.flag A.ageStatus1 F.ageStatus1_VF_WORN = false →
    Completes (exec .poweredHour s) fun t =>
      let h := s.fld A.ageStatus0 F.ageStatus0_POWERED_H + 1
      t.fld A.ageStatus0 F.ageStatus0_POWERED_H = h
      ∧ (h % 24 ≠ 0 → OnlyRegs [A.ageStatus0] s t)
      ∧ (h % 24 = 0 → t.fld A.ageStatus1 F.ageStatus1_VF_CHANGES = min 100000 (s.fld A.ageStatus1 F.ageStatus1_VF_CHANGES + 1)
          ∧ Assoc.get? t.board.nv A.ageStatus1 = some (t.rd A.ageStatus1) ∧ OnlyBoard [A.ageStatus0, A.ageStatus1] s t)) ∧
  (∀ s : State, s.ready = true → s.eclipse = false → s.age.replan = none →
      s.fld A.ageStatus0 F.ageStatus0_LAST_H + 24 * s.fld A.ageCfg F.ageCfg_PERIOD_D ≤ s.fld A.ageStatus0 F.ageStatus0_POWERED_H →
    Completes (exec .replanDue s) fun t =>
      t.flag A.ageStatus0 F.ageStatus0_BUSY = true ∧ OnlyRegs [A.ageStatus0] { s with age := t.age } t
      ∧ ∃ r, t.age = { s.age with replan := some r } ∧ r.dies = 0x1FF ∧ r.due = true ∧ r.chan = none
        ∧ ∀ d, d < 9 →
          let code (l : Nat) : Nat := bitsOf (Assoc.getD r.regs (if l < 8 then A.vf0 d else A.vf1 d) 0).toNat (8 * (l % 8)) 8
          let vmax := s.fld (A.vf2 d) F.vf2_VMAX
          (∀ l, l < 16 → code l ≤ vmax ∧ min vmax (s.vfCode d l - 1) ≤ code l ∧ (l < 15 → code l ≤ code (l + 1)))
          ∧ (s.flag A.ageCfg F.ageCfg_AUTO_FENCE = false → (∀ kind i, s.isFenced (d % 4) kind i = false ∧ s.isPending (d % 4) kind i = false) →
              0 < s.fld (A.vf2 d) F.vf2_SENS → ∀ u ∈ dieUnits d, ∀ n ∈ u.mons, ∀ l ps, l < 16 → s.delayAt n l = some ps → code l < vmax →
              (ps + s.fld A.ageCfg F.ageCfg_GUARD_PS + s.fld A.ageCfg F.ageCfg_AGE_PS) * u.speed l
                  + u.speed l * s.fld (A.vf2 d) F.vf2_SENS * s.vfCode d l
                ≤ 2000000 + u.speed l * s.fld (A.vf2 d) F.vf2_SENS * code l)) ∧
  (∀ (s : State) (ch d : Nat) (p : Packet), s.accepts ch 0xD00 p → p.length = 24 → pword p 0 = d → d < 2 ^ 9 →
    (d = 0 → RepliesWith (exec (.ageReplan ch p) s) ch St.invalid [] fun t => t = s.taken ch 0xD00 p)
    ∧ (d ≠ 0 → (s.age.replan ≠ none ∨ s.eclipse = true ∨ s.mainGone = true) →
        RepliesWith (exec (.ageReplan ch p) s) ch St.busy [] fun t => t = s.taken ch 0xD00 p)
    ∧ (d ≠ 0 → s.age.replan = none → s.eclipse = false → s.mainGone = false →
        (s.flag A.ageStatus1 F.ageStatus1_VF_WORN = true →
          RepliesWith (exec (.ageReplan ch p) s) ch St.worn [] fun t => t = s.taken ch 0xD00 p)
        ∧ (s.flag A.ageStatus1 F.ageStatus1_VF_WORN = false → Completes (exec (.ageReplan ch p) s) fun t =>
          t.flag A.ageStatus0 F.ageStatus0_BUSY = true ∧ OnlyRegs [A.ageStatus0] { s.taken ch 0xD00 p with age := t.age } t
          ∧ ∃ r, t.age = { s.age with replan := some r } ∧ r.dies = d ∧ r.chan = some ch ∧ r.due = decide (d = 0x1FF)))) ∧
  (∀ (s : State) (d n ch : Nat) (due fixed : Bool) (w0 w1 w2 : Word), d < 9 →
      s.age.replan = some { dies := 2 ^ d, due := due, chan := some ch, regs := [(A.vf0 d, w0), (A.vf1 d, w1), (A.vf2 d, w2)], pend := [],
                            atOnce := [], changed := n, fixed := fixed } →
    RepliesWith (exec .replanComplete s) ch St.ok [n, 0] fun t =>
      t.rd (A.vf0 d) = w0 ∧ t.rd (A.vf1 d) = w1 ∧ (4 ≤ d → t.rd (A.vf2 d) = w2) ∧ t.age.replan = none
      ∧ t.flag A.ageStatus0 F.ageStatus0_BUSY = false ∧ t.flag A.ageStatus0 F.ageStatus0_FIXED_MARGINAL = fixed
      ∧ t.fld A.ageStatus0 F.ageStatus0_LAST_H
          = (if due then s.fld A.ageStatus0 F.ageStatus0_POWERED_H else s.fld A.ageStatus0 F.ageStatus0_LAST_H)
      ∧ t.fld A.ageStatus1 F.ageStatus1_VF_CHANGES
          = (if s.flag A.ageStatus1 F.ageStatus1_VF_WORN = false ∧ (n ≠ 0 ∨ due = true)
             then min 100000 (s.fld A.ageStatus1 F.ageStatus1_VF_CHANGES + 1) else s.fld A.ageStatus1 F.ageStatus1_VF_CHANGES)
      ∧ (∀ e ∈ t.age.cur, e ∈ s.age.cur ∧ monitorDie (e.1 / 16) ≠ d) ∧ t.mem = s.mem) ∧
  (∀ (s : State) (ch first n : Nat) (p : Packet) (now at' : Nat → Nat), s.accepts ch 0xD03 p → p.length = 24 → 1 ≤ n → n ≤ 64 → first + n ≤ 1024 →
      pword p 0 = first + n * 2 ^ 16 →
      (∀ i, i < n → Assoc.get? s.age.delays (first + i) = some (now i) ∧ s.delayAt (first + i) (s.monitorLevel (first + i)) = some (at' i)) →
    RepliesWith (exec (.marginRead ch p) s) ch St.ok
      ((List.range n).map (fun i => now i % 65536 + 2 ^ 16 * ((s.delayAt (first + i) 15).getD 0xFFFF) + 2 ^ 32 * (at' i % 65536)
        + 2 ^ 48 * s.monitorLevel (first + i) + 2 ^ 52 * b2n (Config.ringOsc (first + i)))) fun t => t = s.taken ch 0xD03 p) ∧
  (∀ (s : State) (ch k kind i : Nat) (p : Packet), p.length = 24 → k < 4 → kind < 5 → i < fenceCount kind →
      pword p 0 = k + kind * 2 ^ 8 + i * 2 ^ 16 → s.unitPresent kind i = true →
    (s.accepts ch 0xD01 p → s.isPending k kind i = false → kind = 0 → s.positionOf k i ≠ none → s.usableSpares k [] = 0 →
      RepliesWith (exec (.unitFence ch p) s) ch St.invalid [0] fun t => t = s.taken ch 0xD01 p)
    ∧ (s.accepts ch 0xD01 p → (kind = 0 → s.positionOf k i = none ∨ s.usableSpares k [] ≠ 0) → s.eclipse = false → s.age.replan = none →
        s.flag A.ageStatus1 F.ageStatus1_FENCE_WORN = false →
      ((s.isFenced k kind i = true ∨ s.isPending k kind i = true) →
          RepliesWith (exec (.unitFence ch p) s) ch St.ok [] fun t => t = s.taken ch 0xD01 p)
      ∧ (s.isFenced k kind i = false → s.isPending k kind i = false → Completes (exec (.unitFence ch p) s) fun t =>
          t = { s.taken ch 0xD01 p with age := { s.age with
            changes := s.age.changes ++ [{ tower := k, kind := kind, index := i, fence := true, chan := ch }] } }))
    ∧ (s.accepts ch 0xD02 p → s.isFenced k kind i = false → s.isPending k kind i = false →
        RepliesWith (exec (.unitUnfence ch p) s) ch St.notFound [] fun t => t = s.taken ch 0xD02 p)
    ∧ (s.accepts ch 0xD02 p → (s.isFenced k kind i = true ∨ s.isPending k kind i = true) → s.eclipse = false → s.age.replan = none →
        s.flag A.ageStatus1 F.ageStatus1_FENCE_WORN = false → Completes (exec (.unitUnfence ch p) s) fun t =>
          t = { s.taken ch 0xD02 p with age := { s.age with
            changes := s.age.changes ++ [{ tower := k, kind := kind, index := i, fence := false, chan := ch }] } })) ∧
  (∀ (s : State) (k kind i ch : Nat), k < 4 → kind < 5 → i < fenceCount kind → s.age.leaving = [] →
    (s.age.changes = [{ tower := k, kind := kind, index := i, fence := true, chan := ch }] → s.isFenced k kind i = false →
      RepliesWith (exec (.fenceRecordDurable 0) s) ch St.ok [b2n (!s.atBoundary k kind i)] fun t =>
        t.isFenced k kind i = s.atBoundary k kind i ∧ t.isPending k kind i = !s.atBoundary k kind i ∧ t.age.changes = []
        ∧ t.fld A.ageStatus1 F.ageStatus1_FENCE_CHANGES = min 100000 (s.fld A.ageStatus1 F.ageStatus1_FENCE_CHANGES + 1) ∧ t.mem = s.mem)
    ∧ (s.age.changes = [{ tower := k, kind := kind, index := i, fence := false, chan := ch }] → s.isFenced k kind i = true →
        s.isPending k kind i = false →
      RepliesWith (exec (.fenceRecordDurable 0) s) ch St.ok [b2n (!s.atBoundary k kind i)] fun t =>
        t.isFenced k kind i = !s.atBoundary k kind i
        ∧ t.age.leaving = (if s.atBoundary k kind i then [] else [(k, kind, i)]) ∧ t.age.changes = [] ∧ t.mem = s.mem)
    ∧ (s.isPending k kind i = true → s.atBoundary k kind i = true → Completes (exec (.fenceTakesEffect k kind i) s) fun t =>
        t.isFenced k kind i = true ∧ t.isPending k kind i = false
        ∧ (kind = 0 → t.fld (A.mxeStatus k i) F.mxeStatus_STATE = 4) ∧ (kind = 1 → t.fld (A.vxeStatus k i) F.vxeStatus_STATE = 4)
        ∧ (kind = 2 → t.flag (A.tcStatus k i) F.tcStatus_FENCED = true) ∧ (kind = 3 → t.fld (A.tmStatus k i) F.tmStatus_STATE = 4)
        ∧ (∀ q e, kind = 0 → s.positionOf k i = some q → s.spareOf k = some e →
            t.fld (A.mxeRemap k q) F.mxeRemap_PHYS = e ∧ t.flag (A.mxeRemap k q) F.mxeRemap_VALID = true
            ∧ t.fld (A.vf2 k) F.vf2_LMAX = s.fld (A.vf2 k) F.vf2_PEND_LMAX)
        ∧ t.mem = s.mem))

/-- R696, R700 to R707, R712: keys, debug access, trace. -/
def Obligations.KeysDebugAccessAndTrace : Prop :=
  (∀ (s : State) (ch c : Nat) (p : Packet), s.accepts ch 0xE00 p → p.length = 24 → c < 256 →
    (pword p 0 = c + 2 ^ 8 → s.eclipse = false → RepliesWith (exec (.ctxKeyGenerate ch p) s) ch St.ok [] fun t =>
      (∀ x, x ∈ t.mg.keys ↔ x ∈ s.mg.keys ∨ x = c)
      ∧ t = { (s.keyGranules c).foldl (fun s g => s.dropGranule g) (s.taken ch 0xE00 p) with mg := { s.mg with keys := t.mg.keys } })
    ∧ (pword p 0 = c + 2 * 2 ^ 8 → s.eclipse = false → s.keyGranules c = [] →
      RepliesWith (exec (.ctxKeyClear ch p) s) ch St.ok [] fun t =>
        (∀ x, x ∈ t.mg.keys ↔ x ∈ s.mg.keys ∧ x ≠ c) ∧ t = { s.taken ch 0xE00 p with mg := { s.mg with keys := t.mg.keys } })
    ∧ (pword p 0 = c + 2 * 2 ^ 8 → s.keyGranules c ≠ [] →
      RepliesWith (exec (.ctxKeyClear ch p) s) ch St.busy [] fun t => t = s.taken ch 0xE00 p)) ∧
  (∀ (s : State) (ch c : Nat) (p : Packet), s.accepts ch 0xE01 p → p.length = 24 → c < 256 →
    (pword p 0 = c * 2 ^ 8 → s.ctxOpen c = true → RepliesWith (exec (.debugUnlockCtxOpen ch p) s) ch St.ok [] fun t =>
      t.mg = { s.mg with ctxDebug := t.mg.ctxDebug, sticky := s.mg.sticky ||| 1 }
      ∧ (∀ x, x ∈ t.mg.ctxDebug ↔ x ∈ s.mg.ctxDebug ∨ x = c) ∧ t.fld A.debugStatus F.debugStatus_OPEN_CTX = t.mg.ctxDebug.length % 2 ^ 16
      ∧ OnlyRegs [A.debugStatus] { s.taken ch 0xE01 p with mg := t.mg } t)
    ∧ (pword p 0 = c * 2 ^ 8 → s.ctxOpen c = false →
      RepliesWith (exec (.debugUnlockCtxOpen ch p) s) ch St.notFound [] fun t => t = s.taken ch 0xE01 p)
    ∧ (pword p 0 = c * 2 ^ 8 + 1 → RepliesWith (exec (.debugUnlockCtxClose ch p) s) ch St.ok [] fun t =>
      (∀ x, x ∈ t.mg.ctxDebug ↔ x ∈ s.mg.ctxDebug ∧ x ≠ c) ∧ t.fld A.debugStatus F.debugStatus_OPEN_CTX = t.mg.ctxDebug.length % 2 ^ 16
      ∧ (∀ tr, s.mg.trace = some tr → tr.allCtx = false → tr.ctx = c → s.flag A.debugStatus F.debugStatus_DEVICE = false →
          t.mg.trace = some { tr with enable := false } ∧ t.flag A.traceStatus F.traceStatus_ACTIVE = false)
      ∧ (s.mg.trace = none → t.mg = { s.mg with ctxDebug := t.mg.ctxDebug } ∧ SameRegs [A.debugStatus] s t)
      ∧ t.mg = { s.mg with ctxDebug := t.mg.ctxDebug, trace := t.mg.trace, due := t.mg.due }
      ∧ OnlyRegs [A.debugStatus, A.traceStatus] { s.taken ch 0xE01 p with mg := t.mg } t)
    ∧ (pword p 0 = c * 2 ^ 8 + 2 → ∃ t : State, exec (.debugUnlockNonce ch p) s
          = .next (t.replyWith ch St.ok ((List.range 6).map (fun i => Config.freeValue (s.freeCtr + i))) false)
        ∧ t.mg = { s.mg with nonce := some ((List.range 6).map (fun i => Config.freeValue (s.freeCtr + i))) }
        ∧ t.flag A.debugStatus F.debugStatus_NONCE_HELD = true
        ∧ OnlyRegs [A.debugStatus] { s.taken ch 0xE01 p with mg := t.mg, freeCtr := s.freeCtr + 6 } t)) ∧
  (∀ (s : State) (ch : Nat) (p : Packet) (ok : Bool), s.accepts ch 0xE01 p → p.length = 128 → pword p 0 = 3 → pword p 1 = 0 →
      (ok = true ↔ ∃ n, s.mg.nonce = some n ∧ s.tokenOk n p = true) →
    RepliesWith (exec (.debugUnlockToken ch p) s) ch (if ok then St.ok else St.denied) [] fun t =>
      t.mg = { s.mg with nonce := none, sticky := if ok then s.mg.sticky ||| 2 else s.mg.sticky }
      ∧ t.flag A.debugStatus F.debugStatus_NONCE_HELD = false
      ∧ t.flag A.debugStatus F.debugStatus_DEVICE = (ok || s.flag A.debugStatus F.debugStatus_DEVICE)
      ∧ t.fld A.debugStatus F.debugStatus_DENIED = (if ok then s.fld A.debugStatus F.debugStatus_DENIED
          else min (2 ^ 32 - 1) (s.fld A.debugStatus F.debugStatus_DENIED + 1))
      ∧ OnlyRegs [A.debugStatus] { s.taken ch 0xE01 p with mg := t.mg } t) ∧
  (∀ (s : State) (ch c all en wrap src base bytes first n us : Nat) (p : Packet), s.accepts ch 0xE02 p → p.length = 112 → c < 256 → all < 2 →
      en < 2 → wrap < 2 → src < 64 → first < 2 ^ 16 → n < 2 ^ 16 → 10 ≤ us → us < 2 ^ 16 →
      pword p 0 = c + all * 2 ^ 8 + en * 2 ^ 9 + wrap * 2 ^ 10 + src * 2 ^ 16 → pword p 1 = base → pword p 2 = bytes →
      pword p 3 = first + n * 2 ^ 16 + us * 2 ^ 32 → base % 4096 = 0 → bytes % 4096 = 0 → 0 < bytes → bytes ≤ 2 ^ 30 →
      s.tierRange base bytes = true → (∀ i, i < 8 → pword p (4 + i) = 0 ∨ regAt (pword p (4 + i)) ≠ none) →
    (s.flag A.debugStatus F.debugStatus_DEVICE = false → (all = 1 ∨ src.testBit 4 = true ∨ s.mg.ctxDebug.contains c = false) →
      RepliesWith (exec (.traceConfig ch p) s) ch St.denied [] fun t => t = s.taken ch 0xE02 p)
    ∧ ((s.flag A.debugStatus F.debugStatus_DEVICE = true ∨ (all = 0 ∧ src.testBit 4 = false ∧ s.mg.ctxDebug.contains c = true)) →
        s.eclipse = false →
      RepliesWith (exec (.traceConfig ch p) s) ch St.ok [] fun t =>
        t.mg = { s.mg with due := [], trace := some (Trace.mk c (decide (all = 1)) (decide (en = 1)) (decide (wrap = 1)) src base bytes first n
          us ((List.range 8).map (fun i => pword p (4 + i))) s.now) }
        ∧ t.flag A.traceStatus F.traceStatus_ACTIVE = decide (en = 1) ∧ t.flag A.traceStatus F.traceStatus_WRAPPED = false
        ∧ t.fld A.traceStatus F.traceStatus_INDEX = 0 ∧ t.fld A.traceStatus F.traceStatus_DROPPED = s.fld A.traceStatus F.traceStatus_DROPPED
        ∧ OnlyRegs [A.traceStatus] { s.taken ch 0xE02 p with mg := t.mg } t)) ∧
  (∀ (s : State) (ch first n : Nat) (p : Packet), s.accepts ch 0xE03 p → p.length = 24 → first < 2 ^ 32 → 1 ≤ n → n < 128 →
      pword p 0 = first + n * 2 ^ 32 →
    (s.mg.trace = none → RepliesWith (exec (.traceRead ch p) s) ch St.notFound [] fun t => t = s.taken ch 0xE03 p)
    ∧ (∀ tr, s.mg.trace = some tr → s.flag A.traceStatus F.traceStatus_WRAPPED = false →
        RepliesWith (exec (.traceRead ch p) s) ch St.ok
          ((s.rd A.traceStatus).toNat :: (List.range (min n (s.fld A.traceStatus F.traceStatus_INDEX - first))).flatMap
            (fun i => s.rdWords (tr.base + 32 * (first + i)) 4)) fun t => t = s.taken ch 0xE03 p)) ∧
  (∀ (s : State) (tr : Trace) (d : TraceDue) (pre rest : List TraceDue) (source ctx w1 w2 w3 n : Nat), s.mg.trace = some tr →
      tr.enable = true → s.eclipse = false → s.mg.due = pre ++ d :: rest → (∀ x ∈ pre, x.die ≠ d.die ∧ x.source ≠ source) →
      d.source = source → source < 6 → (d.ctx = none ∨ d.ctx = some ctx) → (d.words = none ∨ d.words = some [w1, w2, w3]) →
      n = tr.bytes / 32 →
    let i := s.fld A.traceStatus F.traceStatus_INDEX
    let w0 := (d.time - s.board.resetEnd) / 2 % 2 ^ 48 + 2 ^ 48 * source + 2 ^ 56 * (ctx % 256)
    (∀ v u a b, v = { s with mg := { s.mg with due := pre ++ rest } } → (tr.wrap = true ∨ i < n) → 0 < n → n ≤ 2 ^ 25 →
        v.physWrite (tr.base + 32 * (i % n)) ([w0, w1, w2, w3].flatMap (fun w => leBytes 8 w)) false .cc { ctx := ctx, entry := none } 2
          = (u, .ok a b) →
      Completes (exec (.traceRecordWrite source ctx w1 w2 w3 true) s) fun t =>
        t.fld A.traceStatus F.traceStatus_INDEX = i % n + 1
        ∧ t.flag A.traceStatus F.traceStatus_WRAPPED = (tr.wrap && (decide (n ≤ i) || s.flag A.traceStatus F.traceStatus_WRAPPED))
        ∧ OnlyRegs [A.traceStatus] u t)
    ∧ (∀ ok, (ok = false ∨ (tr.wrap = false ∧ n ≤ i)) → Completes (exec (.traceRecordWrite source ctx w1 w2 w3 ok) s) fun t =>
        t.fld A.traceStatus F.traceStatus_DROPPED = min (2 ^ 32 - 1) (s.fld A.traceStatus F.traceStatus_DROPPED + 1)
        ∧ t.fld A.traceStatus F.traceStatus_INDEX = i ∧ OnlyRegs [A.traceStatus] { s with mg := { s.mg with due := pre ++ rest } } t)) ∧
  (∀ (s : State) (source ctx w1 w2 w3 : Nat) (ok : Bool), (s.liveTrace = none ∨ ∀ x ∈ s.mg.due, x.source ≠ source) →
    Completes (exec (.traceRecordWrite source ctx w1 w2 w3 ok) s) fun t => t = s) ∧
  (∀ (s v : State) (tr : Trace) (now ok : Nat), s.mg.trace = some tr → tr.enable = true → s.eclipse = false → tr.sources.testBit 5 = true →
      now = max s.now (tr.sampled + tr.sampleUs * 200) →
      v = { s with now := now, mg := { s.mg with trace := some { tr with sampled := now } } } →
    let i := s.fld A.traceStatus F.traceStatus_INDEX
    let w0 := (now - s.board.resetEnd) / 2 % 2 ^ 48 + 2 ^ 48 * 5 + 2 ^ 56 * (tr.ctx % 256)
    (∀ a u x y, tr.counters = [a] → a ≠ 0 → tr.wrap = false → ok.testBit 0 = true → i < tr.bytes / 32 → i + 1 < 2 ^ 30 →
        v.physWrite (tr.base + 32 * i) ([w0, a, (s.rd a).toNat, 0].flatMap (fun w => leBytes 8 w)) false .cc { ctx := tr.ctx, entry := none } 2
          = (u, .ok x y) →
      Completes (exec (.traceCounterSample ok) s) fun t =>
        t.fld A.traceStatus F.traceStatus_INDEX = i + 1 ∧ OnlyRegs [A.traceStatus] u t)
    ∧ ((∀ j, j < 8 → tr.counters.getD j 0 ≠ 0 → ok.testBit j = false) → Completes (exec (.traceCounterSample ok) s) fun t =>
        t.fld A.traceStatus F.traceStatus_DROPPED = min (2 ^ 32 - 1) (s.fld A.traceStatus F.traceStatus_DROPPED
          + ((List.range 8).filter (fun j => tr.counters.getD j 0 ≠ 0)).length)
        ∧ OnlyRegs [A.traceStatus] v t)) ∧
  (∀ (s : State) (ok : Nat), (s.liveTrace = none ∨ ∀ tr, s.mg.trace = some tr → tr.sources.testBit 5 = false) →
    Completes (exec (.traceCounterSample ok) s) fun t => t = s)

/-- R59, R134, R689 to R694, R712, and log entry 46: MCTP control, vendor messages, PLDM. -/
def Obligations.TheEndpointServesMctpAndPldm : Prop :=
  (∀ (s : State) (x typ : Nat), s.board.mgmtUp = true →
    let answered (code : Nat) (ws : List Nat) (t : State) : Prop :=
      t = { s with mg := { s.mg with answers := { typ := 0, code := code, comp := 0, words := ws } :: s.mg.answers } }
    (x < 128 → Completes (exec (.i3cDynamicAddress x) s) fun t =>
      t.fld A.mctpStatus F.mctpStatus_DYN_ADDR = x ∧ OnlyRegs [A.mctpStatus] s t)
    ∧ (x < 256 → Completes (exec (.mctpSetEndpointId x) s) fun t =>
      t.fld A.mctpStatus F.mctpStatus_EID = x ∧ t.mg = { s.mg with answers := { typ := 0, code := 1, comp := 0, words := [x] } :: s.mg.answers }
      ∧ OnlyRegs [A.mctpStatus] { s with mg := t.mg } t)
    ∧ Completes (exec .mctpGetEndpointId s) (answered 2 [s.fld A.mctpStatus F.mctpStatus_EID])
    ∧ Completes (exec .mctpGetEndpointUuid s) (answered 3 [Config.mctpIdentity 0, Config.mctpIdentity 1])
    ∧ Completes (exec (.mctpGetVersionSupport typ) s) (answered 4 [Config.mctpIdentity (2 + typ)])
    ∧ Completes (exec .mctpGetMsgTypeSupport s) (answered 5 [0x00, 0x01, 0x05, 0x7F])
    ∧ Completes (exec .mctpGetVendorMsgSupport s) (answered 6 [0xC3A5])) ∧
  (∀ (s : State) (channel : Nat) (packet : List Byte), s.board.mgmtUp = true →
    (channel < 2 → s.outstanding3c < 8 → Completes (exec (.vendorMessage channel packet) s) fun t =>
      t = s.modChan (60 + channel) (fun c => { c with arrived := c.arrived ++ [packet] }))
    ∧ (channel < 2 → 8 ≤ s.outstanding3c → Completes (exec (.vendorMessage channel packet) s) fun t =>
      t.fld A.mctpStatus F.mctpStatus_DISCARDS = min (2 ^ 16 - 1) (s.fld A.mctpStatus F.mctpStatus_DISCARDS + 1)
      ∧ OnlyRegs [A.mctpStatus] s t)
    ∧ (2 ≤ channel → exec (.vendorMessage channel packet) s = .next s)) ∧
  (∀ (s : State) (n : Nat) (on : Bool), s.board.mgmtUp = true →
    let answered (code comp : Nat) (ws : List Nat) (t : State) : Prop :=
      t = { s with mg := { s.mg with answers := { typ := 1, code := code, comp := comp, words := ws } :: s.mg.answers } }
    ((s.readiness = 2 ∨ s.readiness = 3 ∨ s.readiness = 4) →
      Completes (exec .pldmGetPdrRepoInfo s) (answered 0x50 0 [30])
      ∧ (n < 30 → Completes (exec (.pldmGetPdr n) s) (answered 0x51 0 [if n < 26 then n + 1 else n + 6, if n < 26 then 0 else 1, (n + 1) % 30]))
      ∧ (30 ≤ n → Completes (exec (.pldmGetPdr n) s) (answered 0x51 0x82 []))
      ∧ (8 ≤ n → n < 16 → Completes (exec (.pldmGetSensorReading n) s) (answered 0x11 0 [(s.rd A.pwrTemp).toNat / 2 ^ (8 * (n - 8)) % 256]))
      ∧ (17 ≤ n → n < 25 → Completes (exec (.pldmGetSensorReading n) s)
          (answered 0x11 0 [s.fld (A.memCtlStatus ((n - 17) / 2) ((n - 17) % 2)) F.memCtlStatus_TEMP_C]))
      ∧ Completes (exec (.pldmGetSensorReading 16) s) (answered 0x11 0 [s.fld A.pwrTempAux F.pwrTempAux_HOST_C])
      ∧ Completes (exec (.pldmGetSensorReading 25) s) (answered 0x11 0 [s.fld A.pwrTempAux F.pwrTempAux_INLET_C])
      ∧ Completes (exec (.pldmGetSensorReading 26) s) (answered 0x11 0 [s.fld A.pwrTempAux F.pwrTempAux_OUTLET_C])
      ∧ (26 < n → Completes (exec (.pldmGetSensorReading n) s) (answered 0x11 0x80 []))
      ∧ Completes (exec (.pldmGetStateSensorReadings 32) s) (answered 0x21 0 [s.readiness])
      ∧ Completes (exec (.pldmGetStateSensorReadings 33) s) (answered 0x21 0 [s.phase])
      ∧ Completes (exec (.pldmGetStateSensorReadings 34) s) (answered 0x21 0 [s.partState])
      ∧ Completes (exec (.pldmGetStateSensorReadings 35) s) (answered 0x21 0 [(s.rd A.alert).toNat % 2 ^ 16])
      ∧ ((n < 32 ∨ 35 < n) → Completes (exec (.pldmGetStateSensorReadings n) s) (answered 0x21 0x80 []))
      ∧ Completes (exec (.pldmSetEventReceiver on) s) (fun t =>
          t.flag A.mctpStatus F.mctpStatus_EVT_RCVR = on
          ∧ t.mg = { s.mg with answers := { typ := 1, code := 4, comp := 0, words := [] } :: s.mg.answers }
          ∧ OnlyRegs [A.mctpStatus] { s with mg := t.mg } t))
    ∧ (1 ≤ n → n ≤ 7 → Completes (exec (.pldmGetSensorReading n) s) (answered 0x11 0
        [[s.fld A.pwrSenseIn F.pwrSenseIn_MAIN_MV, s.fld A.pwrSenseIn F.pwrSenseIn_MAIN_CA, s.fld A.pwrSenseP F.pwrSenseP_MAIN_W,
          s.fld A.pwrSenseIn F.pwrSenseIn_BKP_MV, s.fld A.pwrSenseIn F.pwrSenseIn_BKP_CA, s.fld A.pwrSenseP F.pwrSenseP_BKP_W,
          s.fld A.pwrSenseP F.pwrSenseP_BUS_MV].getD (n - 1) 0]))
    ∧ ((s.readiness = 0 ∨ s.readiness = 1) →
      Completes (exec .pldmGetPdrRepoInfo s) (answered 0x50 4 []) ∧ Completes (exec (.pldmGetPdr n) s) (answered 0x51 4 [])
      ∧ (7 < n → Completes (exec (.pldmGetSensorReading n) s) (answered 0x11 4 []))
      ∧ Completes (exec (.pldmGetStateSensorReadings n) s) (answered 0x21 4 []) ∧ Completes (exec (.pldmSetEventReceiver on) s) (answered 4 4 [])
      ∧ Completes (exec .pldmRequestUpdate s) (answered 0x10 4 []) ∧ Completes (exec .pldmActivateFirmware s) (answered 0x1A 4 []))) ∧
  (∀ (s : State) (b : Bool), s.board.mgmtUp = true → (s.readiness = 3 ∨ s.readiness = 4 ∨ (s.readiness = 15 ∧ s.mgmtAlone = false)) →
      s.mainGone = false →
      b = (if s.readiness = 15 then !s.flag A.bootCfg F.bootCfg_SLOT_PREF else !s.flag A.bootStatus F.bootStatus_SLOT_USED) →
    (s.mg.update = none → Completes (exec .pldmRequestUpdate s) fun t =>
      t.mg = { s.mg with update := some { target := b, written := [], verified := [] },
                         answers := { typ := 1, code := 0x10, comp := 0, words := [] } :: s.mg.answers }
      ∧ t.flag A.mctpStatus F.mctpStatus_UPDATING = true ∧ t.slotFails (if b then t.board.slotB else t.board.slotA) ≠ none
      ∧ (if b then t.board.slotA = s.board.slotA else t.board.slotB = s.board.slotB)
      ∧ OnlyBoard [A.mctpStatus] { s with mg := t.mg } t)
    ∧ (s.mg.update ≠ none → Completes (exec .pldmRequestUpdate s) fun t =>
      t = { s with mg := { s.mg with answers := { typ := 1, code := 0x10, comp := 0x81, words := [] } :: s.mg.answers } })) ∧
  (∀ (s : State) (typ : Nat) (im : BootImage) (v : Update), s.board.mgmtUp = true → (s.readiness = 3 ∨ s.readiness = 4 ∨ (s.readiness = 15 ∧ s.mgmtAlone = false)) →
      s.mg.update = some v → 1 ≤ typ → typ ≤ 4 →
    let slot (x : State) : List BootImage := if v.target then x.board.slotB else x.board.slotA
    let answered (code comp : Nat) : List I3cAnswer := { typ := 1, code := code, comp := comp, words := [] } :: s.mg.answers
    Completes (exec (.pldmUpdateComponent typ im) s) (fun t =>
      slot t = (slot s).set (typ - 1) im ∧ (if v.target then t.board.slotA = s.board.slotA else t.board.slotB = s.board.slotB)
      ∧ (∃ v', t.mg = { s.mg with update := some v', answers := answered 0x14 0 } ∧ v'.target = v.target
          ∧ (∀ x, x ∈ v'.written ↔ x ∈ v.written ∨ x = typ) ∧ (∀ x, x ∈ v'.verified ↔ x ∈ v.verified ∧ x ≠ typ))
      ∧ t.regs = s.regs ∧ t.mem = s.mem)
    ∧ (∀ w ok, (slot s)[typ - 1]? = some w → ok = (s.imageOk w typ && v.written.contains typ) →
      Completes (exec (.pldmVerifyComplete typ) s) fun t =>
        ∃ v', t = { s with mg := { s.mg with update := some v', answers := answered 0x17 (if ok then 0 else 1) } }
          ∧ v'.target = v.target ∧ v'.written = v.written
          ∧ (∀ x, x ∈ v'.verified ↔ (x ∈ v.verified ∧ x ≠ typ) ∨ (ok = true ∧ x = typ)))
    ∧ (v.verified.length ≠ 4 → Completes (exec .pldmActivateFirmware s) fun t =>
        t = { s with mg := { s.mg with answers := answered 0x1A 0x87 } })
    ∧ (v.verified.length = 4 → s.worn A.bootCfg = false → s.eclipse = false → s.mainGone = false →
      Completes (exec .pldmActivateFirmware s) fun t =>
        t.flag A.bootCfg F.bootCfg_SLOT_PREF = v.target ∧ t.mg = { s.mg with update := none, answers := answered 0x1A 0 }
        ∧ t.flag A.mctpStatus F.mctpStatus_UPDATING = false
        ∧ t.fld (A.persWear 0) F.persWear_WEAR = min 100000 (s.fld (A.persWear 0) F.persWear_WEAR + 1)
        ∧ t.rd A.commitStamp = BitVec.ofNat 64 ((s.rd A.commitStamp).toNat + 1)
        ∧ SameRegs [A.bootCfg, A.mctpStatus, A.persWear 0, A.commitStamp] s t ∧ t.board = s.board ∧ t.mem = s.mem))

/-- R60, R136, R690, R695, R696, R702, R708, R709, and log entry 46: SPDM and the TAP. -/
def Obligations.AttestationAndBoundaryScan : Prop :=
  (∀ (s : State) (a h slot off len index code : Nat) (sign : Bool) (nonce : List Byte), s.board.mgmtUp = true →
    let answered (code comp : Nat) (ws : List Nat) (t : State) : Prop :=
      t = { s with mg := { s.mg with answers := { typ := 5, code := code, comp := comp, words := ws } :: s.mg.answers } }
    let fresh : List Byte := (List.range 4).flatMap (fun i => leBytes 8 (Config.freeValue (s.freeCtr + i)).toNat)
    let drawn (code : Nat) (ws : List Nat) (t : State) : Prop :=
      t = { s with mg := { s.mg with answers := { typ := 5, code := code, comp := 0, words := ws } :: s.mg.answers }, freeCtr := s.freeCtr + 4 }
    ((s.readiness = 2 ∨ s.readiness = 3 ∨ s.readiness = 4 ∨ (s.readiness = 15 ∧ s.mgmtAlone = false)) →
      Completes (exec .spdmGetVersion s) (answered 0x84 0 [0x13]) ∧ Completes (exec .spdmGetCapabilities s) (answered 0xE1 0 [0x16])
      ∧ Completes (exec (.spdmNegotiateAlgorithms a h) s) (answered 0xE3 0 [if a.testBit 7 then 0x80 else 0, if h.testBit 1 then 2 else 0, 4])
      ∧ Completes (exec .spdmGetDigests s) (answered 0x81 0 (chainDigest.map (·.toNat)))
      ∧ Completes (exec (.spdmGetCertificate 0 off len) s) (answered 0x82 0
          ((Config.certChain.length - off - len) :: ((Config.certChain.drop off).take len).map (·.toNat)))
      ∧ (slot ≠ 0 → Completes (exec (.spdmGetCertificate slot off len) s) (answered 0x82 1 []))
      ∧ Completes (exec (.spdmChallenge 0 nonce) s) (drawn 0x83 ((chainDigest ++ fresh
          ++ Config.identitySign (nonce ++ chainDigest ++ fresh)).map (·.toNat)))
      ∧ (slot ≠ 0 → Completes (exec (.spdmChallenge slot nonce) s) (answered 0x83 1 []))
      ∧ Completes (exec (.spdmGetMeasurements 0 false nonce) s) (drawn 0xE0 (10 :: fresh.map (·.toNat)))
      ∧ (1 ≤ index → index ≤ 10 →
          let content : List Byte := if index = 9 then leBytes 8 (s.readReg A.bootStatus).1.toNat else if index = 10 then leBytes 8 s.mg.sticky
            else (List.range 6).flatMap (fun w => leBytes 8 (s.rd (A.measure (index - 1) w)).toNat)
          Completes (exec (.spdmGetMeasurements index sign nonce) s) (drawn 0xE0 (10 :: (content ++ fresh
            ++ (if sign then Config.identitySign (nonce ++ content ++ fresh) else [])).map (·.toNat))))
      ∧ (10 < index → index ≠ 0xFF → Completes (exec (.spdmGetMeasurements index sign nonce) s) (answered 0xE0 1 []))
      ∧ Completes (exec (.spdmUnsupportedRequest code) s) (answered code 7 []))
    ∧ ((s.readiness = 0 ∨ s.readiness = 1) →
      Completes (exec .spdmGetVersion s) (answered 0x84 3 []) ∧ Completes (exec .spdmGetDigests s) (answered 0x81 3 [])
      ∧ Completes (exec (.spdmChallenge slot nonce) s) (answered 0x83 3 [])
      ∧ Completes (exec (.spdmGetMeasurements index sign nonce) s) (answered 0xE0 3 []))) ∧
  (∀ (s : State) (cells pins op : Nat), (s.board.main.good = true ∨ s.board.backup.good = true) →
    let selects (ir out : Nat) (t : State) : Prop := t = { s with mg := { s.mg with tap := { s.mg.tap with ir := ir, out := out } } }
    Completes (exec .tapReset s) (selects 1 s.mg.tap.out) ∧ Completes (exec .tapIdcode s) (selects 1 0x152545A7)
    ∧ Completes (exec .tapClamp s) (fun t => selects 4 0 t
        ∧ ((s.readiness = 0 ∨ s.readiness = 15) → t.outputPins = (List.range 4).map (fun i => !s.mg.tap.boundary.testBit (2 + i))))
    ∧ Completes (exec .tapHighz s) (fun t => selects 5 0 t
        ∧ ((s.readiness = 0 ∨ s.readiness = 15) → t.outputPins = [false, false, false, false]))
    ∧ Completes (exec (.tapBypass op) s) (selects (op % 256) 0)
    ∧ Completes (exec (.tapExtest cells pins) s) (fun t =>
        t.mg = { s.mg with tap := { ir := 0, boundary := cells % 2 ^ 14, out := t.mg.tap.out } } ∧ t = { s with mg := t.mg }
        ∧ (∀ i, i < 2 ∨ (6 ≤ i ∧ i < 10) → t.mg.tap.out.testBit i = pins.testBit i)
        ∧ (∀ i, i < 4 → t.mg.tap.out.testBit (2 + i) = !s.outputPins.getD i false) ∧ t.mg.tap.out / 2 ^ 10 = s.fld A.sbStatus F.sbStatus_GEO
        ∧ ((s.readiness = 0 ∨ s.readiness = 15) → t.outputPins = (List.range 4).map (fun i => !cells.testBit (2 + i)))
        ∧ (s.readiness ≠ 0 → s.readiness ≠ 15 → t.outputPins = [s.alertLow, s.thermLow, s.brakedLow, s.eclipseLow]))
    ∧ Completes (exec (.tapSamplePreload cells pins) s) (fun t =>
        t.mg = { s.mg with tap := { ir := 2, boundary := cells % 2 ^ 14, out := t.mg.tap.out } } ∧ t = { s with mg := t.mg }
        ∧ (∀ i, i < 2 ∨ (6 ≤ i ∧ i < 10) → t.mg.tap.out.testBit i = pins.testBit i)
        ∧ t.outputPins = [s.alertLow, s.thermLow, s.brakedLow, s.eclipseLow])) ∧
  (∀ (s : State) (addr : Nat) (v : Word) (write : Bool), (s.board.main.good = true ∨ s.board.backup.good = true) →
    (s.flag A.debugStatus F.debugStatus_DEVICE = false → Completes (exec (.tapDebugAccess write addr v) s) fun t =>
      t = { s with mg := { s.mg with tap := { s.mg.tap with ir := 0x40, out := 0 } } })
    ∧ (s.flag A.debugStatus F.debugStatus_DEVICE = true → s.mgmtAlone = false → regAt addr ≠ none →
      Completes (exec (.tapDebugAccess false addr v) s) fun t =>
        t.mg.tap.ir = 0x40 ∧ t.mg.tap.out = (s.readReg addr).1.toNat ∧ t.regs = (s.readReg addr).2.regs ∧ t.mem = (s.readReg addr).2.mem)
    ∧ (∀ r is, s.flag A.debugStatus F.debugStatus_DEVICE = true → s.mgmtAlone = false → regAt addr = some (r, is) →
        (∀ u, r.cls = .immediate → s.regUnitGone r is = false → s.writeNow r is addr v (BitVec.allOnes 64) = .ok u →
          Completes (exec (.tapDebugAccess true addr v) s) fun t =>
            t = { u with mg := { u.mg with tap := { u.mg.tap with ir := 0x40, out := 0 } } })
        ∧ (r.cls ≠ .immediate → Completes (exec (.tapDebugAccess true addr v) s) fun t =>
            t = { s with mg := { s.mg with tap := { s.mg.tap with ir := 0x40, out := 0 } } })))

/-- The queue of commands and the idle step, by log entry 3; R65 gives the cycle, R568 what waits for time alone. -/
def Obligations.StepRunsTheCommandAtTheFront : Prop :=
  (∀ (s : State) (c : Instr) (rest : List Instr), s.pending = c :: rest → step s = exec c { s with pending := rest }) ∧
  (∀ s : State, s.pending = [] → Completes (step s) fun t =>
    (s.fab.copies = [] → t = { s with now := s.now + 1 }) ∧ s.now + 1 ≤ t.now ∧ t.pending = [] ∧ t.part = s.part)

/-- R10, R11, R41, R128: the machine right after reset. -/
def Obligations.ResetIsASafeState : Prop :=
  State.reset.safe = true ∧ (∀ a, State.reset.rd a = regDefault State.reset.part a) ∧ State.reset.mem = [] ∧ State.reset.poison = []
    ∧ State.reset.undef = [] ∧ State.reset.pending = [] ∧ State.reset.resv = [] ∧ State.reset.readiness = 0
    ∧ State.reset.board.powered = false ∧ State.reset.board.mgmtUp = false

/-- The canonical form of memory (R28, R32, R33), of the register file (R10) and of the poison marks is kept by every step. -/
def Obligations.EveryStepKeepsTheStateSafe : Prop :=
  ∀ s t : State, s.safe = true → step s = .next t → t.safe = true ∧ t.part = s.part ∧ t.pending = s.pending.tail
end

