-- ==== Sys2Proof/Laws/Assoc.lean ====
section
/-! SUPPORT. The sorted association list: reading after a change, and the canonical form. -/

namespace Sys2Proof.Machine

variable {β : Type}

/-- The value under a key after a set. -/
theorem Assoc.get?_set (l : List (Nat × β)) (a : Nat) (v : β) (b : Nat) :
    Assoc.get? (Assoc.set l a v) b = if b = a then some v else Assoc.get? l b := by
  induction l with
  | nil => by_cases h : a = b <;> simp [Assoc.set, Assoc.get?, h, eq_comm]
  | cons e l ih =>
    obtain ⟨k, w⟩ := e
    simp only [Assoc.set]
    split
    · by_cases h : b = a
      · simp [Assoc.get?, h]
      · simp [Assoc.get?, h, Ne.symm h]
    · split
      · rename_i h1 h2
        subst h2
        by_cases h : b = a
        · simp [Assoc.get?, h]
        · simp [Assoc.get?, h, Ne.symm h]
      · rename_i h1 h2
        by_cases h : b = a
        · subst h; simp [Assoc.get?, ih, Ne.symm h2]
        · by_cases hk : k = b
          · simp [Assoc.get?, hk, h]
          · simp [Assoc.get?, hk, h, ih]

/-- The value under a key after a removal. -/
theorem Assoc.get?_del (l : List (Nat × β)) (a b : Nat) :
    Assoc.get? (Assoc.del l a) b = if b = a then none else Assoc.get? l b := by
  induction l with
  | nil => simp [Assoc.del, Assoc.get?]
  | cons e l ih =>
    obtain ⟨k, w⟩ := e
    simp only [Assoc.del] at ih ⊢
    by_cases hk : k = a
    · subst hk
      by_cases h : b = k
      · simp [h]; simpa [h] using ih
      · simp [h, Assoc.get?, Ne.symm h]; simpa [h] using ih
    · by_cases h : k = b
      · subst h; simp [hk, Assoc.get?]
      · simp [hk, Assoc.get?, h]; simpa using ih

/-- The value under a key after a put. -/
theorem Assoc.getD_put [DecidableEq β] (l : List (Nat × β)) (a : Nat) (v d : β) (b : Nat) (e : β) :
    Assoc.getD (Assoc.put l a v d) b e = if b = a then (if v = d then e else v) else Assoc.getD l b e := by
  unfold Assoc.put Assoc.getD
  split <;> simp only [Assoc.get?_set, Assoc.get?_del] <;> split <;> simp_all

/-- A removal keeps the keys rising. -/
theorem Assoc.sorted_del (l : List (Nat × β)) (a : Nat) (h : Assoc.sorted l = true) : Assoc.sorted (Assoc.del l a) = true := by
  simp only [Assoc.sorted, decide_eq_true_eq] at *
  exact h.filter _

/-- What a set list holds. -/
theorem Assoc.mem_set {l : List (Nat × β)} {a : Nat} {v : β} {e : Nat × β} (h : e ∈ Assoc.set l a v) : e = (a, v) ∨ e ∈ l := by
  induction l with
  | nil => simpa [Assoc.set] using h
  | cons x l ih =>
    obtain ⟨k, w⟩ := x
    simp only [Assoc.set] at h
    split at h
    · simpa using h
    · split at h
      · rcases List.mem_cons.mp h with h | h
        · exact .inl h
        · exact .inr (List.mem_cons_of_mem _ h)
      · rcases List.mem_cons.mp h with h | h
        · exact .inr (by simp [h])
        · rcases ih h with h | h
          · exact .inl h
          · exact .inr (List.mem_cons_of_mem _ h)

/-- A set keeps the keys rising. -/
theorem Assoc.sorted_set (l : List (Nat × β)) (a : Nat) (v : β) (h : Assoc.sorted l = true) : Assoc.sorted (Assoc.set l a v) = true := by
  simp only [Assoc.sorted, decide_eq_true_eq] at *
  induction l with
  | nil => simp [Assoc.set]
  | cons x l ih =>
    obtain ⟨k, w⟩ := x
    obtain ⟨h1, h2⟩ := List.pairwise_cons.mp h
    simp only [Assoc.set]
    split
    · rename_i hk
      refine List.pairwise_cons.mpr ⟨?_, h⟩
      intro y hy
      rcases List.mem_cons.mp hy with rfl | hy
      · exact hk
      · exact Nat.lt_trans hk (h1 y hy)
    · split
      · rename_i hk hk'
        subst hk'
        exact List.pairwise_cons.mpr ⟨h1, h2⟩
      · rename_i hk hk'
        refine List.pairwise_cons.mpr ⟨?_, ih h2⟩
        intro y hy
        rcases Assoc.mem_set hy with rfl | hy
        · show k < a; omega
        · exact h1 y hy

/-- A put keeps the keys rising. -/
theorem Assoc.sorted_put [DecidableEq β] (l : List (Nat × β)) (a : Nat) (v d : β) (h : Assoc.sorted l = true) :
    Assoc.sorted (Assoc.put l a v d) = true := by
  unfold Assoc.put
  split
  · exact Assoc.sorted_del l a h
  · exact Assoc.sorted_set l a v h

/-- A selection of entries keeps the keys rising. -/
theorem Assoc.sorted_filter (l : List (Nat × β)) (p : Nat × β → Bool) (h : Assoc.sorted l = true) :
    Assoc.sorted (l.filter p) = true := by
  simp only [Assoc.sorted, decide_eq_true_eq] at *
  exact h.filter _

end Sys2Proof.Machine
end

