-- ==== Sys2Proof/Laws/Dispatch.lean ====
section
/-! SUPPORT. exec of each command is its meaning: no later proof unfolds the dispatch. -/

namespace Sys2Proof.Machine

variable (s : State)

@[simp] theorem exec_softStartRamp (inp : SupplyInput) (mv : Nat) : exec (.softStartRamp inp mv) s = execSoftStartRamp inp mv s := rfl
@[simp] theorem exec_softStartComplete (inp : SupplyInput) : exec (.softStartComplete inp) s = execSoftStartComplete inp s := rfl
@[simp] theorem exec_mgmtStart : exec (.mgmtStart) s = execMgmtStart s := rfl
@[simp] theorem exec_inputGood (inp : SupplyInput) : exec (.inputGood inp) s = execInputGood inp s := rfl
@[simp] theorem exec_inputLost (inp : SupplyInput) (mv : Nat) : exec (.inputLost inp mv) s = execInputLost inp mv s := rfl
@[simp] theorem exec_uvloStop : exec (.uvloStop) s = execUvloStop s := rfl
@[simp] theorem exec_moduleRemoval : exec (.moduleRemoval) s = execModuleRemoval s := rfl
@[simp] theorem exec_railGroupGood : exec (.railGroupGood) s = execRailGroupGood s := rfl
@[simp] theorem exec_railFail : exec (.railFail) s = execRailFail s := rfl
@[simp] theorem exec_resetPin : exec (.resetPin) s = execResetPin s := rfl
@[simp] theorem exec_moduleResetEnd (pinUs : Nat) (brakeLow : Bool) (geo : Nat) (dieC : Nat) (stackC : Nat) (bonds : List (Nat × Nat)) (links : List (Nat × Nat × Nat)) : exec (.moduleResetEnd pinUs brakeLow geo dieC stackC bonds links) s = execModuleResetEnd pinUs brakeLow geo dieC stackC bonds links s := rfl
@[simp] theorem exec_memoryTrainingDone (badStacks : List Nat) (badPackages : List Nat) (repaired : List Nat) : exec (.memoryTrainingDone badStacks badPackages repaired) s = execMemoryTrainingDone badStacks badPackages repaired s := rfl
@[simp] theorem exec_memoryInitDone (badUnits : List Nat) : exec (.memoryInitDone badUnits) s = execMemoryInitDone badUnits s := rfl
@[simp] theorem exec_brakeRecognised : exec (.brakeRecognised) s = execBrakeRecognised s := rfl
@[simp] theorem exec_brakedAssert : exec (.brakedAssert) s = execBrakedAssert s := rfl
@[simp] theorem exec_brakeRelease : exec (.brakeRelease) s = execBrakeRelease s := rfl
@[simp] theorem exec_brakeStuck : exec (.brakeStuck) s = execBrakeStuck s := rfl
@[simp] theorem exec_brakeStuckClear : exec (.brakeStuckClear) s = execBrakeStuckClear s := rfl
@[simp] theorem exec_refLoss : exec (.refLoss) s = execRefLoss s := rfl
@[simp] theorem exec_thermalTrip (stack : Bool) (index : Nat) (tempC : Nat) : exec (.thermalTrip stack index tempC) s = execThermalTrip stack index tempC s := rfl
@[simp] theorem exec_generatorLock (isl : Nat) : exec (.generatorLock isl) s = execGeneratorLock isl s := rfl
@[simp] theorem exec_droopDetect (isl : Nat) (cycles : Nat) : exec (.droopDetect isl cycles) s = execDroopDetect isl cycles s := rfl
@[simp] theorem exec_droopRecover (isl : Nat) : exec (.droopRecover isl) s = execDroopRecover isl s := rfl
@[simp] theorem exec_freqGlideComplete (isl : Nat) : exec (.freqGlideComplete isl) s = execFreqGlideComplete isl s := rfl
@[simp] theorem exec_cmdTailDoorbell (ch : Nat) (src : Nat) (v : Nat) : exec (.cmdTailDoorbell ch src v) s = execCmdTailDoorbell ch src v s := rfl
@[simp] theorem exec_rplHeadDoorbell (ch : Nat) (src : Nat) (v : Nat) : exec (.rplHeadDoorbell ch src v) s = execRplHeadDoorbell ch src v s := rfl
@[simp] theorem exec_directStoreDrop (addr : Nat) (src : Nat) : exec (.directStoreDrop addr src) s = execDirectStoreDrop addr src s := rfl
@[simp] theorem exec_packetDequeue (ch : Nat) : exec (.packetDequeue ch) s = execPacketDequeue ch s := rfl
@[simp] theorem exec_ringFault (ch : Nat) : exec (.ringFault ch) s = execRingFault ch s := rfl
@[simp] theorem exec_txnTimeout (ch : Nat) : exec (.txnTimeout ch) s = execTxnTimeout ch s := rfl
@[simp] theorem exec_nop (ch : Nat) (p : Packet) : exec (.nop ch p) s = execNop ch p s := rfl
@[simp] theorem exec_beginCmd (ch : Nat) (p : Packet) : exec (.beginCmd ch p) s = execBeginCmd ch p s := rfl
@[simp] theorem exec_commitCmd (ch : Nat) (p : Packet) : exec (.commitCmd ch p) s = execCommitCmd ch p s := rfl
@[simp] theorem exec_commitDurable (ch : Nat) (ok : Bool) : exec (.commitDurable ch ok) s = execCommitDurable ch ok s := rfl
@[simp] theorem exec_rollback (ch : Nat) (p : Packet) : exec (.rollback ch p) s = execRollback ch p s := rfl
@[simp] theorem exec_regRead (ch : Nat) (p : Packet) : exec (.regRead ch p) s = execRegRead ch p s := rfl
@[simp] theorem exec_regWrite (ch : Nat) (p : Packet) : exec (.regWrite ch p) s = execRegWrite ch p s := rfl
@[simp] theorem exec_rwpWriteDurable (ch : Nat) (ok : Bool) : exec (.rwpWriteDurable ch ok) s = execRwpWriteDurable ch ok s := rfl
@[simp] theorem exec_channelReset (ch : Nat) (p : Packet) : exec (.channelReset ch p) s = execChannelReset ch p s := rfl
@[simp] theorem exec_persInfo (ch : Nat) (p : Packet) : exec (.persInfo ch p) s = execPersInfo ch p s := rfl
@[simp] theorem exec_identify (ch : Nat) (p : Packet) : exec (.identify ch p) s = execIdentify ch p s := rfl
@[simp] theorem exec_readyStatus (ch : Nat) (p : Packet) : exec (.readyStatus ch p) s = execReadyStatus ch p s := rfl
@[simp] theorem exec_readyAdvance (ch : Nat) (p : Packet) : exec (.readyAdvance ch p) s = execReadyAdvance ch p s := rfl
@[simp] theorem exec_resetModule (ch : Nat) (p : Packet) : exec (.resetModule ch p) s = execResetModule ch p s := rfl
@[simp] theorem exec_resetTower (ch : Nat) (p : Packet) : exec (.resetTower ch p) s = execResetTower ch p s := rfl
@[simp] theorem exec_towerWritebackDone (k : Nat) : exec (.towerWritebackDone k) s = execTowerWritebackDone k s := rfl
@[simp] theorem exec_towerWritebackTimeout (k : Nat) (lost : List Nat) : exec (.towerWritebackTimeout k lost) s = execTowerWritebackTimeout k lost s := rfl
@[simp] theorem exec_resetContext (ch : Nat) (p : Packet) : exec (.resetContext ch p) s = execResetContext ch p s := rfl
@[simp] theorem exec_contextResetDone (ctx : Nat) (pages : List Nat) : exec (.contextResetDone ctx pages) s = execContextResetDone ctx pages s := rfl
@[simp] theorem exec_resetUnit (ch : Nat) (p : Packet) : exec (.resetUnit ch p) s = execResetUnit ch p s := rfl
@[simp] theorem exec_unitResetDone (idx : Nat) : exec (.unitResetDone idx) s = execUnitResetDone idx s := rfl
@[simp] theorem exec_ctxOpen (ch : Nat) (p : Packet) : exec (.ctxOpen ch p) s = execCtxOpen ch p s := rfl
@[simp] theorem exec_ctxClose (ch : Nat) (p : Packet) : exec (.ctxClose ch p) s = execCtxClose ch p s := rfl
@[simp] theorem exec_queueCreate (ch : Nat) (p : Packet) : exec (.queueCreate ch p) s = execQueueCreate ch p s := rfl
@[simp] theorem exec_queueDestroy (ch : Nat) (p : Packet) : exec (.queueDestroy ch p) s = execQueueDestroy ch p s := rfl
@[simp] theorem exec_queueStop (ch : Nat) (p : Packet) : exec (.queueStop ch p) s = execQueueStop ch p s := rfl
@[simp] theorem exec_queueStopComplete (q : Nat) : exec (.queueStopComplete q) s = execQueueStopComplete q s := rfl
@[simp] theorem exec_queueStart (ch : Nat) (p : Packet) : exec (.queueStart ch p) s = execQueueStart ch p s := rfl
@[simp] theorem exec_queueStatus (ch : Nat) (p : Packet) : exec (.queueStatus ch p) s = execQueueStatus ch p s := rfl
@[simp] theorem exec_xltInvalidate (ch : Nat) (p : Packet) : exec (.xltInvalidate ch p) s = execXltInvalidate ch p s := rfl
@[simp] theorem exec_xltEpochComplete (ctx : Nat) : exec (.xltEpochComplete ctx) s = execXltEpochComplete ctx s := rfl
@[simp] theorem exec_xltEpochStatus (ch : Nat) (p : Packet) : exec (.xltEpochStatus ch p) s = execXltEpochStatus ch p s := rfl
@[simp] theorem exec_memPrefetchMigrate (ch : Nat) (p : Packet) : exec (.memPrefetchMigrate ch p) s = execMemPrefetchMigrate ch p s := rfl
@[simp] theorem exec_migrateCopyDone (idx : Nat) : exec (.migrateCopyDone idx) s = execMigrateCopyDone idx s := rfl
@[simp] theorem exec_memPrefetchPush (ch : Nat) (p : Packet) : exec (.memPrefetchPush ch p) s = execMemPrefetchPush ch p s := rfl
@[simp] theorem exec_memPrefetchPull (ch : Nat) (p : Packet) : exec (.memPrefetchPull ch p) s = execMemPrefetchPull ch p s := rfl
@[simp] theorem exec_memAdviseClear (ch : Nat) (p : Packet) : exec (.memAdviseClear ch p) s = execMemAdviseClear ch p s := rfl
@[simp] theorem exec_memAdvisePreferTier (ch : Nat) (p : Packet) : exec (.memAdvisePreferTier ch p) s = execMemAdvisePreferTier ch p s := rfl
@[simp] theorem exec_memAdviseReadMostly (ch : Nat) (p : Packet) : exec (.memAdviseReadMostly ch p) s = execMemAdviseReadMostly ch p s := rfl
@[simp] theorem exec_memAdviseAccessedBy (ch : Nat) (p : Packet) : exec (.memAdviseAccessedBy ch p) s = execMemAdviseAccessedBy ch p s := rfl
@[simp] theorem exec_memAdviseEvictFirst (ch : Nat) (p : Packet) : exec (.memAdviseEvictFirst ch p) s = execMemAdviseEvictFirst ch p s := rfl
@[simp] theorem exec_l2PrefetchRange (ch : Nat) (p : Packet) : exec (.l2PrefetchRange ch p) s = execL2PrefetchRange ch p s := rfl
@[simp] theorem exec_l2FlushRange (ch : Nat) (p : Packet) : exec (.l2FlushRange ch p) s = execL2FlushRange ch p s := rfl
@[simp] theorem exec_l2InvalRange (ch : Nat) (p : Packet) : exec (.l2InvalRange ch p) s = execL2InvalRange ch p s := rfl
@[simp] theorem exec_l2RangeComplete (idx : Nat) : exec (.l2RangeComplete idx) s = execL2RangeComplete idx s := rfl
@[simp] theorem exec_l2Pin (ch : Nat) (p : Packet) : exec (.l2Pin ch p) s = execL2Pin ch p s := rfl
@[simp] theorem exec_l2PinComplete (k : Nat) : exec (.l2PinComplete k) s = execL2PinComplete k s := rfl
@[simp] theorem exec_l2Unpin (ch : Nat) (p : Packet) : exec (.l2Unpin ch p) s = execL2Unpin ch p s := rfl
@[simp] theorem exec_memErasureMark (ch : Nat) (p : Packet) : exec (.memErasureMark ch p) s = execMemErasureMark ch p s := rfl
@[simp] theorem exec_memErasureClear (ch : Nat) (p : Packet) : exec (.memErasureClear ch p) s = execMemErasureClear ch p s := rfl
@[simp] theorem exec_markDurable (idx : Nat) (ok : Bool) : exec (.markDurable idx ok) s = execMarkDurable idx ok s := rfl
@[simp] theorem exec_memScrubRange (ch : Nat) (p : Packet) : exec (.memScrubRange ch p) s = execMemScrubRange ch p s := rfl
@[simp] theorem exec_memScrubRangeComplete (idx : Nat) (errs : List (Nat × List (Nat × Nat))) : exec (.memScrubRangeComplete idx errs) s = execMemScrubRangeComplete idx errs s := rfl
@[simp] theorem exec_beamLoad (ch : Nat) (p : Packet) : exec (.beamLoad ch p) s = execBeamLoad ch p s := rfl
@[simp] theorem exec_beamStart (ch : Nat) (p : Packet) : exec (.beamStart ch p) s = execBeamStart ch p s := rfl
@[simp] theorem exec_beamStopPause (ch : Nat) (p : Packet) : exec (.beamStopPause ch p) s = execBeamStopPause ch p s := rfl
@[simp] theorem exec_beamStopAbort (ch : Nat) (p : Packet) : exec (.beamStopAbort ch p) s = execBeamStopAbort ch p s := rfl
@[simp] theorem exec_beamAbortComplete (k : Nat) (cycles : Nat) : exec (.beamAbortComplete k cycles) s = execBeamAbortComplete k cycles s := rfl
@[simp] theorem exec_beamStep (ch : Nat) (p : Packet) : exec (.beamStep ch p) s = execBeamStep ch p s := rfl
@[simp] theorem exec_scaleRead (ch : Nat) (p : Packet) : exec (.scaleRead ch p) s = execScaleRead ch p s := rfl
@[simp] theorem exec_scaleWriteWrite (ch : Nat) (p : Packet) : exec (.scaleWriteWrite ch p) s = execScaleWriteWrite ch p s := rfl
@[simp] theorem exec_scaleWriteAdvance (ch : Nat) (p : Packet) : exec (.scaleWriteAdvance ch p) s = execScaleWriteAdvance ch p s := rfl
@[simp] theorem exec_scaleWriteClear (ch : Nat) (p : Packet) : exec (.scaleWriteClear ch p) s = execScaleWriteClear ch p s := rfl
@[simp] theorem exec_tcGroupHalt (ch : Nat) (p : Packet) : exec (.tcGroupHalt ch p) s = execTcGroupHalt ch p s := rfl
@[simp] theorem exec_tcGroupResume (ch : Nat) (p : Packet) : exec (.tcGroupResume ch p) s = execTcGroupResume ch p s := rfl
@[simp] theorem exec_tcGroupStep (ch : Nat) (p : Packet) : exec (.tcGroupStep ch p) s = execTcGroupStep ch p s := rfl
@[simp] theorem exec_tcGroupRead (ch : Nat) (p : Packet) : exec (.tcGroupRead ch p) s = execTcGroupRead ch p s := rfl
@[simp] theorem exec_tcGroupWrite (ch : Nat) (p : Packet) : exec (.tcGroupWrite ch p) s = execTcGroupWrite ch p s := rfl
@[simp] theorem exec_lntProgramLoad (ch : Nat) (p : Packet) : exec (.lntProgramLoad ch p) s = execLntProgramLoad ch p s := rfl
@[simp] theorem exec_lntCancel (ch : Nat) (p : Packet) : exec (.lntCancel ch p) s = execLntCancel ch p s := rfl
@[simp] theorem exec_synBind (ch : Nat) (p : Packet) : exec (.synBind ch p) s = execSynBind ch p s := rfl
@[simp] theorem exec_synRelease (ch : Nat) (p : Packet) : exec (.synRelease ch p) s = execSynRelease ch p s := rfl
@[simp] theorem exec_fabIdSet (ch : Nat) (p : Packet) : exec (.fabIdSet ch p) s = execFabIdSet ch p s := rfl
@[simp] theorem exec_fabRouteWrite (ch : Nat) (p : Packet) : exec (.fabRouteWrite ch p) s = execFabRouteWrite ch p s := rfl
@[simp] theorem exec_fabTagAdd (ch : Nat) (p : Packet) : exec (.fabTagAdd ch p) s = execFabTagAdd ch p s := rfl
@[simp] theorem exec_fabTagRemove (ch : Nat) (p : Packet) : exec (.fabTagRemove ch p) s = execFabTagRemove ch p s := rfl
@[simp] theorem exec_partQuiesce (ch : Nat) (p : Packet) : exec (.partQuiesce ch p) s = execPartQuiesce ch p s := rfl
@[simp] theorem exec_quiesceDrainDone : exec (.quiesceDrainDone) s = execQuiesceDrainDone s := rfl
@[simp] theorem exec_quiesceDrainTimeout : exec (.quiesceDrainTimeout) s = execQuiesceDrainTimeout s := rfl
@[simp] theorem exec_flarePrepare (ch : Nat) (p : Packet) : exec (.flarePrepare ch p) s = execFlarePrepare ch p s := rfl
@[simp] theorem exec_flareCommit (ch : Nat) (p : Packet) : exec (.flareCommit ch p) s = execFlareCommit ch p s := rfl
@[simp] theorem exec_flareAbort (ch : Nat) (p : Packet) : exec (.flareAbort ch p) s = execFlareAbort ch p s := rfl
@[simp] theorem exec_collSetup (ch : Nat) (p : Packet) : exec (.collSetup ch p) s = execCollSetup ch p s := rfl
@[simp] theorem exec_collLagRead (ch : Nat) (p : Packet) : exec (.collLagRead ch p) s = execCollLagRead ch p s := rfl
@[simp] theorem exec_aggAttach (ch : Nat) (p : Packet) : exec (.aggAttach ch p) s = execAggAttach ch p s := rfl
@[simp] theorem exec_aggDetach (ch : Nat) (p : Packet) : exec (.aggDetach ch p) s = execAggDetach ch p s := rfl
@[simp] theorem exec_errRecordRead (ch : Nat) (p : Packet) : exec (.errRecordRead ch p) s = execErrRecordRead ch p s := rfl
@[simp] theorem exec_errRecordAck (ch : Nat) (p : Packet) : exec (.errRecordAck ch p) s = execErrRecordAck ch p s := rfl
@[simp] theorem exec_errInjectArm (ch : Nat) (p : Packet) : exec (.errInjectArm ch p) s = execErrInjectArm ch p s := rfl
@[simp] theorem exec_errInjectDisarm (ch : Nat) (p : Packet) : exec (.errInjectDisarm ch p) s = execErrInjectDisarm ch p s := rfl
@[simp] theorem exec_pwrEnergyReport (ch : Nat) (p : Packet) : exec (.pwrEnergyReport ch p) s = execPwrEnergyReport ch p s := rfl
@[simp] theorem exec_pwrSupplyStatus (ch : Nat) (p : Packet) : exec (.pwrSupplyStatus ch p) s = execPwrSupplyStatus ch p s := rfl
@[simp] theorem exec_ageReplan (ch : Nat) (p : Packet) : exec (.ageReplan ch p) s = execAgeReplan ch p s := rfl
@[simp] theorem exec_unitFence (ch : Nat) (p : Packet) : exec (.unitFence ch p) s = execUnitFence ch p s := rfl
@[simp] theorem exec_unitUnfence (ch : Nat) (p : Packet) : exec (.unitUnfence ch p) s = execUnitUnfence ch p s := rfl
@[simp] theorem exec_marginRead (ch : Nat) (p : Packet) : exec (.marginRead ch p) s = execMarginRead ch p s := rfl
@[simp] theorem exec_ctxKeyGenerate (ch : Nat) (p : Packet) : exec (.ctxKeyGenerate ch p) s = execCtxKeyGenerate ch p s := rfl
@[simp] theorem exec_ctxKeyClear (ch : Nat) (p : Packet) : exec (.ctxKeyClear ch p) s = execCtxKeyClear ch p s := rfl
@[simp] theorem exec_debugUnlockCtxOpen (ch : Nat) (p : Packet) : exec (.debugUnlockCtxOpen ch p) s = execDebugUnlockCtxOpen ch p s := rfl
@[simp] theorem exec_debugUnlockCtxClose (ch : Nat) (p : Packet) : exec (.debugUnlockCtxClose ch p) s = execDebugUnlockCtxClose ch p s := rfl
@[simp] theorem exec_debugUnlockNonce (ch : Nat) (p : Packet) : exec (.debugUnlockNonce ch p) s = execDebugUnlockNonce ch p s := rfl
@[simp] theorem exec_debugUnlockToken (ch : Nat) (p : Packet) : exec (.debugUnlockToken ch p) s = execDebugUnlockToken ch p s := rfl
@[simp] theorem exec_traceConfig (ch : Nat) (p : Packet) : exec (.traceConfig ch p) s = execTraceConfig ch p s := rfl
@[simp] theorem exec_traceRead (ch : Nat) (p : Packet) : exec (.traceRead ch p) s = execTraceRead ch p s := rfl
@[simp] theorem exec_traceRecordWrite (source : Nat) (ctx : Nat) (w1 : Nat) (w2 : Nat) (w3 : Nat) (ok : Bool) : exec (.traceRecordWrite source ctx w1 w2 w3 ok) s = execTraceRecordWrite source ctx w1 w2 w3 ok s := rfl
@[simp] theorem exec_traceCounterSample (ok : Nat) : exec (.traceCounterSample ok) s = execTraceCounterSample ok s := rfl
@[simp] theorem exec_beamWordIssue (k : Nat) (det : Nat) (ext : Nat) (badStore : Bool) : exec (.beamWordIssue k det ext badStore) s = execBeamWordIssue k det ext badStore s := rfl
@[simp] theorem exec_beamWaitAnswer (k : Nat) (cycles : Nat) : exec (.beamWaitAnswer k cycles) s = execBeamWaitAnswer k cycles s := rfl
@[simp] theorem exec_beamWaitTimeout (k : Nat) (cycles : Nat) : exec (.beamWaitTimeout k cycles) s = execBeamWaitTimeout k cycles s := rfl
@[simp] theorem exec_beamFinish (k : Nat) (cycles : Nat) : exec (.beamFinish k cycles) s = execBeamFinish k cycles s := rfl
@[simp] theorem exec_heldSignalMove (k : Nat) : exec (.heldSignalMove k) s = execHeldSignalMove k s := rfl
@[simp] theorem exec_signalSend (k : Nat) : exec (.signalSend k) s = execSignalSend k s := rfl
@[simp] theorem exec_tilePassStart (k : Nat) (e : Nat) (busy : Nat) (waitW : Nat) (scaleBad : Bool) : exec (.tilePassStart k e busy waitW scaleBad) s = execTilePassStart k e busy waitW scaleBad s := rfl
@[simp] theorem exec_passEnd (k : Nat) (e : Nat) (mismatch : Bool) : exec (.passEnd k e mismatch) s = execPassEnd k e mismatch s := rfl
@[simp] theorem exec_checkPoint (k : Nat) (e : Nat) (mismatch : Bool) : exec (.checkPoint k e mismatch) s = execCheckPoint k e mismatch s := rfl
@[simp] theorem exec_drainStart (k : Nat) (e : Nat) (badRow : Option Nat) : exec (.drainStart k e badRow) s = execDrainStart k e badRow s := rfl
@[simp] theorem exec_tileCommit (k : Nat) (e : Nat) : exec (.tileCommit k e) s = execTileCommit k e s := rfl
@[simp] theorem exec_holdStallResume (idx : Nat) (cycles : Nat) : exec (.holdStallResume idx cycles) s = execHoldStallResume idx cycles s := rfl
@[simp] theorem exec_holdTimeout (idx : Nat) (cycles : Nat) : exec (.holdTimeout idx cycles) s = execHoldTimeout idx cycles s := rfl
@[simp] theorem exec_vxePassStreamed (k : Nat) (x : Nat) : exec (.vxePassStreamed k x) s = execVxePassStreamed k x s := rfl
@[simp] theorem exec_chainComplete (k : Nat) (x : Nat) (parity : Bool) : exec (.chainComplete k x parity) s = execChainComplete k x parity s := rfl
@[simp] theorem exec_groupPlace (l : Nat) (k : Nat) (c : Nat) (g : Nat) : exec (.groupPlace l k c g) s = execGroupPlace l k c g s := rfl
@[simp] theorem exec_threadLoad (k : Nat) (c : Nat) (g : Nat) (lane : Nat) : exec (.threadLoad k c g lane) s = execThreadLoad k c g lane s := rfl
@[simp] theorem exec_threadLoadReturn (k : Nat) (c : Nat) (g : Nat) (lane : Nat) (rd : Nat) : exec (.threadLoadReturn k c g lane rd) s = execThreadLoadReturn k c g lane rd s := rfl
@[simp] theorem exec_threadStore (k : Nat) (c : Nat) (g : Nat) (lane : Nat) : exec (.threadStore k c g lane) s = execThreadStore k c g lane s := rfl
@[simp] theorem exec_threadBranch (k : Nat) (c : Nat) (g : Nat) (lane : Nat) : exec (.threadBranch k c g lane) s = execThreadBranch k c g lane s := rfl
@[simp] theorem exec_threadLr (k : Nat) (c : Nat) (g : Nat) (lane : Nat) : exec (.threadLr k c g lane) s = execThreadLr k c g lane s := rfl
@[simp] theorem exec_threadSc (k : Nat) (c : Nat) (g : Nat) (lane : Nat) : exec (.threadSc k c g lane) s = execThreadSc k c g lane s := rfl
@[simp] theorem exec_threadAmo (k : Nat) (c : Nat) (g : Nat) (lane : Nat) (retries : Nat) : exec (.threadAmo k c g lane retries) s = execThreadAmo k c g lane retries s := rfl
@[simp] theorem exec_threadFence (k : Nat) (c : Nat) (g : Nat) (lane : Nat) : exec (.threadFence k c g lane) s = execThreadFence k c g lane s := rfl
@[simp] theorem exec_threadFenceI (k : Nat) (c : Nat) (g : Nat) (lane : Nat) : exec (.threadFenceI k c g lane) s = execThreadFenceI k c g lane s := rfl
@[simp] theorem exec_threadCsrAccess (k : Nat) (c : Nat) (g : Nat) (lane : Nat) (cycle : Nat) : exec (.threadCsrAccess k c g lane cycle) s = execThreadCsrAccess k c g lane cycle s := rfl
@[simp] theorem exec_threadEcall (k : Nat) (c : Nat) (g : Nat) (lane : Nat) : exec (.threadEcall k c g lane) s = execThreadEcall k c g lane s := rfl
@[simp] theorem exec_threadEbreak (k : Nat) (c : Nat) (g : Nat) (lane : Nat) : exec (.threadEbreak k c g lane) s = execThreadEbreak k c g lane s := rfl
@[simp] theorem exec_gconv (k : Nat) (c : Nat) (g : Nat) (lane : Nat) (pack : List Nat) : exec (.gconv k c g lane pack) s = execGconv k c g lane pack s := rfl
@[simp] theorem exec_gconvTimeout (k : Nat) (c : Nat) (g : Nat) (lane : Nat) (pack : List Nat) : exec (.gconvTimeout k c g lane pack) s = execGconvTimeout k c g lane pack s := rfl
@[simp] theorem exec_gbar (k : Nat) (c : Nat) (g : Nat) (lane : Nat) : exec (.gbar k c g lane) s = execGbar k c g lane s := rfl
@[simp] theorem exec_barrierStall (k : Nat) (c : Nat) (g : Nat) (bar : Nat) : exec (.barrierStall k c g bar) s = execBarrierStall k c g bar s := rfl
@[simp] theorem exec_gspin (k : Nat) (c : Nat) (g : Nat) (lane : Nat) : exec (.gspin k c g lane) s = execGspin k c g lane s := rfl
@[simp] theorem exec_gvote (k : Nat) (c : Nat) (g : Nat) (lane : Nat) : exec (.gvote k c g lane) s = execGvote k c g lane s := rfl
@[simp] theorem exec_gshfl (k : Nat) (c : Nat) (g : Nat) (lane : Nat) : exec (.gshfl k c g lane) s = execGshfl k c g lane s := rfl
@[simp] theorem exec_gid (k : Nat) (c : Nat) (g : Nat) (lane : Nat) : exec (.gid k c g lane) s = execGid k c g lane s := rfl
@[simp] theorem exec_gexit (k : Nat) (c : Nat) (g : Nat) (lane : Nat) : exec (.gexit k c g lane) s = execGexit k c g lane s := rfl
@[simp] theorem exec_gfence (k : Nat) (c : Nat) (g : Nat) (lane : Nat) : exec (.gfence k c g lane) s = execGfence k c g lane s := rfl
@[simp] theorem exec_gldaq (k : Nat) (c : Nat) (g : Nat) (lane : Nat) : exec (.gldaq k c g lane) s = execGldaq k c g lane s := rfl
@[simp] theorem exec_gstrl (k : Nat) (c : Nat) (g : Nat) (lane : Nat) : exec (.gstrl k c g lane) s = execGstrl k c g lane s := rfl
@[simp] theorem exec_gsig (k : Nat) (c : Nat) (g : Nat) (lane : Nat) : exec (.gsig k c g lane) s = execGsig k c g lane s := rfl
@[simp] theorem exec_gwait (k : Nat) (c : Nat) (g : Nat) (lane : Nat) : exec (.gwait k c g lane) s = execGwait k c g lane s := rfl
@[simp] theorem exec_gwaitWake (k : Nat) (c : Nat) (g : Nat) (lane : Nat) : exec (.gwaitWake k c g lane) s = execGwaitWake k c g lane s := rfl
@[simp] theorem exec_gwaitTimeout (k : Nat) (c : Nat) (g : Nat) (lane : Nat) : exec (.gwaitTimeout k c g lane) s = execGwaitTimeout k c g lane s := rfl
@[simp] theorem exec_mxissue (k : Nat) (c : Nat) (g : Nat) (lane : Nat) : exec (.mxissue k c g lane) s = execMxissue k c g lane s := rfl
@[simp] theorem exec_vxissue (k : Nat) (c : Nat) (g : Nat) (lane : Nat) : exec (.vxissue k c g lane) s = execVxissue k c g lane s := rfl
@[simp] theorem exec_fmma (k : Nat) (c : Nat) (g : Nat) (lane : Nat) : exec (.fmma k c g lane) s = execFmma k c g lane s := rfl
@[simp] theorem exec_sidePlaneAccess (m : Nat) (idx : Nat) (singles : List Nat) (doubles : List Nat) (waits : Nat) : exec (.sidePlaneAccess m idx singles doubles waits) s = execSidePlaneAccess m idx singles doubles waits s := rfl
@[simp] theorem exec_moveDescStart (k : Nat) (m : Nat) : exec (.moveDescStart k m) s = execMoveDescStart k m s := rfl
@[simp] theorem exec_moveDescComplete (k : Nat) (m : Nat) (idx : Nat) : exec (.moveDescComplete k m idx) s = execMoveDescComplete k m idx s := rfl
@[simp] theorem exec_moveStop (k : Nat) (m : Nat) : exec (.moveStop k m) s = execMoveStop k m s := rfl
@[simp] theorem exec_moveRequestRetry (k : Nat) (m : Nat) : exec (.moveRequestRetry k m) s = execMoveRequestRetry k m s := rfl
@[simp] theorem exec_l2Read (k : Nat) (sl : Nat) (idx : Nat) (corr : Nat) (bad : List Nat) (tagBad : Bool) : exec (.l2Read k sl idx corr bad tagBad) s = execL2Read k sl idx corr bad tagBad s := rfl
@[simp] theorem exec_l2Write (k : Nat) (sl : Nat) (idx : Nat) : exec (.l2Write k sl idx) s = execL2Write k sl idx s := rfl
@[simp] theorem exec_l2MissFill (k : Nat) (sl : Nat) (idx : Nat) : exec (.l2MissFill k sl idx) s = execL2MissFill k sl idx s := rfl
@[simp] theorem exec_l2ReduceWrite (k : Nat) (sl : Nat) (idx : Nat) (cycles : Nat) : exec (.l2ReduceWrite k sl idx cycles) s = execL2ReduceWrite k sl idx cycles s := rfl
@[simp] theorem exec_redStallTimeout (k : Nat) (sl : Nat) (idx : Nat) (cycles : Nat) : exec (.redStallTimeout k sl idx cycles) s = execRedStallTimeout k sl idx cycles s := rfl
@[simp] theorem exec_hostRecallResponse (k : Nat) (sl : Nat) (idx : Nat) (off : Nat) (data : List Byte) (poison : Bool) : exec (.hostRecallResponse k sl idx off data poison) s = execHostRecallResponse k sl idx off data poison s := rfl
@[simp] theorem exec_hostCacheRead (pa : Nat) (own : Bool) (who : Nat) : exec (.hostCacheRead pa own who) s = execHostCacheRead pa own who s := rfl
@[simp] theorem exec_hostWriteback (pa : Nat) (data : List Byte) (poison : Bool) (keep : Bool) : exec (.hostWriteback pa data poison keep) s = execHostWriteback pa data poison keep s := rfl
@[simp] theorem exec_memCtlRead (pa : Nat) (err : List (Nat × Nat)) (ctx : Option Nat) (class0 : Bool) (ode : Nat) : exec (.memCtlRead pa err ctx class0 ode) s = execMemCtlRead pa err ctx class0 ode s := rfl
@[simp] theorem exec_memCtlWrite (pa : Nat) (rmw : Bool) (class0 : Bool) : exec (.memCtlWrite pa rmw class0) s = execMemCtlWrite pa rmw class0 s := rfl
@[simp] theorem exec_markPeriodEnd (k : Nat) (u : Nat) : exec (.markPeriodEnd k u) s = execMarkPeriodEnd k u s := rfl
@[simp] theorem exec_patrolScrub (k : Nat) (u : Nat) (err : List (Nat × Nat)) : exec (.patrolScrub k u err) s = execPatrolScrub k u err s := rfl
@[simp] theorem exec_requestAgeing (k : Nat) (u : Nat) (n : Nat) : exec (.requestAgeing k u n) s = execRequestAgeing k u n s := rfl
@[simp] theorem exec_stackTempRead (k : Nat) (u : Nat) (tempC : Nat) (cycles : Nat) : exec (.stackTempRead k u tempC cycles) s = execStackTempRead k u tempC cycles s := rfl
@[simp] theorem exec_busTempIndication (k : Nat) (u : Nat) (hot : Bool) : exec (.busTempIndication k u hot) s = execBusTempIndication k u hot s := rfl
@[simp] theorem exec_memRefresh (k : Nat) (u : Nat) : exec (.memRefresh k u) s = execMemRefresh k u s := rfl
@[simp] theorem exec_memLinkRetry (k : Nat) (u : Nat) (ch : Nat) : exec (.memLinkRetry k u ch) s = execMemLinkRetry k u ch s := rfl
@[simp] theorem exec_memChannelRetrain (k : Nat) (u : Nat) (ch : Nat) : exec (.memChannelRetrain k u ch) s = execMemChannelRetrain k u ch s := rfl
@[simp] theorem exec_memChannelDown (k : Nat) (u : Nat) (ch : Nat) : exec (.memChannelDown k u ch) s = execMemChannelDown k u ch s := rfl
@[simp] theorem exec_lntDispatch (q : Nat) (n : Nat) : exec (.lntDispatch q n) s = execLntDispatch q n s := rfl
@[simp] theorem exec_lntRequestStart (n : Nat) (corr : Nat) (bad : List Nat) : exec (.lntRequestStart n corr bad) s = execLntRequestStart n corr bad s := rfl
@[simp] theorem exec_lntRecordScan (n : Nat) : exec (.lntRecordScan n) s = execLntRecordScan n s := rfl
@[simp] theorem exec_lntRequestComplete (n : Nat) : exec (.lntRequestComplete n) s = execLntRequestComplete n s := rfl
@[simp] theorem exec_lntMerge (n : Nat) : exec (.lntMerge n) s = execLntMerge n s := rfl
@[simp] theorem exec_xltWalk (k : Nat) (idx : Nat) : exec (.xltWalk k idx) s = execXltWalk k idx s := rfl
@[simp] theorem exec_synObjAdd (idx : Nat) : exec (.synObjAdd idx) s = execSynObjAdd idx s := rfl
@[simp] theorem exec_synObjSet (idx : Nat) : exec (.synObjSet idx) s = execSynObjSet idx s := rfl
@[simp] theorem exec_synObjArrive (idx : Nat) : exec (.synObjArrive idx) s = execSynObjArrive idx s := rfl
@[simp] theorem exec_synWaitQuery (idx : Nat) : exec (.synWaitQuery idx) s = execSynWaitQuery idx s := rfl
@[simp] theorem exec_objWindowLoad (obj : Nat) (off : Nat) (peer : Bool) (who : Nat) : exec (.objWindowLoad obj off peer who) s = execObjWindowLoad obj off peer who s := rfl
@[simp] theorem exec_objWindowAdd (obj : Nat) (v : Word) (peer : Bool) : exec (.objWindowAdd obj v peer) s = execObjWindowAdd obj v peer s := rfl
@[simp] theorem exec_objWindowSet (obj : Nat) (v : Word) (peer : Bool) : exec (.objWindowSet obj v peer) s = execObjWindowSet obj v peer s := rfl
@[simp] theorem exec_objWindowArrive (obj : Nat) (v : Word) (peer : Bool) : exec (.objWindowArrive obj v peer) s = execObjWindowArrive obj v peer s := rfl
@[simp] theorem exec_notifyArm (obj : Nat) (v : Word) (peer : Bool) : exec (.notifyArm obj v peer) s = execNotifyArm obj v peer s := rfl
@[simp] theorem exec_queueEntryTake (q : Nat) : exec (.queueEntryTake q) s = execQueueEntryTake q s := rfl
@[simp] theorem exec_queueEntryStart (q : Nat) : exec (.queueEntryStart q) s = execQueueEntryStart q s := rfl
@[simp] theorem exec_queueEntryWaitTimeout (q : Nat) : exec (.queueEntryWaitTimeout q) s = execQueueEntryWaitTimeout q s := rfl
@[simp] theorem exec_queueEntryComplete (q : Nat) (n : Nat) : exec (.queueEntryComplete q n) s = execQueueEntryComplete q n s := rfl
@[simp] theorem exec_entryHoldMax (q : Nat) : exec (.entryHoldMax q) s = execEntryHoldMax q s := rfl
@[simp] theorem exec_bondFrameReplay (k : Nat) (c : Nat) (times : Nat) : exec (.bondFrameReplay k c times) s = execBondFrameReplay k c times s := rfl
@[simp] theorem exec_bondRetrain (k : Nat) (c : Nat) : exec (.bondRetrain k c) s = execBondRetrain k c s := rfl
@[simp] theorem exec_ucieFlitReplay (l : Nat) (far : Bool) (times : Nat) (recent : Nat) : exec (.ucieFlitReplay l far times recent) s = execUcieFlitReplay l far times recent s := rfl
@[simp] theorem exec_ucieRetrain (l : Nat) : exec (.ucieRetrain l) s = execUcieRetrain l s := rfl
@[simp] theorem exec_interruptDeliver (idx : Nat) : exec (.interruptDeliver idx) s = execInterruptDeliver idx s := rfl
@[simp] theorem exec_siclaimRead (hart : Nat) (who : Nat) : exec (.siclaimRead hart who) s = execSiclaimRead hart who s := rfl
@[simp] theorem exec_pcieInbound (q : Nat) (addr : Nat) (write : Bool) (len : Nat) (data : List Byte) (poison : Bool) : exec (.pcieInbound q addr write len data poison) s = execPcieInbound q addr write len data poison s := rfl
@[simp] theorem exec_pcieOutbound (q : Nat) (off : Nat) (who : Nat) (write : Bool) (len : Nat) (data : List Byte) (done : Option (List Byte)) : exec (.pcieOutbound q off who write len data done) s = execPcieOutbound q off who write len data done s := rfl
@[simp] theorem exec_pcieAer (q : Nat) : exec (.pcieAer q) s = execPcieAer q s := rfl
@[simp] theorem exec_pcieLinkTrain (q : Nat) (speed : Nat) (width : Nat) : exec (.pcieLinkTrain q speed width) s = execPcieLinkTrain q speed width s := rfl
@[simp] theorem exec_portTrain (port : Nat) (lanes : Nat) (ok : Bool) : exec (.portTrain port lanes ok) s = execPortTrain port lanes ok s := rfl
@[simp] theorem exec_portTrainRetry (port : Nat) : exec (.portTrainRetry port) s = execPortTrainRetry port s := rfl
@[simp] theorem exec_portDown (port : Nat) : exec (.portDown port) s = execPortDown port s := rfl
@[simp] theorem exec_linkPacket (port : Nat) (ack : Nat) (credits : List Nat) (peer : Nat) : exec (.linkPacket port ack credits peer) s = execLinkPacket port ack credits peer s := rfl
@[simp] theorem exec_linkReplay (port : Nat) (lseq : Nat) : exec (.linkReplay port lseq) s = execLinkReplay port lseq s := rfl
@[simp] theorem exec_fabPacketForward (port : Nat) (lseq : Nat) (good : Bool) (units : Nat) (pkt : FabPkt) : exec (.fabPacketForward port lseq good units pkt) s = execFabPacketForward port lseq good units pkt s := rfl
@[simp] theorem exec_ethFrameReceive (port : Nat) (dest : Nat) (etherType : Nat) (len : Nat) (fcsOk : Bool) (units : Nat) (pkt : FabPkt) : exec (.ethFrameReceive port dest etherType len fcsOk units pkt) s = execEthFrameReceive port dest etherType len fcsOk units pkt s := rfl
@[simp] theorem exec_pauseFrame (port : Nat) (quanta : Nat) : exec (.pauseFrame port quanta) s = execPauseFrame port quanta s := rfl
@[simp] theorem exec_e2eResendTimeout (ordered : Bool) (idx : Nat) : exec (.e2eResendTimeout ordered idx) s = execE2eResendTimeout ordered idx s := rfl
@[simp] theorem exec_streamIdleFree (sender : Bool) (idx : Nat) : exec (.streamIdleFree sender idx) s = execStreamIdleFree sender idx s := rfl
@[simp] theorem exec_fabWrite (idx : Nat) : exec (.fabWrite idx) s = execFabWrite idx s := rfl
@[simp] theorem exec_fabRead (idx : Nat) : exec (.fabRead idx) s = execFabRead idx s := rfl
@[simp] theorem exec_fabReadRsp (idx : Nat) : exec (.fabReadRsp idx) s = execFabReadRsp idx s := rfl
@[simp] theorem exec_fabAck (idx : Nat) : exec (.fabAck idx) s = execFabAck idx s := rfl
@[simp] theorem exec_fabSignal (idx : Nat) : exec (.fabSignal idx) s = execFabSignal idx s := rfl
@[simp] theorem exec_fabColl (idx : Nat) : exec (.fabColl idx) s = execFabColl idx s := rfl
@[simp] theorem exec_fabCollRes (idx : Nat) : exec (.fabCollRes idx) s = execFabCollRes idx s := rfl
@[simp] theorem exec_flarePreparePkt (idx : Nat) : exec (.flarePreparePkt idx) s = execFlarePreparePkt idx s := rfl
@[simp] theorem exec_flareAckPkt (idx : Nat) : exec (.flareAckPkt idx) s = execFlareAckPkt idx s := rfl
@[simp] theorem exec_flareHeldPkt (idx : Nat) : exec (.flareHeldPkt idx) s = execFlareHeldPkt idx s := rfl
@[simp] theorem exec_flareCommitPkt (idx : Nat) : exec (.flareCommitPkt idx) s = execFlareCommitPkt idx s := rfl
@[simp] theorem exec_flareCommitAckPkt (idx : Nat) : exec (.flareCommitAckPkt idx) s = execFlareCommitAckPkt idx s := rfl
@[simp] theorem exec_flareAbortPkt (idx : Nat) : exec (.flareAbortPkt idx) s = execFlareAbortPkt idx s := rfl
@[simp] theorem exec_flareDeadline (id : Nat) (child : Nat) : exec (.flareDeadline id child) s = execFlareDeadline id child s := rfl
@[simp] theorem exec_joinTimeout : exec (.joinTimeout) s = execJoinTimeout s := rfl
@[simp] theorem exec_mgmtCommandPkt (idx : Nat) : exec (.mgmtCommandPkt idx) s = execMgmtCommandPkt idx s := rfl
@[simp] theorem exec_mgmtReplyPkt (idx : Nat) : exec (.mgmtReplyPkt idx) s = execMgmtReplyPkt idx s := rfl
@[simp] theorem exec_mgmtHealthPkt (idx : Nat) : exec (.mgmtHealthPkt idx) s = execMgmtHealthPkt idx s := rfl
@[simp] theorem exec_mgmtAttachPkt (idx : Nat) : exec (.mgmtAttachPkt idx) s = execMgmtAttachPkt idx s := rfl
@[simp] theorem exec_mgmtDetachPkt (idx : Nat) : exec (.mgmtDetachPkt idx) s = execMgmtDetachPkt idx s := rfl
@[simp] theorem exec_mgmtAggPkt (idx : Nat) : exec (.mgmtAggPkt idx) s = execMgmtAggPkt idx s := rfl
@[simp] theorem exec_healthPeriod : exec (.healthPeriod) s = execHealthPeriod s := rfl
@[simp] theorem exec_aggPeriod : exec (.aggPeriod) s = execAggPeriod s := rfl
@[simp] theorem exec_collStepStart (n : Nat) : exec (.collStepStart n) s = execCollStepStart n s := rfl
@[simp] theorem exec_collStepComplete (n : Nat) : exec (.collStepComplete n) s = execCollStepComplete n s := rfl
@[simp] theorem exec_collStepTimeout (n : Nat) : exec (.collStepTimeout n) s = execCollStepTimeout n s := rfl
@[simp] theorem exec_opRecoveryBound (idx : Nat) : exec (.opRecoveryBound idx) s = execOpRecoveryBound idx s := rfl
@[simp] theorem exec_ctxRecoveryBound (ctx : Nat) (towers : List Nat) : exec (.ctxRecoveryBound ctx towers) s = execCtxRecoveryBound ctx towers s := rfl
@[simp] theorem exec_deviceRecoveryRepair (ok : Bool) : exec (.deviceRecoveryRepair ok) s = execDeviceRecoveryRepair ok s := rfl
@[simp] theorem exec_deviceQuiesceBound : exec (.deviceQuiesceBound) s = execDeviceQuiesceBound s := rfl
@[simp] theorem exec_ccWatchdog : exec (.ccWatchdog) s = execCcWatchdog s := rfl
@[simp] theorem exec_powerWindowEnd (mainUj : Nat) (bkpUj : Nat) (acts : List Activity) (staticUj : Nat) : exec (.powerWindowEnd mainUj bkpUj acts staticUj) s = execPowerWindowEnd mainUj bkpUj acts staticUj s := rfl
@[simp] theorem exec_levelStep (m : PowerSample) : exec (.levelStep m) s = execLevelStep m s := rfl
@[simp] theorem exec_thermalLevelStep (k : Nat) (hotC : Nat) : exec (.thermalLevelStep k hotC) s = execThermalLevelStep k hotC s := rfl
@[simp] theorem exec_mainLossConfirm (mv : Nat) : exec (.mainLossConfirm mv) s = execMainLossConfirm mv s := rfl
@[simp] theorem exec_backupConduct : exec (.backupConduct) s = execBackupConduct s := rfl
@[simp] theorem exec_eclipseBegin (startMv : Nat) (minMv : Nat) : exec (.eclipseBegin startMv minMv) s = execEclipseBegin startMv minMv s := rfl
@[simp] theorem exec_safePointsReached : exec (.safePointsReached) s = execSafePointsReached s := rfl
@[simp] theorem exec_eclipseHold : exec (.eclipseHold) s = execEclipseHold s := rfl
@[simp] theorem exec_eclipseReturn : exec (.eclipseReturn) s = execEclipseReturn s := rfl
@[simp] theorem exec_returnComplete : exec (.returnComplete) s = execReturnComplete s := rfl
@[simp] theorem exec_monitorSample (n : Nat) (ps : Nat) : exec (.monitorSample n ps) s = execMonitorSample n ps s := rfl
@[simp] theorem exec_poweredHour : exec (.poweredHour) s = execPoweredHour s := rfl
@[simp] theorem exec_replanDue : exec (.replanDue) s = execReplanDue s := rfl
@[simp] theorem exec_fenceTakesEffect (k : Nat) (kind : Nat) (idx : Nat) : exec (.fenceTakesEffect k kind idx) s = execFenceTakesEffect k kind idx s := rfl
@[simp] theorem exec_ctlAlertClear (mask : Nat) : exec (.ctlAlertClear mask) s = execCtlAlertClear mask s := rfl
@[simp] theorem exec_i3cDynamicAddress (addr : Nat) : exec (.i3cDynamicAddress addr) s = execI3cDynamicAddress addr s := rfl
@[simp] theorem exec_mctpSetEndpointId (eid : Nat) : exec (.mctpSetEndpointId eid) s = execMctpSetEndpointId eid s := rfl
@[simp] theorem exec_mctpGetEndpointId : exec (.mctpGetEndpointId) s = execMctpGetEndpointId s := rfl
@[simp] theorem exec_mctpGetEndpointUuid : exec (.mctpGetEndpointUuid) s = execMctpGetEndpointUuid s := rfl
@[simp] theorem exec_mctpGetVersionSupport (typ : Nat) : exec (.mctpGetVersionSupport typ) s = execMctpGetVersionSupport typ s := rfl
@[simp] theorem exec_mctpGetMsgTypeSupport : exec (.mctpGetMsgTypeSupport) s = execMctpGetMsgTypeSupport s := rfl
@[simp] theorem exec_mctpGetVendorMsgSupport : exec (.mctpGetVendorMsgSupport) s = execMctpGetVendorMsgSupport s := rfl
@[simp] theorem exec_vendorMessage (channel : Nat) (packet : List Byte) : exec (.vendorMessage channel packet) s = execVendorMessage channel packet s := rfl
@[simp] theorem exec_pldmGetPdrRepoInfo : exec (.pldmGetPdrRepoInfo) s = execPldmGetPdrRepoInfo s := rfl
@[simp] theorem exec_pldmGetPdr (n : Nat) : exec (.pldmGetPdr n) s = execPldmGetPdr n s := rfl
@[simp] theorem exec_pldmGetSensorReading (n : Nat) : exec (.pldmGetSensorReading n) s = execPldmGetSensorReading n s := rfl
@[simp] theorem exec_pldmGetStateSensorReadings (n : Nat) : exec (.pldmGetStateSensorReadings n) s = execPldmGetStateSensorReadings n s := rfl
@[simp] theorem exec_pldmSetEventReceiver (on : Bool) : exec (.pldmSetEventReceiver on) s = execPldmSetEventReceiver on s := rfl
@[simp] theorem exec_pldmRequestUpdate : exec (.pldmRequestUpdate) s = execPldmRequestUpdate s := rfl
@[simp] theorem exec_pldmUpdateComponent (typ : Nat) (image : BootImage) : exec (.pldmUpdateComponent typ image) s = execPldmUpdateComponent typ image s := rfl
@[simp] theorem exec_pldmVerifyComplete (typ : Nat) : exec (.pldmVerifyComplete typ) s = execPldmVerifyComplete typ s := rfl
@[simp] theorem exec_pldmActivateFirmware : exec (.pldmActivateFirmware) s = execPldmActivateFirmware s := rfl
@[simp] theorem exec_spdmGetVersion : exec (.spdmGetVersion) s = execSpdmGetVersion s := rfl
@[simp] theorem exec_spdmGetCapabilities : exec (.spdmGetCapabilities) s = execSpdmGetCapabilities s := rfl
@[simp] theorem exec_spdmNegotiateAlgorithms (asym : Nat) (hash : Nat) : exec (.spdmNegotiateAlgorithms asym hash) s = execSpdmNegotiateAlgorithms asym hash s := rfl
@[simp] theorem exec_spdmGetDigests : exec (.spdmGetDigests) s = execSpdmGetDigests s := rfl
@[simp] theorem exec_spdmGetCertificate (slot : Nat) (off : Nat) (len : Nat) : exec (.spdmGetCertificate slot off len) s = execSpdmGetCertificate slot off len s := rfl
@[simp] theorem exec_spdmChallenge (slot : Nat) (nonce : List Byte) : exec (.spdmChallenge slot nonce) s = execSpdmChallenge slot nonce s := rfl
@[simp] theorem exec_spdmGetMeasurements (index : Nat) (sign : Bool) (nonce : List Byte) : exec (.spdmGetMeasurements index sign nonce) s = execSpdmGetMeasurements index sign nonce s := rfl
@[simp] theorem exec_spdmUnsupportedRequest (code : Nat) : exec (.spdmUnsupportedRequest code) s = execSpdmUnsupportedRequest code s := rfl
@[simp] theorem exec_tapReset : exec (.tapReset) s = execTapReset s := rfl
@[simp] theorem exec_tapExtest (cells : Nat) (pins : Nat) : exec (.tapExtest cells pins) s = execTapExtest cells pins s := rfl
@[simp] theorem exec_tapIdcode : exec (.tapIdcode) s = execTapIdcode s := rfl
@[simp] theorem exec_tapSamplePreload (cells : Nat) (pins : Nat) : exec (.tapSamplePreload cells pins) s = execTapSamplePreload cells pins s := rfl
@[simp] theorem exec_tapClamp : exec (.tapClamp) s = execTapClamp s := rfl
@[simp] theorem exec_tapHighz : exec (.tapHighz) s = execTapHighz s := rfl
@[simp] theorem exec_tapDebugAccess (write : Bool) (addr : Nat) (value : Word) : exec (.tapDebugAccess write addr value) s = execTapDebugAccess write addr value s := rfl
@[simp] theorem exec_tapBypass (op : Nat) : exec (.tapBypass op) s = execTapBypass op s := rfl
@[simp] theorem exec_softStartAbort (inp : SupplyInput) (mv : Nat) : exec (.softStartAbort inp mv) s = execSoftStartAbort inp mv s := rfl
@[simp] theorem exec_inputWindowRestart (inp : SupplyInput) (mv : Nat) : exec (.inputWindowRestart inp mv) s = execInputWindowRestart inp mv s := rfl
@[simp] theorem exec_refOkChange (ok : Bool) : exec (.refOkChange ok) s = execRefOkChange ok s := rfl
@[simp] theorem exec_brakeReleaseTimerRestart : exec (.brakeReleaseTimerRestart) s = execBrakeReleaseTimerRestart s := rfl
@[simp] theorem exec_secureBootComplete : exec (.secureBootComplete) s = execSecureBootComplete s := rfl
@[simp] theorem exec_threadAluFp (k : Nat) (c : Nat) (g : Nat) (lane : Nat) : exec (.threadAluFp k c g lane) s = execThreadAluFp k c g lane s := rfl
@[simp] theorem exec_packetLifeExpired (port : Nat) (idx : Nat) : exec (.packetLifeExpired port idx) s = execPacketLifeExpired port idx s := rfl
@[simp] theorem exec_pcieCompletionTimeout (idx : Nat) : exec (.pcieCompletionTimeout idx) s = execPcieCompletionTimeout idx s := rfl
@[simp] theorem exec_beamLoadComplete (k : Nat) : exec (.beamLoadComplete k) s = execBeamLoadComplete k s := rfl
@[simp] theorem exec_tagRemoveWalkDone (slot : Nat) : exec (.tagRemoveWalkDone slot) s = execTagRemoveWalkDone slot s := rfl
@[simp] theorem exec_routeWriteDone (ch : Nat) : exec (.routeWriteDone ch) s = execRouteWriteDone ch s := rfl
@[simp] theorem exec_l2UnpinComplete (k : Nat) : exec (.l2UnpinComplete k) s = execL2UnpinComplete k s := rfl
@[simp] theorem exec_lntProgramLoadDone (n : Nat) (slot : Nat) : exec (.lntProgramLoadDone n slot) s = execLntProgramLoadDone n slot s := rfl
@[simp] theorem exec_replanComplete : exec (.replanComplete) s = execReplanComplete s := rfl
@[simp] theorem exec_fenceRecordDurable (idx : Nat) : exec (.fenceRecordDurable idx) s = execFenceRecordDurable idx s := rfl
@[simp] theorem exec_bondRetrainDone (k : Nat) (c : Nat) (failing : Nat) (pads : Nat) : exec (.bondRetrainDone k c failing pads) s = execBondRetrainDone k c failing pads s := rfl
@[simp] theorem exec_ucieRetrainDone (l : Nat) (up : Nat) (half : Nat) (spares : Nat) : exec (.ucieRetrainDone l up half spares) s = execUcieRetrainDone l up half spares s := rfl

end Sys2Proof.Machine
end

