-- ==== Sys2Proof/Laws/Fields.lean ====
section
/-! SUPPORT. Reading a register field after writing one (R7). -/

namespace Sys2Proof.Machine

/-- A field read, bit by bit. -/
theorem Fld.get_testBit (f : Fld) (v : Word) (i : Nat) : (f.get v).testBit i = (decide (i < f.w) && v.getLsbD (f.lo + i)) := by
  simp [Fld.get, bitsOf, Nat.testBit_mod_two_pow, Nat.testBit_shiftRight, BitVec.getLsbD, Nat.add_comm]

/-- A field replaced, bit by bit. -/
theorem Fld.set_getLsbD (f : Fld) (v : Word) (x i : Nat) : (f.set v x).getLsbD i =
    (decide (i < 64) && if f.lo ≤ i ∧ i < f.lo + f.w then x.testBit (i - f.lo) else v.getLsbD i) := by
  simp only [Fld.set, BitVec.getLsbD_or, BitVec.getLsbD_and, BitVec.getLsbD_not, BitVec.getLsbD_shiftLeft, BitVec.getLsbD_ofNat,
    Nat.testBit_two_pow_sub_one, Nat.testBit_mod_two_pow]
  by_cases h : i < 64
  · have e : i - f.lo < 64 := by omega
    by_cases a : f.lo ≤ i
    · have a' : ¬ i < f.lo := by omega
      by_cases b : i < f.lo + f.w
      · have c : i - f.lo < f.w := by omega
        simp [h, a, a', b, c, e]
      · have c : ¬ i - f.lo < f.w := by omega
        simp [h, a', b, c]
    · have a' : i < f.lo := by omega
      simp [h, a, a']
  · simp [h, BitVec.getLsbD_of_ge v i (by omega)]

/-- A field reads back what was put into it, cut to its width. -/
theorem Fld.get_set (f : Fld) (v : Word) (x : Nat) (h : f.lo + f.w ≤ 64) : f.get (f.set v x) = x % 2 ^ f.w := by
  apply Nat.eq_of_testBit_eq
  intro i
  rw [Fld.get_testBit, Fld.set_getLsbD, Nat.testBit_mod_two_pow]
  by_cases hi : i < f.w
  · have : f.lo + i < 64 := by omega
    simp [hi, this]
  · simp [hi]

/-- Putting a value into one field leaves a field apart from it unchanged. -/
theorem Fld.get_set_other (f g : Fld) (v : Word) (x : Nat) (h : f.lo + f.w ≤ g.lo ∨ g.lo + g.w ≤ f.lo) :
    f.get (g.set v x) = f.get v := by
  apply Nat.eq_of_testBit_eq
  intro i
  rw [Fld.get_testBit, Fld.get_testBit, Fld.set_getLsbD]
  by_cases hi : i < f.w
  · have : ¬ (g.lo ≤ f.lo + i ∧ f.lo + i < g.lo + g.w) := by omega
    simp only [if_neg this]
    by_cases h64 : f.lo + i < 64
    · simp [h64]
    · simp [BitVec.getLsbD_of_ge v (f.lo + i) (by omega)]
  · simp [hi]

end Sys2Proof.Machine
end

