-- ==== Sys2Proof/Laws/State.lean ====
section
/-! SUPPORT. What each elementary update of State leaves alone, one equation a field: no later proof unfolds a record update. -/

namespace Sys2Proof.Machine

variable (s : State)

/-! wr -/

@[simp] theorem State.wr_part (a : Nat) (v : Word) : (s.wr a v).part = s.part := rfl
@[simp] theorem State.wr_mem (a : Nat) (v : Word) : (s.wr a v).mem = s.mem := rfl
@[simp] theorem State.wr_poison (a : Nat) (v : Word) : (s.wr a v).poison = s.poison := rfl
@[simp] theorem State.wr_undef (a : Nat) (v : Word) : (s.wr a v).undef = s.undef := rfl
@[simp] theorem State.wr_board (a : Nat) (v : Word) : (s.wr a v).board = s.board := rfl
@[simp] theorem State.wr_ctl (a : Nat) (v : Word) : (s.wr a v).ctl = s.ctl := rfl
@[simp] theorem State.wr_err (a : Nat) (v : Word) : (s.wr a v).err = s.err := rfl
@[simp] theorem State.wr_mg (a : Nat) (v : Word) : (s.wr a v).mg = s.mg := rfl
@[simp] theorem State.wr_comp (a : Nat) (v : Word) : (s.wr a v).comp = s.comp := rfl
@[simp] theorem State.wr_syn (a : Nat) (v : Word) : (s.wr a v).syn = s.syn := rfl
@[simp] theorem State.wr_xlt (a : Nat) (v : Word) : (s.wr a v).xlt = s.xlt := rfl
@[simp] theorem State.wr_l2 (a : Nat) (v : Word) : (s.wr a v).l2 = s.l2 := rfl
@[simp] theorem State.wr_memc (a : Nat) (v : Word) : (s.wr a v).memc = s.memc := rfl
@[simp] theorem State.wr_lnt (a : Nat) (v : Word) : (s.wr a v).lnt = s.lnt := rfl
@[simp] theorem State.wr_fab (a : Nat) (v : Word) : (s.wr a v).fab = s.fab := rfl
@[simp] theorem State.wr_lnk (a : Nat) (v : Word) : (s.wr a v).lnk = s.lnk := rfl
@[simp] theorem State.wr_pwr (a : Nat) (v : Word) : (s.wr a v).pwr = s.pwr := rfl
@[simp] theorem State.wr_age (a : Nat) (v : Word) : (s.wr a v).age = s.age := rfl
@[simp] theorem State.wr_resv (a : Nat) (v : Word) : (s.wr a v).resv = s.resv := rfl
@[simp] theorem State.wr_now (a : Nat) (v : Word) : (s.wr a v).now = s.now := rfl
@[simp] theorem State.wr_freeCtr (a : Nat) (v : Word) : (s.wr a v).freeCtr = s.freeCtr := rfl
@[simp] theorem State.wr_pending (a : Nat) (v : Word) : (s.wr a v).pending = s.pending := rfl

/-! setFld -/

@[simp] theorem State.setFld_part (a : Nat) (f : Fld) (n : Nat) : (s.setFld a f n).part = s.part := rfl
@[simp] theorem State.setFld_mem (a : Nat) (f : Fld) (n : Nat) : (s.setFld a f n).mem = s.mem := rfl
@[simp] theorem State.setFld_poison (a : Nat) (f : Fld) (n : Nat) : (s.setFld a f n).poison = s.poison := rfl
@[simp] theorem State.setFld_undef (a : Nat) (f : Fld) (n : Nat) : (s.setFld a f n).undef = s.undef := rfl
@[simp] theorem State.setFld_board (a : Nat) (f : Fld) (n : Nat) : (s.setFld a f n).board = s.board := rfl
@[simp] theorem State.setFld_ctl (a : Nat) (f : Fld) (n : Nat) : (s.setFld a f n).ctl = s.ctl := rfl
@[simp] theorem State.setFld_err (a : Nat) (f : Fld) (n : Nat) : (s.setFld a f n).err = s.err := rfl
@[simp] theorem State.setFld_mg (a : Nat) (f : Fld) (n : Nat) : (s.setFld a f n).mg = s.mg := rfl
@[simp] theorem State.setFld_comp (a : Nat) (f : Fld) (n : Nat) : (s.setFld a f n).comp = s.comp := rfl
@[simp] theorem State.setFld_syn (a : Nat) (f : Fld) (n : Nat) : (s.setFld a f n).syn = s.syn := rfl
@[simp] theorem State.setFld_xlt (a : Nat) (f : Fld) (n : Nat) : (s.setFld a f n).xlt = s.xlt := rfl
@[simp] theorem State.setFld_l2 (a : Nat) (f : Fld) (n : Nat) : (s.setFld a f n).l2 = s.l2 := rfl
@[simp] theorem State.setFld_memc (a : Nat) (f : Fld) (n : Nat) : (s.setFld a f n).memc = s.memc := rfl
@[simp] theorem State.setFld_lnt (a : Nat) (f : Fld) (n : Nat) : (s.setFld a f n).lnt = s.lnt := rfl
@[simp] theorem State.setFld_fab (a : Nat) (f : Fld) (n : Nat) : (s.setFld a f n).fab = s.fab := rfl
@[simp] theorem State.setFld_lnk (a : Nat) (f : Fld) (n : Nat) : (s.setFld a f n).lnk = s.lnk := rfl
@[simp] theorem State.setFld_pwr (a : Nat) (f : Fld) (n : Nat) : (s.setFld a f n).pwr = s.pwr := rfl
@[simp] theorem State.setFld_age (a : Nat) (f : Fld) (n : Nat) : (s.setFld a f n).age = s.age := rfl
@[simp] theorem State.setFld_resv (a : Nat) (f : Fld) (n : Nat) : (s.setFld a f n).resv = s.resv := rfl
@[simp] theorem State.setFld_now (a : Nat) (f : Fld) (n : Nat) : (s.setFld a f n).now = s.now := rfl
@[simp] theorem State.setFld_freeCtr (a : Nat) (f : Fld) (n : Nat) : (s.setFld a f n).freeCtr = s.freeCtr := rfl
@[simp] theorem State.setFld_pending (a : Nat) (f : Fld) (n : Nat) : (s.setFld a f n).pending = s.pending := rfl

/-! setFlds -/

@[simp] theorem State.setFlds_part (a : Nat) (l : List (Fld × Nat)) : (s.setFlds a l).part = s.part := rfl
@[simp] theorem State.setFlds_mem (a : Nat) (l : List (Fld × Nat)) : (s.setFlds a l).mem = s.mem := rfl
@[simp] theorem State.setFlds_poison (a : Nat) (l : List (Fld × Nat)) : (s.setFlds a l).poison = s.poison := rfl
@[simp] theorem State.setFlds_undef (a : Nat) (l : List (Fld × Nat)) : (s.setFlds a l).undef = s.undef := rfl
@[simp] theorem State.setFlds_board (a : Nat) (l : List (Fld × Nat)) : (s.setFlds a l).board = s.board := rfl
@[simp] theorem State.setFlds_ctl (a : Nat) (l : List (Fld × Nat)) : (s.setFlds a l).ctl = s.ctl := rfl
@[simp] theorem State.setFlds_err (a : Nat) (l : List (Fld × Nat)) : (s.setFlds a l).err = s.err := rfl
@[simp] theorem State.setFlds_mg (a : Nat) (l : List (Fld × Nat)) : (s.setFlds a l).mg = s.mg := rfl
@[simp] theorem State.setFlds_comp (a : Nat) (l : List (Fld × Nat)) : (s.setFlds a l).comp = s.comp := rfl
@[simp] theorem State.setFlds_syn (a : Nat) (l : List (Fld × Nat)) : (s.setFlds a l).syn = s.syn := rfl
@[simp] theorem State.setFlds_xlt (a : Nat) (l : List (Fld × Nat)) : (s.setFlds a l).xlt = s.xlt := rfl
@[simp] theorem State.setFlds_l2 (a : Nat) (l : List (Fld × Nat)) : (s.setFlds a l).l2 = s.l2 := rfl
@[simp] theorem State.setFlds_memc (a : Nat) (l : List (Fld × Nat)) : (s.setFlds a l).memc = s.memc := rfl
@[simp] theorem State.setFlds_lnt (a : Nat) (l : List (Fld × Nat)) : (s.setFlds a l).lnt = s.lnt := rfl
@[simp] theorem State.setFlds_fab (a : Nat) (l : List (Fld × Nat)) : (s.setFlds a l).fab = s.fab := rfl
@[simp] theorem State.setFlds_lnk (a : Nat) (l : List (Fld × Nat)) : (s.setFlds a l).lnk = s.lnk := rfl
@[simp] theorem State.setFlds_pwr (a : Nat) (l : List (Fld × Nat)) : (s.setFlds a l).pwr = s.pwr := rfl
@[simp] theorem State.setFlds_age (a : Nat) (l : List (Fld × Nat)) : (s.setFlds a l).age = s.age := rfl
@[simp] theorem State.setFlds_resv (a : Nat) (l : List (Fld × Nat)) : (s.setFlds a l).resv = s.resv := rfl
@[simp] theorem State.setFlds_now (a : Nat) (l : List (Fld × Nat)) : (s.setFlds a l).now = s.now := rfl
@[simp] theorem State.setFlds_freeCtr (a : Nat) (l : List (Fld × Nat)) : (s.setFlds a l).freeCtr = s.freeCtr := rfl
@[simp] theorem State.setFlds_pending (a : Nat) (l : List (Fld × Nat)) : (s.setFlds a l).pending = s.pending := rfl

/-! setFlag -/

@[simp] theorem State.setFlag_part (a : Nat) (f : Fld) (b : Bool) : (s.setFlag a f b).part = s.part := rfl
@[simp] theorem State.setFlag_mem (a : Nat) (f : Fld) (b : Bool) : (s.setFlag a f b).mem = s.mem := rfl
@[simp] theorem State.setFlag_poison (a : Nat) (f : Fld) (b : Bool) : (s.setFlag a f b).poison = s.poison := rfl
@[simp] theorem State.setFlag_undef (a : Nat) (f : Fld) (b : Bool) : (s.setFlag a f b).undef = s.undef := rfl
@[simp] theorem State.setFlag_board (a : Nat) (f : Fld) (b : Bool) : (s.setFlag a f b).board = s.board := rfl
@[simp] theorem State.setFlag_ctl (a : Nat) (f : Fld) (b : Bool) : (s.setFlag a f b).ctl = s.ctl := rfl
@[simp] theorem State.setFlag_err (a : Nat) (f : Fld) (b : Bool) : (s.setFlag a f b).err = s.err := rfl
@[simp] theorem State.setFlag_mg (a : Nat) (f : Fld) (b : Bool) : (s.setFlag a f b).mg = s.mg := rfl
@[simp] theorem State.setFlag_comp (a : Nat) (f : Fld) (b : Bool) : (s.setFlag a f b).comp = s.comp := rfl
@[simp] theorem State.setFlag_syn (a : Nat) (f : Fld) (b : Bool) : (s.setFlag a f b).syn = s.syn := rfl
@[simp] theorem State.setFlag_xlt (a : Nat) (f : Fld) (b : Bool) : (s.setFlag a f b).xlt = s.xlt := rfl
@[simp] theorem State.setFlag_l2 (a : Nat) (f : Fld) (b : Bool) : (s.setFlag a f b).l2 = s.l2 := rfl
@[simp] theorem State.setFlag_memc (a : Nat) (f : Fld) (b : Bool) : (s.setFlag a f b).memc = s.memc := rfl
@[simp] theorem State.setFlag_lnt (a : Nat) (f : Fld) (b : Bool) : (s.setFlag a f b).lnt = s.lnt := rfl
@[simp] theorem State.setFlag_fab (a : Nat) (f : Fld) (b : Bool) : (s.setFlag a f b).fab = s.fab := rfl
@[simp] theorem State.setFlag_lnk (a : Nat) (f : Fld) (b : Bool) : (s.setFlag a f b).lnk = s.lnk := rfl
@[simp] theorem State.setFlag_pwr (a : Nat) (f : Fld) (b : Bool) : (s.setFlag a f b).pwr = s.pwr := rfl
@[simp] theorem State.setFlag_age (a : Nat) (f : Fld) (b : Bool) : (s.setFlag a f b).age = s.age := rfl
@[simp] theorem State.setFlag_resv (a : Nat) (f : Fld) (b : Bool) : (s.setFlag a f b).resv = s.resv := rfl
@[simp] theorem State.setFlag_now (a : Nat) (f : Fld) (b : Bool) : (s.setFlag a f b).now = s.now := rfl
@[simp] theorem State.setFlag_freeCtr (a : Nat) (f : Fld) (b : Bool) : (s.setFlag a f b).freeCtr = s.freeCtr := rfl
@[simp] theorem State.setFlag_pending (a : Nat) (f : Fld) (b : Bool) : (s.setFlag a f b).pending = s.pending := rfl

/-! bump -/

@[simp] theorem State.bump_part (a n : Nat) : (s.bump a n).part = s.part := rfl
@[simp] theorem State.bump_mem (a n : Nat) : (s.bump a n).mem = s.mem := rfl
@[simp] theorem State.bump_poison (a n : Nat) : (s.bump a n).poison = s.poison := rfl
@[simp] theorem State.bump_undef (a n : Nat) : (s.bump a n).undef = s.undef := rfl
@[simp] theorem State.bump_board (a n : Nat) : (s.bump a n).board = s.board := rfl
@[simp] theorem State.bump_ctl (a n : Nat) : (s.bump a n).ctl = s.ctl := rfl
@[simp] theorem State.bump_err (a n : Nat) : (s.bump a n).err = s.err := rfl
@[simp] theorem State.bump_mg (a n : Nat) : (s.bump a n).mg = s.mg := rfl
@[simp] theorem State.bump_comp (a n : Nat) : (s.bump a n).comp = s.comp := rfl
@[simp] theorem State.bump_syn (a n : Nat) : (s.bump a n).syn = s.syn := rfl
@[simp] theorem State.bump_xlt (a n : Nat) : (s.bump a n).xlt = s.xlt := rfl
@[simp] theorem State.bump_l2 (a n : Nat) : (s.bump a n).l2 = s.l2 := rfl
@[simp] theorem State.bump_memc (a n : Nat) : (s.bump a n).memc = s.memc := rfl
@[simp] theorem State.bump_lnt (a n : Nat) : (s.bump a n).lnt = s.lnt := rfl
@[simp] theorem State.bump_fab (a n : Nat) : (s.bump a n).fab = s.fab := rfl
@[simp] theorem State.bump_lnk (a n : Nat) : (s.bump a n).lnk = s.lnk := rfl
@[simp] theorem State.bump_pwr (a n : Nat) : (s.bump a n).pwr = s.pwr := rfl
@[simp] theorem State.bump_age (a n : Nat) : (s.bump a n).age = s.age := rfl
@[simp] theorem State.bump_resv (a n : Nat) : (s.bump a n).resv = s.resv := rfl
@[simp] theorem State.bump_now (a n : Nat) : (s.bump a n).now = s.now := rfl
@[simp] theorem State.bump_freeCtr (a n : Nat) : (s.bump a n).freeCtr = s.freeCtr := rfl
@[simp] theorem State.bump_pending (a n : Nat) : (s.bump a n).pending = s.pending := rfl

/-! bumpFld -/

@[simp] theorem State.bumpFld_part (a : Nat) (f : Fld) (n : Nat) : (s.bumpFld a f n).part = s.part := rfl
@[simp] theorem State.bumpFld_mem (a : Nat) (f : Fld) (n : Nat) : (s.bumpFld a f n).mem = s.mem := rfl
@[simp] theorem State.bumpFld_poison (a : Nat) (f : Fld) (n : Nat) : (s.bumpFld a f n).poison = s.poison := rfl
@[simp] theorem State.bumpFld_undef (a : Nat) (f : Fld) (n : Nat) : (s.bumpFld a f n).undef = s.undef := rfl
@[simp] theorem State.bumpFld_board (a : Nat) (f : Fld) (n : Nat) : (s.bumpFld a f n).board = s.board := rfl
@[simp] theorem State.bumpFld_ctl (a : Nat) (f : Fld) (n : Nat) : (s.bumpFld a f n).ctl = s.ctl := rfl
@[simp] theorem State.bumpFld_err (a : Nat) (f : Fld) (n : Nat) : (s.bumpFld a f n).err = s.err := rfl
@[simp] theorem State.bumpFld_mg (a : Nat) (f : Fld) (n : Nat) : (s.bumpFld a f n).mg = s.mg := rfl
@[simp] theorem State.bumpFld_comp (a : Nat) (f : Fld) (n : Nat) : (s.bumpFld a f n).comp = s.comp := rfl
@[simp] theorem State.bumpFld_syn (a : Nat) (f : Fld) (n : Nat) : (s.bumpFld a f n).syn = s.syn := rfl
@[simp] theorem State.bumpFld_xlt (a : Nat) (f : Fld) (n : Nat) : (s.bumpFld a f n).xlt = s.xlt := rfl
@[simp] theorem State.bumpFld_l2 (a : Nat) (f : Fld) (n : Nat) : (s.bumpFld a f n).l2 = s.l2 := rfl
@[simp] theorem State.bumpFld_memc (a : Nat) (f : Fld) (n : Nat) : (s.bumpFld a f n).memc = s.memc := rfl
@[simp] theorem State.bumpFld_lnt (a : Nat) (f : Fld) (n : Nat) : (s.bumpFld a f n).lnt = s.lnt := rfl
@[simp] theorem State.bumpFld_fab (a : Nat) (f : Fld) (n : Nat) : (s.bumpFld a f n).fab = s.fab := rfl
@[simp] theorem State.bumpFld_lnk (a : Nat) (f : Fld) (n : Nat) : (s.bumpFld a f n).lnk = s.lnk := rfl
@[simp] theorem State.bumpFld_pwr (a : Nat) (f : Fld) (n : Nat) : (s.bumpFld a f n).pwr = s.pwr := rfl
@[simp] theorem State.bumpFld_age (a : Nat) (f : Fld) (n : Nat) : (s.bumpFld a f n).age = s.age := rfl
@[simp] theorem State.bumpFld_resv (a : Nat) (f : Fld) (n : Nat) : (s.bumpFld a f n).resv = s.resv := rfl
@[simp] theorem State.bumpFld_now (a : Nat) (f : Fld) (n : Nat) : (s.bumpFld a f n).now = s.now := rfl
@[simp] theorem State.bumpFld_freeCtr (a : Nat) (f : Fld) (n : Nat) : (s.bumpFld a f n).freeCtr = s.freeCtr := rfl
@[simp] theorem State.bumpFld_pending (a : Nat) (f : Fld) (n : Nat) : (s.bumpFld a f n).pending = s.pending := rfl

/-! wrByte -/

@[simp] theorem State.wrByte_part (pa : Nat) (b : Byte) : (s.wrByte pa b).part = s.part := rfl
@[simp] theorem State.wrByte_regs (pa : Nat) (b : Byte) : (s.wrByte pa b).regs = s.regs := rfl
@[simp] theorem State.wrByte_poison (pa : Nat) (b : Byte) : (s.wrByte pa b).poison = s.poison := rfl
@[simp] theorem State.wrByte_undef (pa : Nat) (b : Byte) : (s.wrByte pa b).undef = s.undef := rfl
@[simp] theorem State.wrByte_board (pa : Nat) (b : Byte) : (s.wrByte pa b).board = s.board := rfl
@[simp] theorem State.wrByte_ctl (pa : Nat) (b : Byte) : (s.wrByte pa b).ctl = s.ctl := rfl
@[simp] theorem State.wrByte_err (pa : Nat) (b : Byte) : (s.wrByte pa b).err = s.err := rfl
@[simp] theorem State.wrByte_mg (pa : Nat) (b : Byte) : (s.wrByte pa b).mg = s.mg := rfl
@[simp] theorem State.wrByte_comp (pa : Nat) (b : Byte) : (s.wrByte pa b).comp = s.comp := rfl
@[simp] theorem State.wrByte_syn (pa : Nat) (b : Byte) : (s.wrByte pa b).syn = s.syn := rfl
@[simp] theorem State.wrByte_xlt (pa : Nat) (b : Byte) : (s.wrByte pa b).xlt = s.xlt := rfl
@[simp] theorem State.wrByte_l2 (pa : Nat) (b : Byte) : (s.wrByte pa b).l2 = s.l2 := rfl
@[simp] theorem State.wrByte_memc (pa : Nat) (b : Byte) : (s.wrByte pa b).memc = s.memc := rfl
@[simp] theorem State.wrByte_lnt (pa : Nat) (b : Byte) : (s.wrByte pa b).lnt = s.lnt := rfl
@[simp] theorem State.wrByte_fab (pa : Nat) (b : Byte) : (s.wrByte pa b).fab = s.fab := rfl
@[simp] theorem State.wrByte_lnk (pa : Nat) (b : Byte) : (s.wrByte pa b).lnk = s.lnk := rfl
@[simp] theorem State.wrByte_pwr (pa : Nat) (b : Byte) : (s.wrByte pa b).pwr = s.pwr := rfl
@[simp] theorem State.wrByte_age (pa : Nat) (b : Byte) : (s.wrByte pa b).age = s.age := rfl
@[simp] theorem State.wrByte_resv (pa : Nat) (b : Byte) : (s.wrByte pa b).resv = s.resv := rfl
@[simp] theorem State.wrByte_now (pa : Nat) (b : Byte) : (s.wrByte pa b).now = s.now := rfl
@[simp] theorem State.wrByte_freeCtr (pa : Nat) (b : Byte) : (s.wrByte pa b).freeCtr = s.freeCtr := rfl
@[simp] theorem State.wrByte_pending (pa : Nat) (b : Byte) : (s.wrByte pa b).pending = s.pending := rfl

/-! setPoison -/

@[simp] theorem State.setPoison_part (sector : Nat) (p : Bool) : (s.setPoison sector p).part = s.part := rfl
@[simp] theorem State.setPoison_regs (sector : Nat) (p : Bool) : (s.setPoison sector p).regs = s.regs := rfl
@[simp] theorem State.setPoison_mem (sector : Nat) (p : Bool) : (s.setPoison sector p).mem = s.mem := rfl
@[simp] theorem State.setPoison_undef (sector : Nat) (p : Bool) : (s.setPoison sector p).undef = s.undef := rfl
@[simp] theorem State.setPoison_board (sector : Nat) (p : Bool) : (s.setPoison sector p).board = s.board := rfl
@[simp] theorem State.setPoison_ctl (sector : Nat) (p : Bool) : (s.setPoison sector p).ctl = s.ctl := rfl
@[simp] theorem State.setPoison_err (sector : Nat) (p : Bool) : (s.setPoison sector p).err = s.err := rfl
@[simp] theorem State.setPoison_mg (sector : Nat) (p : Bool) : (s.setPoison sector p).mg = s.mg := rfl
@[simp] theorem State.setPoison_comp (sector : Nat) (p : Bool) : (s.setPoison sector p).comp = s.comp := rfl
@[simp] theorem State.setPoison_syn (sector : Nat) (p : Bool) : (s.setPoison sector p).syn = s.syn := rfl
@[simp] theorem State.setPoison_xlt (sector : Nat) (p : Bool) : (s.setPoison sector p).xlt = s.xlt := rfl
@[simp] theorem State.setPoison_l2 (sector : Nat) (p : Bool) : (s.setPoison sector p).l2 = s.l2 := rfl
@[simp] theorem State.setPoison_memc (sector : Nat) (p : Bool) : (s.setPoison sector p).memc = s.memc := rfl
@[simp] theorem State.setPoison_lnt (sector : Nat) (p : Bool) : (s.setPoison sector p).lnt = s.lnt := rfl
@[simp] theorem State.setPoison_fab (sector : Nat) (p : Bool) : (s.setPoison sector p).fab = s.fab := rfl
@[simp] theorem State.setPoison_lnk (sector : Nat) (p : Bool) : (s.setPoison sector p).lnk = s.lnk := rfl
@[simp] theorem State.setPoison_pwr (sector : Nat) (p : Bool) : (s.setPoison sector p).pwr = s.pwr := rfl
@[simp] theorem State.setPoison_age (sector : Nat) (p : Bool) : (s.setPoison sector p).age = s.age := rfl
@[simp] theorem State.setPoison_resv (sector : Nat) (p : Bool) : (s.setPoison sector p).resv = s.resv := rfl
@[simp] theorem State.setPoison_now (sector : Nat) (p : Bool) : (s.setPoison sector p).now = s.now := rfl
@[simp] theorem State.setPoison_freeCtr (sector : Nat) (p : Bool) : (s.setPoison sector p).freeCtr = s.freeCtr := rfl
@[simp] theorem State.setPoison_pending (sector : Nat) (p : Bool) : (s.setPoison sector p).pending = s.pending := rfl

/-! notBefore -/

@[simp] theorem State.notBefore_part (t : Nat) : (s.notBefore t).part = s.part := rfl
@[simp] theorem State.notBefore_regs (t : Nat) : (s.notBefore t).regs = s.regs := rfl
@[simp] theorem State.notBefore_mem (t : Nat) : (s.notBefore t).mem = s.mem := rfl
@[simp] theorem State.notBefore_poison (t : Nat) : (s.notBefore t).poison = s.poison := rfl
@[simp] theorem State.notBefore_undef (t : Nat) : (s.notBefore t).undef = s.undef := rfl
@[simp] theorem State.notBefore_board (t : Nat) : (s.notBefore t).board = s.board := rfl
@[simp] theorem State.notBefore_ctl (t : Nat) : (s.notBefore t).ctl = s.ctl := rfl
@[simp] theorem State.notBefore_err (t : Nat) : (s.notBefore t).err = s.err := rfl
@[simp] theorem State.notBefore_mg (t : Nat) : (s.notBefore t).mg = s.mg := rfl
@[simp] theorem State.notBefore_comp (t : Nat) : (s.notBefore t).comp = s.comp := rfl
@[simp] theorem State.notBefore_syn (t : Nat) : (s.notBefore t).syn = s.syn := rfl
@[simp] theorem State.notBefore_xlt (t : Nat) : (s.notBefore t).xlt = s.xlt := rfl
@[simp] theorem State.notBefore_l2 (t : Nat) : (s.notBefore t).l2 = s.l2 := rfl
@[simp] theorem State.notBefore_memc (t : Nat) : (s.notBefore t).memc = s.memc := rfl
@[simp] theorem State.notBefore_lnt (t : Nat) : (s.notBefore t).lnt = s.lnt := rfl
@[simp] theorem State.notBefore_fab (t : Nat) : (s.notBefore t).fab = s.fab := rfl
@[simp] theorem State.notBefore_lnk (t : Nat) : (s.notBefore t).lnk = s.lnk := rfl
@[simp] theorem State.notBefore_pwr (t : Nat) : (s.notBefore t).pwr = s.pwr := rfl
@[simp] theorem State.notBefore_age (t : Nat) : (s.notBefore t).age = s.age := rfl
@[simp] theorem State.notBefore_resv (t : Nat) : (s.notBefore t).resv = s.resv := rfl
@[simp] theorem State.notBefore_freeCtr (t : Nat) : (s.notBefore t).freeCtr = s.freeCtr := rfl
@[simp] theorem State.notBefore_pending (t : Nat) : (s.notBefore t).pending = s.pending := rfl

/-! undefine -/

@[simp] theorem State.undefine_part (lo hi : Nat) (w : Bool) : (s.undefine lo hi w).part = s.part := rfl
@[simp] theorem State.undefine_regs (lo hi : Nat) (w : Bool) : (s.undefine lo hi w).regs = s.regs := rfl
@[simp] theorem State.undefine_board (lo hi : Nat) (w : Bool) : (s.undefine lo hi w).board = s.board := rfl
@[simp] theorem State.undefine_ctl (lo hi : Nat) (w : Bool) : (s.undefine lo hi w).ctl = s.ctl := rfl
@[simp] theorem State.undefine_err (lo hi : Nat) (w : Bool) : (s.undefine lo hi w).err = s.err := rfl
@[simp] theorem State.undefine_mg (lo hi : Nat) (w : Bool) : (s.undefine lo hi w).mg = s.mg := rfl
@[simp] theorem State.undefine_comp (lo hi : Nat) (w : Bool) : (s.undefine lo hi w).comp = s.comp := rfl
@[simp] theorem State.undefine_syn (lo hi : Nat) (w : Bool) : (s.undefine lo hi w).syn = s.syn := rfl
@[simp] theorem State.undefine_xlt (lo hi : Nat) (w : Bool) : (s.undefine lo hi w).xlt = s.xlt := rfl
@[simp] theorem State.undefine_l2 (lo hi : Nat) (w : Bool) : (s.undefine lo hi w).l2 = s.l2 := rfl
@[simp] theorem State.undefine_memc (lo hi : Nat) (w : Bool) : (s.undefine lo hi w).memc = s.memc := rfl
@[simp] theorem State.undefine_lnt (lo hi : Nat) (w : Bool) : (s.undefine lo hi w).lnt = s.lnt := rfl
@[simp] theorem State.undefine_fab (lo hi : Nat) (w : Bool) : (s.undefine lo hi w).fab = s.fab := rfl
@[simp] theorem State.undefine_lnk (lo hi : Nat) (w : Bool) : (s.undefine lo hi w).lnk = s.lnk := rfl
@[simp] theorem State.undefine_pwr (lo hi : Nat) (w : Bool) : (s.undefine lo hi w).pwr = s.pwr := rfl
@[simp] theorem State.undefine_age (lo hi : Nat) (w : Bool) : (s.undefine lo hi w).age = s.age := rfl
@[simp] theorem State.undefine_resv (lo hi : Nat) (w : Bool) : (s.undefine lo hi w).resv = s.resv := rfl
@[simp] theorem State.undefine_now (lo hi : Nat) (w : Bool) : (s.undefine lo hi w).now = s.now := rfl
@[simp] theorem State.undefine_pending (lo hi : Nat) (w : Bool) : (s.undefine lo hi w).pending = s.pending := rfl

/-! zero -/

@[simp] theorem State.zero_part (lo hi : Nat) : (s.zero lo hi).part = s.part := rfl
@[simp] theorem State.zero_regs (lo hi : Nat) : (s.zero lo hi).regs = s.regs := rfl
@[simp] theorem State.zero_board (lo hi : Nat) : (s.zero lo hi).board = s.board := rfl
@[simp] theorem State.zero_ctl (lo hi : Nat) : (s.zero lo hi).ctl = s.ctl := rfl
@[simp] theorem State.zero_err (lo hi : Nat) : (s.zero lo hi).err = s.err := rfl
@[simp] theorem State.zero_mg (lo hi : Nat) : (s.zero lo hi).mg = s.mg := rfl
@[simp] theorem State.zero_comp (lo hi : Nat) : (s.zero lo hi).comp = s.comp := rfl
@[simp] theorem State.zero_syn (lo hi : Nat) : (s.zero lo hi).syn = s.syn := rfl
@[simp] theorem State.zero_xlt (lo hi : Nat) : (s.zero lo hi).xlt = s.xlt := rfl
@[simp] theorem State.zero_l2 (lo hi : Nat) : (s.zero lo hi).l2 = s.l2 := rfl
@[simp] theorem State.zero_memc (lo hi : Nat) : (s.zero lo hi).memc = s.memc := rfl
@[simp] theorem State.zero_lnt (lo hi : Nat) : (s.zero lo hi).lnt = s.lnt := rfl
@[simp] theorem State.zero_fab (lo hi : Nat) : (s.zero lo hi).fab = s.fab := rfl
@[simp] theorem State.zero_lnk (lo hi : Nat) : (s.zero lo hi).lnk = s.lnk := rfl
@[simp] theorem State.zero_pwr (lo hi : Nat) : (s.zero lo hi).pwr = s.pwr := rfl
@[simp] theorem State.zero_age (lo hi : Nat) : (s.zero lo hi).age = s.age := rfl
@[simp] theorem State.zero_resv (lo hi : Nat) : (s.zero lo hi).resv = s.resv := rfl
@[simp] theorem State.zero_now (lo hi : Nat) : (s.zero lo hi).now = s.now := rfl
@[simp] theorem State.zero_freeCtr (lo hi : Nat) : (s.zero lo hi).freeCtr = s.freeCtr := rfl
@[simp] theorem State.zero_pending (lo hi : Nat) : (s.zero lo hi).pending = s.pending := rfl

/-! enter -/

@[simp] theorem State.enter_part (st : Nat) : (s.enter st).part = s.part := rfl
@[simp] theorem State.enter_mem (st : Nat) : (s.enter st).mem = s.mem := rfl
@[simp] theorem State.enter_poison (st : Nat) : (s.enter st).poison = s.poison := rfl
@[simp] theorem State.enter_undef (st : Nat) : (s.enter st).undef = s.undef := rfl
@[simp] theorem State.enter_ctl (st : Nat) : (s.enter st).ctl = s.ctl := rfl
@[simp] theorem State.enter_err (st : Nat) : (s.enter st).err = s.err := rfl
@[simp] theorem State.enter_mg (st : Nat) : (s.enter st).mg = s.mg := rfl
@[simp] theorem State.enter_comp (st : Nat) : (s.enter st).comp = s.comp := rfl
@[simp] theorem State.enter_syn (st : Nat) : (s.enter st).syn = s.syn := rfl
@[simp] theorem State.enter_xlt (st : Nat) : (s.enter st).xlt = s.xlt := rfl
@[simp] theorem State.enter_l2 (st : Nat) : (s.enter st).l2 = s.l2 := rfl
@[simp] theorem State.enter_memc (st : Nat) : (s.enter st).memc = s.memc := rfl
@[simp] theorem State.enter_lnt (st : Nat) : (s.enter st).lnt = s.lnt := rfl
@[simp] theorem State.enter_fab (st : Nat) : (s.enter st).fab = s.fab := rfl
@[simp] theorem State.enter_lnk (st : Nat) : (s.enter st).lnk = s.lnk := rfl
@[simp] theorem State.enter_pwr (st : Nat) : (s.enter st).pwr = s.pwr := rfl
@[simp] theorem State.enter_age (st : Nat) : (s.enter st).age = s.age := rfl
@[simp] theorem State.enter_resv (st : Nat) : (s.enter st).resv = s.resv := rfl
@[simp] theorem State.enter_now (st : Nat) : (s.enter st).now = s.now := rfl
@[simp] theorem State.enter_freeCtr (st : Nat) : (s.enter st).freeCtr = s.freeCtr := rfl
@[simp] theorem State.enter_pending (st : Nat) : (s.enter st).pending = s.pending := rfl

/-! answer -/

@[simp] theorem State.answer_part (who : Nat) (v : Word) : (s.answer who v).part = s.part := rfl
@[simp] theorem State.answer_regs (who : Nat) (v : Word) : (s.answer who v).regs = s.regs := rfl
@[simp] theorem State.answer_mem (who : Nat) (v : Word) : (s.answer who v).mem = s.mem := rfl
@[simp] theorem State.answer_poison (who : Nat) (v : Word) : (s.answer who v).poison = s.poison := rfl
@[simp] theorem State.answer_undef (who : Nat) (v : Word) : (s.answer who v).undef = s.undef := rfl
@[simp] theorem State.answer_board (who : Nat) (v : Word) : (s.answer who v).board = s.board := rfl
@[simp] theorem State.answer_err (who : Nat) (v : Word) : (s.answer who v).err = s.err := rfl
@[simp] theorem State.answer_mg (who : Nat) (v : Word) : (s.answer who v).mg = s.mg := rfl
@[simp] theorem State.answer_comp (who : Nat) (v : Word) : (s.answer who v).comp = s.comp := rfl
@[simp] theorem State.answer_syn (who : Nat) (v : Word) : (s.answer who v).syn = s.syn := rfl
@[simp] theorem State.answer_xlt (who : Nat) (v : Word) : (s.answer who v).xlt = s.xlt := rfl
@[simp] theorem State.answer_l2 (who : Nat) (v : Word) : (s.answer who v).l2 = s.l2 := rfl
@[simp] theorem State.answer_memc (who : Nat) (v : Word) : (s.answer who v).memc = s.memc := rfl
@[simp] theorem State.answer_lnt (who : Nat) (v : Word) : (s.answer who v).lnt = s.lnt := rfl
@[simp] theorem State.answer_fab (who : Nat) (v : Word) : (s.answer who v).fab = s.fab := rfl
@[simp] theorem State.answer_lnk (who : Nat) (v : Word) : (s.answer who v).lnk = s.lnk := rfl
@[simp] theorem State.answer_pwr (who : Nat) (v : Word) : (s.answer who v).pwr = s.pwr := rfl
@[simp] theorem State.answer_age (who : Nat) (v : Word) : (s.answer who v).age = s.age := rfl
@[simp] theorem State.answer_resv (who : Nat) (v : Word) : (s.answer who v).resv = s.resv := rfl
@[simp] theorem State.answer_now (who : Nat) (v : Word) : (s.answer who v).now = s.now := rfl
@[simp] theorem State.answer_freeCtr (who : Nat) (v : Word) : (s.answer who v).freeCtr = s.freeCtr := rfl
@[simp] theorem State.answer_pending (who : Nat) (v : Word) : (s.answer who v).pending = s.pending := rfl

/-! disarm -/

@[simp] theorem State.disarm_part (i : Injection) : (s.disarm i).part = s.part := rfl
@[simp] theorem State.disarm_regs (i : Injection) : (s.disarm i).regs = s.regs := rfl
@[simp] theorem State.disarm_mem (i : Injection) : (s.disarm i).mem = s.mem := rfl
@[simp] theorem State.disarm_poison (i : Injection) : (s.disarm i).poison = s.poison := rfl
@[simp] theorem State.disarm_undef (i : Injection) : (s.disarm i).undef = s.undef := rfl
@[simp] theorem State.disarm_board (i : Injection) : (s.disarm i).board = s.board := rfl
@[simp] theorem State.disarm_ctl (i : Injection) : (s.disarm i).ctl = s.ctl := rfl
@[simp] theorem State.disarm_mg (i : Injection) : (s.disarm i).mg = s.mg := rfl
@[simp] theorem State.disarm_comp (i : Injection) : (s.disarm i).comp = s.comp := rfl
@[simp] theorem State.disarm_syn (i : Injection) : (s.disarm i).syn = s.syn := rfl
@[simp] theorem State.disarm_xlt (i : Injection) : (s.disarm i).xlt = s.xlt := rfl
@[simp] theorem State.disarm_l2 (i : Injection) : (s.disarm i).l2 = s.l2 := rfl
@[simp] theorem State.disarm_memc (i : Injection) : (s.disarm i).memc = s.memc := rfl
@[simp] theorem State.disarm_lnt (i : Injection) : (s.disarm i).lnt = s.lnt := rfl
@[simp] theorem State.disarm_fab (i : Injection) : (s.disarm i).fab = s.fab := rfl
@[simp] theorem State.disarm_lnk (i : Injection) : (s.disarm i).lnk = s.lnk := rfl
@[simp] theorem State.disarm_pwr (i : Injection) : (s.disarm i).pwr = s.pwr := rfl
@[simp] theorem State.disarm_age (i : Injection) : (s.disarm i).age = s.age := rfl
@[simp] theorem State.disarm_resv (i : Injection) : (s.disarm i).resv = s.resv := rfl
@[simp] theorem State.disarm_now (i : Injection) : (s.disarm i).now = s.now := rfl
@[simp] theorem State.disarm_freeCtr (i : Injection) : (s.disarm i).freeCtr = s.freeCtr := rfl
@[simp] theorem State.disarm_pending (i : Injection) : (s.disarm i).pending = s.pending := rfl

/-! setChan -/

@[simp] theorem State.setChan_part (n : Nat) (c : Channel) : (s.setChan n c).part = s.part := rfl
@[simp] theorem State.setChan_regs (n : Nat) (c : Channel) : (s.setChan n c).regs = s.regs := rfl
@[simp] theorem State.setChan_mem (n : Nat) (c : Channel) : (s.setChan n c).mem = s.mem := rfl
@[simp] theorem State.setChan_poison (n : Nat) (c : Channel) : (s.setChan n c).poison = s.poison := rfl
@[simp] theorem State.setChan_undef (n : Nat) (c : Channel) : (s.setChan n c).undef = s.undef := rfl
@[simp] theorem State.setChan_board (n : Nat) (c : Channel) : (s.setChan n c).board = s.board := rfl
@[simp] theorem State.setChan_err (n : Nat) (c : Channel) : (s.setChan n c).err = s.err := rfl
@[simp] theorem State.setChan_mg (n : Nat) (c : Channel) : (s.setChan n c).mg = s.mg := rfl
@[simp] theorem State.setChan_comp (n : Nat) (c : Channel) : (s.setChan n c).comp = s.comp := rfl
@[simp] theorem State.setChan_syn (n : Nat) (c : Channel) : (s.setChan n c).syn = s.syn := rfl
@[simp] theorem State.setChan_xlt (n : Nat) (c : Channel) : (s.setChan n c).xlt = s.xlt := rfl
@[simp] theorem State.setChan_l2 (n : Nat) (c : Channel) : (s.setChan n c).l2 = s.l2 := rfl
@[simp] theorem State.setChan_memc (n : Nat) (c : Channel) : (s.setChan n c).memc = s.memc := rfl
@[simp] theorem State.setChan_lnt (n : Nat) (c : Channel) : (s.setChan n c).lnt = s.lnt := rfl
@[simp] theorem State.setChan_fab (n : Nat) (c : Channel) : (s.setChan n c).fab = s.fab := rfl
@[simp] theorem State.setChan_lnk (n : Nat) (c : Channel) : (s.setChan n c).lnk = s.lnk := rfl
@[simp] theorem State.setChan_pwr (n : Nat) (c : Channel) : (s.setChan n c).pwr = s.pwr := rfl
@[simp] theorem State.setChan_age (n : Nat) (c : Channel) : (s.setChan n c).age = s.age := rfl
@[simp] theorem State.setChan_resv (n : Nat) (c : Channel) : (s.setChan n c).resv = s.resv := rfl
@[simp] theorem State.setChan_now (n : Nat) (c : Channel) : (s.setChan n c).now = s.now := rfl
@[simp] theorem State.setChan_freeCtr (n : Nat) (c : Channel) : (s.setChan n c).freeCtr = s.freeCtr := rfl
@[simp] theorem State.setChan_pending (n : Nat) (c : Channel) : (s.setChan n c).pending = s.pending := rfl

/-! modChan -/

@[simp] theorem State.modChan_part (n : Nat) (f : Channel → Channel) : (s.modChan n f).part = s.part := rfl
@[simp] theorem State.modChan_regs (n : Nat) (f : Channel → Channel) : (s.modChan n f).regs = s.regs := rfl
@[simp] theorem State.modChan_mem (n : Nat) (f : Channel → Channel) : (s.modChan n f).mem = s.mem := rfl
@[simp] theorem State.modChan_poison (n : Nat) (f : Channel → Channel) : (s.modChan n f).poison = s.poison := rfl
@[simp] theorem State.modChan_undef (n : Nat) (f : Channel → Channel) : (s.modChan n f).undef = s.undef := rfl
@[simp] theorem State.modChan_board (n : Nat) (f : Channel → Channel) : (s.modChan n f).board = s.board := rfl
@[simp] theorem State.modChan_err (n : Nat) (f : Channel → Channel) : (s.modChan n f).err = s.err := rfl
@[simp] theorem State.modChan_mg (n : Nat) (f : Channel → Channel) : (s.modChan n f).mg = s.mg := rfl
@[simp] theorem State.modChan_comp (n : Nat) (f : Channel → Channel) : (s.modChan n f).comp = s.comp := rfl
@[simp] theorem State.modChan_syn (n : Nat) (f : Channel → Channel) : (s.modChan n f).syn = s.syn := rfl
@[simp] theorem State.modChan_xlt (n : Nat) (f : Channel → Channel) : (s.modChan n f).xlt = s.xlt := rfl
@[simp] theorem State.modChan_l2 (n : Nat) (f : Channel → Channel) : (s.modChan n f).l2 = s.l2 := rfl
@[simp] theorem State.modChan_memc (n : Nat) (f : Channel → Channel) : (s.modChan n f).memc = s.memc := rfl
@[simp] theorem State.modChan_lnt (n : Nat) (f : Channel → Channel) : (s.modChan n f).lnt = s.lnt := rfl
@[simp] theorem State.modChan_fab (n : Nat) (f : Channel → Channel) : (s.modChan n f).fab = s.fab := rfl
@[simp] theorem State.modChan_lnk (n : Nat) (f : Channel → Channel) : (s.modChan n f).lnk = s.lnk := rfl
@[simp] theorem State.modChan_pwr (n : Nat) (f : Channel → Channel) : (s.modChan n f).pwr = s.pwr := rfl
@[simp] theorem State.modChan_age (n : Nat) (f : Channel → Channel) : (s.modChan n f).age = s.age := rfl
@[simp] theorem State.modChan_resv (n : Nat) (f : Channel → Channel) : (s.modChan n f).resv = s.resv := rfl
@[simp] theorem State.modChan_now (n : Nat) (f : Channel → Channel) : (s.modChan n f).now = s.now := rfl
@[simp] theorem State.modChan_freeCtr (n : Nat) (f : Channel → Channel) : (s.modChan n f).freeCtr = s.freeCtr := rfl
@[simp] theorem State.modChan_pending (n : Nat) (f : Channel → Channel) : (s.modChan n f).pending = s.pending := rfl

/-! free -/

@[simp] theorem State.free_part : s.free.2.part = s.part := rfl
@[simp] theorem State.free_regs : s.free.2.regs = s.regs := rfl
@[simp] theorem State.free_mem : s.free.2.mem = s.mem := rfl
@[simp] theorem State.free_poison : s.free.2.poison = s.poison := rfl
@[simp] theorem State.free_undef : s.free.2.undef = s.undef := rfl
@[simp] theorem State.free_board : s.free.2.board = s.board := rfl
@[simp] theorem State.free_ctl : s.free.2.ctl = s.ctl := rfl
@[simp] theorem State.free_err : s.free.2.err = s.err := rfl
@[simp] theorem State.free_mg : s.free.2.mg = s.mg := rfl
@[simp] theorem State.free_comp : s.free.2.comp = s.comp := rfl
@[simp] theorem State.free_syn : s.free.2.syn = s.syn := rfl
@[simp] theorem State.free_xlt : s.free.2.xlt = s.xlt := rfl
@[simp] theorem State.free_l2 : s.free.2.l2 = s.l2 := rfl
@[simp] theorem State.free_memc : s.free.2.memc = s.memc := rfl
@[simp] theorem State.free_lnt : s.free.2.lnt = s.lnt := rfl
@[simp] theorem State.free_fab : s.free.2.fab = s.fab := rfl
@[simp] theorem State.free_lnk : s.free.2.lnk = s.lnk := rfl
@[simp] theorem State.free_pwr : s.free.2.pwr = s.pwr := rfl
@[simp] theorem State.free_age : s.free.2.age = s.age := rfl
@[simp] theorem State.free_resv : s.free.2.resv = s.resv := rfl
@[simp] theorem State.free_now : s.free.2.now = s.now := rfl
@[simp] theorem State.free_pending : s.free.2.pending = s.pending := rfl

/-! What the updates give the fields they change. -/

@[simp] theorem State.free_freeCtr : s.free.2.freeCtr = s.freeCtr + 1 := rfl
@[simp] theorem State.notBefore_now (t : Nat) : (s.notBefore t).now = max s.now t := rfl
@[simp] theorem State.wr_regs (a : Nat) (v : Word) : (s.wr a v).regs = Assoc.put s.regs a v (regDefault s.part a) := rfl
@[simp] theorem State.wrByte_mem (pa : Nat) (b : Byte) : (s.wrByte pa b).mem = Assoc.put s.mem pa b 0 := rfl

end Sys2Proof.Machine
end

