-- ==== Sys2Proof/Laws/Memory.lean ====
section
/-! SUPPORT. Memory keeps its canonical form through every operation on it, and a byte reads back what was written to it. -/

namespace Sys2Proof.Machine

/-- A selection of cells keeps the canonical form. -/
theorem Memory.wf_filter (m : List Host.Cell) (p : Host.Cell → Bool) (h : Memory.wf m = true) : Memory.wf (m.filter p) = true := by
  simp only [Memory.wf, Bool.and_eq_true] at *
  refine ⟨Assoc.sorted_filter m p h.1, ?_⟩
  rw [List.all_eq_true] at *
  intro c hc
  exact h.2 c ((List.mem_filter.mp hc).1)

/-- A byte put into memory keeps the canonical form. -/
theorem Memory.wf_put (m : List Host.Cell) (a : Nat) (b : Byte) (h : Memory.wf m = true) : Memory.wf (Assoc.put m a b 0) = true := by
  simp only [Memory.wf, Bool.and_eq_true] at *
  refine ⟨Assoc.sorted_put m a b 0 h.1, ?_⟩
  unfold Assoc.put
  split
  · exact List.all_eq_true.mpr fun c hc => List.all_eq_true.mp h.2 c ((List.mem_filter.mp hc).1)
  · rename_i hb
    refine List.all_eq_true.mpr fun c hc => ?_
    rcases Assoc.mem_set hc with rfl | hc
    · simpa using hb
    · exact List.all_eq_true.mp h.2 c hc

theorem State.wrByte_memwf (s : State) (pa : Nat) (b : Byte) (h : Memory.wf s.mem = true) : Memory.wf (s.wrByte pa b).mem = true :=
  Memory.wf_put s.mem pa b h

theorem State.putBytes_memwf (bs : List Byte) : ∀ (s : State) (pa : Nat), Memory.wf s.mem = true → Memory.wf (s.putBytes pa bs).mem = true := by
  induction bs with
  | nil => exact fun _ _ h => h
  | cons b bs ih => exact fun s pa h => ih (s.wrByte pa b) (pa + 1) (State.wrByte_memwf s pa b h)

theorem State.wrBytes_memwf (s : State) (pa : Nat) (bs : List Byte) (h : Memory.wf s.mem = true) :
    Memory.wf (s.wrBytes pa bs).mem = true := State.putBytes_memwf bs s pa h

theorem State.undefine_memwf (s : State) (lo hi : Nat) (w : Bool) (h : Memory.wf s.mem = true) :
    Memory.wf (s.undefine lo hi w).mem = true := Memory.wf_filter s.mem _ h

theorem State.zero_memwf (s : State) (lo hi : Nat) (h : Memory.wf s.mem = true) : Memory.wf (s.zero lo hi).mem = true :=
  Memory.wf_filter s.mem _ h

/-- Reset memory lists nothing. -/
theorem State.reset_memwf : Memory.wf State.reset.mem = true := rfl

/-- A byte that is not undefined reads back what was written to it, and every other byte is unchanged. -/
theorem State.rdByte_wrByte (s : State) (pa : Nat) (b : Byte) (a : Nat) :
    (s.wrByte pa b).rdByte a = if a = pa ∧ s.undefAt a = none then b else s.rdByte a := by
  unfold State.rdByte
  show (match s.undefAt a with | some r => Config.freeByte r.gen a | none => Assoc.getD (Assoc.put s.mem pa b 0) a 0) = _
  cases hu : s.undefAt a with
  | some r => simp
  | none =>
    simp only [Assoc.getD_put]
    by_cases h : a = pa
    · simp only [h, if_true, and_true]; split <;> simp_all
    · simp [h]

end Sys2Proof.Machine
end

