-- ==== Sys2Proof/Laws/Registers.lean ====
section
/-! SUPPORT. Reading a register after writing one (R11): the value written, at the address written, and nothing else. -/

namespace Sys2Proof.Machine

variable (s : State)

/-- A register reads back what was written to it, and every other register is unchanged. -/
@[simp] theorem State.rd_wr (a : Nat) (v : Word) (b : Nat) : (s.wr a v).rd b = if b = a then v else s.rd b := by
  unfold State.rd
  simp only [State.wr_regs, State.wr_part, Assoc.getD_put]
  by_cases h : b = a
  · subst h
    by_cases hv : v = regDefault s.part b
    · simp [hv]
    · simp [hv]
  · simp [h]

/-- A register after one field of a register was written. -/
@[simp] theorem State.rd_setFld (a : Nat) (f : Fld) (n b : Nat) :
    (s.setFld a f n).rd b = if b = a then f.set (s.rd a) n else s.rd b := by simp [State.setFld]

/-- A register after several fields of a register were written. -/
@[simp] theorem State.rd_setFlds (a : Nat) (l : List (Fld × Nat)) (b : Nat) :
    (s.setFlds a l).rd b = if b = a then l.foldl (fun v e => e.1.set v e.2) (s.rd a) else s.rd b := by simp [State.setFlds]

/-- A register after a one-bit field of a register was written. -/
@[simp] theorem State.rd_setFlag (a : Nat) (f : Fld) (x : Bool) (b : Nat) :
    (s.setFlag a f x).rd b = if b = a then f.set (s.rd a) (b2n x) else s.rd b := by simp [State.setFlag]

/-- A register after a 48-bit counter advanced. -/
@[simp] theorem State.rd_bump (a n b : Nat) :
    (s.bump a n).rd b = if b = a then BitVec.ofNat 64 (satAdd (s.rd a).toNat n (2 ^ 48 - 1)) else s.rd b := by simp [State.bump]

/-- Registers are those of the state when neither the register file nor the part changes. -/
theorem State.rd_congr {s t : State} (h : t.regs = s.regs) (p : t.part = s.part) (a : Nat) : t.rd a = s.rd a := by
  unfold State.rd
  rw [h, p]

@[simp] theorem State.rd_notBefore (t a : Nat) : (s.notBefore t).rd a = s.rd a := rfl
@[simp] theorem State.rd_free (a : Nat) : s.free.2.rd a = s.rd a := rfl
@[simp] theorem State.rd_wrByte (pa : Nat) (b : Byte) (a : Nat) : (s.wrByte pa b).rd a = s.rd a := rfl
@[simp] theorem State.rd_setPoison (q : Nat) (p : Bool) (a : Nat) : (s.setPoison q p).rd a = s.rd a := rfl
@[simp] theorem State.rd_undefine (lo hi : Nat) (w : Bool) (a : Nat) : (s.undefine lo hi w).rd a = s.rd a := rfl
@[simp] theorem State.rd_zero (lo hi a : Nat) : (s.zero lo hi).rd a = s.rd a := rfl
@[simp] theorem State.rd_setChan (n : Nat) (c : Channel) (a : Nat) : (s.setChan n c).rd a = s.rd a := rfl
@[simp] theorem State.rd_modChan (n : Nat) (f : Channel → Channel) (a : Nat) : (s.modChan n f).rd a = s.rd a := rfl
@[simp] theorem State.rd_answer (w : Nat) (v : Word) (a : Nat) : (s.answer w v).rd a = s.rd a := rfl
@[simp] theorem State.rd_disarm (i : Injection) (a : Nat) : (s.disarm i).rd a = s.rd a := rfl

/-- A field reads back what was written to it, cut to its width. -/
theorem State.fld_setFld_same (a : Nat) (f : Fld) (n : Nat) (h : f.lo + f.w ≤ 64) :
    (s.setFld a f n).fld a f = n % 2 ^ f.w := by simp [State.fld, Fld.get_set f _ _ h]

/-- A field apart from the one written, or of another register, is unchanged. -/
theorem State.fld_setFld_other (a : Nat) (f : Fld) (n b : Nat) (g : Fld)
    (h : b ≠ a ∨ g.lo + g.w ≤ f.lo ∨ f.lo + f.w ≤ g.lo) : (s.setFld a f n).fld b g = s.fld b g := by
  unfold State.fld
  rw [State.rd_setFld]
  split
  · rename_i e
    subst e
    rcases h with h | h
    · exact absurd rfl h
    · exact Fld.get_set_other g f _ _ h
  · rfl

/-- The readiness state after a change of it (R128). -/
@[simp] theorem State.readiness_enter (st : Nat) : (s.enter st).readiness = st % 16 := by
  unfold State.enter State.readiness State.fld
  show Fld.get _ ((s.setFlds A.bootStatus _).rd A.bootStatus) = _
  rw [State.rd_setFlds, if_pos rfl]
  simp only [List.foldl]
  rw [Fld.get_set_other _ _ _ _ (by decide), Fld.get_set _ _ _ (by decide)]
  rfl

/-- A change of the readiness state leaves every register but CTL_BOOT_STATUS alone. -/
theorem State.rd_enter (st a : Nat) (h : a ≠ A.bootStatus) : (s.enter st).rd a = s.rd a := by
  show (s.setFlds A.bootStatus _).rd a = _
  rw [State.rd_setFlds, if_neg h]

end Sys2Proof.Machine
end

