-- ==== Sys2Proof/Laws/Safety.lean ====
section
/-! SUPPORT. Completion of a meaning, and how frames compose. -/

namespace Sys2Proof.Machine

/-- A next state completes with what holds of it. -/
@[simp] theorem completes_next (t : State) (P : State → Prop) : Completes (.next t) P ↔ P t :=
  ⟨fun ⟨_, h, p⟩ => by cases h; exact p, fun p => ⟨t, rfl, p⟩⟩

/-- A meaning on a unit completes when the unit exists. -/
@[simp] theorem completes_onUnit (b : Bool) (t : State) (P : State → Prop) : Completes (onUnit b t) P ↔ b = true ∧ P t := by
  cases b
  · simp [onUnit, Completes]
  · simp [onUnit]

/-! The state with a packet in progress: only the channels and the order of the store differ. -/

/-- Taking a packet up changes nothing outside the control plane. -/
theorem State.taken_frame (s : State) (ch op : Nat) (p : Packet) : s.taken ch op p = { s with ctl := (s.taken ch op p).ctl } := by
  unfold State.taken State.joinStore
  split <;> rfl

@[simp] theorem State.taken_part (s : State) (ch op : Nat) (p : Packet) : (s.taken ch op p).part = s.part := by rw [State.taken_frame]
@[simp] theorem State.taken_regs (s : State) (ch op : Nat) (p : Packet) : (s.taken ch op p).regs = s.regs := by rw [State.taken_frame]
@[simp] theorem State.taken_mem (s : State) (ch op : Nat) (p : Packet) : (s.taken ch op p).mem = s.mem := by rw [State.taken_frame]
@[simp] theorem State.taken_poison (s : State) (ch op : Nat) (p : Packet) : (s.taken ch op p).poison = s.poison := by rw [State.taken_frame]
@[simp] theorem State.taken_undef (s : State) (ch op : Nat) (p : Packet) : (s.taken ch op p).undef = s.undef := by rw [State.taken_frame]
@[simp] theorem State.taken_board (s : State) (ch op : Nat) (p : Packet) : (s.taken ch op p).board = s.board := by rw [State.taken_frame]
@[simp] theorem State.taken_err (s : State) (ch op : Nat) (p : Packet) : (s.taken ch op p).err = s.err := by rw [State.taken_frame]
@[simp] theorem State.taken_mg (s : State) (ch op : Nat) (p : Packet) : (s.taken ch op p).mg = s.mg := by rw [State.taken_frame]
@[simp] theorem State.taken_comp (s : State) (ch op : Nat) (p : Packet) : (s.taken ch op p).comp = s.comp := by rw [State.taken_frame]
@[simp] theorem State.taken_syn (s : State) (ch op : Nat) (p : Packet) : (s.taken ch op p).syn = s.syn := by rw [State.taken_frame]
@[simp] theorem State.taken_xlt (s : State) (ch op : Nat) (p : Packet) : (s.taken ch op p).xlt = s.xlt := by rw [State.taken_frame]
@[simp] theorem State.taken_l2 (s : State) (ch op : Nat) (p : Packet) : (s.taken ch op p).l2 = s.l2 := by rw [State.taken_frame]
@[simp] theorem State.taken_memc (s : State) (ch op : Nat) (p : Packet) : (s.taken ch op p).memc = s.memc := by rw [State.taken_frame]
@[simp] theorem State.taken_lnt (s : State) (ch op : Nat) (p : Packet) : (s.taken ch op p).lnt = s.lnt := by rw [State.taken_frame]
@[simp] theorem State.taken_fab (s : State) (ch op : Nat) (p : Packet) : (s.taken ch op p).fab = s.fab := by rw [State.taken_frame]
@[simp] theorem State.taken_lnk (s : State) (ch op : Nat) (p : Packet) : (s.taken ch op p).lnk = s.lnk := by rw [State.taken_frame]
@[simp] theorem State.taken_pwr (s : State) (ch op : Nat) (p : Packet) : (s.taken ch op p).pwr = s.pwr := by rw [State.taken_frame]
@[simp] theorem State.taken_age (s : State) (ch op : Nat) (p : Packet) : (s.taken ch op p).age = s.age := by rw [State.taken_frame]
@[simp] theorem State.taken_resv (s : State) (ch op : Nat) (p : Packet) : (s.taken ch op p).resv = s.resv := by rw [State.taken_frame]
@[simp] theorem State.taken_now (s : State) (ch op : Nat) (p : Packet) : (s.taken ch op p).now = s.now := by rw [State.taken_frame]
@[simp] theorem State.taken_freeCtr (s : State) (ch op : Nat) (p : Packet) : (s.taken ch op p).freeCtr = s.freeCtr := by rw [State.taken_frame]
@[simp] theorem State.taken_pending (s : State) (ch op : Nat) (p : Packet) : (s.taken ch op p).pending = s.pending := by rw [State.taken_frame]
@[simp] theorem State.rd_taken (s : State) (ch op : Nat) (p : Packet) (a : Nat) : (s.taken ch op p).rd a = s.rd a :=
  State.rd_congr (State.taken_regs s ch op p) (State.taken_part s ch op p) a
@[simp] theorem State.fld_taken (s : State) (ch op : Nat) (p : Packet) (a : Nat) (f : Fld) : (s.taken ch op p).fld a f = s.fld a f :=
  congrArg f.get (State.rd_taken s ch op p a)

/-! What a trace is due: only the list of records due differs, and that only where a trace is live. -/

/-- No trace is live: a source of it does nothing. -/
theorem State.traced_off (s : State) (source : Nat) (ctx : Option Nat) (die : Nat) (ws : Option (List Nat)) (h : s.liveTrace = none) :
    s.traced source ctx die ws = s := by
  unfold State.traced
  rw [h]

/-- A source of a trace changes nothing but the records due. -/
theorem State.traced_frame (s : State) (source : Nat) (ctx : Option Nat) (die : Nat) (ws : Option (List Nat)) :
    s.traced source ctx die ws = { s with mg := { s.mg with due := (s.traced source ctx die ws).mg.due } } := by
  unfold State.traced
  split
  · split <;> rfl
  · rfl

@[simp] theorem State.traced_part (s : State) (source : Nat) (ctx : Option Nat) (die : Nat) (ws : Option (List Nat)) :
    (s.traced source ctx die ws).part = s.part := by rw [State.traced_frame]
@[simp] theorem State.traced_regs (s : State) (source : Nat) (ctx : Option Nat) (die : Nat) (ws : Option (List Nat)) :
    (s.traced source ctx die ws).regs = s.regs := by rw [State.traced_frame]
@[simp] theorem State.traced_mem (s : State) (source : Nat) (ctx : Option Nat) (die : Nat) (ws : Option (List Nat)) :
    (s.traced source ctx die ws).mem = s.mem := by rw [State.traced_frame]
@[simp] theorem State.traced_poison (s : State) (source : Nat) (ctx : Option Nat) (die : Nat) (ws : Option (List Nat)) :
    (s.traced source ctx die ws).poison = s.poison := by rw [State.traced_frame]
@[simp] theorem State.traced_undef (s : State) (source : Nat) (ctx : Option Nat) (die : Nat) (ws : Option (List Nat)) :
    (s.traced source ctx die ws).undef = s.undef := by rw [State.traced_frame]
@[simp] theorem State.traced_board (s : State) (source : Nat) (ctx : Option Nat) (die : Nat) (ws : Option (List Nat)) :
    (s.traced source ctx die ws).board = s.board := by rw [State.traced_frame]
@[simp] theorem State.traced_ctl (s : State) (source : Nat) (ctx : Option Nat) (die : Nat) (ws : Option (List Nat)) :
    (s.traced source ctx die ws).ctl = s.ctl := by rw [State.traced_frame]
@[simp] theorem State.traced_err (s : State) (source : Nat) (ctx : Option Nat) (die : Nat) (ws : Option (List Nat)) :
    (s.traced source ctx die ws).err = s.err := by rw [State.traced_frame]
@[simp] theorem State.traced_comp (s : State) (source : Nat) (ctx : Option Nat) (die : Nat) (ws : Option (List Nat)) :
    (s.traced source ctx die ws).comp = s.comp := by rw [State.traced_frame]
@[simp] theorem State.traced_syn (s : State) (source : Nat) (ctx : Option Nat) (die : Nat) (ws : Option (List Nat)) :
    (s.traced source ctx die ws).syn = s.syn := by rw [State.traced_frame]
@[simp] theorem State.traced_xlt (s : State) (source : Nat) (ctx : Option Nat) (die : Nat) (ws : Option (List Nat)) :
    (s.traced source ctx die ws).xlt = s.xlt := by rw [State.traced_frame]
@[simp] theorem State.traced_l2 (s : State) (source : Nat) (ctx : Option Nat) (die : Nat) (ws : Option (List Nat)) :
    (s.traced source ctx die ws).l2 = s.l2 := by rw [State.traced_frame]
@[simp] theorem State.traced_memc (s : State) (source : Nat) (ctx : Option Nat) (die : Nat) (ws : Option (List Nat)) :
    (s.traced source ctx die ws).memc = s.memc := by rw [State.traced_frame]
@[simp] theorem State.traced_lnt (s : State) (source : Nat) (ctx : Option Nat) (die : Nat) (ws : Option (List Nat)) :
    (s.traced source ctx die ws).lnt = s.lnt := by rw [State.traced_frame]
@[simp] theorem State.traced_fab (s : State) (source : Nat) (ctx : Option Nat) (die : Nat) (ws : Option (List Nat)) :
    (s.traced source ctx die ws).fab = s.fab := by rw [State.traced_frame]
@[simp] theorem State.traced_lnk (s : State) (source : Nat) (ctx : Option Nat) (die : Nat) (ws : Option (List Nat)) :
    (s.traced source ctx die ws).lnk = s.lnk := by rw [State.traced_frame]
@[simp] theorem State.traced_pwr (s : State) (source : Nat) (ctx : Option Nat) (die : Nat) (ws : Option (List Nat)) :
    (s.traced source ctx die ws).pwr = s.pwr := by rw [State.traced_frame]
@[simp] theorem State.traced_age (s : State) (source : Nat) (ctx : Option Nat) (die : Nat) (ws : Option (List Nat)) :
    (s.traced source ctx die ws).age = s.age := by rw [State.traced_frame]
@[simp] theorem State.traced_resv (s : State) (source : Nat) (ctx : Option Nat) (die : Nat) (ws : Option (List Nat)) :
    (s.traced source ctx die ws).resv = s.resv := by rw [State.traced_frame]
@[simp] theorem State.traced_now (s : State) (source : Nat) (ctx : Option Nat) (die : Nat) (ws : Option (List Nat)) :
    (s.traced source ctx die ws).now = s.now := by rw [State.traced_frame]
@[simp] theorem State.traced_freeCtr (s : State) (source : Nat) (ctx : Option Nat) (die : Nat) (ws : Option (List Nat)) :
    (s.traced source ctx die ws).freeCtr = s.freeCtr := by rw [State.traced_frame]
@[simp] theorem State.traced_pending (s : State) (source : Nat) (ctx : Option Nat) (die : Nat) (ws : Option (List Nat)) :
    (s.traced source ctx die ws).pending = s.pending := by rw [State.traced_frame]
@[simp] theorem State.rd_traced (s : State) (source : Nat) (ctx : Option Nat) (die : Nat) (ws : Option (List Nat)) (a : Nat) :
    (s.traced source ctx die ws).rd a = s.rd a := State.rd_congr (State.traced_regs s source ctx die ws) (State.traced_part s source ctx die ws) a

/-! Frames compose. -/

/-- One frame after another. -/
theorem SameRegs.trans {l m : List Nat} {s t u : State} (h : SameRegs l s t) (k : SameRegs m t u) : SameRegs (l ++ m) s u :=
  fun a ha => (k a (fun x => ha (List.mem_append_right l x))).trans (h a (fun x => ha (List.mem_append_left m x)))

/-- A frame of fewer registers is one of more. -/
theorem SameRegs.mono {l m : List Nat} {s t : State} (h : SameRegs l s t) (k : ∀ a ∈ l, a ∈ m) : SameRegs m s t :=
  fun a ha => h a (fun x => ha (k a x))

/-- Registers alone change from one state to the next and on to a third. -/
theorem OnlyRegs.trans {l m : List Nat} {s t u : State} (h : OnlyRegs l s t) (k : OnlyRegs m t u) : OnlyRegs (l ++ m) s u := by
  obtain ⟨e, h⟩ := h
  obtain ⟨f, k⟩ := k
  refine ⟨?_, h.trans k⟩
  rw [f, e]

/-- A register written leaves every other. -/
theorem OnlyRegs.wr (s : State) (a : Nat) (v : Word) : OnlyRegs [a] s (s.wr a v) :=
  ⟨rfl, fun b hb => by rw [State.rd_wr]; exact if_neg (fun e => hb (by simp [e]))⟩

/-! Completion. -/

/-- A packet that a channel accepts takes its command's effect on the state in which it is in progress (R91, R95). -/
theorem cmd_accepts (s : State) (ch op : Nat) (p : Packet) (body : State → State) (h : s.accepts ch op p) :
    cmd ch op p s body = .next (body (s.taken ch op p)) := by
  obtain ⟨h1, h2, h3, h4, h5, h6⟩ := h
  have h6' : (s.taken ch op p).precheck ch op p = none := by
    rw [← h6]
    unfold State.taken State.joinStore
    split <;> rfl
  unfold cmd onUnit State.command
  simp only [h1, decide_true, if_true, h2, h3, h4, h5, Option.isNone_none, Bool.not_false, Bool.and_self]
  unfold State.taken at h6'
  rw [h6']
  rfl

/-- A reply in hand is a reply with whatever holds of the state it leaves from. -/
theorem repliesWith_next (u : State) (ch st : Nat) (ds : List Nat) (P : State → Prop) (h : P u) :
    RepliesWith (.next (u.reply ch st ds)) ch st ds P := ⟨u, rfl, h⟩

end Sys2Proof.Machine
end

