-- ==== Sys2Proof/WellFormed.lean ====
section
/-! DEFINITION. Well-formed commands: operands within the widths and the numbers of things that the spec gives them. The machine's
meaning of a command does not rest on it: what a command names that the module lacks, its meaning refuses by name. -/

namespace Sys2Proof

/-- A packet's header fields lie within their widths, and its parameter words within the longest packet (R94, R95). -/
def Packet.wf (p : Packet) : Bool :=
  decide (p.flags < 2 ^ 16) && decide (p.seq < 2 ^ 32) && decide (p.length < 2 ^ 16) && decide (p.txn < 2 ^ 16) && decide (p.params.length ≤ 510)

/-- A transport packet's header fields lie within their widths, and its payload within the longest (R560). -/
def FabPkt.wf (p : FabPkt) : Bool :=
  decide (p.dst < 2 ^ 22) && decide (p.src < 2 ^ 22) && decide (p.tag < 2 ^ 20) && decide (p.typ < 16) && decide (p.life < 256)
    && decide (p.hops < 16) && decide (p.seq < 2 ^ 32) && decide (p.opa < 2 ^ 64) && decide (p.opb < 2 ^ 64) 
    && decide (p.payload.length % 8 = 0 ∧ p.payload.length ≤ 4096)

/-- An image's digest and signature have the lengths of R134. -/
def BootImage.wf (i : BootImage) : Bool := decide (i.digest.length = 48) && decide (i.sig.length = 96)

/-- Every operand of a command lies within its range. -/
def Instr.wf (i : Instr) : Bool :=
  match i with
  | .softStartRamp _ _ => true
  | .softStartComplete _ => true
  | .mgmtStart => true
  | .inputGood _ => true
  | .inputLost _ _ => true
  | .uvloStop => true
  | .moduleRemoval => true
  | .railGroupGood => true
  | .railFail => true
  | .resetPin => true
  | .moduleResetEnd _ _ _ _ _ _ _ => true
  | .memoryTrainingDone _ _ _ => true
  | .memoryInitDone _ => true
  | .brakeRecognised => true
  | .brakedAssert => true
  | .brakeRelease => true
  | .brakeStuck => true
  | .brakeStuckClear => true
  | .refLoss => true
  | .thermalTrip _ _ _ => true
  | .generatorLock isl => decide (isl < 4608)
  | .droopDetect isl _ => decide (isl < 4608)
  | .droopRecover isl => decide (isl < 4608)
  | .freqGlideComplete isl => decide (isl < 4608)
  | .cmdTailDoorbell ch _ _ => decide (ch < 64)
  | .rplHeadDoorbell ch _ _ => decide (ch < 64)
  | .directStoreDrop _ _ => true
  | .packetDequeue ch => decide (ch < 64)
  | .ringFault ch => decide (ch < 64)
  | .txnTimeout ch => decide (ch < 64)
  | .nop ch p => decide (ch < 64) && p.wf
  | .beginCmd ch p => decide (ch < 64) && p.wf
  | .commitCmd ch p => decide (ch < 64) && p.wf
  | .commitDurable ch _ => decide (ch < 64)
  | .rollback ch p => decide (ch < 64) && p.wf
  | .regRead ch p => decide (ch < 64) && p.wf
  | .regWrite ch p => decide (ch < 64) && p.wf
  | .rwpWriteDurable ch _ => decide (ch < 64)
  | .channelReset ch p => decide (ch < 64) && p.wf
  | .persInfo ch p => decide (ch < 64) && p.wf
  | .identify ch p => decide (ch < 64) && p.wf
  | .readyStatus ch p => decide (ch < 64) && p.wf
  | .readyAdvance ch p => decide (ch < 64) && p.wf
  | .resetModule ch p => decide (ch < 64) && p.wf
  | .resetTower ch p => decide (ch < 64) && p.wf
  | .towerWritebackDone k => decide (k < 4)
  | .towerWritebackTimeout k _ => decide (k < 4)
  | .resetContext ch p => decide (ch < 64) && p.wf
  | .contextResetDone ctx _ => decide (ctx < 256)
  | .resetUnit ch p => decide (ch < 64) && p.wf
  | .unitResetDone _ => true
  | .ctxOpen ch p => decide (ch < 64) && p.wf
  | .ctxClose ch p => decide (ch < 64) && p.wf
  | .queueCreate ch p => decide (ch < 64) && p.wf
  | .queueDestroy ch p => decide (ch < 64) && p.wf
  | .queueStop ch p => decide (ch < 64) && p.wf
  | .queueStopComplete q => decide (q < 4096)
  | .queueStart ch p => decide (ch < 64) && p.wf
  | .queueStatus ch p => decide (ch < 64) && p.wf
  | .xltInvalidate ch p => decide (ch < 64) && p.wf
  | .xltEpochComplete ctx => decide (ctx < 256)
  | .xltEpochStatus ch p => decide (ch < 64) && p.wf
  | .memPrefetchMigrate ch p => decide (ch < 64) && p.wf
  | .migrateCopyDone _ => true
  | .memPrefetchPush ch p => decide (ch < 64) && p.wf
  | .memPrefetchPull ch p => decide (ch < 64) && p.wf
  | .memAdviseClear ch p => decide (ch < 64) && p.wf
  | .memAdvisePreferTier ch p => decide (ch < 64) && p.wf
  | .memAdviseReadMostly ch p => decide (ch < 64) && p.wf
  | .memAdviseAccessedBy ch p => decide (ch < 64) && p.wf
  | .memAdviseEvictFirst ch p => decide (ch < 64) && p.wf
  | .l2PrefetchRange ch p => decide (ch < 64) && p.wf
  | .l2FlushRange ch p => decide (ch < 64) && p.wf
  | .l2InvalRange ch p => decide (ch < 64) && p.wf
  | .l2RangeComplete _ => true
  | .l2Pin ch p => decide (ch < 64) && p.wf
  | .l2PinComplete k => decide (k < 4)
  | .l2Unpin ch p => decide (ch < 64) && p.wf
  | .memErasureMark ch p => decide (ch < 64) && p.wf
  | .memErasureClear ch p => decide (ch < 64) && p.wf
  | .markDurable _ _ => true
  | .memScrubRange ch p => decide (ch < 64) && p.wf
  | .memScrubRangeComplete _ _ => true
  | .beamLoad ch p => decide (ch < 64) && p.wf
  | .beamStart ch p => decide (ch < 64) && p.wf
  | .beamStopPause ch p => decide (ch < 64) && p.wf
  | .beamStopAbort ch p => decide (ch < 64) && p.wf
  | .beamAbortComplete k _ => decide (k < 4)
  | .beamStep ch p => decide (ch < 64) && p.wf
  | .scaleRead ch p => decide (ch < 64) && p.wf
  | .scaleWriteWrite ch p => decide (ch < 64) && p.wf
  | .scaleWriteAdvance ch p => decide (ch < 64) && p.wf
  | .scaleWriteClear ch p => decide (ch < 64) && p.wf
  | .tcGroupHalt ch p => decide (ch < 64) && p.wf
  | .tcGroupResume ch p => decide (ch < 64) && p.wf
  | .tcGroupStep ch p => decide (ch < 64) && p.wf
  | .tcGroupRead ch p => decide (ch < 64) && p.wf
  | .tcGroupWrite ch p => decide (ch < 64) && p.wf
  | .lntProgramLoad ch p => decide (ch < 64) && p.wf
  | .lntCancel ch p => decide (ch < 64) && p.wf
  | .synBind ch p => decide (ch < 64) && p.wf
  | .synRelease ch p => decide (ch < 64) && p.wf
  | .fabIdSet ch p => decide (ch < 64) && p.wf
  | .fabRouteWrite ch p => decide (ch < 64) && p.wf
  | .fabTagAdd ch p => decide (ch < 64) && p.wf
  | .fabTagRemove ch p => decide (ch < 64) && p.wf
  | .partQuiesce ch p => decide (ch < 64) && p.wf
  | .quiesceDrainDone => true
  | .quiesceDrainTimeout => true
  | .flarePrepare ch p => decide (ch < 64) && p.wf
  | .flareCommit ch p => decide (ch < 64) && p.wf
  | .flareAbort ch p => decide (ch < 64) && p.wf
  | .collSetup ch p => decide (ch < 64) && p.wf
  | .collLagRead ch p => decide (ch < 64) && p.wf
  | .aggAttach ch p => decide (ch < 64) && p.wf
  | .aggDetach ch p => decide (ch < 64) && p.wf
  | .errRecordRead ch p => decide (ch < 64) && p.wf
  | .errRecordAck ch p => decide (ch < 64) && p.wf
  | .errInjectArm ch p => decide (ch < 64) && p.wf
  | .errInjectDisarm ch p => decide (ch < 64) && p.wf
  | .pwrEnergyReport ch p => decide (ch < 64) && p.wf
  | .pwrSupplyStatus ch p => decide (ch < 64) && p.wf
  | .ageReplan ch p => decide (ch < 64) && p.wf
  | .unitFence ch p => decide (ch < 64) && p.wf
  | .unitUnfence ch p => decide (ch < 64) && p.wf
  | .marginRead ch p => decide (ch < 64) && p.wf
  | .ctxKeyGenerate ch p => decide (ch < 64) && p.wf
  | .ctxKeyClear ch p => decide (ch < 64) && p.wf
  | .debugUnlockCtxOpen ch p => decide (ch < 64) && p.wf
  | .debugUnlockCtxClose ch p => decide (ch < 64) && p.wf
  | .debugUnlockNonce ch p => decide (ch < 64) && p.wf
  | .debugUnlockToken ch p => decide (ch < 64) && p.wf
  | .traceConfig ch p => decide (ch < 64) && p.wf
  | .traceRead ch p => decide (ch < 64) && p.wf
  | .traceRecordWrite _ ctx _ _ _ _ => decide (ctx < 256)
  | .traceCounterSample _ => true
  | .beamWordIssue k _ _ _ => decide (k < 4)
  | .beamWaitAnswer k _ => decide (k < 4)
  | .beamWaitTimeout k _ => decide (k < 4)
  | .beamFinish k _ => decide (k < 4)
  | .heldSignalMove k => decide (k < 4)
  | .signalSend k => decide (k < 4)
  | .tilePassStart k e _ _ _ => decide (k < 4) && decide (e < 17)
  | .passEnd k e _ => decide (k < 4) && decide (e < 17)
  | .checkPoint k e _ => decide (k < 4) && decide (e < 17)
  | .drainStart k e _ => decide (k < 4) && decide (e < 17)
  | .tileCommit k e => decide (k < 4) && decide (e < 17)
  | .holdStallResume _ _ => true
  | .holdTimeout _ _ => true
  | .vxePassStreamed k x => decide (k < 4) && decide (x < 8)
  | .chainComplete k x _ => decide (k < 4) && decide (x < 8)
  | .groupPlace _ k c g => decide (k < 4) && decide (c < 64) && decide (g < 8)
  | .threadLoad k c g lane => decide (k < 4) && decide (c < 64) && decide (g < 8) && decide (lane < 32)
  | .threadLoadReturn k c g lane _ => decide (k < 4) && decide (c < 64) && decide (g < 8) && decide (lane < 32)
  | .threadStore k c g lane => decide (k < 4) && decide (c < 64) && decide (g < 8) && decide (lane < 32)
  | .threadBranch k c g lane => decide (k < 4) && decide (c < 64) && decide (g < 8) && decide (lane < 32)
  | .threadLr k c g lane => decide (k < 4) && decide (c < 64) && decide (g < 8) && decide (lane < 32)
  | .threadSc k c g lane => decide (k < 4) && decide (c < 64) && decide (g < 8) && decide (lane < 32)
  | .threadAmo k c g lane _ => decide (k < 4) && decide (c < 64) && decide (g < 8) && decide (lane < 32)
  | .threadFence k c g lane => decide (k < 4) && decide (c < 64) && decide (g < 8) && decide (lane < 32)
  | .threadFenceI k c g lane => decide (k < 4) && decide (c < 64) && decide (g < 8) && decide (lane < 32)
  | .threadCsrAccess k c g lane _ => decide (k < 4) && decide (c < 64) && decide (g < 8) && decide (lane < 32)
  | .threadEcall k c g lane => decide (k < 4) && decide (c < 64) && decide (g < 8) && decide (lane < 32)
  | .threadEbreak k c g lane => decide (k < 4) && decide (c < 64) && decide (g < 8) && decide (lane < 32)
  | .gconv k c g lane _ => decide (k < 4) && decide (c < 64) && decide (g < 8) && decide (lane < 32)
  | .gconvTimeout k c g lane _ => decide (k < 4) && decide (c < 64) && decide (g < 8) && decide (lane < 32)
  | .gbar k c g lane => decide (k < 4) && decide (c < 64) && decide (g < 8) && decide (lane < 32)
  | .barrierStall k c g bar => decide (k < 4) && decide (c < 64) && decide (g < 8) && decide (bar < 4)
  | .gspin k c g lane => decide (k < 4) && decide (c < 64) && decide (g < 8) && decide (lane < 32)
  | .gvote k c g lane => decide (k < 4) && decide (c < 64) && decide (g < 8) && decide (lane < 32)
  | .gshfl k c g lane => decide (k < 4) && decide (c < 64) && decide (g < 8) && decide (lane < 32)
  | .gid k c g lane => decide (k < 4) && decide (c < 64) && decide (g < 8) && decide (lane < 32)
  | .gexit k c g lane => decide (k < 4) && decide (c < 64) && decide (g < 8) && decide (lane < 32)
  | .gfence k c g lane => decide (k < 4) && decide (c < 64) && decide (g < 8) && decide (lane < 32)
  | .gldaq k c g lane => decide (k < 4) && decide (c < 64) && decide (g < 8) && decide (lane < 32)
  | .gstrl k c g lane => decide (k < 4) && decide (c < 64) && decide (g < 8) && decide (lane < 32)
  | .gsig k c g lane => decide (k < 4) && decide (c < 64) && decide (g < 8) && decide (lane < 32)
  | .gwait k c g lane => decide (k < 4) && decide (c < 64) && decide (g < 8) && decide (lane < 32)
  | .gwaitWake k c g lane => decide (k < 4) && decide (c < 64) && decide (g < 8) && decide (lane < 32)
  | .gwaitTimeout k c g lane => decide (k < 4) && decide (c < 64) && decide (g < 8) && decide (lane < 32)
  | .mxissue k c g lane => decide (k < 4) && decide (c < 64) && decide (g < 8) && decide (lane < 32)
  | .vxissue k c g lane => decide (k < 4) && decide (c < 64) && decide (g < 8) && decide (lane < 32)
  | .fmma k c g lane => decide (k < 4) && decide (c < 64) && decide (g < 8) && decide (lane < 32)
  | .sidePlaneAccess m _ _ _ _ => decide (m < 16)
  | .moveDescStart k m => decide (k < 4) && decide (m < 16)
  | .moveDescComplete k m _ => decide (k < 4) && decide (m < 16)
  | .moveStop k m => decide (k < 4) && decide (m < 16)
  | .moveRequestRetry k m => decide (k < 4) && decide (m < 16)
  | .l2Read k _ _ _ _ _ => decide (k < 4)
  | .l2Write k _ _ => decide (k < 4)
  | .l2MissFill k _ _ => decide (k < 4)
  | .l2ReduceWrite k _ _ _ => decide (k < 4)
  | .redStallTimeout k _ _ _ => decide (k < 4)
  | .hostRecallResponse k _ _ _ _ _ => decide (k < 4)
  | .hostCacheRead _ _ _ => true
  | .hostWriteback _ _ _ _ => true
  | .memCtlRead _ _ _ _ _ => true
  | .memCtlWrite _ _ _ => true
  | .markPeriodEnd k _ => decide (k < 4)
  | .patrolScrub k _ _ => decide (k < 4)
  | .requestAgeing k _ _ => decide (k < 4)
  | .stackTempRead k _ _ _ => decide (k < 4)
  | .busTempIndication k _ _ => decide (k < 4)
  | .memRefresh k _ => decide (k < 4)
  | .memLinkRetry k _ _ => decide (k < 4)
  | .memChannelRetrain k _ _ => decide (k < 4)
  | .memChannelDown k _ _ => decide (k < 4)
  | .lntDispatch q n => decide (q < 4096) && decide (n < 72)
  | .lntRequestStart n _ _ => decide (n < 72)
  | .lntRecordScan n => decide (n < 72)
  | .lntRequestComplete n => decide (n < 72)
  | .lntMerge n => decide (n < 72)
  | .xltWalk k _ => decide (k < 4)
  | .synObjAdd _ => true
  | .synObjSet _ => true
  | .synObjArrive _ => true
  | .synWaitQuery _ => true
  | .objWindowLoad obj _ _ _ => decide (obj < 65536)
  | .objWindowAdd obj _ _ => decide (obj < 65536)
  | .objWindowSet obj _ _ => decide (obj < 65536)
  | .objWindowArrive obj _ _ => decide (obj < 65536)
  | .notifyArm obj _ _ => decide (obj < 65536)
  | .queueEntryTake q => decide (q < 4096)
  | .queueEntryStart q => decide (q < 4096)
  | .queueEntryWaitTimeout q => decide (q < 4096)
  | .queueEntryComplete q _ => decide (q < 4096)
  | .entryHoldMax q => decide (q < 4096)
  | .bondFrameReplay k c _ => decide (k < 4) && decide (c < 32)
  | .bondRetrain k c => decide (k < 4) && decide (c < 32)
  | .ucieFlitReplay l _ _ _ => decide (l < 6)
  | .ucieRetrain l => decide (l < 6)
  | .interruptDeliver _ => true
  | .siclaimRead hart _ => decide (hart < 64)
  | .pcieInbound q _ _ _ _ _ => decide (q < 2)
  | .pcieOutbound q _ _ _ _ _ _ => decide (q < 2)
  | .pcieAer q => decide (q < 2)
  | .pcieLinkTrain q _ _ => decide (q < 2)
  | .portTrain port _ _ => decide (port < 16)
  | .portTrainRetry port => decide (port < 16)
  | .portDown port => decide (port < 16)
  | .linkPacket port _ _ _ => decide (port < 16)
  | .linkReplay port _ => decide (port < 16)
  | .fabPacketForward port _ _ _ pkt => decide (port < 16) && pkt.wf
  | .ethFrameReceive port _ _ _ _ _ pkt => decide (port < 16) && pkt.wf
  | .pauseFrame port _ => decide (port < 16)
  | .e2eResendTimeout _ _ => true
  | .streamIdleFree _ _ => true
  | .fabWrite _ => true
  | .fabRead _ => true
  | .fabReadRsp _ => true
  | .fabAck _ => true
  | .fabSignal _ => true
  | .fabColl _ => true
  | .fabCollRes _ => true
  | .flarePreparePkt _ => true
  | .flareAckPkt _ => true
  | .flareHeldPkt _ => true
  | .flareCommitPkt _ => true
  | .flareCommitAckPkt _ => true
  | .flareAbortPkt _ => true
  | .flareDeadline _ _ => true
  | .joinTimeout => true
  | .mgmtCommandPkt _ => true
  | .mgmtReplyPkt _ => true
  | .mgmtHealthPkt _ => true
  | .mgmtAttachPkt _ => true
  | .mgmtDetachPkt _ => true
  | .mgmtAggPkt _ => true
  | .healthPeriod => true
  | .aggPeriod => true
  | .collStepStart n => decide (n < 256)
  | .collStepComplete n => decide (n < 256)
  | .collStepTimeout n => decide (n < 256)
  | .opRecoveryBound _ => true
  | .ctxRecoveryBound ctx _ => decide (ctx < 256)
  | .deviceRecoveryRepair _ => true
  | .deviceQuiesceBound => true
  | .ccWatchdog => true
  | .powerWindowEnd _ _ _ _ => true
  | .levelStep _ => true
  | .thermalLevelStep k _ => decide (k < 4)
  | .mainLossConfirm _ => true
  | .backupConduct => true
  | .eclipseBegin _ _ => true
  | .safePointsReached => true
  | .eclipseHold => true
  | .eclipseReturn => true
  | .returnComplete => true
  | .monitorSample n _ => decide (n < 1024)
  | .poweredHour => true
  | .replanDue => true
  | .fenceTakesEffect k _ _ => decide (k < 4)
  | .ctlAlertClear _ => true
  | .i3cDynamicAddress addr => decide (addr < 128)
  | .mctpSetEndpointId eid => decide (eid < 256)
  | .mctpGetEndpointId => true
  | .mctpGetEndpointUuid => true
  | .mctpGetVersionSupport _ => true
  | .mctpGetMsgTypeSupport => true
  | .mctpGetVendorMsgSupport => true
  | .vendorMessage _ _ => true
  | .pldmGetPdrRepoInfo => true
  | .pldmGetPdr _ => true
  | .pldmGetSensorReading _ => true
  | .pldmGetStateSensorReadings _ => true
  | .pldmSetEventReceiver _ => true
  | .pldmRequestUpdate => true
  | .pldmUpdateComponent _ image => image.wf
  | .pldmVerifyComplete _ => true
  | .pldmActivateFirmware => true
  | .spdmGetVersion => true
  | .spdmGetCapabilities => true
  | .spdmNegotiateAlgorithms _ _ => true
  | .spdmGetDigests => true
  | .spdmGetCertificate _ _ _ => true
  | .spdmChallenge _ nonce => decide (nonce.length = 32)
  | .spdmGetMeasurements _ _ nonce => decide (nonce.length = 32)
  | .spdmUnsupportedRequest _ => true
  | .tapReset => true
  | .tapExtest cells _ => decide (cells < 2 ^ 14)
  | .tapIdcode => true
  | .tapSamplePreload cells _ => decide (cells < 2 ^ 14)
  | .tapClamp => true
  | .tapHighz => true
  | .tapDebugAccess _ _ _ => true
  | .tapBypass op => decide (op < 256)
  | .softStartAbort _ _ => true
  | .inputWindowRestart _ _ => true
  | .refOkChange _ => true
  | .brakeReleaseTimerRestart => true
  | .secureBootComplete => true
  | .threadAluFp k c g lane => decide (k < 4) && decide (c < 64) && decide (g < 8) && decide (lane < 32)
  | .packetLifeExpired port _ => decide (port < 16)
  | .pcieCompletionTimeout _ => true
  | .beamLoadComplete k => decide (k < 4)
  | .tagRemoveWalkDone _ => true
  | .routeWriteDone ch => decide (ch < 64)
  | .l2UnpinComplete k => decide (k < 4)
  | .lntProgramLoadDone n _ => decide (n < 72)
  | .replanComplete => true
  | .fenceRecordDurable _ => true
  | .bondRetrainDone k c _ _ => decide (k < 4) && decide (c < 32)
  | .ucieRetrainDone l _ _ _ => decide (l < 6)

end Sys2Proof
end

