-- ==== Sys2Proof/Tests/Slice0.lean ====
section
/-! SUPPORT. Tests: ill-formed commands that Instr.wf refuses; what the worked examples of the spec say; and for each obligation that has
hypotheses a state and operands that meet them, clause by clause. -/

set_option Elab.async false
set_option linter.unusedVariables false

namespace Sys2Proof.Tests

open Sys2Proof Sys2Proof.Machine

/-- One ill-formed command for each check of Instr.wf, which it refuses. -/
theorem test_wf_refuses :
    (Instr.generatorLock (4608)).wf = false
    ∧ (Instr.cmdTailDoorbell (64) default default).wf = false
    ∧ (Instr.nop default { (default : Packet) with flags := 2 ^ 16 }).wf = false
    ∧ (Instr.nop default { (default : Packet) with seq := 2 ^ 32 }).wf = false
    ∧ (Instr.nop default { (default : Packet) with length := 2 ^ 16 }).wf = false
    ∧ (Instr.nop default { (default : Packet) with txn := 2 ^ 16 }).wf = false
    ∧ (Instr.nop default { (default : Packet) with params := List.replicate 511 0 }).wf = false
    ∧ (Instr.towerWritebackDone (4)).wf = false
    ∧ (Instr.contextResetDone (256) default).wf = false
    ∧ (Instr.queueStopComplete (4096)).wf = false
    ∧ (Instr.tilePassStart default (17) default default default).wf = false
    ∧ (Instr.vxePassStreamed default (8)).wf = false
    ∧ (Instr.groupPlace default default (64) default).wf = false
    ∧ (Instr.groupPlace default default default (8)).wf = false
    ∧ (Instr.threadLoad default default default (32)).wf = false
    ∧ (Instr.barrierStall default default default (4)).wf = false
    ∧ (Instr.sidePlaneAccess (16) default default default default).wf = false
    ∧ (Instr.lntDispatch default (72)).wf = false
    ∧ (Instr.objWindowLoad (65536) default default default).wf = false
    ∧ (Instr.bondFrameReplay default (32) default).wf = false
    ∧ (Instr.ucieFlitReplay (6) default default default).wf = false
    ∧ (Instr.siclaimRead (64) default).wf = false
    ∧ (Instr.pcieInbound (2) default default default default default).wf = false
    ∧ (Instr.portTrain (16) default default).wf = false
    ∧ (Instr.fabPacketForward default default default default { (default : FabPkt) with dst := 2 ^ 22 }).wf = false
    ∧ (Instr.fabPacketForward default default default default { (default : FabPkt) with src := 2 ^ 22 }).wf = false
    ∧ (Instr.fabPacketForward default default default default { (default : FabPkt) with tag := 2 ^ 20 }).wf = false
    ∧ (Instr.fabPacketForward default default default default { (default : FabPkt) with typ := 16 }).wf = false
    ∧ (Instr.fabPacketForward default default default default { (default : FabPkt) with life := 256 }).wf = false
    ∧ (Instr.fabPacketForward default default default default { (default : FabPkt) with hops := 16 }).wf = false
    ∧ (Instr.fabPacketForward default default default default { (default : FabPkt) with seq := 2 ^ 32 }).wf = false
    ∧ (Instr.fabPacketForward default default default default { (default : FabPkt) with opa := 2 ^ 64 }).wf = false
    ∧ (Instr.fabPacketForward default default default default { (default : FabPkt) with opb := 2 ^ 64 }).wf = false
    ∧ (Instr.fabPacketForward default default default default { (default : FabPkt) with payload := [0] }).wf = false
    ∧ (Instr.collStepStart (256)).wf = false
    ∧ (Instr.monitorSample (1024) default).wf = false
    ∧ (Instr.i3cDynamicAddress (128)).wf = false
    ∧ (Instr.mctpSetEndpointId (256)).wf = false
    ∧ (Instr.pldmUpdateComponent default { (default : BootImage) with digest := List.replicate 47 0, sig := List.replicate 96 0 }).wf = false
    ∧ (Instr.pldmUpdateComponent default { (default : BootImage) with digest := List.replicate 48 0, sig := List.replicate 95 0 }).wf = false
    ∧ (Instr.spdmChallenge default ([])).wf = false
    ∧ (Instr.tapExtest (2 ^ 14) default).wf = false
    ∧ (Instr.tapBypass (256)).wf = false := by decide +kernel

/-! Small states for the tests and the witnesses. -/

/-- A module in READY, powered from the main input, whose channel 60 is enabled for every group. -/
def wUp : State :=
  let b : Board := { Board.reset with mgmtUp := true, powered := true, main := { Supply.absent with good := true } }
  let s := { State.reset with board := b }
  let s := s.setFlds A.bootStatus [(F.bootStatus_STATE, 4)]
  (s.setFlds (A.chCfg 60) [(F.chCfg_ENABLE, 1)]).setFlds (A.chPermit 60) [(F.chPermit_GROUPS, 0xFFFF)]
/-- wUp with its board changed. -/
def wB (f : Board → Board) : State := { wUp with board := f wUp.board }
/-- A packet of some parameter words. -/
def wPkt (l : List Nat) : Packet := { flags := 0, seq := 7, length := 16 + 8 * l.length, txn := 0, params := l.map (BitVec.ofNat 64) }
/-- Channel 0 is a ring of 16 slots at 0x10000 whose first slot holds some bytes, and its replies enter 0x11000. -/
def wRing (bs : List Byte) : State :=
  let s := wUp.setFlds (A.chCfg 0) [(F.chCfg_ENABLE, 1), (F.chCfg_DOORBELL_SRC, 2)]
  let s := (s.setFlds (A.chCmdBase 0) [(F.chCmdBase_SIZE_LOG2, 4), (F.chCmdBase_BASE, 16)]).setFld (A.chCmdPtr 0) F.chCmdPtr_TAIL 1
  let s := (s.setFlds (A.chRplBase 0) [(F.chRplBase_SIZE_LOG2, 4), (F.chRplBase_BASE, 17)]).setFlds (A.chPermit 0) [(F.chPermit_GROUPS, 0xFFFF)]
  s.wrBytes 0x10000 bs
/-- A NOP packet's bytes. -/
def wNop : List Byte := [0, 0, 0, 0, 7, 0, 0, 0, 16, 0, 0, 0, 0, 0, 0, 0]
/-- wUp with channel 60 changed. -/
def wChan (f : Channel → Channel) : State := wUp.modChan 60 f
/-- A transaction of some entries and reads. -/
def wTxn (es : List ShadowEntry) (rs : List Nat) : Txn := { id := 5, beginStamp := 3, entries := es, reads := rs }
/-- A tile of one element and K 4 with formats FMT_A and FMT_C, at an anchor; its data lie at 0x1000, 0x2000 and 0x3000. -/
def wTile (fa fc : Nat) (anchor : Int) : Tile :=
  { desc := ⟨[1 + fa * 2 ^ 8 + fa * 2 ^ 16 + fc * 2 ^ 24, 1 + 2 ^ 16 + 4 * 2 ^ 32, 0x1000 + 64 * 2 ^ 32, 0x2000 + 64 * 2 ^ 32, 0x3000 + 64 * 2 ^ 32, 0, 0, 0]⟩,
    src := .beam 0, owner := { ctx := 1, entry := none }, cluster := 0, step := 8, holdLog2 := 4, xen := false, e0 := anchor, x0 := 0,
    anchor := anchor, shift := 0, eNeed := anchor, xNeed := 0, attempt := 0, started := 0, ended := 0, acc := [], pmax := none, errRec := false,
    injected := false, checked := false, draining := false, sat := false, opref := 0 }
/-- An engine with some tiles, and ones in A and B. -/
def wEng (e : Nat) (ts : List Tile) : State :=
  let s := (wUp.wrBytes (spBase 0 + 0x1000) [0x80, 0x80, 0x80, 0x80]).wrBytes (spBase 0 + 0x2000) [0x80]
  s.setTiles 0 e ts
/-- The words of the worked example of R244, as 64-bit units. -/
def wExample : List Nat :=
  [0x0001010000000000, 0x0040020100000014, 2, 0x0000100000000003, 2, 0x0000001200000000, 0, 0x00000001000042C1, 0x0000000001000003,
    0x0000000300000003, 0x000000000005FFF1, 0x0002000000000000, 4]
/-- An image of some words with an entry and no descriptor. -/
def wImage (ws : List Nat) (entry : Nat) : List Byte :=
  leBytes 4 0x45424D49 ++ leBytes 2 1 ++ leBytes 2 0 ++ leBytes 4 (8 * ws.length) ++ leBytes 4 entry ++ List.replicate 48 0#8
    ++ ws.flatMap (leBytes 8)
/-- A module that loads the image at 0x4000 into bank 0 of tower 0, on channel 60. -/
def wLoad (bs : List Byte) : State :=
  let s := (wUp.wrBytes 0x4000 bs).setFld (A.xltRoot 1) F.xltRoot_OPEN 1
  let s := s.modChan 60 (fun c => { c with current := some (0x600, wPkt []), busy := true })
  s.modBeam 0 (fun b => { b with load := some { bank := 0, ctx := 1, addr := 0x4000, chan := 60 } })
/-- The beam of tower 0 in a state, at an address of some words, with engines mapped to themselves. -/
def wBeam (st pc : Nat) (ws : List Nat) (f : Beam → Beam := id) : State :=
  let s := (wUp.setFld (A.xltRoot 1) F.xltRoot_OPEN 1).setFlds (A.beamBank 0 0) [(F.beamBank_VALID, 1), (F.beamBank_CONTEXT, 1)]
  let s := s.setFlds (A.beamStatus 0) [(F.beamStatus_STATE, st), (F.beamStatus_PC, pc), (F.beamStatus_CONTEXT, 1)]
  let s := (List.range 2).foldl (fun s e => s.setFlds (A.mxeRemap 0 e) [(F.mxeRemap_VALID, 1), (F.mxeRemap_PHYS, e)]) s
  s.modBeam 0 (fun b => f { b with banks := [⟨ws, [], 0⟩, ⟨[], [], 0⟩], owner := { ctx := 1, entry := none } })
/-- A vector instruction chain that nothing has streamed. -/
def wChain : Chain :=
  { src := .beam 0, owner := { ctx := 1, entry := none }, ins := [], closed := true, streamed := false, opref := 0, elems := 1, lanes := 1, out := [], wrote := false, oor := [], sr := 0 }
/-- An instruction word of register form. -/
def wR (f7 rs2 rs1 f3 rd op : Nat) : Nat := f7 * 2 ^ 25 + rs2 * 2 ^ 20 + rs1 * 2 ^ 15 + f3 * 2 ^ 12 + rd * 2 ^ 7 + op
/-- A thread at 0x100 whose x5 is a and whose x6 is b. -/
def wThread (a b : Nat) : Thread :=
  { x := ((List.replicate 32 0#64).set 5 (BitVec.ofNat 64 a)).set 6 (BitVec.ofNat 64 b), f := List.replicate 32 0#64, fcsr := 0, pc := 0x100, cmask := 1, spin := 0,
    spinning := false, lastAt := none, ended := false, instret := 0, wait := .none, loads := [] }
/-- A group whose one subgroup is m. -/
def wGroup (a b m : Nat) : Group :=
  { owner := { ctx := 1, entry := none }, launch := 7, index := 2, arg := 9, lanes := m, threads := List.replicate 32 (wThread a b), subs := [m],
    bars := [], cfg := 0, recent := 0 }
/-- Core 0 of tower 0 runs a group whose next instruction is w. Context 1 maps its first 2 MiB to scratchpad 0 and its second to the stack tier. -/
def wThr (w : Nat) (v : Group) : State :=
  let s := wUp.wrBytes (spBase 0 + 0x100) (leBytes 4 w)
  let s := (s.wrBytes 0x1000 [1, 2, 3, 4, 5, 6, 7, 8]).setFld (A.xltRoot 1) F.xltRoot_OPEN 1
  let s := s.setXcache (.cluster 0) [{ ctx := 1, va := 0, span := 21, pa := spBase 0, leaf := 0x1C, kept := false, evict := false },
    { ctx := 1, va := 2 ^ 21, span := 21, pa := 0, leaf := 0x1C, kept := false, evict := false }]
  let s := s.setFlds (A.tcGroup0 0 0 0) [(F.tcGroup0_STATE, 1), (F.tcGroup0_CONTEXT, 1)]
  s.setGroup 0 0 0 v
/-- The state after the fetch of w. -/
def wFet (w : Nat) (v : Group) : State := ((wThr w v).fetch 0 0 0 v 0x100).1
/-- The state after the translation of an access too. -/
def wRea (w : Nat) (v : Group) (kd : TKind) : State :=
  let a := memArgs kd w (v.thread 0)
  ((wFet w v).reach 0 0 0 v a.1 a.2.1 a.2.2.1 a.2.2.2).1
/-- The second entry of that translation. -/
def wEnt : XEntry := { ctx := 1, va := 2 ^ 21, span := 21, pa := 0, leaf := 0x1C, kept := false, evict := false }
/-- A request of thread 0 of that group for an address. -/
def wReq (kind : ReqKind) (pa n : Nat) (bs : List Byte) (red : Nat := 0) : HomeReq :=
  { who := .thread 0 0 0 0, owner := { ctx := 1, entry := none }, kind := kind, pa := pa, len := n, bytes := bs, policy := 0, red := red, rd := 7, op := 3,
    l1 := false, evict := false, va := pa, pc := 0x100 }
/-- Object 70 of type t belongs to context 1. -/
def wObj (s : State) (t : Nat) : State := s.setFlds (objReg0 70) [(F.synObj0_TYPE, t), (F.synObj0_CONTEXT, 1)]
/-- A state whose debug access is open for the device. -/
def wDbg (s : State) : State := s.setFld A.debugStatus F.debugStatus_DEVICE 1
/-- A descriptor of a row of four bfloat16 elements between 0x2001000 and 0x2000 of the scratchpad; dir true stores. -/
def wMove (dir : Bool) (kind : Nat) : Move :=
  { id := 3, w := [1 + 4 * b2n dir + 8 * kind + 5 * 2^5 + 5 * 2^10 + 2^18, 2^21 + 0x1000, 0x2000, 4 + 2^16 + 2^32 + 2^48, 1 + 70 * 2^48, 0, 0, 0], off := 9,
    owner := { ctx := 1, entry := none }, pos := 0, started := false, done := false, fail := none, got := [], row := 0, marked := false, elems := 0 }
/-- Mover 0 of tower 0 holds some descriptors. -/
def wMov (q : List Move) : State :=
  let s := (wObj (wThr 0x13 (wGroup 1 2 1)) 2).wrBytes (spBase 0 + 0x1000) [1, 2, 3, 4, 5, 6, 7, 8]
  s.setMover 0 0 { queue := q, next := 10, stopped := none }
/-- The slice of tower 0 that the home of address 0x1000 is. -/
def wKey : Nat := (wUp.homeKey 0x1000).getD 0
/-- A whole line that holds 0x1000, whose first byte is dirty. -/
def wLine : L2Line := { line := 0x20, way := 0, valid := 2 ^ 128 - 1, dirty := 1, behind := [(0, 9)], poison := 0, evict := false }
/-- Some requests on their way, and that slice changed. -/
def wL2 (r : List HomeReq) (f : Slice → Slice) : State :=
  let s := (wThr 0x13 (wGroup 1 2 1)).modSlice wKey f
  { s with l2 := { s.l2 with flying := r } }
/-- The unit whose part of the stack tier address 0 is in. -/
def wUnit : Nat := ((wUp.place 0).map Place.unit).getD 0
/-- A lantern request of words: kind, program, D, DV, K, NREC, P0 to P3. Records of 64 bytes at 0 (partials at 0x20000 when it merges); result at 0x10000,
stride 4096; input at 0x400 and state at 0x800 of the unit's buffer. -/
def wLr (kind prog nq d dv k nrec p0 p1 p2 p3 : Nat) : LntReq :=
  let w := [kind + prog * 2 ^ 4 + nq * 2 ^ 8 + 2 ^ 15 + d * 2 ^ 16 + dv * 2 ^ 25 + k * 2 ^ 34 + 5 * 2 ^ 43 + 5 * 2 ^ 48 + 2 * 2 ^ 56, if kind = 2 then 0x20000 else 0,
    nrec + 70 * 2 ^ 48, 0x10000, 4096 + 16 * 2 ^ 32 + 32 * 2 ^ 44, p0 + p1 * 2 ^ 32, p2 + p3 * 2 ^ 32, 2 ^ wUnit]
  LntReq.fresh w { ctx := 1, entry := none } 0
/-- That unit's queue is q; context 1 maps its first 2 MiB to the first of the stack tier. -/
def wLnt (q : List LntReq) : State :=
  let s := (wObj wUp 2).setXcache (.base (lntTower wUnit)) [{ ctx := 1, va := 0, span := 21, pa := 0, leaf := 0x1C, kept := false, evict := false }]
  s.setLunit wUnit { queue := q, loaded := [], hot := false }
/-- A partial with four bins. -/
def wPartial : List Byte := partialHeader 4 0 2 0 0 0 0 4 wUnit 0 1 0 0 0 1 ++ List.replicate 32 1#8
/-- Context 1 is open; its tables map address 0x5000 to 0x200000. -/
def wTab : State :=
  let s := wUp.setFlds (A.xltRoot 1) [(F.xltRoot_OPEN, 1), (F.xltRoot_ROOT_LOG2, 9), (F.xltRoot_ROOT, 0x100)]
  let s := (s.wrBytes 0x100000 (leBytes 8 (1 + 0x101000))).wrBytes 0x101000 (leBytes 8 (1 + 0x102000))
  (s.wrBytes 0x102000 (leBytes 8 (1 + 0x103000))).wrBytes 0x103028 (leBytes 8 (0x1F + 0x200000))
/-- A walk of context 1 for address 0x5000, about to read the entry of a level at an address. -/
def wWalk (level addr : Nat) : Walk :=
  { tower := 0, cache := .cluster 1, ctx := 1, va := 0x5000, acc := .read, agent := 0, level := level, addr := addr, began := 0, owner := none, unit := 0 }
/-- That state with some walks. -/
def wXlt (l : List Walk) : State := { wTab with xlt := { wTab.xlt with walks := l } }
/-- That state with an invalidation that has not completed. -/
def wEpoch : Epoch := { ctx := 1, e := 1, va := 0, len := 0, all := true, done := none, chan := none, tail := [], towers := 0 }
/-- Queue 9 of context 1 in a state, with ring 0x40000 and doorbell 71. -/
def wQ (st : Nat) (v : Queue) : State :=
  let s := (wObj wUp 2).setFlds (objReg0 71) [(F.synObj0_TYPE, 1), (F.synObj0_CONTEXT, 1), (F.synObj0_DOORBELL, 1)]
  let s := s.setFld (A.xltRoot 1) F.xltRoot_OPEN 1
  let s := (s.setFlds (qCfg 9) [(F.synQCfg_CONTEXT, 1), (F.synQCfg_SIZE_LOG2, 4), (F.synQCfg_DOORBELL, 71)]).setFld (qStatus 9) F.synQStatus_STATE st
  s.setQueue 9 v
/-- An empty queue that has taken n entries. -/
def wQueue (n : Nat) (es : List QEntry) : Queue :=
  { ring := 0x40000, base := 0, taken := n, entries := es, skipTo := 0, skipping := false, stop := none, tag := none }
/-- An operation of a thread of context 1 on object 70. -/
def wOp (op value : Nat) : SynOp :=
  { who := .thread 0 0 0 0, ctx := some 1, obj := 70, op := op, value := value, owner := some { ctx := 1, entry := none }, seq := 0 }
/-- A wait of a beam on object 70. -/
def wWait (who : Issuer) (cond value : Nat) : Wait := { who := who, ctx := 1, obj := 70, cond := cond, value := value, met := false, refused := false }
/-- A state with some operations in flight and some waits. -/
def wSyn (t : Nat) (l : List SynOp) (ws : List Wait) : State :=
  let s := wObj wUp t
  { s with syn := { s.syn with flying := l, waits := ws } }
/-- A kernel of one group of cluster 0 whose words are all else 0. -/
def wKernel : List Nat := [2, 0, 0, 0, 0, 0, 0, 0, 0x100, 0, 0, 0, 1 + 2 ^ 32, 1, 0, 0]
/-- Bond channel c of tower k is up; links are up. -/
def wLnk (l : List Nat) (t : List Nat) (st : Nat) : State :=
  let s := wUp.setFlds (A.bondStatus 3) [(F.bondStatus_CHANNELS_UP, 0xFFFFFFFF), (F.bondStatus_UP_COUNT, 32)]
  let s := ((List.range 6).flatMap linkEnds).foldl (fun s a => s.setFld a F.linkStatus_STATE st) s
  { s with lnk := { s.lnk with due := l, training := t } }
/-- PCIe port 1 is up, with an inbound window over the first 4 GiB; the object window is open. -/
def wPcie : State :=
  let s := (wObj wUp 2).setFld (objReg0 70) F.synObj0_PEER_EN 1
  let s := { s with board := { s.board with perst := false } }
  (s.setFld (A.peStatus 1) F.peStatus_UP 1).setFlds (A.peInwin 1 0) [(F.peInwin_EN, 1), (F.peInwin_RD_EN, 1), (F.peInwin_WR_EN, 1), (F.peInwin_SIZE_LOG2, 32)]
/-- A module with ID 5, a member of the job of tag 9 in slot 1, whose fabric ports 0 and 1 are up. -/
def wFab : State :=
  let s := (wTab.setFlds A.fabDevStatus [(F.fabDevStatus_ID, 5), (F.fabDevStatus_PART, 3), (F.fabDevStatus_MEMBER_TAG, 9), (F.fabDevStatus_MEMBER_SLOT, 1),
    (F.fabDevStatus_CONTEXT, 1)]).setFlds (A.fabTag 1) [(F.fabTag_TAG, 9), (F.fabTag_ROLE, 3), (F.fabTag_CONTEXT, 1)]
  (s.setFld (portStatusOf 0) F.portStatus_STATE 2).setFld (portStatusOf 1) F.portStatus_STATE 2
/-- That module with tag 9 as TRANSIT in slot 1, and ID 8's entry e. -/
def wTran (e : Nat) : State :=
  let s := wUp.setFlds A.fabDevStatus [(F.fabDevStatus_ID, 5)]
  let s := s.setFlds (A.fabTag 1) [(F.fabTag_TAG, 9), (F.fabTag_ROLE, 1)]
  let s := (s.setFld (portStatusOf 0) F.portStatus_STATE 2).setFld (portStatusOf 1) F.portStatus_STATE 2
  { s with fab := { s.fab with table := [(8, e)] } }
/-- A packet of tag 9. -/
def wFp (dst src typ : Nat) (bs : List Byte) : FabPkt :=
  { dst := dst, src := src, tag := 9, typ := typ, ord := false, first := false, life := 60, hops := 15, seq := 3, opa := 0, opb := 0, payload := bs }
/-- A packet of the network. -/
def wNp (dst src typ : Nat) (bs : List Byte) : FabPkt := { wFp dst src typ bs with tag := 0 }
/-- A teardown of that job. -/
def wTear : Teardown := { tag := 9, ctx := 1, chan := 60, start := 0, forced := false, fence := none }
/-- Channel 60 waits for the reply to a command. -/
def wBusy (s : State) (op : Nat) : State := s.modChan 60 (fun c => { c with current := some (op, wPkt []), busy := true })
/-- wFab, where context 1 maps its first 2 MiB to the stack tier for the base die of tower 0, with packets delivered. -/
def wIn (l : List FabPkt) : State :=
  let s := wFab.setXcache (.base 0) [{ ctx := 1, va := 0, span := 21, pa := 0, leaf := 0x1C, kept := false, evict := false }]
  { s with fab := { s.fab with inbox := l.map (fun p => { port := 1, pkt := p }) } }
/-- A module with ID 5 that belongs to no job, with packets delivered and flares. -/
def wFree (l : List FabPkt) (fs : List Flare) : State :=
  let s := wTab.setFld A.fabDevStatus F.fabDevStatus_ID 5
  { s with fab := { s.fab with inbox := l.map (fun p => { port := 1, pkt := p }), flares := fs } }
/-- A descriptor of flare 77 for two members, the IDs a and a + 1. -/
def wDesc (a : Nat) : List Nat := [9 + 2 ^ 20 + 2 * 2 ^ 28, 77, 2 + 2 ^ 24 + 2 ^ 48, 0, a + 2 * 2 ^ 32]
/-- That flare at this module. -/
def wFlare (a i ph : Nat) (up : Option Nat) (kids : List FlareChild) : Flare :=
  { id := 77, desc := wDesc a, index := i, parent := up, kids := kids, phase := ph, held := false, chan := none, doneObj := none }
/-- wFree in JOINING for it, with tag 9 in slot 1. -/
def wJoin (l : List FabPkt) (fs : List Flare) : State :=
  (wFree l fs).setFlds A.fabDevStatus [(F.fabDevStatus_PART, 2), (F.fabDevStatus_MEMBER_TAG, 9), (F.fabDevStatus_MEMBER_SLOT, 1), (F.fabDevStatus_CONTEXT, 1)]
    |>.setFlds (A.fabTag 1) [(F.fabTag_TAG, 9), (F.fabTag_ROLE, 2), (F.fabTag_CONTEXT, 1)]
/-- A first FLARE packet from ID 7. -/
def wFlp (ph i : Nat) (bs : List Byte) : FabPkt := { wNp 5 7 9 bs with ord := true, first := true, opa := ph + 77 * 2 ^ 32, opb := i }
/-- A collective of context 1 that sums four 32-bit integers. -/
def wColl (run : Bool) (kids : List Nat) : Coll :=
  { ctx := 1, mode := 1, op := 0, fmt := 0x10, rnd := 0, anchor := 0, trig := 70, done := 70, timeout := 0, src := 0x1000, dst := 0x2000, elems := 4, parent := 4,
    root := false, kids := kids, step := 3, running := run, start := 0, inject := 0, written := 0, segs := [], lag := (0 :: kids).map (fun _ => { last := 0, total := 0, max := 0 }) }
/-- wIn with collective 200. -/
def wCol (l : List FabPkt) (c : Coll) : State := (wObj (wIn l) 1).setColl 200 c
/-- A management packet from ID 7. -/
def wMg (k : Nat) (bs : List Byte) : FabPkt := { wNp 5 7 10 bs with ord := true, first := true, opa := k }
/-- A recovery of level l that the operation of context 1 on tower 0 began. -/
def wRec (l : Nat) (e : Option (Nat × Nat)) (own : Option RecordReq) : Recovery :=
  { level := l, unit := if l = 2 then 1 else unitMxe 0 3, opref := 0, owner := some { ctx := 1, entry := e }, tower := 0, cls := 1, own := own, related := 0, deferred := false,
    bounded := l = 0 }
/-- A module with that recovery in progress. -/
def wRecov (v : Recovery) : State := { wUp with err := { wUp.err with recov := [v] } }
/-- An energy report of a context. -/
def wReport (closed : Bool) : EnergyReport :=
  { kinds := List.replicate 8 5, unattr := 6, device := 7, windows := 8, gainMin := 9, gainMax := 10, clamped := true, eclipse := false, braked := true,
    startUs := 11, endUs := 12, closed := closed }
/-- wUp with its power state changed. -/
def wPwr (f : Power → Power) : State := { wUp with pwr := f wUp.pwr }
/-- A sample of a level step. -/
def wSample (mw : Nat) : PowerSample :=
  { mainMw := mw, fillMw := 0, mainMa := 1000, upMw := mw + 1000, fill := [], newFill := 0, idle := [], senseIn := 5, busMv := 48000, temp := 6, tempAux := 7 }
/-- wUp in a supply phase, with both inputs good. -/
def wPhase (n : Nat) : State :=
  (wB (fun b => { b with backup := { Supply.absent with good := true } })).setFld A.pwrSupply F.pwrSupply_PHASE n
/-- wUp with its ageing state changed. -/
def wAge (f : Ageing → Ageing) : State := { wUp with age := f wUp.age }
/-- A trace of context 1. -/
def wTrace (src : Nat) (cs : List Nat) : Trace :=
  { ctx := 1, allCtx := false, enable := true, wrap := false, sources := src, base := 0x100000, bytes := 4096, objFirst := 0, objCount := 0, sampleUs := 10, counters := cs }
/-- wDbg with management changed. -/
def wMan (f : Manage → Manage) : State := { wUp with mg := f wUp.mg }
/-- The row of the register table at an address, and its indices. -/
def wRow (a : Nat) : RegRow × List Nat :=
  match regAt a with
  | some q => q
  | none => (⟨"", 0, [], .immediate, [], fun _ _ => 0⟩, [])
/-- What a row found is. -/
theorem wRow_eq {a b : Nat} (h : a = b ∧ (regAt b).isSome = true) : regAt a = some ((wRow b).1, (wRow b).2) := by
  obtain ⟨rfl, h⟩ := h
  unfold wRow
  cases hr : regAt a with
  | none => simp [hr] at h
  | some q => rfl
/-- A result that is there. -/
theorem wExc {ε α : Type} [DecidableEq α] {x : Except ε α} {v : α} (h : (match x with | .ok a => decide (a = v) | .error _ => false) = true) : x = .ok v := by
  cases x with
  | error e => cases h
  | ok a => simp at h; rw [h]
/-- A result that is an error. -/
theorem wErr {ε α : Type} [DecidableEq ε] {x : Except ε α} {v : ε} (h : (match x with | .ok _ => false | .error a => decide (a = v)) = true) : x = .error v := by
  cases x with
  | ok a => cases h
  | error e => simp at h; rw [h]
/-- What holds of each number of a span. -/
theorem wSpan {P : Nat → Prop} {a b : Nat} (h : ∀ i, i < b - a → P (a + i)) : ∀ i, a ≤ i → i < b → P i := by
  intro i h1 h2
  have := h (i - a) (by omega)
  rwa [show a + (i - a) = i by omega] at this
/-- The home of a line's bytes. -/
theorem wLines {s : State} {l : Nat} {key : Option Nat} (h : ∀ r, r < 128 → s.homeKey (128 * l + r) = key) : ∀ a, a / 128 = l → s.homeKey a = key := by
  intro a ha
  have := h (a % 128) (by omega)
  rwa [show 128 * l + a % 128 = a by omega] at this
/-- What holds of the rows of some registers. -/
theorem wPlain {β : Type} {l : List (Nat × β)} {ch : Nat}
    (h : ∀ x ∈ l, (x.1 ≠ A.bootStatus ∧ persIndex x.1 = none) ∧ (regAt x.1).isSome = true ∧ (wRow x.1).1.plain = true
      ∧ chDenied ch x.1 (wRow x.1).1 = false) :
    ∀ x ∈ l, x.1 ≠ A.bootStatus ∧ persIndex x.1 = none ∧ ∃ r is, regAt x.1 = some (r, is) ∧ r.plain = true ∧ chDenied ch x.1 r = false :=
  fun x hx => ⟨(h x hx).1.1, (h x hx).1.2, _, _, wRow_eq ⟨rfl, (h x hx).2.1⟩, (h x hx).2.2⟩
/-- What holds of each address that the lanes of a set reach. -/
theorem wReach {rs : List (Nat × Nat × Nat × Reach)} {P : Nat → XEntry → Prop} [∀ pa e, Decidable (P pa e)]
    (h : rs.all (fun r => match r.2.2.2 with | .at pa e => decide (P pa e) | _ => false) = true) :
    ∀ r ∈ rs, ∃ pa e, r.2.2.2 = .at pa e ∧ P pa e := by
  intro r hr
  have := List.all_eq_true.mp h r hr
  split at this
  · exact ⟨_, _, ‹_›, of_decide_eq_true this⟩
  · cases this

/-! What the spec's worked examples say. -/

/-- Products of two rows of codes of a format, accumulated at an anchor. -/
def tRow (f : Fmt) (anchor sigma : Int) (xs : List (Nat × Nat)) : Acc :=
  xs.foldl (fun a x => a.product anchor sigma (f.decode x.1) (f.decode x.2)) Acc.zero
/-- The row of the bfloat16 example of 07_aperture_formats.md. -/
def tBf : List (Nat × Nat) := [(0x4400, 0x3F80), (0x28C0, 0x2880), (0x28C0, 0x2880), (0x28C0, 0x2880)]
/-- 07_aperture_formats.md, the bfloat16 example: 512 alone remains at anchor 9. -/
theorem test_bf16_row : (tRow .bf16 9 0 tBf).w = 2 ^ 100 ∧ ((tRow .bf16 9 0 tBf).output 9 0 .bf16 .even false).1 = 0x4400
    ∧ (tRow .bf16 8 0 tBf).ovf = true ∧ ((tRow .bf16 109 0 tBf).output 109 0 .bf16 .even false).1 = 0x4400
    ∧ ((tRow .bf16 110 0 tBf).output 110 0 .bf16 .even false).1 = 0 := by decide +kernel
/-- The row of the E4M3 example of 07_aperture_formats.md. -/
def tE4 : Acc := tRow .e4m3 17 0 [(0x4C, 0x3A), (0xB3, 0x45), (0x01, 0x7E)]
/-- 07_aperture_formats.md, the E4M3 example: 6.140625 into bfloat16 and binary16. -/
theorem test_e4m3_row : tE4.w = 393 * 2 ^ 77 ∧ (tE4.output 17 0 .bf16 .even false).1 = 0x40C4 ∧ (tE4.output 17 0 .bf16 .up false).1 = 0x40C5
    ∧ [Rnd.even, .zero, .up, .down].all (fun r => (tE4.output 17 0 .f16 r false).1 = 0x4624) = true := by decide +kernel
/-- 07_aperture_formats.md, the MXFP4 example: it overflows at 8; with X 1 it stores 0x79, with X 0 it saturates. -/
theorem test_mxfp4_block : (tRow .e2m1 8 4 [(7, 7), (9, 5)]).ovf = true ∧ (tRow .e2m1 9 4 [(7, 7), (9, 5)]).w = 69 * 2 ^ 94
    ∧ (tRow .e2m1 9 4 [(7, 7), (9, 5)]).output 9 1 .e4m3 .even false = (0x79, false)
    ∧ (tRow .e2m1 9 4 [(7, 7), (9, 5)]).output 9 0 .e4m3 .even false = (0x7E, true) := by decide +kernel
/-- Three records at anchor 20. -/
def tRec (w : Nat) : ApRec := { w := w, anchor := 20, flags := 0 }
/-- 07_aperture_formats.md, the example of three records: the sum is the same in any order, and reads 0x1C10 as bfloat16. -/
theorem test_records_sum : (((tRec 0x300).add (tRec (2 ^ 128 - 0x100))).add (tRec 0x40)).w = 0x240
    ∧ (((tRec (2 ^ 128 - 0x100)).add (tRec 0x40)).add (tRec 0x300)).w = 0x240
    ∧ ((tRec 0x240).convert 0 .bf16 .even).1 = 0x1C10 := by decide +kernel
/-- 08_scaling_rounding.md, the example of stochastic rounding. -/
theorem test_stochastic : convert (.fin (Dy.ofInt 1027 (-10))) .bf16 (.sr 0x5FFFFFFF) true = (0x3F81, false)
    ∧ convert (.fin (Dy.ofInt 1027 (-10))) .bf16 (.sr 0x60000000) true = (0x3F80, false) := by decide +kernel
/-- 06_matrix_engines.md, the slicing example: −0.3 against the row exponent 1, and 1.5. -/
theorem test_slices : (match Fmt.f64.decode 0xBFD3333333333333 with | .fin d => slice d 1 7 | _ => []) = [-10, 102, 102, 102, 102, 102, 102]
    ∧ slice (Dy.ofInt 3 (-1)) 1 7 = [48, 0, 0, 0, 0, 0, 0] := by decide +kernel
/-- 14_memory_tiers.md, the example of an address with Ds 192: stack S7, channel 1, offset 0x91A00; its home is T3.L24. -/
theorem test_stack_place : wUp.place 0x12345680 = some (.stack 7 1 0 0x91A00) ∧ wUp.place 0x123456C0 = some (.stack 7 1 1 0x91A00)
    ∧ wUp.home 0x12345680 = some (3, 24) := by decide +kernel
/-- The tables of context 9 in 16_translation.md's example, with the links up. -/
def tTab : State :=
  let s := (wLnk [] [] 2).setFlds (A.xltRoot 9) [(F.xltRoot_OPEN, 1), (F.xltRoot_ROOT_LOG2, 18), (F.xltRoot_ROOT, 0x40000)]
  ((((s.wrBytes 0x40000018 (leBytes 8 0x40200001)).wrBytes 0x40200028 (leBytes 8 0x40201001)).wrBytes 0x40201D10 (leBytes 8 0x40202001)).wrBytes
    0x40202618 (leBytes 8 0x006004001234300F))
/-- 16_translation.md: a load from 0x181744C3123 goes to 0x040012343123, and one from 0x181744C8010 to 0x040012348010. -/
theorem test_walk : (match (tTab.translate (.cluster 0) 9 0x181744C3123 .read).2 with
    | .ok e => (e.target 0x181744C3123, e.target 0x181744C8010, e.va, e.span) | _ => (0, 0, 0, 0))
    = (0x040012343123, 0x040012348010, 0x181744C0000, 18) := by decide +kernel
/-- 09_beam.md: the words of the example parse, and the second pass finds no fault. -/
theorem test_beam_words : (match parseArea wExample 0 13 with | .ok ws => decide (secondPass ws 0 64 = none ∧ ws ≠ []) | .error _ => false) = true := by
  decide +kernel
/-- 21_power.md, the example of a window: the gain goes from 1.04 to 0x10AD. -/
theorem test_gain : gainField ((wPwr (fun p => { p with gainN := 104, gainD := 100 })).pwr.calibrate 2800000 (2600000 * 1000000)) = 0x10AD := by decide +kernel
/-- 23_manage_debug.md, the example of a key: granule 4096's key field lies in register 0x0E000000A000. -/
theorem test_key_register : A.keyMap (0x040012343123 / 2 ^ 30 / 4) = 0x0E000000A000 := by decide +kernel
/-- IM-RQ4-C after that split. -/
def tSplit : State :=
  let s : State := { wUp with part := { wUp.part with kind := .c } }
  s.withSplit 128 192
/-- 01_device.md, the example of a split: with Ds 128 and Dc 192, T2's windows are populated for 64 GiB each. -/
theorem test_windows : tSplit.rangeIn 0x007FFFFFFFFF 1 = true ∧ tSplit.rangeIn 0x008000000000 1 = false ∧ tSplit.rangeIn 0x018FFFFFFFFF 1 = true
    ∧ tSplit.rangeIn 0x04BFFFFFFFFF 1 = true ∧ tSplit.rangeIn 0x0A0FFFFFFFFF 1 = true ∧ tSplit.rangeIn 0x0A1000000000 1 = false := by decide +kernel

/-! A witness of the hypotheses of each clause, by obligation. -/

/-- An image of one byte of a type, with a signature, whose digest is its body's. -/
def wBoot (typ : Nat) (g : List Byte) : BootImage :=
  { magic := 0x51524D49, typ := typ, hdrLen := 0x200, svn := 2 ^ 32 - 1, version := 1, loadAddr := if typ = 4 then 0x2000 else 0,
    entry := if typ = 4 then 0x2000 else 0, bodyLen := 1, digest := digestBytes (sha384 [5]), sig := g, reservedZero := true, body := [5] }
/-- A module in SECURE_BOOT with a preferred slot, true for B. -/
def wBooted (pref : Bool) : State :=
  (wUp.setFlds A.bootStatus [(F.bootStatus_STATE, 1)]).setFlag A.bootCfg F.bootCfg_SLOT_PREF pref
/-- That module, whose slot A holds such images, and slot B none. -/
def wBooting (pref : Bool) (g : Nat → List Byte) : State :=
  { wBooted pref with board := { wUp.board with slotA := [wBoot 1 (g 1), wBoot 2 (g 2), wBoot 3 (g 3), wBoot 4 (g 4)], slotB := [] } }
/-- The board says nothing of a register. -/
theorem wBoard_fld (s : State) (b : Board) (a : Nat) (f : Fld) : ({ s with board := b } : State).fld a f = s.fld a f := rfl
/-- The board says nothing of where a first image lies. -/
theorem wBoard_placed (s : State) (b : Board) (g : List Byte) :
    ({ s with board := b } : State).imagePlaced (wBoot 4 g) 4 = s.imagePlaced (wBoot 4 []) 4 := by
  have e : ({ s with board := b } : State).bootSplit = s.bootSplit := rfl
  unfold State.imagePlaced
  rw [e]
  cases s.bootSplit <;> rfl
/-- With signatures of Iamet's boot key slot A passes, and slot B does not. -/
theorem witness_ResetAndBootAdvanceReadiness_slot (pref : Bool) (g : Nat → List Byte)
    (h : ∀ t, ecdsaVerify (Config.iametKey bootKey) (sha384 (imageSigned (wBoot t []))) (g t) = true) :
    (wBooting pref g).readiness = 1 ∧ (wBooting pref g).flag A.bootCfg F.bootCfg_SLOT_PREF = pref
      ∧ (wBooting pref g).slotFails (wBooting pref g).board.slotA = none ∧ (wBooting pref g).slotFails (wBooting pref g).board.slotB = some 1 := by
  have hp : (wBooting pref g).imagePlaced (wBoot 4 (g 4)) 4 = true := by
    refine (wBoard_placed (wBooted pref) _ (g 4)).trans ?_
    cases pref <;> decide +kernel
  have hs : (wBooting pref g).fld A.bootSvn F.bootSvn_MIN_SVN = 0 := by
    refine (wBoard_fld (wBooted pref) _ _ _).trans ?_
    cases pref <;> decide +kernel
  have hl : ∀ d, (digestBytes d).length = 48 := by intro d; simp [digestBytes, leBytes]
  have ok : ∀ t, t = 1 ∨ t = 2 ∨ t = 3 ∨ t = 4 → (wBooting pref g).imageOk (wBoot t (g t)) t = true := by
    intro t ht
    have hp' : (wBooting pref g).imagePlaced (wBoot t (g t)) t = true := by
      rcases ht with rfl | rfl | rfl | rfl
      · rfl
      · rfl
      · rfl
      · exact hp
    have hv : ecdsaVerify (Config.iametKey bootKey) (sha384 (imageSigned (wBoot t (g t)))) (wBoot t (g t)).sig = true := h t
    unfold State.imageOk
    rw [hp', hs, hv]
    simp [wBoot, hl]
  refine ⟨?_, ?_, ?_, rfl⟩
  · refine (wBoard_fld (wBooted pref) _ _ _).trans ?_
    cases pref <;> decide +kernel
  · show decide ((wBooting pref g).fld _ _ ≠ 0) = pref
    rw [show (wBooting pref g).fld A.bootCfg F.bootCfg_SLOT_PREF = _ from wBoard_fld (wBooted pref) _ _ _]
    cases pref <;> decide +kernel
  · show (wBooting pref g).slotFails [wBoot 1 (g 1), wBoot 2 (g 2), wBoot 3 (g 3), wBoot 4 (g 4)] = none
    simp [State.slotFails, ok]

/-- Clauses of SupplyInputEventsTakeEffect. -/
theorem witness_SupplyInputEventsTakeEffect :
    (let s : State := State.reset
    let inp : SupplyInput := .backup
    let mv : Nat := 38000
    38000 ≤ mv ∧ mv ≤ 60500 ∧ (s.supply inp).busMv < mv ∧ (s.supply inp).ramp ≠ .ramping)
    ∧ (let s : State := { State.reset with board := { Board.reset with backup := { Supply.absent with ramp := .ramping, bladeMv := 48000 } } }
    let inp : SupplyInput := .backup
    (s.supply inp).ramp = .ramping)
    ∧ (let s : State := { State.reset with board := { Board.reset with main := { Supply.absent with ramp := .ramping, bladeMv := 48000 } } }
    let inp : SupplyInput := .main
    let mv : Nat := 35999
    (s.supply inp).ramp = .ramping ∧ mv < 36000)
    ∧ (let s : State := { State.reset with board := { Board.reset with main := { Supply.absent with ramp := .ramping } } }
    s.board.mgmtUp = false ∧ (s.board.main.ramp ≠ .idle ∨ s.board.backup.ramp ≠ .idle)) := by
  refine ⟨?_, ?_, ?_, ?_⟩
  · dsimp only; decide +kernel
  · dsimp only; decide +kernel
  · dsimp only; decide +kernel
  · dsimp only; decide +kernel

/-- Clauses of SupplyInputEventsTakeEffect. -/
theorem witness_SupplyInputEventsTakeEffect_2 :
    (let s : State := wUp
    let inp : SupplyInput := .backup
    s.board.mgmtUp = true ∧ (s.supply inp).good = false)
    ∧ (let s : State := wB (fun b => { b with main := { Supply.absent with window := some 0 } })
    let inp : SupplyInput := .main
    let w : Nat := 0
    s.board.mgmtUp = true ∧ (s.supply inp).good = false ∧ (s.supply inp).window = some w) := by
  refine ⟨?_, ?_⟩
  · dsimp only; decide +kernel
  · dsimp only; decide +kernel

/-- Clauses of SupplyLossStopsWhatDependsOnIt. -/
theorem witness_SupplyLossStopsWhatDependsOnIt :
    (let s : State := wUp
    let inp : SupplyInput := .backup
    let mv : Nat := 60501
    s.board.mgmtUp = true ∧ (s.supply inp).lost = false ∧ (mv < 38000 ∨ 60500 < mv))
    ∧ (let s : State := wUp.enter 3
    let mv : Nat := 37999
    s.board.mgmtUp = true ∧ s.board.main.lost = false ∧ (mv < 38000 ∨ 60500 < mv) ∧ s.ready = false ∧ (s.board.powered = true ∨ s.board.railRun = true ∨ s.railFailed = true))
    ∧ (let s : State := wB (fun b => { b with main := Supply.absent })
    s.board.mgmtUp = true ∧ s.board.main.good = false ∧ s.board.backup.good = false) := by
  refine ⟨?_, ?_, ?_⟩
  · dsimp only; decide +kernel
  · dsimp only; decide +kernel
  · dsimp only; decide +kernel

/-- Clauses of RailSequenceEndsInResetOrFailure. -/
theorem witness_RailSequenceEndsInResetOrFailure :
    (let s : State := wB (fun b => { b with powered := false, railRun := true, rails := 3 })
    s.board.railRun = true ∧ s.board.rails + 1 < s.railSteps)
    ∧ (let s : State := wB (fun b => { b with powered := false, railRun := true, rails := 4 })
    s.board.railRun = true ∧ s.railSteps ≤ s.board.rails + 1)
    ∧ (let s : State := wB (fun b => { b with powered := false, railRun := true, rails := 2 })
    s.board.railRun = true)
    ∧ (let s : State := wUp
    s.board.mgmtUp = true ∧ s.board.modReset = none ∧ s.board.railRun = false ∧ s.board.powered = true) := by
  refine ⟨?_, ?_, ?_, ?_⟩
  · dsimp only; decide +kernel
  · dsimp only; decide +kernel
  · dsimp only; decide +kernel
  · dsimp only; decide +kernel

/-- Clauses of RailSequenceEndsInResetOrFailure. -/
theorem witness_RailSequenceEndsInResetOrFailure_2 :
    (let m : ModReset := { cause := 2, locked := false, refWait := false, startTick := 0 }
    let s : State := wB (fun b => { b with modReset := some { cause := 2, locked := false, refWait := false, startTick := 0 } })
    s.board.mgmtUp = true ∧ s.board.modReset = some m)
    ∧ (let s : State := wUp
    let stack : Bool := true
    let i : Nat := 7
    let c : Nat := 115
    s.board.powered = true ∧ i < (if stack then 8 else 9) ∧ (if stack then 115 else 125) ≤ c) := by
  refine ⟨?_, ?_⟩
  · dsimp only; decide +kernel
  · dsimp only; decide +kernel

/-- Clauses of ResetAndBootAdvanceReadiness. -/
theorem witness_ResetAndBootAdvanceReadiness :
    (let m : ModReset := { cause := 1, locked := true, refWait := false, startTick := 0 }
    let s : State := (wB (fun b => { b with modReset := some { cause := 1, locked := true, refWait := false, startTick := 0 } })).setFlag A.sbStatus F.sbStatus_REF_OK true
    let dieC : Nat := 114
    let stackC : Nat := 104
    s.board.modReset = some m ∧ m.locked = true ∧ s.board.powered = true ∧ s.board.main.good = true ∧ dieC < 115 ∧ stackC < 105 ∧ s.flag A.sbStatus F.sbStatus_REF_OK = true)
    ∧ (let dieC : Nat := 115
    let stackC : Nat := 104
    (115 ≤ dieC ∨ 105 ≤ stackC))
    ∧ (let m : ModReset := { cause := 1, locked := true, refWait := false, startTick := 0 }
    let s : State := wB (fun b => { b with modReset := some { cause := 1, locked := true, refWait := false, startTick := 0 } })
    let dieC : Nat := 114
    let stackC : Nat := 104
    s.board.modReset = some m ∧ s.board.powered = true ∧ s.board.main.good = true ∧ dieC < 115 ∧ stackC < 105 ∧ s.flag A.sbStatus F.sbStatus_REF_OK = false)
    ∧ (let s : State := { wUp.enter 1 with board := { wUp.board with slotA := [], slotB := List.replicate 4 blankImage } }
    let b : Bool := false
    let u : Nat := 1
    let v : Nat := 1
    s.readiness = 1 ∧ s.flag A.bootCfg F.bootCfg_SLOT_PREF = b ∧ s.slotFails (if b then s.board.slotB else s.board.slotA) = some u ∧ s.slotFails (if b then s.board.slotA else s.board.slotB) = some v) := by
  refine ⟨?_, ?_, ?_, ?_⟩
  · dsimp only; decide +kernel
  · dsimp only; decide +kernel
  · dsimp only; decide +kernel
  · dsimp only; decide +kernel

/-- Clauses of ResetAndBootAdvanceReadiness. -/
theorem witness_ResetAndBootAdvanceReadiness_2 :
    (let s : State := wUp.enter 2
    let bs : List Nat := [7, 3]
    let bp : List Nat := [35]
    let ws : List Nat := [0]
    s.readiness = 2 ∧ s.board.trained = false ∧ (∀ n ∈ bs, n < 8) ∧ (∀ n ∈ bp, n < 36) ∧ bp.Nodup ∧ (bp = [] ∨ s.part.hasCapacity = true) ∧ (∀ w ∈ ws, posBad w = false ∧ w % 4 = 0))
    ∧ (let s : State := wUp.enter 2
    let p : Nat := 35
    s.readiness = 2 ∧ s.board.trained = false ∧ p < 36 ∧ s.part.hasCapacity = true ∧ (s.isMarked (pkgPos p) = true ∨ (s.markLimit (pkgPos p) = none ∧ s.markWorn (pkgPos p) = false)))
    ∧ (let s : State := (wB (fun b => { b with trained := true })).enter 2
    let us : List Nat := [7]
    s.readiness = 2 ∧ s.board.trained = true ∧ us ≠ [] ∧ (∀ n ∈ us, n < 8 ∨ (n < 16 ∧ s.part.hasCapacity = true))) := by
  refine ⟨?_, ?_, ?_⟩
  · dsimp only; decide +kernel
  · dsimp only; decide +kernel
  · dsimp only; decide +kernel

/-- Clauses of BrakeFollowsItsPinAndTimers. -/
theorem witness_BrakeFollowsItsPinAndTimers :
    (let s : State := wB (fun b => { b with powered := false })
    s.board.mgmtUp = true ∧ s.board.modReset = none ∧ s.flag A.sbStatus F.sbStatus_BRAKED = false ∧ s.board.powered = false)
    ∧ (let s : State := wUp
    s.board.mgmtUp = true ∧ s.board.modReset = none ∧ s.flag A.sbStatus F.sbStatus_BRAKED = false ∧ s.board.powered = true)
    ∧ (let s : State := wUp.setFlag A.sbStatus F.sbStatus_BRAKED true
    s.flag A.sbStatus F.sbStatus_BRAKED = true ∧ s.flag A.sbStatus F.sbStatus_BRAKE_STUCK = false)
    ∧ (let s : State := wUp.setFlds A.sbStatus [(F.sbStatus_BRAKED, 1), (F.sbStatus_BRAKE_STUCK, 1)]
    s.flag A.sbStatus F.sbStatus_BRAKED = true ∧ s.flag A.sbStatus F.sbStatus_BRAKE_STUCK = true) := by
  refine ⟨?_, ?_, ?_, ?_⟩
  · dsimp only; decide +kernel
  · dsimp only; decide +kernel
  · dsimp only; decide +kernel
  · dsimp only; decide +kernel

/-- Clauses of BrakeFollowsItsPinAndTimers. -/
theorem witness_BrakeFollowsItsPinAndTimers_2 :
    (let s : State := wUp
    s.flag A.sbStatus F.sbStatus_BRAKE_STUCK = false) := by
  dsimp only; decide +kernel

/-- Clauses of ClocksFollowReferenceDroopAndGlides. -/
theorem witness_ClocksFollowReferenceDroopAndGlides :
    (let s : State := wUp
    s.board.powered = true ∧ s.board.modReset = none ∧ s.board.refLost = false)
    ∧ (let s : State := wUp
    let ok : Bool := true
    s.board.mgmtUp = true ∧ s.flag A.sbStatus F.sbStatus_REF_OK ≠ ok)
    ∧ (let s : State := (wB (fun b => { b with modReset := some { cause := 1, locked := true, refWait := false, startTick := 0 } })).setFlag A.sbStatus F.sbStatus_REF_OK true
    let m : ModReset := { cause := 1, locked := true, refWait := false, startTick := 0 }
    let j : Nat := islandOf 3 0
    islandNumbered j = true ∧ lockable s.part j = true ∧ s.board.modReset = some m ∧ s.board.powered = true ∧ s.flag A.sbStatus F.sbStatus_REF_OK = true)
    ∧ (let s : State := wUp
    let j : Nat := islandOf 3 0
    islandNumbered j = true ∧ s.flag A.sbStatus F.sbStatus_REF_OK = false) := by
  refine ⟨?_, ?_, ?_, ?_⟩
  · dsimp only; decide +kernel
  · dsimp only; decide +kernel
  · dsimp only; decide +kernel
  · dsimp only; decide +kernel

/-- Clauses of ClocksFollowReferenceDroopAndGlides. -/
theorem witness_ClocksFollowReferenceDroopAndGlides_2 :
    (let s : State := wUp.setFld (A.clkDroop 8) F.clkDroop_MAX_STRETCH 4
    let j : Nat := islandOf 3 0
    let n : Nat := 1
    islandNumbered j = true ∧ hasDroop j = true ∧ islandPresent s.part j = true ∧ s.board.powered = true ∧ 0 < n ∧ 0 < s.fld (A.clkDroop (droopDie j)) F.clkDroop_MAX_STRETCH)
    ∧ (let s : State := wUp.setFlag (A.clkIsland (islandOf 3 7)) F.clkIsland_GLIDING true
    let j : Nat := islandOf 3 7
    islandNumbered j = true ∧ s.flag (A.clkIsland j) F.clkIsland_GLIDING = true) := by
  refine ⟨?_, ?_⟩
  · dsimp only; decide +kernel
  · dsimp only; decide +kernel

/-- Clauses of ResetCommandsStopAndEnd. -/
theorem witness_ResetCommandsStopAndEnd :
    (let ch : Nat := 60
    let s : State := wUp
    let p : Packet := wPkt []
    s.accepts ch 0x110 p ∧ p.length = 16)
    ∧ (let ch : Nat := 60
    let s : State := wUp
    let k : Nat := 3
    let p : Packet := wPkt [3]
    s.accepts ch 0x111 p ∧ p.length = 24 ∧ k < 4 ∧ pword p 0 = k ∧ s.eclipse = false ∧ s.towerResetting k = false)
    ∧ (let ch : Nat := 60
    let s : State := wB (fun b => { b with towerRst := [(3, none)] })
    let k : Nat := 3
    let p : Packet := wPkt [3]
    s.accepts ch 0x111 p ∧ p.length = 24 ∧ k < 4 ∧ pword p 0 = k ∧ s.eclipse = false ∧ s.towerResetting k = true)
    ∧ (let s : State := ((wB (fun b => { b with towerRst := [(3, some 60)] })).taken 60 0x111 (wPkt [3]))
    let k : Nat := 3
    let ch : Nat := 60
    k < 4 ∧ Assoc.get? s.board.towerRst k = some (some ch) ∧ (∀ e ∈ s.comp.tiles, e.1 / 17 = k → ∀ x ∈ e.2, x.draining = false)) := by
  refine ⟨?_, ?_, ?_, ?_⟩
  · dsimp only; unfold State.accepts; decide +kernel
  · dsimp only; unfold State.accepts; decide +kernel
  · dsimp only; unfold State.accepts; decide +kernel
  · dsimp only; decide +kernel

/-- Clauses of ResetCommandsStopAndEnd. -/
theorem witness_ResetCommandsStopAndEnd_2 :
    (let s : State := ((wB (fun b => { b with towerRst := [(3, some 60)] })).taken 60 0x111 (wPkt [3]))
    let k : Nat := 3
    let ch : Nat := 60
    k < 4 ∧ s.board.towerRst = [(k, some ch)] ∧ s.l2.slices = [] ∧ s.err.recov = [] ∧ s.syn.deferred = [] ∧ (∀ e ∈ s.comp.tiles, e.1 / 17 = k → ∀ x ∈ e.2, x.draining = false))
    ∧ (let l : L2Line := { line := 0x20, way := 0, valid := 2 ^ 128 - 1, dirty := 1, behind := [(0, 9)], poison := 0, evict := false }
    let sl : Slice := { Slice.empty with lines := [{ line := 0x20, way := 0, valid := 2 ^ 128 - 1, dirty := 1, behind := [(0, 9)], poison := 0, evict := false }] }
    let s : State := let t := wB (fun b => { b with towerRst := [(3, none)] }); { t with l2 := { t.l2 with slices := [(127, { Slice.empty with lines := [{ line := 0x20, way := 0, valid := 2 ^ 128 - 1, dirty := 1, behind := [(0, 9)], poison := 0, evict := false }] })] } }
    let k : Nat := 3
    let j : Nat := 31
    k < 4 ∧ j < 32 ∧ s.board.towerRst = [(k, none)] ∧ s.l2.slices = [(32 * k + j, sl)] ∧ sl.lines = [l] ∧ sl.slots = [] ∧ isPinnedLine l.line = false ∧ s.err.recov = [] ∧ s.syn.deferred = [] ∧ (∀ e ∈ s.comp.tiles, e.1 / 17 = k → ∀ x ∈ e.2, x.draining = false))
    ∧ (let ch : Nat := 60
    let s : State := wUp.setFlag (A.xltRoot 255) F.xltRoot_OPEN true
    let c : Nat := 255
    let p : Packet := wPkt [255]
    s.accepts ch 0x112 p ∧ p.length = 24 ∧ c < 256 ∧ pword p 0 = c ∧ s.ctxOpen c = true ∧ s.eclipse = false ∧ s.ctxResetting c = false)
    ∧ (let ch : Nat := 60
    let s : State := (wB (fun b => { b with ctxRst := [(255, some 60)] })).taken 60 0x112 (wPkt [255])
    let c : Nat := 255
    c < 256 ∧ Assoc.get? s.board.ctxRst c = some (some ch) ∧ s.ctxWrites c = false ∧ s.ctxDrains c = false ∧ (∀ e ∈ s.board.towerHad, e.2 ≠ c) ∧ (∀ m ∈ s.xlt.migrates, m.ctx ≠ c)) := by
  refine ⟨?_, ?_, ?_, ?_⟩
  · dsimp only; decide +kernel
  · dsimp only; decide +kernel
  · dsimp only; unfold State.accepts; decide +kernel
  · dsimp only; decide +kernel

/-- Clauses of ResetCommandsStopAndEnd. -/
theorem witness_ResetCommandsStopAndEnd_3 :
    (let ch : Nat := 60
    let s : State := (wB (fun b => { b with ctxRst := [(255, some 60)] })).taken 60 0x112 (wPkt [255])
    let c : Nat := 255
    c < 256 ∧ s.board.ctxRst = [(c, some ch)] ∧ s.ctxWrites c = false ∧ s.ctxDrains c = false ∧ (∀ e ∈ s.board.towerHad, e.2 ≠ c) ∧ s.xlt.epochs = [] ∧ s.xlt.migrates = [] ∧ s.fab.copies = [] ∧ s.l2.slices = [] ∧ s.err.recov = [])
    ∧ (let ch : Nat := 60
    let s : State := wUp
    let k : Nat := 3
    let kind : Nat := 2
    let i : Nat := 63
    let p : Packet := wPkt [3 + 2 * 2 ^ 8 + 63 * 2 ^ 16]
    s.accepts ch 0x113 p ∧ p.length = 24 ∧ k < 4 ∧ kind < 6 ∧ i < 128 ∧ i < resetCount kind ∧ pword p 0 = k + kind * 2 ^ 8 + i * 2 ^ 16 ∧ s.resetPresent k kind i = true ∧ s.eclipse = false ∧ s.towerResetting k = false ∧ s.unitResetting (resetUnit k kind i) = false ∧ kind ≠ 5 ∧ (s.assigned k kind i = false ∨ s.readsFenced k kind i = true))
    ∧ (let ch : Nat := 60
    let s : State := (wEng 0 [wTile 0 0x10 40])
    let k : Nat := 0
    let kind : Nat := 0
    let i : Nat := 0
    let p : Packet := wPkt [0]
    s.accepts ch 0x113 p ∧ p.length = 24 ∧ k < 4 ∧ kind < 6 ∧ i < 128 ∧ i < resetCount kind ∧ pword p 0 = k + kind * 2 ^ 8 + i * 2 ^ 16 ∧ s.resetPresent k kind i = true ∧ s.eclipse = false ∧ s.towerResetting k = false ∧ s.unitResetting (resetUnit k kind i) = false ∧ s.assigned k kind i = true ∧ s.readsFenced k kind i = false)
    ∧ (let ch : Nat := 60
    let s : State := wUp.setFld (portStatusOf 15) F.portStatus_STATE 0
    let k : Nat := 3
    let kind : Nat := 5
    let i : Nat := 3
    let p : Packet := wPkt [3 + 5 * 2 ^ 8 + 3 * 2 ^ 16]
    s.accepts ch 0x113 p ∧ p.length = 24 ∧ k < 4 ∧ kind < 6 ∧ i < 128 ∧ i < resetCount kind ∧ pword p 0 = k + kind * 2 ^ 8 + i * 2 ^ 16 ∧ s.resetPresent k kind i = true ∧ s.eclipse = false ∧ s.towerResetting k = false ∧ s.unitResetting (resetUnit k kind i) = false ∧ kind = 5 ∧ s.assigned k kind i = false ∧ s.portState (4 * k + i) = 0) := by
  refine ⟨?_, ?_, ?_, ?_⟩
  · dsimp only; decide +kernel
  · dsimp only; unfold State.accepts; decide +kernel
  · dsimp only; unfold State.accepts; decide +kernel
  · dsimp only; unfold State.accepts; decide +kernel

/-- Clauses of ResetCommandsStopAndEnd. -/
theorem witness_ResetCommandsStopAndEnd_4 :
    (let ch : Nat := 60
    let s : State := (wB (fun b => { b with unitRst := [(5, none), (unitCode 1 3 0 16 0, some 60)] })).taken 60 0x113 (wPkt [3 + 16 * 2 ^ 16])
    let idx : Nat := 1
    let u : Nat := unitCode 1 3 0 16 0
    s.board.unitRst[idx]? = some (u, some ch) ∧ (bitsOf u 0 4 ≠ 12 ∨ (s.portState (bitsOf u 8 8) ≠ 1 ∧ s.portState (bitsOf u 8 8) ≠ 3)))
    ∧ (let ch : Nat := 60
    let s : State := (wB (fun b => { b with unitRst := [(unitCode 1 3 0 16 0, some 60)] })).taken 60 0x113 (wPkt [3 + 16 * 2 ^ 16])
    let k : Nat := 3
    let e : Nat := 16
    k < 4 ∧ e < 17 ∧ s.board.unitRst = [(unitCode 1 k 0 e 0, some ch)]) := by
  refine ⟨?_, ?_⟩
  · dsimp only; decide +kernel
  · dsimp only; decide +kernel

/-- Clauses of DoorbellsAndDequeueMoveTheRings. -/
theorem witness_DoorbellsAndDequeueMoveTheRings :
    (let s : State := wRing wNop
    let ch : Nat := 0
    let src : Nat := 2
    ch < 64 ∧ s.mayRing ch src = true ∧ (s.chan ch).held = none)
    ∧ (let s : State := wRing wNop
    let ch : Nat := 0
    let src : Nat := 1
    ch < 64 ∧ s.mayRing ch src = false)
    ∧ (let a : Nat := 0xE0000000000
    (windowOf a).1 = .control ∧ doorbellAt a = none)
    ∧ (let s : State := wRing wNop
    let ch : Nat := 0
    let a : Nat := 0x10000
    let n : Nat := 16
    let l : List Nat := []
    ch < 60 ∧ s.nextCh = some ch ∧ s.headSlots ch 1 = [a] ∧ s.headSlots ch (slotsOf n) = a :: l ∧ slotsOf n ≤ s.cmdUsed ch ∧ leNat (s.rdBytes (a + 8) 2) = n ∧ lengthOk n = true ∧ (∀ x ∈ a :: l, s.tierRange x 64 = true ∧ s.poisoned x 64 = false ∧ s.crosses .cc x = true) ∧ s.l2.slices = [] ∧ s.err.armed = [] ∧ s.err.downCh = [] ∧ s.precheck ch (parsePacket (((a :: l).flatMap (fun x => s.rdBytes x 64)).take n)).1 (parsePacket (((a :: l).flatMap (fun x => s.rdBytes x 64)).take n)).2 = none) := by
  refine ⟨?_, ?_, ?_, ?_⟩
  · dsimp only; decide +kernel
  · dsimp only; decide +kernel
  · dsimp only; decide +kernel
  · dsimp only; decide +kernel

/-- Clauses of DoorbellsAndDequeueMoveTheRings. -/
theorem witness_DoorbellsAndDequeueMoveTheRings_2 :
    (let s : State := wUp
    let ch : Nat := 0
    ch < 64 ∧ s.nextCh ≠ some ch)
    ∧ (let s : State := wChan (fun c => { c with arrived := [wNop] })
    let ch : Nat := 60
    let bs : List Byte := wNop
    let rest : List (List Byte) := []
    60 ≤ ch ∧ ch < 64 ∧ s.nextCh = some ch ∧ (s.chan ch).arrived = bs :: rest ∧ s.precheck ch (parsePacket bs).1 (parsePacket bs).2 = none)
    ∧ (let s : State := (wRing wNop).setFld (A.chCmdBase 0) F.chCmdBase_BASE (2 ^ 40 - 1)
    let ch : Nat := 0
    let a : Nat := (2 ^ 40 - 1) * 4096
    ch < 60 ∧ s.chEnabled ch = true ∧ (s.chan ch).current = none ∧ (s.chan ch).held = none ∧ s.cmdUsed ch ≠ 0 ∧ s.headSlots ch 1 = [a] ∧ s.tierRange a 64 = false)
    ∧ (let r : Reply := { opcode := 0, seq := 7, txn := 0, status := 0, details := [] }
    let i : Bool := false
    let s : State := ((wRing wNop).setFld (A.chRplBase 0) F.chRplBase_BASE (2 ^ 40 - 1)).modChan 0 (fun c => { c with held := some ({ opcode := 0, seq := 7, txn := 0, status := 0, details := [] }, false) })
    let ch : Nat := 0
    ch < 60 ∧ s.chEnabled ch = true ∧ (s.chan ch).current = none ∧ (s.chan ch).held = some (r, i) ∧ (∃ a ∈ ringAddrs (s.ringBase (A.chRplBase ch)) (s.ringSlots (A.chRplBase ch)) (s.fld (A.chRplPtr ch) F.chRplPtr_TAIL) (slotsOf (16 + 8 * r.details.length)), s.tierRange a 64 = false)) := by
  refine ⟨?_, ?_, ?_, ?_⟩
  · dsimp only; decide +kernel
  · dsimp only; decide +kernel
  · dsimp only; decide +kernel
  · dsimp only; decide +kernel

/-- Clauses of ReplyEntersItsRing. -/
theorem witness_ReplyEntersItsRing :
    (let s : State := (wRing wNop).modChan 0 (fun c => { c with current := some (0, wPkt []), busy := true })
    let ch : Nat := 0
    let op : Nat := 0
    let p : Packet := wPkt []
    let ds : List Nat := [1, 2, 3, 4, 5, 6]
    let a : Nat := 0x11000
    ch < 60 ∧ (s.chan ch).current = some (op, p) ∧ (s.chan ch).resetting = false ∧ s.l2.slices = [] ∧ s.err.downCh = [] ∧ s.undef = [] ∧ ds.length ≤ 6 ∧ ringUsed (s.ringSlots (A.chRplBase ch)) (s.fld (A.chRplPtr ch) F.chRplPtr_TAIL) (s.fld (A.chRplPtr ch) F.chRplPtr_HEAD) < s.ringSlots (A.chRplBase ch) ∧ ringAddrs (s.ringBase (A.chRplBase ch)) (s.ringSlots (A.chRplBase ch)) (s.fld (A.chRplPtr ch) F.chRplPtr_TAIL) 1 = [a] ∧ s.tierRange a 64 = true)
    ∧ (let s : State := ((wRing wNop).modChan 0 (fun c => { c with current := some (0, wPkt []), busy := true })).setFld (A.chRplPtr 0) F.chRplPtr_TAIL 16
    let ch : Nat := 0
    let op : Nat := 0
    let p : Packet := wPkt []
    let ds : List Nat := [1, 2, 3, 4, 5, 6]
    ch < 60 ∧ (s.chan ch).current = some (op, p) ∧ (s.chan ch).resetting = false ∧ ds.length ≤ 6 ∧ s.ringSlots (A.chRplBase ch) ≤ ringUsed (s.ringSlots (A.chRplBase ch)) (s.fld (A.chRplPtr ch) F.chRplPtr_TAIL) (s.fld (A.chRplPtr ch) F.chRplPtr_HEAD)) := by
  refine ⟨?_, ?_⟩
  · dsimp only; decide +kernel
  · dsimp only; decide +kernel

/-- Clauses of TransactionsOpenAndClose. -/
theorem witness_TransactionsOpenAndClose :
    (let ch : Nat := 60
    let s : State := wChan (fun c => { c with lastTxn := 65535 })
    let p : Packet := wPkt []
    s.accepts ch 0x001 p ∧ p.length = 16 ∧ (s.chan ch).txn = none)
    ∧ (let ch : Nat := 60
    let x : Txn := wTxn [{ addr := A.pwrCfg, val := 1, mask := 1 }] []
    let s : State := wChan (fun c => { c with txn := some (wTxn [{ addr := A.pwrCfg, val := 1, mask := 1 }] []) })
    let p : Packet := { wPkt [] with txn := 5 }
    s.accepts ch 0x003 p ∧ p.length = 16 ∧ (s.chan ch).txn = some x ∧ p.txn = x.id)
    ∧ (let ch : Nat := 60
    let x : Txn := wTxn [] [A.pwrCfg]
    let s : State := wChan (fun c => { c with txn := some (wTxn [] [A.pwrCfg]) })
    let p : Packet := { wPkt [] with txn := 5 }
    s.accepts ch 0x002 p ∧ p.length = 16 ∧ (s.chan ch).txn = some x ∧ p.txn = x.id ∧ x.entries = [] ∧ s.storeTaken ch = false ∧ (∀ a ∈ x.reads, s.stampOf a ≤ x.beginStamp))
    ∧ (let ch : Nat := 60
    let x : Txn := wTxn [{ addr := A.pwrCfg, val := 0, mask := 0 }] []
    let s : State := wChan (fun c => { c with txn := some (wTxn [{ addr := A.pwrCfg, val := 0, mask := 0 }] []) })
    let p : Packet := { wPkt [] with txn := 5 }
    s.accepts ch 0x002 p ∧ p.length = 16 ∧ (s.chan ch).txn = some x ∧ p.txn = x.id ∧ s.storeTaken ch = false ∧ (s.taken ch 0x002 p).commitFails x = none ∧ (∀ e ∈ x.entries, persIndex e.addr = none)) := by
  refine ⟨?_, ?_, ?_, ?_⟩
  · dsimp only; unfold State.accepts; decide +kernel
  · dsimp only; unfold State.accepts; decide +kernel
  · dsimp only; unfold State.accepts; decide +kernel
  · dsimp only; unfold State.accepts; decide +kernel

/-- Clauses of TransactionsOpenAndClose. -/
theorem witness_TransactionsOpenAndClose_2 :
    (let ch : Nat := 60
    let e : ShadowEntry := { addr := A.bootCfg, val := 1, mask := 1 }
    let x : Txn := wTxn [{ addr := A.bootCfg, val := 1, mask := 1 }] []
    let s : State := wChan (fun c => { c with txn := some (wTxn [{ addr := A.bootCfg, val := 1, mask := 1 }] []) })
    let p : Packet := { wPkt [] with txn := 5 }
    s.accepts ch 0x002 p ∧ p.length = 16 ∧ (s.chan ch).txn = some x ∧ p.txn = x.id ∧ s.storeTaken ch = false ∧ (s.taken ch 0x002 p).commitFails x = none ∧ e ∈ x.entries ∧ persIndex e.addr ≠ none)
    ∧ (let ch : Nat := 60
    let x : Txn := wTxn [{ addr := A.pwrCfg, val := 1, mask := 1 }] []
    let a : Nat := A.pwrCfg
    let l : List Nat := []
    let s : State := let t := wChan (fun c => { c with txn := some (wTxn [{ addr := A.pwrCfg, val := 1, mask := 1 }] []) }); { t with ctl := { t.ctl with stamps := [(A.pwrCfg, 4)] } }
    let p : Packet := { wPkt [] with txn := 5 }
    s.accepts ch 0x002 p ∧ p.length = 16 ∧ (s.chan ch).txn = some x ∧ p.txn = x.id ∧ s.storeTaken ch = false ∧ x.watch = a :: l ∧ x.beginStamp < s.stampOf a)
    ∧ (let ch : Nat := 60
    let s : State := wUp
    let p : Packet := wPkt []
    s.accepts ch 0x002 p ∧ (s.chan ch).txn = none)
    ∧ (let ch : Nat := 60
    let s : State := wUp
    let p : Packet := wPkt []
    s.accepts ch 0x003 p ∧ (s.chan ch).txn = none) := by
  refine ⟨?_, ?_, ?_, ?_⟩
  · dsimp only; unfold State.accepts; decide +kernel
  · dsimp only; unfold State.accepts; decide +kernel
  · dsimp only; unfold State.accepts; decide +kernel
  · dsimp only; unfold State.accepts; decide +kernel

/-- Clauses of TransactionsOpenAndClose. -/
theorem witness_TransactionsOpenAndClose_3 :
    (let ch : Nat := 60
    let x : Txn := wTxn [] []
    let s : State := wChan (fun c => { c with txn := some (wTxn [] []) })
    let p : Packet := wPkt []
    s.accepts ch 0x001 p ∧ (s.chan ch).txn = some x)
    ∧ (let ch : Nat := 60
    let e : ShadowEntry := { addr := A.bootCfg, val := 1, mask := 1 }
    let x : Txn := wTxn [{ addr := A.bootCfg, val := 1, mask := 1 }] []
    let d : Durable := { writes := [(A.bootCfg, 1)], commit := true, count := 0, rest := [] }
    let s : State := wChan (fun c => { c with current := some (2, wPkt []), busy := true, durable := some { writes := [(A.bootCfg, 1)], commit := true, count := 0, rest := [] }, txn := some (wTxn [{ addr := A.bootCfg, val := 1, mask := 1 }] []) })
    ch < 64 ∧ (s.chan ch).durable = some d ∧ d.commit = true ∧ (s.chan ch).txn = some x ∧ x.entries.find? (fun e => (persIndex e.addr).isSome) = some e)
    ∧ (let ch : Nat := 60
    let x : Txn := wTxn [] []
    let s : State := wChan (fun c => { c with txn := some (wTxn [] []) })
    ch < 64 ∧ (s.chan ch).txn = some x ∧ (s.chan ch).durable = none) := by
  refine ⟨?_, ?_, ?_⟩
  · dsimp only; unfold State.accepts; decide +kernel
  · dsimp only; decide +kernel
  · dsimp only; decide +kernel

/-- Clauses of RegisterPacketsReadAndWrite. -/
theorem witness_RegisterPacketsReadAndWrite :
    (let ch : Nat := 60
    let s : State := wUp
    let a : Nat := A.pwrCfg
    let p : Packet := wPkt [A.pwrCfg, 1]
    let n : Nat := 1
    s.accepts ch 0x004 p ∧ p.length = 32 ∧ pword p 0 = a ∧ pword p 1 = n ∧ 1 ≤ n ∧ n ≤ 64 ∧ (∀ i, i < n → (regAt (a + 8 * i)).isSome = true))
    ∧ (let ch : Nat := 60
    let s : State := wUp
    let a : Nat := A.pwrCfg
    let p : Packet := wPkt [A.pwrCfg, 1]
    s.accepts ch 0x004 p ∧ p.length = 32 ∧ pword p 0 = a ∧ pword p 1 = 1 ∧ (regAt a).isSome = true ∧ (s.chan ch).txn = none ∧ a ≠ A.bootStatus ∧ a ≠ A.sbStatus ∧ (a < A.clkIsland 0 ∨ A.clkIsland 4608 ≤ a))
    ∧ (let ch : Nat := 60
    let s : State := wUp
    let p : Packet := wPkt [A.pwrCfg, 65]
    s.accepts ch 0x004 p ∧ p.length = 32 ∧ pword p 1 < 128 ∧ (pword p 1 = 0 ∨ 64 < pword p 1))
    ∧ (let ch : Nat := 60
    let s : State := wUp
    let p : Packet := wPkt [A.pwrCfg + 4, 1]
    let i : Nat := 0
    s.accepts ch 0x004 p ∧ p.length = 32 ∧ 1 ≤ pword p 1 ∧ pword p 1 ≤ 64 ∧ i < pword p 1 ∧ regAt (pword p 0 + 8 * i) = none) := by
  refine ⟨?_, ?_, ?_, ?_⟩
  · dsimp only; unfold State.accepts; decide +kernel
  · dsimp only; unfold State.accepts; decide +kernel
  · dsimp only; unfold State.accepts; decide +kernel
  · dsimp only; unfold State.accepts; decide +kernel

/-- Clauses of RegisterPacketsReadAndWrite. -/
theorem witness_RegisterPacketsReadAndWrite_2 :
    (let ch : Nat := 60
    let s : State := wUp
    let p : Packet := wPkt [A.hcEntry, 3, 3]
    s.accepts ch 0x005 p ∧ p.length = 16 + 24 * (triplesOf p.params).length ∧ p.params ≠ [] ∧ p.params.length % 3 = 0 ∧ s.readiness ≠ 2 ∧ (∀ x ∈ triplesOf p.params, x.1 ≠ A.bootStatus ∧ persIndex x.1 = none ∧ ∃ r is, regAt x.1 = some (r, is) ∧ r.plain = true ∧ chDenied ch x.1 r = false))
    ∧ (let ch : Nat := 60
    let s : State := wUp
    let a : Word := BitVec.ofNat 64 (A.hcEntry)
    let v : Word := 3
    let m : Word := 3
    let r : RegRow := (wRow A.hcEntry).1
    let is : List Nat := (wRow A.hcEntry).2
    let p : Packet := wPkt [A.hcEntry, 3, 3]
    s.accepts ch 0x005 p ∧ p.length = 40 ∧ p.params = [a, v, m] ∧ persIndex a.toNat = none ∧ regAt a.toNat = some (r, is) ∧ r.plain = true ∧ chDenied ch a.toNat r = false ∧ s.readiness ≠ 2)
    ∧ (let ch : Nat := 60
    let s : State := wUp
    let a : Word := BitVec.ofNat 64 A.alert
    let v : Word := 3
    let m : Word := 3
    let r : RegRow := (wRow A.alert).1
    let is : List Nat := (wRow A.alert).2
    let p : Packet := wPkt [A.alert, 3, 3]
    let t := match (wUp.taken 60 5 (wPkt [A.alert, 3, 3])).writeNow (wRow A.alert).1 (wRow A.alert).2 A.alert 3 3 with | .ok t => t | .error _ => wUp
    s.accepts ch 0x005 p ∧ p.length = 40 ∧ p.params = [a, v, m] ∧ persIndex a.toNat = none ∧ regAt a.toNat = some (r, is) ∧ r.cls = .immediate ∧ r.ofScale = false ∧ chDenied ch a.toNat r = false ∧ s.readiness ≠ 2 ∧ s.regUnitGone r is = false ∧ (s.taken ch 0x005 p).writeNow r is a.toNat v m = .ok t)
    ∧ (let ch : Nat := 0
    let s : State := wRing wNop
    let a : Word := BitVec.ofNat 64 (A.chCmdBase 0)
    let v : Word := 3
    let m : Word := 3
    let r : RegRow := (wRow (A.chCmdBase 0)).1
    let is : List Nat := (wRow (A.chCmdBase 0)).2
    let p : Packet := wPkt [A.chCmdBase 0, 3, 3]
    let st := St.busy
    s.accepts ch 0x005 p ∧ p.length = 40 ∧ p.params = [a, v, m] ∧ persIndex a.toNat = none ∧ regAt a.toNat = some (r, is) ∧ r.cls = .immediate ∧ r.ofScale = false ∧ chDenied ch a.toNat r = false ∧ s.readiness ≠ 2 ∧ s.regUnitGone r is = false ∧ (s.taken ch 0x005 p).writeNow r is a.toNat v m = .error st) := by
  refine ⟨?_, ?_, ?_, ?_⟩
  · dsimp only; exact ⟨(by unfold State.accepts; decide +kernel), (by decide +kernel), (by decide +kernel), (by decide +kernel), (by decide +kernel), wPlain (by decide +kernel)⟩
  · dsimp only; exact ⟨(by unfold State.accepts; decide +kernel), (by decide +kernel), (by decide +kernel), (by decide +kernel), wRow_eq (by decide +kernel), (by decide +kernel), (by decide +kernel), (by decide +kernel)⟩
  · dsimp only; exact ⟨(by unfold State.accepts; decide +kernel), (by decide +kernel), (by decide +kernel), (by decide +kernel), wRow_eq (by decide +kernel), (by decide +kernel), (by decide +kernel), (by decide +kernel), (by decide +kernel), (by decide +kernel), wExc (by decide +kernel)⟩
  · dsimp only; exact ⟨(by unfold State.accepts; decide +kernel), (by decide +kernel), (by decide +kernel), (by decide +kernel), wRow_eq (by decide +kernel), (by decide +kernel), (by decide +kernel), (by decide +kernel), (by decide +kernel), (by decide +kernel), wErr (by decide +kernel)⟩

/-- Clauses of RegisterPacketsReadAndWrite. -/
theorem witness_RegisterPacketsReadAndWrite_3 :
    (let ch : Nat := 60
    let s : State := wUp
    let a : Word := BitVec.ofNat 64 (A.pwrCfg + 4)
    let v : Word := 3
    let m : Word := 3
    let p : Packet := wPkt [A.pwrCfg + 4, 3, 3]
    s.accepts ch 0x005 p ∧ p.length = 40 ∧ p.params = [a, v, m] ∧ s.storeTaken ch = false ∧ (regAt a.toNat = none ∨ ∃ r is, regAt a.toNat = some (r, is) ∧ r.ofScale = true))
    ∧ (let ch : Nat := 60
    let s : State := wUp
    let a : Word := BitVec.ofNat 64 A.pwrCfg
    let v : Word := 3
    let m : Word := 3
    let r : RegRow := (wRow A.pwrCfg).1
    let is : List Nat := (wRow A.pwrCfg).2
    let p : Packet := wPkt [A.pwrCfg, 3, 3]
    s.accepts ch 0x005 p ∧ p.length = 40 ∧ p.params = [a, v, m] ∧ s.storeTaken ch = false ∧ regAt a.toNat = some (r, is) ∧ r.cls = .staged ∧ r.ofScale = false ∧ chDenied ch a.toNat r = false ∧ s.readiness ≠ 2 ∧ (s.chan ch).txn = none)
    ∧ (let ch : Nat := 60
    let x : Txn := wTxn [] []
    let s : State := wChan (fun c => { c with txn := some (wTxn [] []) })
    let a : Word := BitVec.ofNat 64 A.pwrCfg
    let v : Word := 3
    let m : Word := 3
    let r : RegRow := (wRow A.pwrCfg).1
    let is : List Nat := (wRow A.pwrCfg).2
    let p : Packet := { wPkt [A.pwrCfg, 3, 3] with txn := 5 }
    s.accepts ch 0x005 p ∧ p.length = 40 ∧ p.params = [a, v, m] ∧ regAt a.toNat = some (r, is) ∧ r.cls = .staged ∧ r.ofScale = false ∧ chDenied ch a.toNat r = false ∧ s.readiness ≠ 2 ∧ s.regUnitGone r is = false ∧ (s.chan ch).txn = some x ∧ p.txn = x.id ∧ (∀ e ∈ x.entries, e.addr ≠ a.toNat) ∧ x.entries.length < 1024 ∧ persIndex a.toNat = none ∧ s.shadowUse.1 < 16384)
    ∧ (let ch : Nat := 60
    let s : State := wUp
    let a : Word := BitVec.ofNat 64 A.bootCfg
    let v : Word := 0
    let m : Word := 0
    let r : RegRow := (wRow A.bootCfg).1
    let is : List Nat := (wRow A.bootCfg).2
    let p : Packet := wPkt [A.bootCfg, 0, 0]
    s.accepts ch 0x005 p ∧ p.length = 40 ∧ p.params = [a, v, m] ∧ s.storeTaken ch = false ∧ regAt a.toNat = some (r, is) ∧ r.cls = .persistent ∧ r.ofScale = false ∧ chDenied ch a.toNat r = false ∧ s.readiness ≠ 2 ∧ s.regUnitGone r is = false ∧ (s.chan ch).txn = none ∧ s.inRange r is (s.merged r a.toNat v m) = true ∧ s.supplyEvent = false ∧ s.worn a.toNat = false) := by
  refine ⟨?_, ?_, ?_, ?_⟩
  · dsimp only; exact ⟨(by unfold State.accepts; decide +kernel), (by decide +kernel), (by decide +kernel), (by decide +kernel), Or.inl (by decide +kernel)⟩
  · dsimp only; exact ⟨(by unfold State.accepts; decide +kernel), (by decide +kernel), (by decide +kernel), (by decide +kernel), wRow_eq (by decide +kernel), (by decide +kernel), (by decide +kernel), (by decide +kernel), (by decide +kernel), (by decide +kernel)⟩
  · dsimp only; exact ⟨(by unfold State.accepts; decide +kernel), (by decide +kernel), (by decide +kernel), wRow_eq (by decide +kernel), (by decide +kernel), (by decide +kernel), (by decide +kernel), (by decide +kernel), (by decide +kernel), (by decide +kernel), (by decide +kernel), (by decide +kernel), (by decide +kernel), (by decide +kernel), (by decide +kernel)⟩
  · dsimp only; exact ⟨(by unfold State.accepts; decide +kernel), (by decide +kernel), (by decide +kernel), (by decide +kernel), wRow_eq (by decide +kernel), (by decide +kernel), (by decide +kernel), (by decide +kernel), (by decide +kernel), (by decide +kernel), (by decide +kernel), (by decide +kernel), (by decide +kernel), (by decide +kernel)⟩

/-- Clauses of RegisterPacketsReadAndWrite. -/
theorem witness_RegisterPacketsReadAndWrite_4 :
    (let ch : Nat := 60
    let s : State := wChan (fun c => { c with current := some (5, wPkt []), busy := true, durable := some { writes := [(A.bootCfg, 1)], commit := false, count := 0, rest := [] } })
    let a : Nat := A.bootCfg
    let v : Word := 1
    let op : Nat := 5
    let p : Packet := wPkt []
    ch < 64 ∧ (s.chan ch).current = some (op, p) ∧ (s.chan ch).durable = some { writes := [(a, v)], commit := false, count := 0, rest := [] })
    ∧ (let ch : Nat := 60
    let s : State := wUp
    let i : Nat := 2
    let p : Packet := wPkt [A.pwrBootLimits]
    s.accepts ch 0x007 p ∧ p.length = 24 ∧ persIndex (pword p 0) = some i)
    ∧ (let ch : Nat := 60
    let s : State := wUp
    let p : Packet := wPkt [A.pwrCfg]
    s.accepts ch 0x007 p ∧ p.length = 24 ∧ persIndex (pword p 0) = none) := by
  refine ⟨?_, ?_, ?_⟩
  · dsimp only; decide +kernel
  · dsimp only; unfold State.accepts; decide +kernel
  · dsimp only; unfold State.accepts; decide +kernel

/-- Clauses of IdentityReadinessAndChannels. -/
theorem witness_IdentityReadinessAndChannels :
    (let ch : Nat := 60
    let s : State := wUp
    let p : Packet := wPkt []
    s.accepts ch 0x000 p ∧ p.length = 16)
    ∧ (let ch : Nat := 60
    let s : State := wUp
    let p : Packet := wPkt []
    s.accepts ch 0x100 p ∧ p.length = 16)
    ∧ (let ch : Nat := 60
    let s : State := wUp
    let p : Packet := wPkt []
    s.accepts ch 0x101 p ∧ p.length = 16)
    ∧ (let ch : Nat := 60
    let s : State := wUp.enter 3
    let p : Packet := wPkt [3]
    s.accepts ch 0x102 p ∧ p.length = 24 ∧ pword p 0 = 3 ∧ s.readiness = 3 ∧ (∀ e ∈ s.ctl.chans, ∀ d, e.2.durable = some d → d.commit = false) ∧ s.l2.ranges = []) := by
  refine ⟨?_, ?_, ?_, ?_⟩
  · dsimp only; unfold State.accepts; decide +kernel
  · dsimp only; unfold State.accepts; decide +kernel
  · dsimp only; unfold State.accepts; decide +kernel
  · dsimp only; unfold State.accepts; decide +kernel

/-- Clauses of IdentityReadinessAndChannels. -/
theorem witness_IdentityReadinessAndChannels_2 :
    (let ch : Nat := 60
    let s : State := wUp.enter 3
    let p : Packet := wPkt [4]
    s.accepts ch 0x102 p ∧ p.length = 24 ∧ pword p 0 < 16 ∧ pword p 0 ≠ 3)
    ∧ (let ch : Nat := 60
    let s : State := wUp
    let p : Packet := wPkt [3]
    s.accepts ch 0x102 p ∧ p.length = 24 ∧ pword p 0 = 3 ∧ s.readiness ≠ 3)
    ∧ (let ch : Nat := 60
    let s : State := wUp
    let n : Nat := 63
    let p : Packet := wPkt [63]
    s.accepts ch 0x006 p ∧ p.length = 24 ∧ pword p 0 = n ∧ n < 64 ∧ n ≠ ch ∧ (s.chan n).current = none)
    ∧ (let ch : Nat := 60
    let s : State := wChan id |> fun t => t.modChan 63 (fun c => { c with current := some (0, wPkt []), busy := true })
    let n : Nat := 63
    let p : Packet := wPkt [63]
    s.accepts ch 0x006 p ∧ p.length = 24 ∧ pword p 0 = n ∧ n < 64 ∧ n ≠ ch ∧ (s.chan n).current ≠ none) := by
  refine ⟨?_, ?_, ?_, ?_⟩
  · dsimp only; unfold State.accepts; decide +kernel
  · dsimp only; unfold State.accepts; decide +kernel
  · dsimp only; unfold State.accepts; decide +kernel
  · dsimp only; unfold State.accepts; decide +kernel

/-- Clauses of IdentityReadinessAndChannels. -/
theorem witness_IdentityReadinessAndChannels_3 :
    (let ch : Nat := 60
    let s : State := wUp
    let p : Packet := wPkt [60]
    s.accepts ch 0x006 p ∧ p.length = 24 ∧ pword p 0 = ch) := by
  dsimp only; unfold State.accepts; decide +kernel

/-- Clauses of TilePassesRunReplayAndSquash. -/
theorem witness_TilePassesRunReplayAndSquash :
    (let k : Nat := 0
    let t : Tile := wTile 0 0x10 40
    let ts : List Tile := []
    let s : State := wEng 16 [wTile 0 0x10 40]
    let e : Nat := 16
    k < 4 ∧ e < 17 ∧ s.tilesOf k e = t :: ts ∧ t.started < t.desc.passes)
    ∧ (let k : Nat := 0
    let t : Tile := { wTile 0 0x10 40 with started := 1 }
    let ts : List Tile := []
    let s : State := wEng 16 [{ wTile 0 0x10 40 with started := 1 }]
    let e : Nat := 16
    k < 4 ∧ e < 17 ∧ s.tilesOf k e = t :: ts ∧ t.ended < t.started ∧ s.comp.badWords = [] ∧ s.err.armed = [] ∧ (∀ r ∈ t.desc.reads t.ended, s.firstPoison (spBase t.cluster + r.1) r.2 = none) ∧ ((s.passAcc t t.ended).1.any (·.ovf) = false ∨ t.mayReplay = false ∨ t.desc.passes ≤ t.ended + 1))
    ∧ (let k : Nat := 0
    let t : Tile := { wTile 0 0x10 0 with started := 1, desc := { (wTile 0 0x10 0).desc with w := (wTile 0 0x10 0).desc.w.set 1 (1 + 2 ^ 16 + 400 * 2 ^ 32) } }
    let n : Tile := wTile 0 0x10 40
    let ts : List Tile := []
    let s : State := wEng 16 [t, n]
    let e : Nat := 16
    k < 4 ∧ e < 17 ∧ s.tilesOf k e = t :: n :: ts ∧ t.ended < t.started ∧ s.comp.badWords = [] ∧ s.err.armed = [] ∧ (∀ r ∈ t.desc.reads t.ended, s.firstPoison (spBase t.cluster + r.1) r.2 = none) ∧ (s.passAcc t t.ended).1.any (·.ovf) = true ∧ t.mayReplay = true ∧ t.ended + 1 < t.desc.passes)
    ∧ (let k : Nat := 0
    let t : Tile := { wTile 0 0x10 40 with started := 1, ended := 1, acc := [Acc.zero] }
    let ts : List Tile := []
    let s : State := wEng 16 [{ wTile 0 0x10 40 with started := 1, ended := 1, acc := [Acc.zero] }]
    let e : Nat := 16
    k < 4 ∧ e < 17 ∧ s.tilesOf k e = t :: ts ∧ t.desc.passes ≤ t.ended ∧ t.checked = false ∧ t.errRec = false ∧ (t.desc.split = true → s.splitExponentError t = false) ∧ (t.desc.split = true ∨ (t.acc.any (·.ovf) = false ∧ outputOverflow t = false) ∨ t.mayReplay = false)) := by
  refine ⟨?_, ?_, ?_, ?_⟩
  · dsimp only; decide +kernel
  · dsimp only; decide +kernel
  · dsimp only; decide +kernel
  · dsimp only; decide +kernel

/-- Clauses of TilePassesRunReplayAndSquash. -/
theorem witness_TilePassesRunReplayAndSquash_2 :
    (let k : Nat := 0
    let t : Tile := { wTile 2 2 100 with started := 1, ended := 1, acc := [{ Acc.zero with w := 2 ^ 120 }] }
    let s : State := wEng 16 [{ wTile 2 2 100 with started := 1, ended := 1, acc := [{ Acc.zero with w := 2 ^ 120 }] }]
    let e : Nat := 16
    k < 4 ∧ e < 17 ∧ s.tilesOf k e = [t] ∧ t.desc.passes ≤ t.ended ∧ t.checked = false ∧ t.errRec = false ∧ t.desc.split = false ∧ (t.acc.any (·.ovf) = true ∨ outputOverflow t = true) ∧ t.mayReplay = true) := by
  dsimp only; decide +kernel

/-- Clauses of TilesDrainAndCommit. -/
theorem witness_TilesDrainAndCommit :
    (let k : Nat := 0
    let t : Tile := { wTile 0 0x10 40 with started := 1, ended := 1, acc := [Acc.zero], checked := true }
    let ts : List Tile := []
    let s : State := wEng 16 [{ wTile 0 0x10 40 with started := 1, ended := 1, acc := [Acc.zero], checked := true }]
    let e : Nat := 16
    k < 4 ∧ e < 17 ∧ s.tilesOf k e = t :: ts ∧ t.checked = true ∧ t.draining = false ∧ s.comp.badWords = [] ∧ rowBytes t.desc.fmtC t.desc.n ≤ t.desc.ld 4 ∧ (∀ w ∈ s.drainChunks t none, s.writeHeld (.engine k e) t.cluster w = none))
    ∧ (let k : Nat := 0
    let t : Tile := { wTile 0 0x10 40 with started := 1, ended := 1, acc := [Acc.zero], checked := true, draining := true }
    let ts : List Tile := []
    let s : State := wEng 16 [{ wTile 0 0x10 40 with started := 1, ended := 1, acc := [Acc.zero], checked := true, draining := true }]
    let e : Nat := 16
    k < 4 ∧ e < 17 ∧ s.tilesOf k e = t :: ts ∧ t.draining = true ∧ s.stalled (.engine k e) = false ∧ t.desc.split = false ∧ t.desc.anchorSrc = false ∧ t.attempt = 0 ∧ t.sat = false ∧ s.fld (scaleAddr t.desc.scaleRec 0) F.scale0_MODE = 0) := by
  refine ⟨?_, ?_⟩
  · dsimp only; decide +kernel
  · dsimp only; decide +kernel

/-- Clauses of ScaleRecordsByCommand. -/
theorem witness_ScaleRecordsByCommand :
    (let ch : Nat := 60
    let s : State := wUp
    let r : Nat := 16320
    let n : Nat := 64
    let p : Packet := wPkt [16320 + 64 * 2 ^ 16]
    s.accepts ch 0x604 p ∧ p.length = 24 ∧ pword p 0 = r + n * 2 ^ 16 ∧ r < 16384 ∧ 1 ≤ n ∧ n ≤ 64 ∧ r / 4096 = (r + n - 1) / 4096)
    ∧ (let ch : Nat := 60
    let s : State := wUp
    let r : Nat := 16383
    let p : Packet := wPkt [16383, 5, 6, 7, 8, 0xFF, 0xFF, 0xFF, 0]
    s.accepts ch 0x605 p ∧ p.length = 88 ∧ pword p 0 = r ∧ r < 16384 ∧ ((pword p 5 &&& 0x3000000000 = 0 ∧ s.fld (scaleAddr r 0) F.scale0_MODE ≠ 3) ∨ (pword p 5 &&& 0x3000000000 = 0x3000000000 ∧ pword p 1 &&& 0x3000000000 ≠ 0x3000000000)))
    ∧ (let ch : Nat := 60
    let s : State := wEng 0 [wTile 0 0x10 40]
    let r : Nat := 0
    let p : Packet := wPkt [2 ^ 16]
    s.accepts ch 0x605 p ∧ p.length = 24 ∧ pword p 0 = r + 2 ^ 16 ∧ r < 16384 ∧ s.recordNamed r = true)
    ∧ (let ch : Nat := 60
    let s : State := wUp
    let r : Nat := 16383
    let p : Packet := wPkt [16383 + 2 ^ 16]
    s.accepts ch 0x605 p ∧ p.length = 24 ∧ pword p 0 = r + 2 ^ 16 ∧ r < 16384 ∧ s.recordNamed r = false) := by
  refine ⟨?_, ?_, ?_, ?_⟩
  · dsimp only; unfold State.accepts; decide +kernel
  · dsimp only; unfold State.accepts; decide +kernel
  · dsimp only; unfold State.accepts; decide +kernel
  · dsimp only; unfold State.accepts; decide +kernel

/-- Clauses of ScaleRecordsByCommand. -/
theorem witness_ScaleRecordsByCommand_2 :
    (let ch : Nat := 60
    let s : State := wUp
    let r : Nat := 16383
    let p : Packet := wPkt [16383 + 2 * 2 ^ 16]
    s.accepts ch 0x605 p ∧ p.length = 24 ∧ pword p 0 = r + 2 * 2 ^ 16 ∧ r < 16384) := by
  dsimp only; unfold State.accepts; decide +kernel

/-- Clauses of ZeroSumsKeepTheirSign. -/
theorem witness_ZeroSumsKeepTheirSign :
    (let a : Acc := Acc.zero
    a.nan = false ∧ a.pinf = false ∧ a.ninf = false ∧ a.ovf = false ∧ a.w = 0)
    ∧ (let a : Acc := { Acc.zero with w := -1 }
    let e : Int := -400
    let x : Int := 0
    let f : Fmt := Fmt.f16
    let rnd : Rnd := .even
    a.nan = false ∧ a.pinf = false ∧ a.ninf = false ∧ a.ovf = false ∧ a.w ≠ 0 ∧ (roundTo (a.value e x) f rnd).1 = 0 ∧ beyond f (a.value e x).neg 0 (roundTo (a.value e x) f rnd).2 = false) := by
  refine ⟨?_, ?_⟩
  · dsimp only; decide +kernel
  · dsimp only; decide +kernel

/-- Clauses of ApertureRecordsCombineInAnyOrder. -/
theorem witness_ApertureRecordsCombineInAnyOrder :
    (let l : List ApRec := [ApRec.mk 3 40 1, ApRec.mk (2 ^ 127) 40 2]
    let m : List ApRec := [ApRec.mk (2 ^ 127) 40 2, ApRec.mk 3 40 1]
    let r : ApRec := ApRec.mk (2 ^ 127) 40 0
    l.Perm m ∧ (∀ x ∈ l, x.anchor = r.anchor))
    ∧ (let r : ApRec := ApRec.mk (2 ^ 128 - 1) (-32768) 15
    r.w < 2 ^ 128 ∧ r.flags < 16 ∧ -32768 ≤ r.anchor ∧ r.anchor ≤ 32767)
    ∧ (let r : ApRec := ApRec.mk (2 ^ 128 - 1) 32767 15
    r.w < 2 ^ 128 ∧ r.flags < 16 ∧ -32768 ≤ r.anchor ∧ r.anchor ≤ 32767)
    ∧ (let e : Int := 14
    let x : Int := -128
    let y : Int := -128
    14 ≤ e ∧ e ≤ 100 ∧ -128 ≤ x ∧ x ≤ 127 ∧ -128 ≤ y ∧ y ≤ 127) := by
  refine ⟨?_, ?_, ?_, ?_⟩
  · dsimp only; decide +kernel
  · dsimp only; decide +kernel
  · dsimp only; decide +kernel
  · dsimp only; decide +kernel

/-- Clauses of ApertureRecordsCombineInAnyOrder. -/
theorem witness_ApertureRecordsCombineInAnyOrder_2 :
    (let e : Int := 13
    e < 14)
    ∧ (let e : Int := 101
    100 < e)
    ∧ (let e : Int := 6
    let x : Int := -8
    let y : Int := -8
    6 ≤ e ∧ e ≤ 100 ∧ -8 ≤ x ∧ x ≤ 7 ∧ -8 ≤ y ∧ y ≤ 7)
    ∧ (let q : Int := 2 ^ 22
    let n : Nat := 3
    1 ≤ n ∧ -(2 : Int) ^ (8 * n - 2) ≤ q ∧ q ≤ (2 : Int) ^ (8 * n - 2)) := by
  refine ⟨?_, ?_, ?_, ?_⟩
  · dsimp only; decide +kernel
  · dsimp only; decide +kernel
  · dsimp only; decide +kernel
  · dsimp only; decide +kernel

/-- Clauses of ApertureRecordsCombineInAnyOrder. -/
theorem witness_ApertureRecordsCombineInAnyOrder_3 :
    (let q : Int := -(2 ^ 22)
    let n : Nat := 3
    1 ≤ n ∧ -(2 : Int) ^ (8 * n - 2) ≤ q ∧ q ≤ (2 : Int) ^ (8 * n - 2))
    ∧ (let q : Int := 2 ^ 6
    let n : Nat := 1
    let d := 64
    1 ≤ n ∧ -(2 : Int) ^ (8 * n - 2) ≤ q ∧ q ≤ (2 : Int) ^ (8 * n - 2) ∧ d ∈ digits q n)
    ∧ (let q : Int := -(2 ^ 6)
    let n : Nat := 1
    1 ≤ n ∧ -(2 : Int) ^ (8 * n - 2) ≤ q ∧ q ≤ (2 : Int) ^ (8 * n - 2)) := by
  refine ⟨?_, ?_, ?_⟩
  · dsimp only; decide +kernel
  · dsimp only; decide +kernel
  · dsimp only; decide +kernel

/-- Clauses of BeamImagesLoad. -/
theorem witness_BeamImagesLoad :
    (let ch : Nat := 60
    let s : State := wLoad [] |>.modBeam 0 (fun b => { b with load := none }) |>.modChan 60 (fun _ => default)
    let k : Nat := 0
    let b : Nat := 1
    let c : Nat := 1
    let p : Packet := wPkt [0x104, 0x4000]
    s.accepts ch 0x600 p ∧ p.length = 32 ∧ k < 4 ∧ b < 2 ∧ c < 256 ∧ pword p 0 = k + b * 4 + c * 256 ∧ pword p 1 % 64 = 0 ∧ s.eclipse = false ∧ s.flag (A.beamBank k b) F.beamBank_IN_USE = false ∧ (s.beam k).load = none ∧ s.ctxOpen c = true)
    ∧ (let ch : Nat := 60
    let s : State := wUp
    let p : Packet := wPkt [0x104, 0x4001]
    s.accepts ch 0x600 p ∧ p.length = 32 ∧ (pword p 0 &&& 0xFFFFFFFFFFFF00F8 ≠ 0 ∨ pword p 1 % 64 ≠ 0))
    ∧ (let ch : Nat := 60
    let s : State := (wBeam 0 0 []).setFld (A.beamBank 0 1) F.beamBank_IN_USE 1
    let k : Nat := 0
    let b : Nat := 1
    let c : Nat := 1
    let p : Packet := wPkt [0x104, 0x4000]
    s.accepts ch 0x600 p ∧ p.length = 32 ∧ k < 4 ∧ b < 2 ∧ c < 256 ∧ pword p 0 = k + b * 4 + c * 256 ∧ pword p 1 % 64 = 0 ∧ (s.flag (A.beamBank k b) F.beamBank_IN_USE = true ∨ (s.beam k).load.isSome = true))
    ∧ (let s : State := wLoad (wImage [0x0002000000000000, 4] 0)
    let y : State := (s.ccRead 0x4000 64).1
    let z : State := (y.ccRead 0x4040 64).1
    let k : Nat := 0
    let l : BeamLoad := { bank := 0, ctx := 1, addr := 0x4000, chan := 60 }
    let wb : Nat := 16
    let dc : Nat := 0
    let ws : List BWord := match parseArea [0x0002000000000000, 4] 0 2 with | .ok l => l | _ => []
    k < 4 ∧ (s.beam k).load = some l ∧ l.bank < (s.beam k).banks.length ∧ s.rangeIn l.addr 64 = true ∧ s.ccRead l.addr 64 = (y, true) ∧ headerBad (y.rdBytes l.addr 64) = none ∧ wb = leNat (((y.rdBytes l.addr 64).drop 8).take 4) ∧ dc = leNat (((y.rdBytes l.addr 64).drop 16).take 2) ∧ s.rangeIn l.addr (64 * ceilDiv (0x40 + wb) 64 + 64 * dc) = true ∧ y.ccRead (l.addr + 64) (64 * ceilDiv (0x40 + wb) 64 + 64 * dc - 64) = (z, true) ∧ z.comp = s.comp ∧ z.windowLen (windowOf l.addr).1 = s.windowLen (windowOf l.addr).1 ∧ z.poisoned l.addr 64 = false ∧ z.poisoned l.addr (64 * ceilDiv (0x40 + wb) 64 + 64 * dc) = false ∧ parseArea (z.rdWords (l.addr + 0x40) (wb / 8)) 0 (wb / 8) = .ok ws ∧ secondPass ws (leNat (((y.rdBytes l.addr 64).drop 12).take 4)) dc = none) := by
  refine ⟨?_, ?_, ?_, ?_⟩
  · dsimp only; unfold State.accepts; decide +kernel
  · dsimp only; unfold State.accepts; decide +kernel
  · dsimp only; unfold State.accepts; decide +kernel
  · dsimp only; exact ⟨(by decide +kernel), (by decide +kernel), (by decide +kernel), (by decide +kernel), (by decide +kernel), (by decide +kernel), (by decide +kernel), (by decide +kernel), (by decide +kernel), (by decide +kernel), (by decide +kernel), (by decide +kernel), (by decide +kernel), (by decide +kernel), wExc (by decide +kernel), (by decide +kernel)⟩

/-- Clauses of BeamImagesLoad. -/
theorem witness_BeamImagesLoad_2 :
    (let s : State := wLoad (wImage [0x0002000000000000, 4] 0 |>.set 6 1)
    let y : State := (s.ccRead 0x4000 64).1
    let k : Nat := 0
    let l : BeamLoad := { bank := 0, ctx := 1, addr := 0x4000, chan := 60 }
    let o : Nat := 6
    k < 4 ∧ (s.beam k).load = some l ∧ s.rangeIn l.addr 64 = true ∧ s.ccRead l.addr 64 = (y, true) ∧ y.comp = s.comp ∧ y.rangeIn l.addr 64 = true ∧ y.poisoned l.addr 64 = false ∧ headerBad (y.rdBytes l.addr 64) = some o)
    ∧ (let s : State := wLoad (wImage [0x0004000000000000, 4] 0)
    let y : State := (s.ccRead 0x4000 64).1
    let z : State := (y.ccRead 0x4040 64).1
    let k : Nat := 0
    let l : BeamLoad := { bank := 0, ctx := 1, addr := 0x4000, chan := 60 }
    let wb : Nat := 16
    let dc : Nat := 0
    let o : Nat := 0x46
    k < 4 ∧ (s.beam k).load = some l ∧ s.rangeIn l.addr 64 = true ∧ s.ccRead l.addr 64 = (y, true) ∧ headerBad (y.rdBytes l.addr 64) = none ∧ wb = leNat (((y.rdBytes l.addr 64).drop 8).take 4) ∧ dc = leNat (((y.rdBytes l.addr 64).drop 16).take 2) ∧ s.rangeIn l.addr (64 * ceilDiv (0x40 + wb) 64 + 64 * dc) = true ∧ y.ccRead (l.addr + 64) (64 * ceilDiv (0x40 + wb) 64 + 64 * dc - 64) = (z, true) ∧ z.comp = s.comp ∧ z.windowLen (windowOf l.addr).1 = s.windowLen (windowOf l.addr).1 ∧ z.poisoned l.addr 64 = false ∧ z.poisoned l.addr (64 * ceilDiv (0x40 + wb) 64 + 64 * dc) = false ∧ (parseArea (z.rdWords (l.addr + 0x40) (wb / 8)) 0 (wb / 8) = .error o ∨ ∃ ws, parseArea (z.rdWords (l.addr + 0x40) (wb / 8)) 0 (wb / 8) = .ok ws ∧ secondPass ws (leNat (((y.rdBytes l.addr 64).drop 12).take 4)) dc = some o)) := by
  refine ⟨?_, ?_⟩
  · dsimp only; decide +kernel
  · dsimp only; exact ⟨(by decide +kernel), (by decide +kernel), (by decide +kernel), (by decide +kernel), (by decide +kernel), (by decide +kernel), (by decide +kernel), (by decide +kernel), (by decide +kernel), (by decide +kernel), (by decide +kernel), (by decide +kernel), (by decide +kernel), Or.inl (wErr (by decide +kernel))⟩

/-- Clauses of BeamsStartPauseStepAndEnd. -/
theorem witness_BeamsStartPauseStepAndEnd :
    (let ch : Nat := 60
    let s : State := wBeam 0 0 [0x0002000000000000, 4]
    let p : Packet := wPkt [0x20, 0]
    let k : Nat := 0
    let b : Nat := 0
    let a : Nat := 0
    s.accepts ch 0x601 p ∧ p.length = 32 ∧ s.beamStartCheck (pword p 0) (pword p 1) = none ∧ bit (pword p 0) 3 = false ∧ k = bitsOf (pword p 0) 0 2 ∧ b = bitsOf (pword p 0) 2 1 ∧ a = (if bit (pword p 0) 5 then ((s.beam k).banks.getD b default).entry else bitsOf (pword p 1) 0 17) ∧ a < 2 ^ 17 ∧ waitIn ((s.beam k).banks.getD b default).words a = none)
    ∧ (let ch : Nat := 60
    let s : State := wObj (wBeam 0 0 [0x0001000000000000, 1 + 70 * 2 ^ 16]) 2
    let p : Packet := wPkt [0x20, 0]
    let k : Nat := 0
    let b : Nat := 0
    let a : Nat := 0
    let x := (waitIn [0x0001000000000000, 1 + 70 * 2 ^ 16] 0).getD default
    s.accepts ch 0x601 p ∧ p.length = 32 ∧ s.beamStartCheck (pword p 0) (pword p 1) = none ∧ bit (pword p 0) 3 = false ∧ k = bitsOf (pword p 0) 0 2 ∧ b = bitsOf (pword p 0) 2 1 ∧ a = (if bit (pword p 0) 5 then ((s.beam k).banks.getD b default).entry else bitsOf (pword p 1) 0 17) ∧ a < 2 ^ 17 ∧ waitIn ((s.beam k).banks.getD b default).words a = some x ∧ s.objBoundTo (x.f 16 16) (s.fld (A.beamBank k b) F.beamBank_CONTEXT) = true)
    ∧ (let ch : Nat := 60
    let s : State := wBeam 4 0 [0x0002000000000000, 4]
    let p : Packet := wPkt [8, 0]
    let k : Nat := 0
    s.accepts ch 0x601 p ∧ p.length = 32 ∧ s.beamStartCheck (pword p 0) (pword p 1) = none ∧ bit (pword p 0) 3 = true ∧ k = bitsOf (pword p 0) 0 2 ∧ waitIn (s.beamBankOf k).words (s.beamPc k) = none)
    ∧ (let ch : Nat := 60
    let s : State := wBeam 3 5 []
    let p : Packet := wPkt [0]
    let k : Nat := 0
    let n : Nat := 0
    s.accepts ch 0x602 p ∧ p.length = 24 ∧ pword p 0 = k ∧ k < 4 ∧ s.eclipse = false ∧ 1 ≤ s.beamState k ∧ s.beamState k ≤ 3 ∧ (s.beam k).stepChan = none ∧ n = (s.rd (A.mxeBeamCntCycles k)).toNat) := by
  refine ⟨?_, ?_, ?_, ?_⟩
  · dsimp only; unfold State.accepts; decide +kernel
  · dsimp only; unfold State.accepts; decide +kernel
  · dsimp only; unfold State.accepts; decide +kernel
  · dsimp only; unfold State.accepts; decide +kernel

/-- Clauses of BeamsStartPauseStepAndEnd. -/
theorem witness_BeamsStartPauseStepAndEnd_2 :
    (let ch : Nat := 60
    let s : State := wBeam 0 5 []
    let p : Packet := wPkt [0x10]
    let k : Nat := 0
    let m : Nat := 1
    s.accepts ch 0x602 p ∧ p.length = 24 ∧ pword p 0 = k + 16 * m ∧ k < 4 ∧ m < 2 ∧ s.eclipse = false ∧ s.beamState k = 0)
    ∧ (let ch : Nat := 60
    let s : State := wBeam 5 5 []
    let p : Packet := wPkt [0x10]
    let k : Nat := 0
    s.accepts ch 0x602 p ∧ p.length = 24 ∧ pword p 0 = k + 16 ∧ k < 4 ∧ s.eclipse = false ∧ (1 ≤ s.beamState k ∧ s.beamState k ≤ 3 ∨ s.beamState k = 5) ∧ (s.beam k).stepChan = none)
    ∧ (let s : State := (wBeam 6 5 [] (fun b => { b with aborting := [60] })).modChan 60 (fun c => { c with current := some (0x602, wPkt [0x10]), busy := true })
    let k : Nat := 0
    let op : Nat := 0x602
    let p : Packet := wPkt [0x10]
    let ch : Nat := 60
    k < 4 ∧ s.beamState k = 6 ∧ s.beamQuiet k = true ∧ (s.beam k).owner.entry = none ∧ (s.beam k).stepChan = none ∧ (s.beam k).aborting = [ch] ∧ (s.chan ch).current = some (op, p) ∧ ch < 64)
    ∧ (let ch : Nat := 60
    let s : State := wBeam 4 0 [0x0002000000000000, 4]
    let p : Packet := wPkt [65535 * 2 ^ 16]
    let k : Nat := 0
    let n : Nat := 65535
    s.accepts ch 0x603 p ∧ p.length = 24 ∧ pword p 0 = k + n * 2 ^ 16 ∧ k < 4 ∧ 1 ≤ n ∧ n < 65536 ∧ s.eclipse = false ∧ s.beamState k = 4 ∧ s.plainAt k (s.beamPc k) = true) := by
  refine ⟨?_, ?_, ?_, ?_⟩
  · dsimp only; unfold State.accepts; decide +kernel
  · dsimp only; unfold State.accepts; decide +kernel
  · dsimp only; decide +kernel
  · dsimp only; unfold State.accepts; decide +kernel

/-- Clauses of BeamsStartPauseStepAndEnd. -/
theorem witness_BeamsStartPauseStepAndEnd_3 :
    (let ch : Nat := 60
    let s : State := wObj (wBeam 4 0 [0x0001000000000000, 1 + 70 * 2 ^ 16]) 2
    let p : Packet := wPkt [65535 * 2 ^ 16]
    let k : Nat := 0
    let n : Nat := 65535
    let x := (waitIn [0x0001000000000000, 1 + 70 * 2 ^ 16] 0).getD default
    s.accepts ch 0x603 p ∧ p.length = 24 ∧ pword p 0 = k + n * 2 ^ 16 ∧ k < 4 ∧ 1 ≤ n ∧ n < 65536 ∧ s.eclipse = false ∧ s.beamState k = 4 ∧ waitIn (s.beamBankOf k).words (s.beamPc k) = some x ∧ s.objBoundTo (x.f 16 16) (s.beamCtx k) = true)
    ∧ (let ch : Nat := 60
    let s : State := wBeam 0 0 []
    let p : Packet := wPkt [2 ^ 16]
    let k : Nat := 0
    let n : Nat := 1
    s.accepts ch 0x603 p ∧ p.length = 24 ∧ pword p 0 = k + n * 2 ^ 16 ∧ k < 4 ∧ 1 ≤ n ∧ n < 65536 ∧ s.beamState k ≠ 4)
    ∧ (let s : State := wBeam 5 0 [] (fun b => { b with last := 9 })
    let k : Nat := 0
    k < 4 ∧ s.beamState k = 5 ∧ s.beamQuiet k = true ∧ (s.beam k).unitErr = none ∧ s.beamAlone k = true ∧ (s.beam k).last < 2 ^ 17) := by
  refine ⟨?_, ?_, ?_⟩
  · dsimp only; unfold State.accepts; decide +kernel
  · dsimp only; unfold State.accepts; decide +kernel
  · dsimp only; decide +kernel

/-- Clauses of BeamWordsIssueAndWait. -/
theorem witness_BeamWordsIssueAndWait :
    (let s : State := wBeam 3 0 [0, 0x0002000000000000, 4]
    let k : Nat := 0
    let w : BWord := { at' := 0, units := 1, slots := [] }
    k < 4 ∧ (s.beamState k = 1 ∨ s.beamState k = 3) ∧ (s.beam k).unitErr = none ∧ (s.beam k).waiting = false ∧ s.beamWord k = some w ∧ w.at' = s.beamPc k ∧ w.slots = [] ∧ w.at' + w.units < 2 ^ 17 ∧ (s.beam k).stepLeft = 0 ∧ (s.beam k).out.length ≤ 32 ∧ (s.beam k).held.length ≤ 16 ∧ s.plainAt k (w.at' + w.units) = true ∧ (∀ d ∈ (s.beam k).lends, d.left ≠ 1))
    ∧ (let s : State := wBeam 1 0 [0x0002000000000000, 4]
    let k : Nat := 0
    let w : BWord := (s.beamWord 0).getD default
    let x : BSlot := w.slots.headD default
    k < 4 ∧ (s.beamState k = 1 ∨ s.beamState k = 3) ∧ (s.beam k).unitErr = none ∧ (s.beam k).waiting = false ∧ s.beamWord k = some w ∧ w.slots = [x] ∧ x.kind = .seq ∧ x.op = 4 ∧ (s.beam k).stepChan = none ∧ (s.beam k).out.length ≤ 32 ∧ (s.beam k).held.length ≤ 16 ∧ (∀ d ∈ (s.beam k).lends, d.left ≠ 1))
    ∧ (let s : State := wBeam 1 0 [1, 34360786961, 1049089, 36028797035741248, 72058418671649024, 0, 0, 0x0002000000000000, 4]
    let v : State := (s).spanEnds 0
    let k : Nat := 0
    let det : Nat := 0
    let e : Nat := 0
    let ext : Nat := 0
    let w : BWord := (s.beamWord 0).getD default
    let x : BSlot := w.slots.headD default
    k < 4 ∧ v = (if s.beamState k = 3 then s.beamSlip k (s.beam k).slipExt (det + ext) else s).spanEnds k ∧ (s.beamState k = 1 ∨ s.beamState k = 3) ∧ (s.beam k).unitErr = none ∧ (s.beam k).waiting = false ∧ s.beamWord k = some w ∧ w.slots = [x] ∧ x.kind = .mxe ∧ x.op = 1 ∧ v.physEngine k x.idx = some e ∧ e < 17 ∧ v.slotError k x = none ∧ v.slotWaits k x = false ∧ (s.beam k).out.length ≤ 32 ∧ (s.beam k).held.length ≤ 16 ∧ (s.beam k).stepLeft = 0 ∧ s.plainAt k ((w.at' + w.units) % 2 ^ 17) = true)
    ∧ (let s : State := (wBeam 3 0 [1, 3, 0x0002000000000000, 4]).setTiles 0 0 [wTile 5 5 8]
    let v : State := (s.beamSlip 0 (s.beam 0).slipExt 5).spanEnds 0
    let k : Nat := 0
    let det : Nat := 3
    let ext : Nat := 2
    let w : BWord := (s.beamWord 0).getD default
    let x : BSlot := w.slots.headD default
    k < 4 ∧ v = (if s.beamState k = 3 then s.beamSlip k (s.beam k).slipExt (det + ext) else s).spanEnds k ∧ (s.beamState k = 1 ∨ s.beamState k = 3) ∧ (s.beam k).unitErr = none ∧ (s.beam k).waiting = false ∧ s.beamWord k = some w ∧ w.slots = [x] ∧ x.kind = .mxe ∧ v.slotError k x = none ∧ v.slotWaits k x = true ∧ (s.beam k).out.length ≤ 32 ∧ (s.beam k).held.length ≤ 16) := by
  refine ⟨?_, ?_, ?_, ?_⟩
  · dsimp only; decide +kernel
  · dsimp only; decide +kernel
  · dsimp only; decide +kernel
  · dsimp only; decide +kernel

/-- Clauses of BeamWordsIssueAndWait. -/
theorem witness_BeamWordsIssueAndWait_2 :
    (let s : State := wBeam 1 0 [1, 2, 0, 0x0002000000000000, 4]
    let v : State := (s).spanEnds 0
    let k : Nat := 0
    let det : Nat := 0
    let ext : Nat := 0
    let cause : Nat := 6
    let w : BWord := (s.beamWord 0).getD default
    let x : BSlot := w.slots.headD default
    k < 4 ∧ v = (if s.beamState k = 3 then s.beamSlip k (s.beam k).slipExt (det + ext) else s).spanEnds k ∧ s.beamAlone k = true ∧ (s.beamState k = 1 ∨ s.beamState k = 3) ∧ (s.beam k).unitErr = none ∧ (s.beam k).waiting = false ∧ s.beamWord k = some w ∧ w.slots = [x] ∧ x.kind = .mxe ∧ v.slotError k x = some cause)
    ∧ (let w : Wait := { who := .beam 0, ctx := 1, obj := 70, cond := 1, value := 2, met := true, refused := false }
    let s : State := let t := (wBeam 2 0 wExample (fun b => { b with cfg := 0x1e })).setFlds (objReg0 70) [(F.synObj0_TYPE, 1), (F.synObj0_CONTEXT, 1)]; { t with syn := { t.syn with waits := [w] } }
    let k : Nat := 0
    let cycles : Nat := 5
    k < 4 ∧ s.waitOf (.beam k) = some w ∧ w.refused = false ∧ w.met = true ∧ condAccepted (s.objType w.obj) w.cond = true ∧ s.objBoundTo w.obj w.ctx = true ∧ (s.beam k).waited + cycles ≤ s.waitLimit k)
    ∧ (let w : Wait := { who := .beam 0, ctx := 1, obj := 70, cond := 1, value := 2, met := false, refused := false }
    let s : State := let t := (wBeam 2 0 wExample (fun b => { b with cfg := 0x1e })).setFlds (objReg0 70) [(F.synObj0_TYPE, 1), (F.synObj0_CONTEXT, 1)]; { t with syn := { t.syn with waits := [w] } }
    let k : Nat := 0
    let cycles : Nat := 5
    k < 4 ∧ s.waitOf (.beam k) = some w ∧ w.refused = false ∧ w.met = false ∧ condAccepted (s.objType w.obj) w.cond = true ∧ s.objBoundTo w.obj w.ctx = true ∧ (s.beam k).waited + cycles ≤ s.waitLimit k)
    ∧ (let w : Wait := { who := .beam 0, ctx := 1, obj := 70, cond := 1, value := 2, met := false, refused := false }
    let s : State := let t := (wBeam 2 0 wExample); { t with syn := { t.syn with waits := [w] } }
    let k : Nat := 0
    let cycles : Nat := 2 ^ 30
    k < 4 ∧ s.waitOf (.beam k) = some w ∧ s.beamState k = 2 ∧ s.beamAlone k = true ∧ s.waitLimit k ≤ (s.beam k).waited + cycles) := by
  refine ⟨?_, ?_, ?_, ?_⟩
  · dsimp only; decide +kernel
  · dsimp only; decide +kernel
  · dsimp only; decide +kernel
  · dsimp only; decide +kernel

/-- Clauses of BeamWordsIssueAndWait. -/
theorem witness_BeamWordsIssueAndWait_3 :
    (let w := { who := .beam 0, ctx := 1, obj := 70, cond := 1, value := 2, met := false, refused := false }
    let s : State := let t := (wBeam 2 0 wExample (fun b => { b with cfg := 0x1e })); { t with syn := { t.syn with waits := [w] } }
    let k : Nat := 0
    let cycles : Nat := 5
    k < 4 ∧ (s.beam k).waited + cycles < s.waitLimit k)
    ∧ (let x : BeamSignal := { op := 1, obj := 70, value := 1, after := true, seq := 3, first := 0, owner := { ctx := 1, entry := none } }
    let rest : List BeamSignal := []
    let s : State := wBeam 1 0 [] (fun b => { b with held := [x] })
    let k : Nat := 0
    k < 4 ∧ (s.beam k).held = x :: rest ∧ (x.after = true → s.beamOps k x.first x.seq = false) ∧ (s.beam k).out.length < 32 ∧ (s.beamState k ≠ 6 ∨ x.seq ≤ (s.beam k).first))
    ∧ (let x : BeamSignal := { op := 1, obj := 70, value := 1, after := true, seq := 3, first := 0, owner := { ctx := 1, entry := none } }
    let rest : List BeamSignal := []
    let s : State := wBeam 6 0 [] (fun b => { b with held := [x] })
    let k : Nat := 0
    k < 4 ∧ (s.beam k).held = x :: rest ∧ (x.after = true → s.beamOps k x.first x.seq = false) ∧ (s.beam k).out.length < 32 ∧ s.beamState k = 6 ∧ (s.beam k).first < x.seq ∧ s.beamWorks k = false)
    ∧ (let x : BeamSignal := { op := 1, obj := 70, value := 1, after := true, seq := 3, first := 0, owner := { ctx := 1, entry := none } }
    let rest : List BeamSignal := []
    let s : State := wBeam 1 0 [] (fun b => { b with out := [x] })
    let k : Nat := 0
    k < 4 ∧ (s.beam k).out = x :: rest) := by
  refine ⟨?_, ?_, ?_, ?_⟩
  · dsimp only; decide +kernel
  · dsimp only; decide +kernel
  · dsimp only; decide +kernel
  · dsimp only; decide +kernel

/-- Clauses of ChainsStreamAndComplete. -/
theorem witness_ChainsStreamAndComplete :
    (let c : Chain := wChain
    let k : Nat := 0
    let x : Nat := 7
    let s : State := wUp.setChains 0 7 [wChain]
    k < 4 ∧ x < 8 ∧ streaming (s.chainsOf k x) = some c ∧ s.stalled (.vxe k x) = false ∧ beamFirst (s.chainsOf k x) c = false ∧ c.wrote = false ∧ s.comp.badWords = [] ∧ s.err.armed = [] ∧ (∀ w ∈ (c.withOut (s.runPass (vxeCluster k x) c)).out.take (c.cycles - (c.ins.length + 15)), s.writeHeld (.vxe k x) (vxeCluster k x) w = none))
    ∧ (let c : Chain := { wChain with wrote := true }
    let k : Nat := 0
    let x : Nat := 7
    let s : State := wUp.setChains 0 7 [c]
    k < 4 ∧ x < 8 ∧ streaming (s.chainsOf k x) = some c ∧ s.stalled (.vxe k x) = false ∧ beamFirst (s.chainsOf k x) c = false ∧ c.wrote = true)
    ∧ (let c : Chain := { wChain with streamed := true, wrote := true }
    let k : Nat := 0
    let x : Nat := 7
    let s : State := wUp.setChains 0 7 [c]
    k < 4 ∧ x < 8 ∧ (s.chainsOf k x).find? (·.streamed) = some c ∧ s.stalled (.vxe k x) = false ∧ c.wrote = true)
    ∧ (let c : Chain := { wChain with streamed := true, oor := [2], out := [[(spBase 3 + 64, [1, 2, 3], false)]] }
    let k : Nat := 0
    let x : Nat := 7
    let s : State := wUp.setChains 0 7 [c]
    k < 4 ∧ x < 8 ∧ (s.chainsOf k x).find? (·.streamed) = some c ∧ s.stalled (.vxe k x) = false ∧ s.comp.badWords = [] ∧ s.err.armed = [] ∧ c.wrote = false ∧ (∀ w ∈ c.out, s.writeHeld (.vxe k x) (vxeCluster k x) w = none)) := by
  refine ⟨?_, ?_, ?_, ?_⟩
  · dsimp only; decide +kernel
  · dsimp only; decide +kernel
  · dsimp only; decide +kernel
  · dsimp only; decide +kernel

/-- Clauses of ChainsStreamAndComplete. -/
theorem witness_ChainsStreamAndComplete_2 :
    (let c : Chain := { wChain with streamed := true, oor := [2], out := [[(spBase 3 + 64, [1, 2, 3], false)]] }
    let k : Nat := 0
    let x : Nat := 7
    let s : State := wUp.setChains 0 7 [c]
    k < 4 ∧ x < 8 ∧ (s.chainsOf k x).find? (·.streamed) = some c ∧ s.stalled (.vxe k x) = false ∧ s.err.armed = [] ∧ s.err.recov = [] ∧ c.owner.entry = none ∧ c.wrote = false)
    ∧ (let v : VInstr := { lo := 0x40 + 2 ^ 8, hi := 0, desc := [] }
    v.typ = 1 ∧ v.opc = 0x20 ∧ v.sat = false)
    ∧ (let v : VInstr := { lo := 0x20 + 2 ^ 22, hi := 0, desc := [] }
    v.typ = 0 ∧ v.opc = 0x10 ∧ v.sat = true) := by
  refine ⟨?_, ?_, ?_⟩
  · dsimp only; decide +kernel
  · dsimp only; decide +kernel
  · dsimp only; decide +kernel

/-- Clauses of ThreadsComputeBranchAndVote. -/
theorem witness_ThreadsComputeBranchAndVote :
    (let w : Nat := wR 0x20 6 5 0 7 0x33
    let v : Group := wGroup 3 9 3
    let s : State := wThr w v
    let u : State := wFet w v
    let k : Nat := 0
    let c : Nat := 0
    let g : Nat := 0
    let lane : Nat := 1
    let m : Nat := 3
    let r : Nat → Thread := fun l => match rvPlain (wR 0x20 6 5 0 7 0x33) ((wGroup 3 9 3).thread l) with | .ok t => t | _ => default
    s.mayIssue u k c g lane m w v .alu .none ∧ (∀ l ∈ lanesOf m, (rvKind w (v.thread l).frm).isSome = true ∧ rvPlain w (v.thread l) = .ok (r l)))
    ∧ (let w : Nat := wR 0 6 5 1 8 0x63
    let v : Group := wGroup 3 9 3
    let s : State := wThr w v
    let u : State := wFet w v
    let k : Nat := 0
    let c : Nat := 0
    let g : Nat := 0
    let lane : Nat := 1
    let m : Nat := 3
    let r : Nat → Thread := fun l => match rvPlain (wR 0 6 5 1 8 0x63) ((wGroup 3 9 3).thread l) with | .ok t => t | _ => default
    s.mayIssue u k c g lane m w v .branch .none ∧ (∀ l ∈ lanesOf m, (rvKind w (v.thread l).frm).isSome = true ∧ rvPlain w (v.thread l) = .ok (r l)))
    ∧ (let w : Nat := wR 0 1 2 1 7 0x73
    let v : Group := wGroup 3 9 3
    let s : State := wThr w v
    let u : State := wFet w v
    let k : Nat := 0
    let c : Nat := 0
    let g : Nat := 0
    let lane : Nat := 1
    let m : Nat := 3
    s.mayIssue u k c g lane m w v .csr .none)
    ∧ (let w : Nat := 0x0F
    let v : Group := wGroup 3 9 3
    let s : State := wThr w v
    let u : State := wFet w v
    let k : Nat := 0
    let c : Nat := 0
    let g : Nat := 0
    let lane : Nat := 1
    let m : Nat := 3
    s.mayIssue u k c g lane m w v .fence .none) := by
  refine ⟨?_, ?_, ?_, ?_⟩
  · dsimp only; exact ⟨(by unfold State.mayIssue; decide +kernel), (by decide +kernel)⟩
  · dsimp only; exact ⟨(by unfold State.mayIssue; decide +kernel), (by decide +kernel)⟩
  · dsimp only; exact (by unfold State.mayIssue; decide +kernel)
  · dsimp only; exact (by unfold State.mayIssue; decide +kernel)

/-- Clauses of ThreadsComputeBranchAndVote. -/
theorem witness_ThreadsComputeBranchAndVote_2 :
    (let w : Nat := 0x100F
    let v : Group := wGroup 3 9 3
    let s : State := wThr w v
    let u : State := wFet w v
    let k : Nat := 0
    let c : Nat := 0
    let g : Nat := 0
    let lane : Nat := 1
    let m : Nat := 3
    s.mayIssue u k c g lane m w v .fenceI .none)
    ∧ (let w : Nat := wR 0 5 0 7 0 0x0B
    let v : Group := wGroup 3 9 3
    let s : State := wThr w v
    let u : State := wFet w v
    let k : Nat := 0
    let c : Nat := 0
    let g : Nat := 0
    let lane : Nat := 1
    let m : Nat := 3
    s.mayIssue u k c g lane m w v .gfence .none)
    ∧ (let w : Nat := wR 0 0 5 2 0 0x0B
    let v : Group := wGroup 3 9 3
    let s : State := wThr w v
    let u : State := wFet w v
    let k : Nat := 0
    let c : Nat := 0
    let g : Nat := 0
    let lane : Nat := 1
    let m : Nat := 3
    s.mayIssue u k c g lane m w v .spin .none)
    ∧ (let w : Nat := wR 0 0 5 3 7 0x0B
    let v : Group := wGroup 3 9 0x80000003
    let s : State := wThr w v
    let u : State := wFet w v
    let k : Nat := 0
    let c : Nat := 0
    let g : Nat := 0
    let lane : Nat := 31
    let m : Nat := 0x80000003
    let ballot : Nat := 0x80000003
    s.mayIssue u k c g lane m w v .vote .none ∧ ballot < 2 ^ 32 ∧ (∀ l, l < 32 → ballot.testBit l = (m.testBit l && decide ((v.thread l).xr (Rv.rs1 w) ≠ 0)))) := by
  refine ⟨?_, ?_, ?_, ?_⟩
  · dsimp only; exact (by unfold State.mayIssue; decide +kernel)
  · dsimp only; exact (by unfold State.mayIssue; decide +kernel)
  · dsimp only; exact (by unfold State.mayIssue; decide +kernel)
  · dsimp only; exact ⟨(by unfold State.mayIssue; decide +kernel), (by decide +kernel), (by decide +kernel)⟩

/-- Clauses of ThreadsComputeBranchAndVote. -/
theorem witness_ThreadsComputeBranchAndVote_3 :
    (let w : Nat := wR 3 6 5 4 7 0x0B
    let v : Group := wGroup 3 31 0x80000003
    let s : State := wThr w v
    let u : State := wFet w v
    let k : Nat := 0
    let c : Nat := 0
    let g : Nat := 0
    let lane : Nat := 31
    let m : Nat := 0x80000003
    let src : Nat → Option Nat := fun l => (let b := ((wGroup 3 31 0x80000003).thread l).xr (Rv.rs2 (wR 3 6 5 4 7 0x0B)); let n : Option Nat := (match Rv.f7 (wR 3 6 5 4 7 0x0B) with | 0 => some (b % 32) | 1 => some (l ^^^ (b % 32)) | 2 => if b ≤ l then some (l - b) else none | _ => some (l + b)); n.bind (fun i => if i < 32 ∧ (0x80000003).testBit i = true then some i else none))
    s.mayIssue u k c g lane m w v .shfl .none ∧ (∀ l, src l = (let b := (v.thread l).xr (Rv.rs2 w)
        let n : Option Nat := match Rv.f7 w with
          | 0 => some (b % 32) | 1 => some (l ^^^ (b % 32)) | 2 => if b ≤ l then some (l - b) else none | _ => some (l + b)
        n.bind (fun i => if i < 32 ∧ m.testBit i = true then some i else none))))
    ∧ (let w : Nat := wR 0 9 0 5 7 0x0B
    let v : Group := wGroup 3 31 0x80000003
    let s : State := wThr w v
    let u : State := wFet w v
    let k : Nat := 0
    let c : Nat := 0
    let g : Nat := 0
    let lane : Nat := 31
    let m : Nat := 0x80000003
    s.mayIssue u k c g lane m w v .gid .none) := by
  refine ⟨?_, ?_⟩
  · dsimp only; exact ⟨(by unfold State.mayIssue; decide +kernel), (fun _ => rfl)⟩
  · dsimp only; exact (by unfold State.mayIssue; decide +kernel)

/-- Clauses of ThreadsLoadStoreAndAtomics. -/
theorem witness_ThreadsLoadStoreAndAtomics :
    (let w : Nat := wR 0 0 5 3 7 0x03
    let v : Group := wGroup 0x201000 9 1
    let x : L1Line := { line := 32, bytes := List.replicate 128 7#8, poison := 0 }
    let s : State := (wThr w v).modCore 0 0 (fun y => { y with l1 := [x] })
    let k : Nat := 0
    let c : Nat := 0
    let g : Nat := 0
    let lane : Nat := 0
    let u : State := (s.fetch 0 0 0 v 0x100).1
    let z : State := (u.reach 0 0 0 v 0x201000 8 .read false).1
    let pa : Nat := 0x1000
    let e : XEntry := wEnt
    s.mayIssue u k c g lane (laneBit lane) w v .load .none ∧ u.reaches z k c g v (memArgs .load w (v.thread lane)) pa e ∧ (windowOf pa).1.isTier = true ∧ leafRed e.leaf = 0 ∧ leafPolicy e.leaf ≠ 2 ∧ (z.core k c).l1.find? (fun y => y.line = pa / 128) = some x ∧ x.poison.testBit (pa % 128 / 64) = false)
    ∧ (let w : Nat := wR 0 9 5 3 7 0x2B
    let v : Group := wGroup 0x201000 9 1
    let x : L1Line := { line := 32, bytes := List.replicate 128 7#8, poison := 0 }
    let s : State := (wThr w v).modCore 0 0 (fun y => { y with l1 := [x] })
    let k : Nat := 0
    let c : Nat := 0
    let g : Nat := 0
    let lane : Nat := 0
    let u : State := (s.fetch 0 0 0 v 0x100).1
    let z : State := (u.reach 0 0 0 v 0x201000 8 .read false).1
    let pa : Nat := 0x1000
    let e : XEntry := wEnt
    s.mayIssue u k c g lane (laneBit lane) w v .ldaq .none ∧ Rv.imm w % 8 < 2 ∧ u.reaches z k c g v (memArgs .ldaq w (v.thread lane)) pa e ∧ (windowOf pa).1.isTier = true ∧ leafRed e.leaf = 0 ∧ leafPolicy e.leaf ≠ 2 ∧ (z.core k c).l1.find? (fun y => y.line = pa / 128) = some x ∧ x.poison.testBit (pa % 128 / 64) = false)
    ∧ (let w : Nat := wR 0 0 5 3 7 0x03
    let v : Group := wGroup 0x201000 9 1
    let s : State := wThr w v
    let u : State := wFet w v
    let z : State := wRea w v .load
    let k : Nat := 0
    let c : Nat := 0
    let g : Nat := 0
    let lane : Nat := 0
    let pa : Nat := 0x1000
    let e : XEntry := wEnt
    s.mayIssue u k c g lane (laneBit lane) w v .load .none ∧ u.reaches z k c g v (memArgs .load w (v.thread lane)) pa e ∧ (windowOf pa).1.isTier = true ∧ (z.core k c).l1.find? (fun y => y.line = pa / 128) = none)
    ∧ (let w : Nat := wR 0 9 5 3 7 0x2B
    let v : Group := wGroup 0x201000 9 1
    let s : State := wThr w v
    let u : State := wFet w v
    let z : State := wRea w v .ldaq
    let k : Nat := 0
    let c : Nat := 0
    let g : Nat := 0
    let lane : Nat := 0
    let pa : Nat := 0x1000
    let e : XEntry := wEnt
    s.mayIssue u k c g lane (laneBit lane) w v .ldaq .none ∧ Rv.imm w % 8 < 2 ∧ u.reaches z k c g v (memArgs .ldaq w (v.thread lane)) pa e ∧ (windowOf pa).1.isTier = true ∧ (z.core k c).l1.find? (fun y => y.line = pa / 128) = none) := by
  refine ⟨?_, ?_, ?_, ?_⟩
  · dsimp only; exact ⟨(by unfold State.mayIssue; decide +kernel), (by unfold State.reaches; decide +kernel), (by decide +kernel), (by decide +kernel), (by decide +kernel), (by decide +kernel), (by decide +kernel)⟩
  · dsimp only; exact ⟨(by unfold State.mayIssue; decide +kernel), (by decide +kernel), (by unfold State.reaches; decide +kernel), (by decide +kernel), (by decide +kernel), (by decide +kernel), (by decide +kernel), (by decide +kernel)⟩
  · dsimp only; exact ⟨(by unfold State.mayIssue; decide +kernel), (by unfold State.reaches; decide +kernel), (by decide +kernel), (by decide +kernel)⟩
  · dsimp only; exact ⟨(by unfold State.mayIssue; decide +kernel), (by decide +kernel), (by unfold State.reaches; decide +kernel), (by decide +kernel), (by decide +kernel)⟩

/-- Clauses of ThreadsLoadStoreAndAtomics. -/
theorem witness_ThreadsLoadStoreAndAtomics_2 :
    (let w : Nat := wR 0 6 5 3 8 0x23
    let v : Group := wGroup 0x201000 9 1
    let s : State := wThr w v
    let u : State := wFet w v
    let z : State := wRea w v .store
    let k : Nat := 0
    let c : Nat := 0
    let g : Nat := 0
    let lane : Nat := 0
    let pa : Nat := 0x1008
    let e : XEntry := wEnt
    s.mayIssue u k c g lane (laneBit lane) w v .store .none ∧ u.reaches z k c g v (memArgs .store w (v.thread lane)) pa e ∧ (windowOf pa).1.isTier = true ∧ leafRed e.leaf = 0)
    ∧ (let w : Nat := wR 9 6 5 4 0 0x2B
    let v : Group := wGroup 0x201000 9 1
    let s : State := wThr w v
    let u : State := wFet w v
    let z : State := wRea w v .strl
    let k : Nat := 0
    let c : Nat := 0
    let g : Nat := 0
    let lane : Nat := 0
    let pa : Nat := 0x1000
    let e : XEntry := wEnt
    s.mayIssue u k c g lane (laneBit lane) w v .strl .none ∧ u.reaches z k c g v (memArgs .strl w (v.thread lane)) pa e ∧ (windowOf pa).1.isTier = true ∧ leafRed e.leaf = 0)
    ∧ (let w : Nat := wR 0 0 5 3 7 0x03
    let m : Nat := 5
    let v : Group := wGroup 0x201000 9 5
    let s : State := wThr w v
    let u : State := wFet w v
    let k : Nat := 0
    let c : Nat := 0
    let g : Nat := 0
    let lane : Nat := 2
    let z : State := (u.reachAll 0 0 [(0, 5)] .load w).1
    let rs : List (Nat × Nat × Nat × Reach) := (u.reachAll 0 0 [(0, 5)] .load w).2.getD []
    s.mayIssue u k c g lane m w v .load .none ∧ u.reachAll k c [(g, m)] .load w = (z, some rs) ∧ z.comp = u.comp ∧ z.requests = [] ∧ (∀ r ∈ rs, ∃ pa e, r.2.2.2 = .at pa e ∧ (windowOf pa).1.isTier = true ∧ (z.core k c).l1.all (fun y => y.line ≠ pa / 128) = true))
    ∧ (let w : Nat := wR 0 9 5 3 7 0x2B
    let m : Nat := 5
    let v : Group := wGroup 0x201000 9 5
    let s : State := wThr w v
    let u : State := wFet w v
    let k : Nat := 0
    let c : Nat := 0
    let g : Nat := 0
    let lane : Nat := 2
    let z : State := (u.reachAll 0 0 [(0, 5)] .ldaq w).1
    let rs : List (Nat × Nat × Nat × Reach) := (u.reachAll 0 0 [(0, 5)] .ldaq w).2.getD []
    s.mayIssue u k c g lane m w v .ldaq .none ∧ Rv.imm w % 8 < 2 ∧ u.reachAll k c [(g, m)] .ldaq w = (z, some rs) ∧ z.comp = u.comp ∧ z.requests = [] ∧ (∀ r ∈ rs, ∃ pa e, r.2.2.2 = .at pa e ∧ (windowOf pa).1.isTier = true ∧ (z.core k c).l1.all (fun y => y.line ≠ pa / 128) = true)) := by
  refine ⟨?_, ?_, ?_, ?_⟩
  · dsimp only; exact ⟨(by unfold State.mayIssue; decide +kernel), (by unfold State.reaches; decide +kernel), (by decide +kernel), (by decide +kernel)⟩
  · dsimp only; exact ⟨(by unfold State.mayIssue; decide +kernel), (by unfold State.reaches; decide +kernel), (by decide +kernel), (by decide +kernel)⟩
  · dsimp only; exact ⟨(by unfold State.mayIssue; decide +kernel), (by decide +kernel), (by decide +kernel), (by decide +kernel), wReach (by decide +kernel)⟩
  · dsimp only; exact ⟨(by unfold State.mayIssue; decide +kernel), (by decide +kernel), (by decide +kernel), (by decide +kernel), (by decide +kernel), wReach (by decide +kernel)⟩

/-- Clauses of ThreadsLoadStoreAndAtomics. -/
theorem witness_ThreadsLoadStoreAndAtomics_3 :
    (let w : Nat := wR 0 6 5 3 8 0x23
    let m : Nat := 5
    let v : Group := wGroup 0x201000 9 5
    let s : State := wThr w v
    let u : State := wFet w v
    let k : Nat := 0
    let c : Nat := 0
    let g : Nat := 0
    let lane : Nat := 2
    let z : State := (u.reachAll 0 0 [(0, 5)] .store w).1
    let rs : List (Nat × Nat × Nat × Reach) := (u.reachAll 0 0 [(0, 5)] .store w).2.getD []
    s.mayIssue u k c g lane m w v .store .none ∧ u.reachAll k c [(g, m)] .store w = (z, some rs) ∧ z.comp = u.comp ∧ z.requests = [] ∧ (∀ r ∈ rs, ∃ pa e, r.2.2.2 = .at pa e ∧ (windowOf pa).1.isTier = true ∧ leafRed e.leaf = 0))
    ∧ (let w : Nat := wR 9 6 5 4 0 0x2B
    let m : Nat := 5
    let v : Group := wGroup 0x201000 9 5
    let s : State := wThr w v
    let u : State := wFet w v
    let k : Nat := 0
    let c : Nat := 0
    let g : Nat := 0
    let lane : Nat := 2
    let z : State := (u.reachAll 0 0 [(0, 5)] .strl w).1
    let rs : List (Nat × Nat × Nat × Reach) := (u.reachAll 0 0 [(0, 5)] .strl w).2.getD []
    s.mayIssue u k c g lane m w v .strl .none ∧ u.reachAll k c [(g, m)] .strl w = (z, some rs) ∧ z.comp = u.comp ∧ z.requests = [] ∧ (∀ r ∈ rs, ∃ pa e, r.2.2.2 = .at pa e ∧ (windowOf pa).1.isTier = true ∧ leafRed e.leaf = 0))
    ∧ (let w : Nat := wR 0 10 5 3 7 0x2B
    let v : Group := wGroup 0x201000 9 1
    let s : State := wThr w v
    let u : State := wFet w v
    let z : State := wRea w v .ldaq
    let k : Nat := 0
    let c : Nat := 0
    let g : Nat := 0
    let lane : Nat := 0
    let pa : Nat := 0x1000
    let e : XEntry := wEnt
    let z1 : State := (z.homesClear k c false [(g, lane, (memArgs .ldaq w (v.thread lane)).1, .at pa e)] 8).1
    let y : State := ((z1.clearL1 k c).physRead pa 8 (.thread k c g lane) (some v.owner) (leafPolicy e.leaf) e.evict).1
    let bs : List Byte := [1, 2, 3, 4, 5, 6, 7, 8]
    s.mayIssue u k c g lane (laneBit lane) w v .ldaq .none ∧ 2 ≤ Rv.imm w % 8 ∧ u.reaches z k c g v (memArgs .ldaq w (v.thread lane)) pa e ∧ z.homesClear k c false [(g, lane, (memArgs .ldaq w (v.thread lane)).1, .at pa e)] (memArgs .ldaq w (v.thread lane)).2.1 = (z1, true) ∧ z1.comp = z.comp ∧ (z1.clearL1 k c).physRead pa (memArgs .ldaq w (v.thread lane)).2.1 (.thread k c g lane) (some v.owner) (leafPolicy e.leaf) e.evict = (y, .ok bs false) ∧ y.comp = (z1.clearL1 k c).comp)
    ∧ (let w : Nat := wR 8 0 5 3 7 0x2F
    let v : Group := wGroup 0x201000 9 1
    let s : State := wThr w v
    let u : State := wFet w v
    let z : State := wRea w v .lr
    let k : Nat := 0
    let c : Nat := 0
    let g : Nat := 0
    let lane : Nat := 0
    let pa : Nat := 0x1000
    let e : XEntry := wEnt
    let z1 : State := (z.homesClear k c false [(g, lane, (memArgs .lr w (v.thread lane)).1, .at pa e)] 8).1
    let y : State := ((z1.dropL1 k c (pa / 128)).physRead pa 8 (.thread k c g lane) (some v.owner) (leafPolicy e.leaf) e.evict).1
    let bs : List Byte := [1, 2, 3, 4, 5, 6, 7, 8]
    s.mayIssue u k c g lane (laneBit lane) w v .lr .none ∧ u.reaches z k c g v (memArgs .lr w (v.thread lane)) pa e ∧ z.homesClear k c false [(g, lane, (memArgs .lr w (v.thread lane)).1, .at pa e)] (memArgs .lr w (v.thread lane)).2.1 = (z1, true) ∧ z1.comp = z.comp ∧ (z1.dropL1 k c (pa / 128)).physRead pa (2 ^ Rv.f3 w) (.thread k c g lane) (some v.owner) (leafPolicy e.leaf) e.evict = (y, .ok bs false) ∧ y.comp = (z1.dropL1 k c (pa / 128)).comp) := by
  refine ⟨?_, ?_, ?_, ?_⟩
  · dsimp only; exact ⟨(by unfold State.mayIssue; decide +kernel), (by decide +kernel), (by decide +kernel), (by decide +kernel), wReach (by decide +kernel)⟩
  · dsimp only; exact ⟨(by unfold State.mayIssue; decide +kernel), (by decide +kernel), (by decide +kernel), (by decide +kernel), wReach (by decide +kernel)⟩
  · dsimp only; exact ⟨(by unfold State.mayIssue; decide +kernel), (by decide +kernel), (by unfold State.reaches; decide +kernel), (by decide +kernel), (by decide +kernel), (by decide +kernel), (by decide +kernel)⟩
  · dsimp only; exact ⟨(by unfold State.mayIssue; decide +kernel), (by unfold State.reaches; decide +kernel), (by decide +kernel), (by decide +kernel), (by decide +kernel), (by decide +kernel)⟩

/-- Clauses of ThreadsLoadStoreAndAtomics. -/
theorem witness_ThreadsLoadStoreAndAtomics_4 :
    (let w : Nat := wR 12 6 5 3 7 0x2F
    let v : Group := wGroup 0x201000 9 1
    let s : State := { wThr w v with resv := [{ who := .thread 0 0 0 0, line := 32, va := 0x201000 }] }
    let k : Nat := 0
    let c : Nat := 0
    let g : Nat := 0
    let lane : Nat := 0
    let pa : Nat := 0x1000
    let e : XEntry := wEnt
    let u : State := (s.fetch 0 0 0 v 0x100).1
    let z : State := (u.reach 0 0 0 v 0x201000 8 .atomic true).1
    let z1 : State := (z.homesClear k c true [(g, lane, (memArgs .sc w (v.thread lane)).1, .at pa e)] 8).1
    s.mayIssue u k c g lane (laneBit lane) w v .sc .none ∧ u.reaches z k c g v (memArgs .sc w (v.thread lane)) pa e ∧ z.homesClear k c true [(g, lane, (memArgs .sc w (v.thread lane)).1, .at pa e)] (memArgs .sc w (v.thread lane)).2.1 = (z1, true) ∧ z1.comp = z.comp)
    ∧ (let w : Nat := wR 0 6 5 3 7 0x2F
    let v : Group := wGroup 0x201000 9 1
    let s : State := wThr w v
    let u : State := wFet w v
    let z : State := wRea w v .amo
    let k : Nat := 0
    let c : Nat := 0
    let g : Nat := 0
    let lane : Nat := 0
    let pa : Nat := 0x1000
    let e : XEntry := wEnt
    let z1 : State := (z.homesClear k c true [(g, lane, (memArgs .amo w (v.thread lane)).1, .at pa e)] 8).1
    let y : State := ((z1.dropL1 k c (pa / 128)).physRead pa 8 (.thread k c g lane) (some v.owner) (leafPolicy e.leaf) e.evict).1
    let bs : List Byte := [1, 2, 3, 4, 5, 6, 7, 8]
    s.mayIssue u k c g lane (laneBit lane) w v .amo .none ∧ u.reaches z k c g v (memArgs .amo w (v.thread lane)) pa e ∧ z.homesClear k c true [(g, lane, (memArgs .amo w (v.thread lane)).1, .at pa e)] (memArgs .amo w (v.thread lane)).2.1 = (z1, true) ∧ z1.comp = z.comp ∧ (z1.dropL1 k c (pa / 128)).physRead pa (2 ^ Rv.f3 w) (.thread k c g lane) (some v.owner) (leafPolicy e.leaf) e.evict = (y, .ok bs false) ∧ y.comp = (z1.dropL1 k c (pa / 128)).comp)
    ∧ (let b : LoadBack := { rd := 7, value := 99 }
    let v : Group := { wGroup 1 2 1 with threads := { wThread 1 2 with loads := [{ rd := 7, value := 99 }] } :: List.replicate 31 (wThread 1 2) }
    let s : State := wThr 0x13 v
    let k : Nat := 0
    let c : Nat := 0
    let g : Nat := 0
    let lane : Nat := 0
    let rd : Nat := 7
    k < 4 ∧ c < 64 ∧ g < 8 ∧ lane < 32 ∧ s.group k c g = some v ∧ v.threads.length = 32 ∧ (v.thread lane).loads = [b] ∧ b.rd = rd)
    ∧ (let r : HomeReq := wReq .write (spBase 0 + 0x1000) 4 [9, 8, 7, 6]
    let s : State := let t := wThr 0x13 (wGroup 1 2 1); { t with l2 := { t.l2 with flying := [r] } }
    let m : Nat := 0
    m < 16 ∧ s.l2.flying = [r] ∧ r.kind = .write ∧ windowOf r.pa = (.scratch m, r.pa - spBase m) ∧ s.physFaults r.pa r.len true = false ∧ s.crosses r.who r.pa = true ∧ s.writeHeld r.who m [(r.pa, r.bytes, false)] = none ∧ s.comp.badWords = [] ∧ s.undef = []) := by
  refine ⟨?_, ?_, ?_, ?_⟩
  · dsimp only; exact ⟨(by unfold State.mayIssue; decide +kernel), (by unfold State.reaches; decide +kernel), (by decide +kernel), (by decide +kernel)⟩
  · dsimp only; exact ⟨(by unfold State.mayIssue; decide +kernel), (by unfold State.reaches; decide +kernel), (by decide +kernel), (by decide +kernel), (by decide +kernel), (by decide +kernel)⟩
  · dsimp only; decide +kernel
  · dsimp only; decide +kernel

/-- Clauses of ThreadsLoadStoreAndAtomics. -/
theorem witness_ThreadsLoadStoreAndAtomics_5 :
    (let r : HomeReq := wReq .read (spBase 0 + 0x1000) 4 []
    let v : Group := wGroup 1 2 1
    let s : State := let t := wThr 0x13 v; { t with l2 := { t.l2 with flying := [r] } }
    let m : Nat := 0
    let k : Nat := 0
    let c : Nat := 0
    let g : Nat := 0
    let lane : Nat := 0
    let rd : Nat := 7
    m < 16 ∧ k < 4 ∧ c < 64 ∧ g < 8 ∧ lane < 32 ∧ s.l2.flying = [r] ∧ r.kind = .read ∧ windowOf r.pa = (.scratch m, r.pa - spBase m) ∧ s.physFaults r.pa r.len false = false ∧ s.crosses r.who r.pa = true ∧ s.comp.badWords = [] ∧ s.err.armed = [] ∧ s.firstPoison r.pa r.len = none ∧ r.who = .thread k c g lane ∧ s.group k c g = some v ∧ v.threads.length = 32 ∧ r.l1 = false ∧ r.rd = rd ∧ rd ≠ 0) := by
  dsimp only; decide +kernel

/-- Clauses of ThreadsConvergeMeetAndEnd. -/
theorem witness_ThreadsConvergeMeetAndEnd :
    (let w : Nat := 0x0B
    let v : Group := { wGroup 1 2 3 with subs := [3, 12], lanes := 15 }
    let s : State := wThr w v
    let u : State := wFet w v
    let k : Nat := 0
    let c : Nat := 0
    let g : Nat := 0
    let lane : Nat := 1
    let m : Nat := 3
    let mm : Nat := 15
    let a : Nat := 0x100
    s.mayIssue u k c g lane m w v .conv .none ∧ m ∈ v.subs ∧ v.subs.Pairwise (fun x y => x &&& y = 0) ∧ (∀ x ∈ v.subs, x < 2 ^ 32) ∧ (∀ l ∈ lanesOf m, (v.thread l).pc = a) ∧ (∀ x ∈ v.subs, x ≠ m → v.holdsConv a x = false) ∧ mm = (v.subs.filter (fun x => x = m || v.standsAt a x)).foldl (· ||| ·) 0)
    ∧ (let w : Nat := 0x0B
    let v : Group := { wGroup 1 2 3 with subs := [3, 12], lanes := 15, threads := (List.replicate 2 (wThread 1 2)) ++ List.replicate 30 { wThread 1 2 with cmask := 15, pc := 0x200 } }
    let s : State := wThr w v
    let u : State := wFet w v
    let k : Nat := 0
    let c : Nat := 0
    let g : Nat := 0
    let lane : Nat := 1
    let m : Nat := 3
    let a : Nat := 0x100
    let x : Nat := 12
    s.mayIssue u k c g lane m w v .conv .none ∧ (∀ l ∈ lanesOf m, (v.thread l).pc = a) ∧ x ∈ v.subs ∧ x ≠ m ∧ v.holdsConv a x = true ∧ v.subs.Pairwise (fun y z => y &&& z = 0) ∧ m ∈ v.subs)
    ∧ (let w : Nat := 0x0B
    let v : Group := { wGroup 1 2 3 with subs := [3, 12], lanes := 15, threads := (List.replicate 2 { wThread 1 2 with cmask := 15, wait := .conv }) ++ List.replicate 30 { wThread 1 2 with cmask := 15, pc := 0x200 } }
    let s0 : State := wThr w v
    let s : State := s0.notBefore (Assoc.getD v.timers 1 0 + threadTicks (2 ^ F.tcDieCfg_CONV_WAIT_LOG2.get v.cfg))
    let u : State := (s.fetch 0 0 0 v 0x100).1
    let k : Nat := 0
    let c : Nat := 0
    let g : Nat := 0
    let lane : Nat := 1
    let m : Nat := 3
    let mm : Nat := 3
    let a : Nat := 0x100
    s = s0.notBefore (Assoc.getD v.timers lane 0 + threadTicks (2 ^ F.tcDieCfg_CONV_WAIT_LOG2.get v.cfg)) ∧ s.mayIssue u k c g lane m w v .conv .conv ∧ m ∈ v.subs ∧ v.subs.Pairwise (fun x y => x &&& y = 0) ∧ (∀ x ∈ v.subs, x < 2 ^ 32) ∧ (∀ l ∈ lanesOf m, (v.thread l).pc = a) ∧ mm = (v.subs.filter (fun x => x = m || v.standsAt a x)).foldl (· ||| ·) 0)
    ∧ (let w : Nat := 0x0B
    let v : Group := { wGroup 1 2 3 with cfg := F.tcDieCfg_REPACK_EN.set 0 1 }
    let n : Nat := 4
    let o : Nat := 7
    let a : Nat := 0x100
    let y : Group := { wGroup 1 2 4 with cfg := F.tcDieCfg_REPACK_EN.set 0 1 }
    let s : State := ((wThr w v).setGroup 0 0 7 y |>.setFlds (A.tcGroup0 0 0 7) [(F.tcGroup0_STATE, 1), (F.tcGroup0_CONTEXT, 1)]).modCore 0 0 (fun x => { x with conv := [(7, 4, 0x100)] })
    let u : State := (s.fetch 0 0 0 v 0x100).1
    let k : Nat := 0
    let c : Nat := 0
    let g : Nat := 0
    let lane : Nat := 1
    let m : Nat := 3
    s.mayIssue u k c g lane m w v .conv .none ∧ v.subs = [m] ∧ (∀ l ∈ lanesOf m, (v.thread l).pc = a) ∧ (u.core k c).packs = [] ∧ (u.core k c).conv.find? (fun e => e.1 = o && e.2.2 = a) = some (o, n, a) ∧ u.group k c o = some y ∧ o ≠ g ∧ n &&& m = 0 ∧ y.launch = v.launch ∧ n ∈ y.subs ∧ u.slotState k c o = 1 ∧ F.tcDieCfg_REPACK_EN.get v.cfg = 1 ∧ F.tcDieCfg_REPACK_EN.get y.cfg = 1) := by
  refine ⟨?_, ?_, ?_, ?_⟩
  · dsimp only; exact ⟨(by unfold State.mayIssue; decide +kernel), (by decide +kernel), (by decide +kernel), (by decide +kernel), (by decide +kernel), (by decide +kernel), (by decide +kernel)⟩
  · dsimp only; exact ⟨(by unfold State.mayIssue; decide +kernel), (by decide +kernel), (by decide +kernel), (by decide +kernel), (by decide +kernel), (by decide +kernel), (by decide +kernel)⟩
  · dsimp only; exact ⟨(by decide +kernel), (by unfold State.mayIssue; decide +kernel), (by decide +kernel), (by decide +kernel), (by decide +kernel), (by decide +kernel), (by decide +kernel)⟩
  · dsimp only; exact ⟨(by unfold State.mayIssue; decide +kernel), (by decide +kernel), (by decide +kernel), (by decide +kernel), (by decide +kernel), (by decide +kernel), (by decide +kernel), (by decide +kernel), (by decide +kernel), (by decide +kernel), (by decide +kernel), (by decide +kernel), (by decide +kernel)⟩

/-- Clauses of ThreadsConvergeMeetAndEnd. -/
theorem witness_ThreadsConvergeMeetAndEnd_2 :
    (let w : Nat := wR 0 2 0 1 0 0x0B
    let v : Group := { wGroup 1 2 3 with threads := List.replicate 32 { wThread 1 2 with cmask := 7 }, subs := [3, 4] }
    let s : State := wThr w v
    let u : State := wFet w v
    let k : Nat := 0
    let c : Nat := 0
    let g : Nat := 0
    let lane : Nat := 1
    let m : Nat := 3
    let M : Nat := 7
    let r : Nat := 0
    s.mayIssue u k c g lane m w v .bar .none ∧ Rv.rs1 w = 0 ∧ (∀ l ∈ lanesOf m, (v.thread l).cmask = M) ∧ m &&& M = m ∧ r &&& m = 0 ∧ M < 2 ^ 32 ∧ r < 2 ^ 32 ∧ (Assoc.get? v.bars (Rv.imm w % 4) = some { mask := M, arrived := r } ∨ Assoc.get? v.bars (Rv.imm w % 4) = none ∧ r = 0))
    ∧ (let b : BarInst := { mask := 3, arrived := 1 }
    let v : Group := { wGroup 1 2 3 with threads := { wThread 1 2 with wait := .bar 2 } :: List.replicate 31 (wThread 1 2), subs := [1, 2], bars := [(2, b)] }
    let s : State := wDbg (wThr 0x13 v)
    let k : Nat := 0
    let c : Nat := 0
    let g : Nat := 0
    let bar : Nat := 2
    let l : Nat := 0
    k < 4 ∧ c < 64 ∧ g < 8 ∧ bar < 4 ∧ s.group k c g = some v ∧ Assoc.get? v.bars bar = some b ∧ s.slotState k c g = 1 ∧ lowestBit (v.mask (fun t => t.wait = .bar bar)) 32 = some l ∧ s.debugOpen v.owner.ctx = true ∧ s.eclipse = false)
    ∧ (let b : BarInst := { mask := 3, arrived := 1 }
    let v : Group := { wGroup 1 2 3 with threads := { wThread 1 2 with wait := .bar 2 } :: List.replicate 31 (wThread 1 2), subs := [1, 2], bars := [(2, b)] }
    let s : State := wThr 0x13 v
    let k : Nat := 0
    let c : Nat := 0
    let g : Nat := 0
    let bar : Nat := 2
    let l : Nat := 0
    k < 4 ∧ c < 64 ∧ g < 8 ∧ bar < 4 ∧ s.group k c g = some v ∧ Assoc.get? v.bars bar = some b ∧ s.slotState k c g = 1 ∧ lowestBit (v.mask (fun t => t.wait = .bar bar)) 32 = some l ∧ s.debugOpen v.owner.ctx = false)
    ∧ (let w : Nat := wR 0 0 0 6 0 0x0B
    let v : Group := { wGroup 1 2 3 with subs := [3, 4] }
    let s : State := wThr w v
    let u : State := wFet w v
    let k : Nat := 0
    let c : Nat := 0
    let g : Nat := 0
    let lane : Nat := 1
    let m : Nat := 3
    s.mayIssue u k c g lane m w v .exit .none ∧ v.bars = [] ∧ v.mask (fun t => !t.ended) &&& (m ^^^ (2 ^ 32 - 1)) ≠ 0) := by
  refine ⟨?_, ?_, ?_, ?_⟩
  · dsimp only; exact ⟨(by unfold State.mayIssue; decide +kernel), (by decide +kernel), (by decide +kernel), (by decide +kernel), (by decide +kernel), (by decide +kernel), (by decide +kernel), (by decide +kernel)⟩
  · dsimp only; decide +kernel
  · dsimp only; decide +kernel
  · dsimp only; exact ⟨(by unfold State.mayIssue; decide +kernel), (by decide +kernel), (by decide +kernel)⟩

/-- Clauses of ThreadsConvergeMeetAndEnd. -/
theorem witness_ThreadsConvergeMeetAndEnd_3 :
    (let w : Nat := wR 0 0 0 6 0 0x0B
    let v : Group := { wGroup 1 2 3 with threads := List.replicate 2 (wThread 1 2) ++ List.replicate 30 { wThread 1 2 with ended := true } }
    let s : State := wThr w v
    let u : State := wFet w v
    let k : Nat := 0
    let c : Nat := 0
    let g : Nat := 0
    let lane : Nat := 1
    let m : Nat := 3
    s.mayIssue u k c g lane m w v .exit .none ∧ v.bars = [] ∧ v.mask (fun t => !t.ended) &&& (m ^^^ (2 ^ 32 - 1)) = 0 ∧ s.comp.launches = [])
    ∧ (let v : Launch := { owner := { ctx := 1, entry := none }, w := [0, 0x100, 9, 0, 4 + 2 ^ 32, 0xFFFFFFFF, 0, 0], next := 3, ended := 0, stop := false }
    let s : State := { wUp with comp := { wUp.comp with launches := [(5, v)] } }
    let l : Nat := 5
    let k : Nat := 0
    let c : Nat := 15
    let g : Nat := 7
    k < 4 ∧ c < 64 ∧ g < 8 ∧ Assoc.get? s.comp.launches l = some v ∧ v.stop = false ∧ v.next < bitsOf (v.w.getD 4 0) 0 25 ∧ s.group k c g = none ∧ s.mayPlace k c v = true) := by
  refine ⟨?_, ?_⟩
  · dsimp only; exact ⟨(by unfold State.mayIssue; decide +kernel), (by decide +kernel), (by decide +kernel), (by decide +kernel)⟩
  · dsimp only; decide +kernel

/-- Clauses of ThreadsSignalWaitAndFeedEngines. -/
theorem witness_ThreadsSignalWaitAndFeedEngines :
    (let w : Nat := wR 1 6 5 5 0 0x2B
    let v : Group := wGroup 70 9 1
    let s : State := wObj (wThr w v) 2
    let k : Nat := 0
    let c : Nat := 0
    let g : Nat := 0
    let lane : Nat := 0
    let obj : Nat := 70
    let u : State := (s.fetch 0 0 0 v 0x100).1
    let z : State := (u.objOp (some 1) 70 1 9).1
    s.mayIssue u k c g lane (laneBit lane) w v .sig .none ∧ obj = (v.thread lane).xr (Rv.rs1 w) % 65536 ∧ (∀ e ∈ u.board.towerRst, e.1 ≠ objTower obj) ∧ u.reachesObj (.thread k c g lane) obj = true ∧ u.objOp (some v.owner.ctx) obj (Rv.f7 w % 4) (if Rv.f7 w % 4 = 2 then (v.thread lane).xr (Rv.rs2 w) else (v.thread lane).xr (Rv.rs2 w) % 2 ^ 32) = (z, true) ∧ z.comp = u.comp)
    ∧ (let w : Nat := wR 1 6 5 6 7 0x2B
    let v : Group := wGroup 70 9 1
    let s : State := wObj (wThr w v) 2
    let k : Nat := 0
    let c : Nat := 0
    let g : Nat := 0
    let lane : Nat := 0
    let obj : Nat := 70
    let u : State := (s.fetch 0 0 0 v 0x100).1
    s.mayIssue u k c g lane (laneBit lane) w v .gwait .none ∧ obj = (v.thread lane).xr (Rv.rs1 w) % 65536 ∧ u.objBoundTo obj v.owner.ctx = true ∧ condAccepted (u.objType obj) (Rv.f7 w % 4) = true)
    ∧ (let x : Wait := { who := .thread 0 0 0 0, ctx := 1, obj := 70, cond := 1, value := 2, met := true, refused := false }
    let rd : Nat := 7
    let scope : Nat := 3
    let v : Group := { wGroup 1 2 1 with threads := { wThread 1 2 with wait := .gwait 7 3 } :: List.replicate 31 (wThread 1 2) }
    let s : State := let t := wThr 0x13 v; { t with syn := { t.syn with waits := [x] } }
    let k : Nat := 0
    let c : Nat := 0
    let g : Nat := 0
    let lane : Nat := 0
    k < 4 ∧ c < 64 ∧ g < 8 ∧ lane < 32 ∧ s.group k c g = some v ∧ v.threads.length = 32 ∧ (v.thread lane).wait = .gwait rd scope ∧ s.slotState k c g = 1 ∧ s.waitOf (.thread k c g lane) = some x ∧ x.met = true)
    ∧ (let x : Wait := { who := .thread 0 0 0 0, ctx := 1, obj := 70, cond := 1, value := 2, met := false, refused := false }
    let rd : Nat := 7
    let scope : Nat := 3
    let v : Group := { wGroup 1 2 1 with threads := { wThread 1 2 with wait := .gwait 7 3 } :: List.replicate 31 (wThread 1 2) }
    let s : State := let t := wThr 0x13 v; { t with syn := { t.syn with waits := [x] } }
    let k : Nat := 0
    let c : Nat := 0
    let g : Nat := 0
    let lane : Nat := 0
    k < 4 ∧ c < 64 ∧ g < 8 ∧ lane < 32 ∧ s.group k c g = some v ∧ v.threads.length = 32 ∧ (v.thread lane).wait = .gwait rd scope ∧ s.slotState k c g = 1 ∧ s.waitOf (.thread k c g lane) = some x ∧ x.met = false) := by
  refine ⟨?_, ?_, ?_, ?_⟩
  · dsimp only; exact ⟨(by unfold State.mayIssue; decide +kernel), (by decide +kernel), (by decide +kernel), (by decide +kernel), (by decide +kernel), (by decide +kernel)⟩
  · dsimp only; exact ⟨(by unfold State.mayIssue; decide +kernel), (by decide +kernel), (by decide +kernel), (by decide +kernel)⟩
  · dsimp only; decide +kernel
  · dsimp only; decide +kernel

/-- Clauses of ThreadsSignalWaitAndFeedEngines. -/
theorem witness_ThreadsSignalWaitAndFeedEngines_2 :
    (let w : Nat := wR 0 0 5 0 7 0x2B
    let v : Group := wGroup 0x8000 9 1
    let d : TileDesc := { w := [1 + 5 * 2 ^ 8 + 5 * 2 ^ 16 + 5 * 2 ^ 24, 4 + 4 * 2 ^ 16 + 4 * 2 ^ 32, 0x1000 + 64 * 2 ^ 32, 0x2000 + 64 * 2 ^ 32, 0x3000 + 64 * 2 ^ 32, 0, 0, 0] }
    let s : State := ((wThr w v).wrBytes (spBase 0 + 0x8000) (d.w.flatMap (leBytes 8))).setFld (A.mxeStatus 0 0) F.mxeStatus_LENT 1 |>.setFlds (A.mxePort 0 0) [(F.mxePort_OWNER_VALID, 1)] |>.setFld (A.beamStatus 0) F.beamStatus_CONTEXT 1
    let k : Nat := 0
    let c : Nat := 0
    let g : Nat := 0
    let lane : Nat := 0
    let e : Nat := 0
    let off : Nat := 0x8000
    let u : State := (s.fetch 0 0 0 v 0x100).1
    s.mayIssue u k c g lane (laneBit lane) w v .mx .none ∧ u.physEngine k (4 * (c / 16) + Rv.f7 w) = some e ∧ u.engineLent k e = true ∧ u.flag (A.mxePort k e) F.mxePort_OWNER_VALID = true ∧ u.fld (A.mxePort k e) F.mxePort_OWNER_TC = c % 16 ∧ u.fld (A.mxePort k e) F.mxePort_OWNER_GROUP = g ∧ u.fld (A.mxePort k e) F.mxePort_OWNER_THREAD = lane ∧ v.owner.ctx = u.beamCtx k ∧ u.mxeFenced k e = false ∧ (u.tilesOf k e).length < 4 ∧ off = (v.thread lane).xr (Rv.rs1 w) ∧ off % 64 = 0 ∧ off < spBytes ∧ u.err.armed = [] ∧ u.comp.badWords = [] ∧ d = { w := u.rdWords (spBase (threadCluster k c) + off) 8 } ∧ u.poisoned (spBase (threadCluster k c) + off) 64 = false ∧ u.descOk k v.owner.ctx d = true)
    ∧ (let w : Nat := wR 0 0 5 0 7 0x2B
    let v : Group := wGroup 0x8000 9 1
    let s : State := wThr w v
    let u : State := wFet w v
    let k : Nat := 0
    let c : Nat := 0
    let g : Nat := 0
    let lane : Nat := 0
    let e : Nat := 0
    let st : Nat := 2
    s.mayIssue u k c g lane (laneBit lane) w v .mx .none ∧ u.physEngine k (4 * (c / 16) + Rv.f7 w) = some e ∧ u.mxeFenced k e = false ∧ (if u.engineLent k e && u.flag (A.mxePort k e) F.mxePort_OWNER_VALID && u.fld (A.mxePort k e) F.mxePort_OWNER_TC = c % 16 && u.fld (A.mxePort k e) F.mxePort_OWNER_GROUP = g && u.fld (A.mxePort k e) F.mxePort_OWNER_THREAD = lane && decide (v.owner.ctx = u.beamCtx k) then 4 ≤ (u.tilesOf k e).length ∧ st = 1 else st = 2))
    ∧ (let w : Nat := wR 2 6 5 1 7 0x2B
    let lo : Nat := 0x0 + 2 * 0x03 + 2 ^ 8 * 0 + 1
    let hi : Nat := 7
    let v : Group := wGroup lo 7 1
    let s : State := (wThr w v).setFld (A.vxeStatus 0 0) F.vxeStatus_LENT 1 |>.setFld (A.beamStatus 0) F.beamStatus_CONTEXT 1 |>.modBeam 0 (fun b => { b with lends := [{ cl := 0, mx := 0, vx := 1, tc := 0, grp := 0, thr := 0, left := 0 }] })
    let k : Nat := 0
    let c : Nat := 0
    let g : Nat := 0
    let lane : Nat := 0
    let j : Nat := 0
    let x : Nat := 0
    let u : State := (s.fetch 0 0 0 v 0x100).1
    let z : State := u
    let i : VInstr := (u.vxeFetch 0 0 lo hi).2.getD default
    s.mayIssue u k c g lane (laneBit lane) w v .vx .none ∧ j = c / 16 ∧ x = Rv.f7 w % 2 ∧ lo = (v.thread lane).xr (Rv.rs1 w) ∧ hi = (v.thread lane).xr (Rv.rs2 w) ∧ bit (Rv.f7 w) 1 = bit lo 0 ∧ u.flag (A.vxeStatus k (2 * j + x)) F.vxeStatus_LENT = true ∧ v.owner.ctx = u.beamCtx k ∧ (∃ d ∈ (u.beam k).lends, d.cl = j ∧ d.vx.testBit x = true ∧ d.tc = c % 16 ∧ d.grp = g ∧ d.thr = lane) ∧ u.vxeFenced k (2 * j + x) = false ∧ u.chainsOf k (2 * j + x) = [] ∧ u.vxeFetch k (2 * j + x) lo hi = (z, some i) ∧ z = u ∧ i.opc ≠ 0x30 ∧ chainAccepts [] i false = true)
    ∧ (let w : Nat := wR 0 4 2 2 8 0x2B
    let v : Group := wGroup 1 2 (2 ^ 32 - 1)
    let s : State := wThr w v
    let u : State := wFet w v
    let k : Nat := 0
    let c : Nat := 0
    let g : Nat := 0
    let lane : Nat := 5
    s.mayIssue u k c g lane (2 ^ 32 - 1) w v .fmma .none) := by
  refine ⟨?_, ?_, ?_, ?_⟩
  · dsimp only; exact ⟨(by unfold State.mayIssue; decide +kernel), (by decide +kernel), (by decide +kernel), (by decide +kernel), (by decide +kernel), (by decide +kernel), (by decide +kernel), (by decide +kernel), (by decide +kernel), (by decide +kernel), (by decide +kernel), (by decide +kernel), (by decide +kernel), (by decide +kernel), (by decide +kernel), (by decide +kernel), (by decide +kernel), (by decide +kernel)⟩
  · dsimp only; exact ⟨(by unfold State.mayIssue; decide +kernel), (by decide +kernel), (by decide +kernel), (by decide +kernel)⟩
  · dsimp only; exact ⟨(by unfold State.mayIssue; decide +kernel), (by decide +kernel), (by decide +kernel), (by decide +kernel), (by decide +kernel), (by decide +kernel), (by decide +kernel), (by decide +kernel), (by decide +kernel), (by decide +kernel), (by decide +kernel), (by decide +kernel), (by decide +kernel), (by decide +kernel), (by decide +kernel)⟩
  · dsimp only; exact (by unfold State.mayIssue; decide +kernel)

/-- Clauses of ThreadsFaultAndAreDebugged. -/
theorem witness_ThreadsFaultAndAreDebugged :
    (let w : Nat := 0x73
    let v : Group := wGroup 1 2 3
    let s : State := wDbg (wThr w v)
    let u : State := (s.fetch 0 0 0 v 0x100).1
    let k : Nat := 0
    let c : Nat := 0
    let g : Nat := 0
    let lane : Nat := 0
    let m : Nat := 3
    s.mayIssue u k c g lane m w v .ecall .none ∧ lane = (lanesOf m).headD 0 ∧ (∀ l ∈ lanesOf m, (v.thread l).pc = (v.thread lane).pc) ∧ u.debugOpen v.owner.ctx = true ∧ u.eclipse = false)
    ∧ (let w : Nat := 0x73
    let v : Group := wGroup 1 2 3
    let s : State := wThr w v
    let u : State := (s.fetch 0 0 0 v 0x100).1
    let k : Nat := 0
    let c : Nat := 0
    let g : Nat := 0
    let lane : Nat := 1
    let m : Nat := 3
    u.debugOpen v.owner.ctx = false ∧ s.mayIssue u k c g lane m w v .ecall .none)
    ∧ (let w : Nat := 0x100073
    let v : Group := wGroup 1 2 3
    let s : State := wThr w v
    let u : State := (s.fetch 0 0 0 v 0x100).1
    let k : Nat := 0
    let c : Nat := 0
    let g : Nat := 0
    let lane : Nat := 1
    let m : Nat := 3
    u.debugOpen v.owner.ctx = false ∧ s.mayIssue u k c g lane m w v .ebreak .none)
    ∧ (let w : Nat := 0x100073
    let v : Group := wGroup 1 2 3
    let s : State := wDbg (wThr w v)
    let u : State := (s.fetch 0 0 0 v 0x100).1
    let k : Nat := 0
    let c : Nat := 0
    let g : Nat := 0
    let lane : Nat := 1
    let m : Nat := 3
    s.mayIssue u k c g lane m w v .ebreak .none ∧ u.debugOpen v.owner.ctx = true) := by
  refine ⟨?_, ?_, ?_, ?_⟩
  · dsimp only; exact ⟨(by unfold State.mayIssue; decide +kernel), (by decide +kernel), (by decide +kernel), (by decide +kernel), (by decide +kernel)⟩
  · dsimp only; exact ⟨(by decide +kernel), (by unfold State.mayIssue; decide +kernel)⟩
  · dsimp only; exact ⟨(by decide +kernel), (by unfold State.mayIssue; decide +kernel)⟩
  · dsimp only; exact ⟨(by unfold State.mayIssue; decide +kernel), (by decide +kernel)⟩

/-- Clauses of ThreadsFaultAndAreDebugged. -/
theorem witness_ThreadsFaultAndAreDebugged_2 :
    (let ch : Nat := 60
    let s : State := wDbg (wThr 0x13 (wGroup 1 2 3))
    let w : Nat := 2 ^ 16
    let p : Packet := wPkt [w]
    let k : Nat := 0
    let c : Nat := 0
    let g : Nat := 0
    s.accepts ch 0x700 p ∧ p.length = 24 ∧ w = pword p 0 ∧ w &&& grpBits = w ∧ k = grpTower w ∧ c = grpCore w ∧ g = grpSlot w ∧ s.grpCheck w = none ∧ s.slotState k c g = 1 ∧ s.pwr.stopped = none ∧ ((s.taken ch 0x700 p).haltGroup k c g 1).grpQuiet k c g = true)
    ∧ (let ch : Nat := 60
    let s : State := let t := wDbg (wThr 0x13 (wGroup 1 2 3)); { t with l2 := { t.l2 with flying := [wReq .read 0x1000 4 []] } }
    let w : Nat := 2 ^ 16
    let p : Packet := wPkt [w]
    let k : Nat := 0
    let c : Nat := 0
    let g : Nat := 0
    s.accepts ch 0x700 p ∧ p.length = 24 ∧ w = pword p 0 ∧ w &&& grpBits = w ∧ k = grpTower w ∧ c = grpCore w ∧ g = grpSlot w ∧ s.grpCheck w = none ∧ s.slotState k c g = 1 ∧ s.pwr.stopped = none ∧ ((s.taken ch 0x700 p).haltGroup k c g 1).grpQuiet k c g = false)
    ∧ (let ch : Nat := 60
    let s : State := (wDbg (wThr 0x13 (wGroup 1 2 3))).setFld (A.tcGroup0 0 0 0) F.tcGroup0_STATE 2
    let w : Nat := 2 ^ 16
    let p : Packet := wPkt [w]
    let k : Nat := 0
    let c : Nat := 0
    let g : Nat := 0
    s.accepts ch 0x701 p ∧ p.length = 24 ∧ w = pword p 0 ∧ w &&& (grpBits + 2 ^ 24) = w ∧ k = grpTower w ∧ c = grpCore w ∧ g = grpSlot w ∧ s.grpCheck w = none ∧ s.slotState k c g = 2 ∧ s.eclipse = false)
    ∧ (let ch : Nat := 60
    let s : State := (wDbg (wThr 0x13 (wGroup 1 2 3))).setFld (A.tcGroup0 0 0 0) F.tcGroup0_STATE 2
    let w : Nat := 2 ^ 16 + 2 ^ 24
    let p : Packet := wPkt [w]
    let k : Nat := 0
    let c : Nat := 0
    let g : Nat := 0
    let l : Nat := 1
    let v : Group := wGroup 1 2 3
    let v' : Group := (((s.taken 60 0x702 p).issue 0 0 0 1 (fun _ => true) { step := true }).group 0 0 0).getD default
    let z : State := (s.taken 60 0x702 p).issue 0 0 0 1 (fun _ => true) { step := true }
    s.accepts ch 0x702 p ∧ p.length = 24 ∧ w = pword p 0 ∧ w &&& (grpBits + 0x1F000000) = w ∧ k = grpTower w ∧ c = grpCore w ∧ g = grpSlot w ∧ l = bitsOf w 24 5 ∧ s.grpCheck w = none ∧ s.slotState k c g = 2 ∧ s.eclipse = false ∧ s.group k c g = some v ∧ (v.thread l).ended = false ∧ (∀ e ∈ s.issueSet k c g l, e.1 = g ∧ ∀ i ∈ lanesOf e.2, (v.thread i).wait = .none) ∧ z = (s.taken ch 0x702 p).issue k c g l (fun _ => true) { step := true } ∧ z.group k c g = some v' ∧ z.slotState k c g = 2 ∧ (z.core k c).turns ≠ (s.core k c).turns) := by
  refine ⟨?_, ?_, ?_, ?_⟩
  · dsimp only; unfold State.accepts; decide +kernel
  · dsimp only; unfold State.accepts; decide +kernel
  · dsimp only; unfold State.accepts; decide +kernel
  · dsimp only; unfold State.accepts; decide +kernel

/-- Clauses of ThreadsFaultAndAreDebugged. -/
theorem witness_ThreadsFaultAndAreDebugged_3 :
    (let ch : Nat := 60
    let v : Group := { wGroup 1 2 3 with threads := List.replicate 32 { wThread 1 2 with loads := [{ rd := 5, value := 0 }] } }
    let s : State := (wDbg (wThr (wR 0 5 5 0 5 0x33) v)).setFld (A.tcGroup0 0 0 0) F.tcGroup0_STATE 2
    let w : Nat := 2 ^ 16 + 2 ^ 24
    let p : Packet := wPkt [w]
    let k : Nat := 0
    let c : Nat := 0
    let g : Nat := 0
    let l : Nat := 1
    let z : State := (s.taken 60 0x702 p).issue 0 0 0 1 (fun _ => true) { step := true }
    s.accepts ch 0x702 p ∧ p.length = 24 ∧ w = pword p 0 ∧ w &&& (grpBits + 0x1F000000) = w ∧ k = grpTower w ∧ c = grpCore w ∧ g = grpSlot w ∧ l = bitsOf w 24 5 ∧ s.grpCheck w = none ∧ s.slotState k c g = 2 ∧ s.eclipse = false ∧ s.group k c g = some v ∧ (v.thread l).ended = false ∧ (∀ e ∈ s.issueSet k c g l, e.1 = g ∧ ∀ i ∈ lanesOf e.2, (v.thread i).wait = .none) ∧ z = (s.taken ch 0x702 p).issue k c g l (fun _ => true) { step := true } ∧ (z.core k c).turns = (s.core k c).turns)
    ∧ (let ch : Nat := 60
    let s : State := (wDbg (wThr 0x13 (wGroup 1 2 3))).setFld (A.tcGroup0 0 0 0) F.tcGroup0_STATE 2
    let w : Nat := 2 ^ 16
    let a : Nat := 31 + 2 ^ 8 * 5 + 2 ^ 16 * 64
    let p : Packet := wPkt [w, a]
    let k : Nat := 0
    let c : Nat := 0
    let g : Nat := 0
    let v : Group := wGroup 1 2 3
    s.accepts ch 0x703 p ∧ p.length = 32 ∧ w = pword p 0 ∧ a = pword p 1 ∧ w &&& grpBits = w ∧ a &&& 0x7F7F1F = a ∧ k = grpTower w ∧ c = grpCore w ∧ g = grpSlot w ∧ s.grpCheck w = none ∧ 1 ≤ bitsOf a 16 7 ∧ bitsOf a 16 7 ≤ 64 ∧ bitsOf a 8 7 + bitsOf a 16 7 ≤ 69 ∧ s.slotState k c g ≠ 1 ∧ s.group k c g = some v)
    ∧ (let i : Nat := 5
    i < 32)
    ∧ (let i : Nat := 63
    32 ≤ i ∧ i < 64) := by
  refine ⟨?_, ?_, ?_, ?_⟩
  · dsimp only; unfold State.accepts; decide +kernel
  · dsimp only; unfold State.accepts; decide +kernel
  · dsimp only; decide +kernel
  · dsimp only; decide +kernel

/-- Clauses of ThreadsFaultAndAreDebugged. -/
theorem witness_ThreadsFaultAndAreDebugged_4 :
    (let ch : Nat := 60
    let s : State := (wDbg (wThr 0x13 (wGroup 1 2 3))).setFld (A.tcGroup0 0 0 0) F.tcGroup0_STATE 2
    let w : Nat := 2 ^ 16
    let a : Nat := 31 + 2 ^ 8 * 63 + 2 ^ 16
    let n : Nat := 2 ^ 64 - 1
    let p : Packet := wPkt [w, a, n]
    let k : Nat := 0
    let c : Nat := 0
    let g : Nat := 0
    let v : Group := wGroup 1 2 3
    let l : Nat := 31
    let i : Nat := 63
    s.accepts ch 0x704 p ∧ p.length = 40 ∧ w = pword p 0 ∧ a = pword p 1 ∧ n = pword p 2 ∧ w &&& grpBits = w ∧ a &&& 0x7F7F1F = a ∧ k = grpTower w ∧ c = grpCore w ∧ g = grpSlot w ∧ s.grpCheck w = none ∧ l = bitsOf a 0 5 ∧ i = bitsOf a 8 7 ∧ bitsOf a 16 7 = 1 ∧ i < 64 ∧ s.slotState k c g ≠ 1 ∧ s.group k c g = some v)
    ∧ (let ch : Nat := 60
    let s : State := (wDbg (wThr 0x13 (wGroup 1 2 3))).setFld (A.tcGroup0 0 0 0) F.tcGroup0_STATE 2
    let w : Nat := 2 ^ 16
    let a : Nat := 1 + 2 ^ 8 * 64 + 2 ^ 16
    let n : Nat := 0x200
    let p : Packet := wPkt [w, a, n]
    let k : Nat := 0
    let c : Nat := 0
    let g : Nat := 0
    let v : Group := wGroup 1 2 3
    let l : Nat := 1
    s.accepts ch 0x704 p ∧ p.length = 40 ∧ w = pword p 0 ∧ a = pword p 1 ∧ n = pword p 2 ∧ w &&& grpBits = w ∧ a &&& 0x7F7F1F = a ∧ k = grpTower w ∧ c = grpCore w ∧ g = grpSlot w ∧ s.grpCheck w = none ∧ l = bitsOf a 0 5 ∧ bitsOf a 8 7 = 64 ∧ bitsOf a 16 7 = 1 ∧ n % 4 = 0 ∧ s.slotState k c g ≠ 1 ∧ s.group k c g = some v ∧ v.threads.length = 32 ∧ (v.thread l).ended = false)
    ∧ (let ch : Nat := 60
    let s : State := wDbg (wThr 0x13 (wGroup 1 2 3))
    let w : Nat := 2 ^ 16
    let p : Packet := wPkt [w, 0x10000]
    let k : Nat := 0
    let c : Nat := 0
    let g : Nat := 0
    w = pword p 0 ∧ w &&& grpBits = w ∧ pword p 1 = 0x10000 ∧ k = grpTower w ∧ c = grpCore w ∧ g = grpSlot w ∧ s.grpCheck w = none ∧ s.slotState k c g = 1 ∧ s.accepts ch 0x703 p ∧ p.length = 32)
    ∧ (let ch : Nat := 60
    let s : State := wDbg (wThr 0x13 (wGroup 1 2 3))
    let w : Nat := 2 ^ 16
    let p : Packet := wPkt [w, 0x10000, 0]
    let k : Nat := 0
    let c : Nat := 0
    let g : Nat := 0
    w = pword p 0 ∧ w &&& grpBits = w ∧ pword p 1 = 0x10000 ∧ k = grpTower w ∧ c = grpCore w ∧ g = grpSlot w ∧ s.grpCheck w = none ∧ s.slotState k c g = 1 ∧ s.accepts ch 0x704 p ∧ p.length = 40) := by
  refine ⟨?_, ?_, ?_, ?_⟩
  · dsimp only; unfold State.accepts; decide +kernel
  · dsimp only; unfold State.accepts; decide +kernel
  · dsimp only; unfold State.accepts; decide +kernel
  · dsimp only; unfold State.accepts; decide +kernel

/-- Clauses of MoversMoveCompleteAndStop. -/
theorem witness_MoversMoveCompleteAndStop :
    (let d : Move := wMove false 2
    let s : State := wMov [d]
    let k : Nat := 0
    let m : Nat := 0
    let cl : Nat := 0
    k < 4 ∧ m < 16 ∧ cl = 4 * k + m / 4 ∧ (s.mover k m).queue = [d] ∧ (s.mover k m).stopped = none ∧ d.started = false ∧ d.fail = none ∧ d.w.length = 8 ∧ d.pos < 4096 ∧ s.unitsHeld = false ∧ s.fld (A.tmStatus k m) F.tmStatus_STATE ≠ 4 ∧ s.stalled (.mover k m) = false ∧ s.moveOk d = true ∧ d.dir = false ∧ d.mKind = 2 ∧ d.fmtS = d.fmtD ∧ isMx d.fmtD = false ∧ isSliced d.fmtD = false ∧ d.rows = 1 ∧ d.valid 0 = d.count 0 ∧ d.valid 1 = d.count 1 ∧ d.chain = false ∧ s.comp.badWords = [] ∧ s.err.armed = [] ∧ s.undef = [] ∧ s.poisoned (spBase cl + d.mAddr) d.spRow = false ∧ s.comp.tiles = [])
    ∧ (let d : Move := wMove false 0
    let s : State := wMov [d]
    let k : Nat := 0
    let m : Nat := 0
    let cl : Nat := 0
    let z : State := (s.readRowsVa 0 0 d d.readRows).1
    let rs : List (Nat × List (Byte × Bool)) := (s.readRowsVa 0 0 d d.readRows).2.1
    let bs : List (Byte × Bool) := match (s.readRowsVa 0 0 d d.readRows).2.2 with | .ok bs => bs | _ => []
    let out : MoveOut := d.loadOut ((List.range d.rows).map (fun r => d.loadRow r (match rs.find? (fun x => x.1 = r) with | some x => x.2 | none => [])))
    k < 4 ∧ m < 16 ∧ cl = 4 * k + m / 4 ∧ (s.mover k m).queue = [d] ∧ (s.mover k m).stopped = none ∧ d.started = false ∧ d.fail = none ∧ d.w.length = 8 ∧ d.pos < 4096 ∧ s.unitsHeld = false ∧ s.fld (A.tmStatus k m) F.tmStatus_STATE ≠ 4 ∧ s.stalled (.mover k m) = false ∧ s.moveOk d = true ∧ d.dir = false ∧ d.mKind = 0 ∧ d.chain = false ∧ s.readRowsVa k m d d.readRows = (z, rs, .ok bs) ∧ z.comp = s.comp ∧ s.comp.tiles = [] ∧ s.comp.badWords = [] ∧ s.err.armed = [] ∧ out = d.loadOut ((List.range d.rows).map (fun r => d.loadRow r (match rs.find? (fun x => x.1 = r) with | some x => x.2 | none => []))))
    ∧ (let d : Move := wMove true 0
    let s : State := wMov [d]
    let k : Nat := 0
    let m : Nat := 0
    let cl : Nat := 0
    let oor : Nat := (s.storeRow cl d 0).2
    let bs : List (Byte × Bool) := (s.storeRow cl d 0).1
    let z : State := (s.writeVa (.cluster cl) d.owner.ctx d.mAddr bs (.mover k m) d.owner d.id).1
    let rs : List (Byte × Bool) := match (s.writeVa (.cluster cl) d.owner.ctx d.mAddr bs (.mover k m) d.owner d.id).2 with | .ok bs => bs | _ => []
    k < 4 ∧ m < 16 ∧ cl = 4 * k + m / 4 ∧ (s.mover k m).queue = [d] ∧ (s.mover k m).stopped = none ∧ d.started = false ∧ d.fail = none ∧ d.w.length = 8 ∧ d.pos < 4096 ∧ s.unitsHeld = false ∧ s.fld (A.tmStatus k m) F.tmStatus_STATE ≠ 4 ∧ s.stalled (.mover k m) = false ∧ s.moveOk d = true ∧ d.dir = true ∧ d.mKind = 0 ∧ d.rows = 1 ∧ d.row = 0 ∧ d.chain = false ∧ isMx d.fmtS = false ∧ s.comp.badWords = [] ∧ s.err.armed = [] ∧ s.storeRow cl d 0 = (bs, oor) ∧ s.writeVa (.cluster cl) d.owner.ctx d.mAddr bs (.mover k m) d.owner d.id = (z, .ok rs) ∧ z.comp = s.comp)
    ∧ (let d : Move := { wMove false 2 with pos := 4096 }
    let s : State := wMov [d]
    let k : Nat := 0
    let m : Nat := 0
    k < 4 ∧ m < 16 ∧ (s.mover k m).queue = [d] ∧ (s.mover k m).stopped = none ∧ d.started = false ∧ d.fail = none ∧ d.w.length = 8 ∧ s.unitsHeld = false ∧ s.fld (A.tmStatus k m) F.tmStatus_STATE ≠ 4 ∧ s.stalled (.mover k m) = false ∧ (4096 ≤ d.pos ∨ s.moveOk d = false)) := by
  refine ⟨?_, ?_, ?_, ?_⟩
  · dsimp only; decide +kernel
  · dsimp only; exact ⟨(by decide +kernel), (by decide +kernel), (by decide +kernel), (by decide +kernel), (by decide +kernel), (by decide +kernel), (by decide +kernel), (by decide +kernel), (by decide +kernel), (by decide +kernel), (by decide +kernel), (by decide +kernel), (by decide +kernel), (by decide +kernel), (by decide +kernel), (by decide +kernel), (by decide +kernel), (by decide +kernel), (by decide +kernel), (by decide +kernel), (by decide +kernel), (by decide +kernel)⟩
  · dsimp only; decide +kernel
  · dsimp only; decide +kernel

/-- Clauses of MoversMoveCompleteAndStop. -/
theorem witness_MoversMoveCompleteAndStop_2 :
    (let d : Move := { wMove true 0 with started := true, elems := 4 }
    let s : State := wMov [d]
    let k : Nat := 0
    let m : Nat := 0
    k < 4 ∧ m < 16 ∧ (s.mover k m).queue = [d] ∧ d.started = true ∧ d.done = false ∧ d.fail = none ∧ d.chain = false ∧ d.owner.entry = none ∧ s.moveStalled k m d.id = false ∧ s.sliceWaits (.mover k m) = false ∧ s.usesDone (fun u => u = .move k m d.id) = true)
    ∧ (let d : Move := { wMove true 0 with started := true, elems := 4 }
    let e : Move := { d with id := 4 }
    let s : State := wMov [d, e]
    let k : Nat := 0
    let m : Nat := 0
    k < 4 ∧ m < 16 ∧ (s.mover k m).queue = [d, e] ∧ d.id ≠ e.id ∧ d.started = true ∧ d.done = false ∧ e.started = true ∧ e.done = false ∧ e.fail = none ∧ s.moveStalled k m e.id = false ∧ s.sliceWaits (.mover k m) = false ∧ s.usesDone (fun u => u = .move k m e.id) = true)
    ∧ (let d : Move := { wMove true 0 with started := true, elems := 4, fail := some (0x05, 0x2002, 3) }
    let rest : List Move := [{ wMove false 0 with id := 4 }]
    let s : State := wMov (d :: rest)
    let k : Nat := 0
    let m : Nat := 0
    let cls : Nat := 0x05
    let addr : Nat := 0x2002
    let aux : Nat := 3
    k < 4 ∧ m < 16 ∧ (s.mover k m).queue = d :: rest ∧ d.fail = some (cls, addr, aux) ∧ d.owner.entry = none ∧ (∀ x ∈ rest, x.owner.entry = none) ∧ s.fld (A.tmStatus k m) F.tmStatus_STATE ≠ 4 ∧ s.err.recov = [])
    ∧ (let d : Move := { wMove true 0 with started := true, elems := 4 }
    let s : State := wMov [d]
    let k : Nat := 0
    let m : Nat := 0
    k < 4 ∧ m < 16 ∧ d ∈ (s.mover k m).queue ∧ d.started = true ∧ d.done = false) := by
  refine ⟨?_, ?_, ?_, ?_⟩
  · dsimp only; decide +kernel
  · dsimp only; decide +kernel
  · dsimp only; decide +kernel
  · dsimp only; decide +kernel

/-- Clauses of StalledWritesResumeOrTimeOut. -/
theorem witness_StalledWritesResumeOrTimeOut :
    (let d : Move := { wMove false 0 with started := true, elems := 4 }
    let pa : Nat := spBase 0 + 0x2000
    let bs : List Byte := [1, 2, 3]
    let w : Stall := { who := .mover 0 0, owner := { ctx := 1, entry := none }, item := 3, cl := 0, eng := 0, chunks := [[(pa, bs, false)]] }
    let s : State := let t := wMov [d]; { t with comp := { t.comp with stalls := [w] } }
    let k : Nat := 0
    let m : Nat := 0
    let i : Nat := 0
    s.comp.stalls = [w] ∧ i = 0 ∧ w.who = .mover k m ∧ w.chunks = [[(pa, bs, false)]] ∧ s.comp.tiles = [] ∧ s.comp.badWords = [] ∧ s.undef = [] ∧ (s.mover k m).queue = [d] ∧ d.started = true ∧ d.done = false ∧ d.fail = none ∧ d.mKind ≠ 1 ∧ k < 4 ∧ m < 16 ∧ w.eng < 68)
    ∧ (let d := { wMove false 0 with started := true, elems := 4 }
    let pa := spBase 0 + 0x2000
    let bs := [1, 2, 3]
    let w : Stall := { who := .mover 0 0, owner := { ctx := 1, entry := none }, item := 3, cl := 0, eng := 0, chunks := [[(pa, bs, false)]] }
    let s : State := let t := (wMov [d]).setTiles 0 0 [wTile 5 5 8]; { t with comp := { t.comp with stalls := [w] } }
    let i : Nat := 0
    let cycles : Nat := 3
    let x : Tile := wTile 5 5 8
    s.comp.stalls[i]? = some w ∧ s.stallTile w = some x ∧ cycles < 2 ^ x.holdLog2)
    ∧ (let d : Move := { wMove false 0 with started := true, elems := 4 }
    let pa : Nat := spBase 0 + 0x2000
    let bs : List Byte := [1, 2, 3]
    let w : Stall := { who := .mover 0 0, owner := { ctx := 1, entry := none }, item := 3, cl := 0, eng := 0, chunks := [[(pa, bs, false)]] }
    let s : State := let t := (wMov [d]).setTiles 0 0 [wTile 5 5 8]; { t with comp := { t.comp with stalls := [w] } }
    let k : Nat := 0
    let m : Nat := 0
    let i : Nat := 0
    let cycles : Nat := 2 ^ 24
    let x : Tile := wTile 5 5 8
    let c : List Chunk := []
    let p : Bool := false
    let rest : List (List Chunk) := []
    s.comp.stalls = [w] ∧ i = 0 ∧ w.who = .mover k m ∧ w.item = d.id ∧ w.chunks = ((pa, bs, p) :: c) :: rest ∧ s.stallTile w = some x ∧ 2 ^ x.holdLog2 ≤ cycles ∧ (s.mover k m).queue = [d] ∧ d.started = true ∧ d.done = false ∧ k < 4 ∧ m < 16 ∧ w.eng < 68)
    ∧ (let s : State := wUp.setPoison (spBase 0 / 64) true
    let pa : Nat := spBase 0
    let bs : List Byte := List.replicate 64 1#8
    pa % 64 = 0 ∧ bs.length = 64 ∧ s.comp.badWords = []) := by
  refine ⟨?_, ?_, ?_, ?_⟩
  · dsimp only; decide +kernel
  · dsimp only; decide +kernel
  · dsimp only; decide +kernel
  · dsimp only; decide +kernel

/-- Clauses of StalledWritesResumeOrTimeOut. -/
theorem witness_StalledWritesResumeOrTimeOut_2 :
    (let s : State := wUp.setPoison (spBase 0 / 64) true
    let bs : List Byte := List.replicate 63 1#8
    bs.length < 64 ∧ s.comp.badWords = []) := by
  dsimp only; decide +kernel

/-- Clauses of SlicesReadFillAndWrite. -/
theorem witness_SlicesReadFillAndWrite :
    (let r : HomeReq := wReq .read 0x1000 4 []
    let v : Group := wGroup 1 2 1
    let s : State := wL2 [r] (fun x => { x with lines := [wLine] })
    let k : Nat := 0
    let sl : Nat := wKey % 32
    let k' : Nat := 0
    let c : Nat := 0
    let g : Nat := 0
    let lane : Nat := 0
    k < 4 ∧ sl < 32 ∧ s.l2.flying = [r] ∧ r.kind = .read ∧ s.homeKey r.pa = some (32 * k + sl) ∧ s.physFaults r.pa r.len false = false ∧ s.err.armed = [] ∧ s.err.downCh = [] ∧ (s.slice (32 * k + sl)).slots = [] ∧ (s.slice (32 * k + sl)).dir = [] ∧ r.pa % 128 + r.len ≤ 128 ∧ 0 < r.len ∧ r.l1 = false ∧ s.crosses r.who r.pa = true ∧ s.l2.weak = [] ∧ s.readHits (32 * k + sl) r.pa r.len = true ∧ s.firstPoison r.pa r.len = none ∧ r.who = .thread k' c g lane ∧ k' < 4 ∧ c < 64 ∧ g < 8 ∧ lane < 32 ∧ s.group k' c g = some v ∧ v.threads.length = 32 ∧ r.rd ≠ 0)
    ∧ (let r : HomeReq := wReq .read 0x1000 4 []
    let s : State := wL2 [r] id
    let k : Nat := 0
    let sl : Nat := wKey % 32
    k < 4 ∧ sl < 32 ∧ s.l2.flying = [r] ∧ r.kind = .read ∧ s.homeKey r.pa = some (32 * k + sl) ∧ s.physFaults r.pa r.len false = false ∧ s.err.armed = [] ∧ s.err.downCh = [] ∧ s.slice (32 * k + sl) = Slice.empty ∧ r.pa % 128 + r.len ≤ 128 ∧ 0 < r.len ∧ r.l1 = false ∧ isPinnedLine (r.pa / 128) = false ∧ r.policy ≠ 2 ∧ s.pinWays k sl ≤ 12 ∧ s.crosses r.who r.pa = true ∧ s.l2.weak = [])
    ∧ (let r : HomeReq := wReq .read 0x1000 4 []
    let v : Group := wGroup 1 2 1
    let x : Miss := { line := 0x20, reqs := [r], install := true, evict := false }
    let s : State := wL2 [] (fun y => { y with lines := [{ wLine with valid := 1 }], misses := [x] })
    let k : Nat := 0
    let sl : Nat := wKey % 32
    let k' : Nat := 0
    let c : Nat := 0
    let g : Nat := 0
    let lane : Nat := 0
    k < 4 ∧ sl < 32 ∧ (s.slice (32 * k + sl)).misses = [x] ∧ x.reqs = [r] ∧ x.line = r.pa / 128 ∧ r.pa % 128 + r.len ≤ 128 ∧ r.kind = .read ∧ r.red % 4 = 0 ∧ x.bad = 0 ∧ r.l1 = false ∧ s.err.downCh = [] ∧ { r with bytes := [], red := 0 } ∉ s.l2.flying ∧ x.install = true ∧ ((s.slice (32 * k + sl)).find x.line).isSome = true ∧ r.who = .thread k' c g lane ∧ k' < 4 ∧ c < 64 ∧ g < 8 ∧ lane < 32 ∧ s.group k' c g = some v ∧ v.threads.length = 32 ∧ r.rd ≠ 0)
    ∧ (let r : HomeReq := wReq .write 0x1000 4 [9, 8, 7, 6]
    let l : L2Line := wLine
    let s : State := wL2 [r] (fun x => { x with lines := [wLine] })
    let k : Nat := 0
    let sl : Nat := wKey % 32
    k < 4 ∧ sl < 32 ∧ s.l2.flying = [r] ∧ r.kind = .write ∧ s.homeKey r.pa = some (32 * k + sl) ∧ s.physFaults r.pa r.len true = false ∧ r.len = r.bytes.length ∧ s.err.downCh = [] ∧ (s.slice (32 * k + sl)).slots = [] ∧ (s.slice (32 * k + sl)).dir = [] ∧ r.pa % 128 + r.len ≤ 128 ∧ 0 < r.len ∧ r.policy < 2 ∧ isPinnedLine (r.pa / 128) = false ∧ s.board.towerRst = [] ∧ s.undef = [] ∧ s.crosses r.who r.pa = true ∧ s.l2.weak = [] ∧ (s.slice (32 * k + sl)).lines = [l] ∧ l.line = r.pa / 128 ∧ (∀ a, a / 128 = r.pa / 128 → s.homeKey a = some (32 * k + sl))) := by
  refine ⟨?_, ?_, ?_, ?_⟩
  · dsimp only; decide +kernel
  · dsimp only; decide +kernel
  · dsimp only; decide +kernel
  · dsimp only; exact ⟨(by decide +kernel), (by decide +kernel), (by decide +kernel), (by decide +kernel), (by decide +kernel), (by decide +kernel), (by decide +kernel), (by decide +kernel), (by decide +kernel), (by decide +kernel), (by decide +kernel), (by decide +kernel), (by decide +kernel), (by decide +kernel), (by decide +kernel), (by decide +kernel), (by decide +kernel), (by decide +kernel), (by decide +kernel), (by decide +kernel), wLines (by decide +kernel)⟩

/-- Clauses of SlicesReadFillAndWrite. -/
theorem witness_SlicesReadFillAndWrite_2 :
    (let r : Recall := { line := 0x20, inval := true, evict := false }
    let s : State := wL2 [] (fun x => { x with recalls := [r], dir := [(0x20, true)] })
    let k : Nat := 0
    let sl : Nat := wKey % 32
    let off : Nat := 120
    let data : List Byte := List.replicate 8 5#8
    k < 4 ∧ sl < 32 ∧ (s.slice (32 * k + sl)).recalls = [r] ∧ (s.slice (32 * k + sl)).dir = [(r.line, true)] ∧ (s.slice (32 * k + sl)).slots = [] ∧ 0 < data.length ∧ off + data.length ≤ 128 ∧ (∀ a, a / 128 = r.line → s.homeKey a = some (32 * k + sl)) ∧ s.undef = [] ∧ s.crosses .host (r.line * 128) = true ∧ s.l2.weak = [])
    ∧ (let s : State := wL2 [] id
    let pa : Nat := 0x1000
    let key : Nat := wKey
    s.homeKey pa = some key ∧ s.populated pa = true ∧ (s.slice key).dir = [] ∧ (s.slice key).recalls = [] ∧ (s.slice key).slots = [] ∧ s.err.downCh = [] ∧ s.poison = [] ∧ key < 128 ∧ s.l2.weak = [] ∧ s.crosses .host pa = true ∧ s.missRoom key (pa / 128 * 128) 128 = true)
    ∧ (let s : State := wL2 [] (fun x => { x with dir := [(0x20, true)] })
    let pa : Nat := 0x1078
    let key : Nat := wKey
    let data : List Byte := List.replicate 8 5#8
    s.homeKey pa = some key ∧ (s.slice key).dir = [(pa / 128, true)] ∧ (s.slice key).slots = [] ∧ 0 < data.length ∧ pa % 128 + data.length ≤ 128 ∧ s.undef = [] ∧ s.crosses .host pa = true ∧ s.l2.weak = []) := by
  refine ⟨?_, ?_, ?_⟩
  · dsimp only; exact ⟨(by decide +kernel), (by decide +kernel), (by decide +kernel), (by decide +kernel), (by decide +kernel), (by decide +kernel), (by decide +kernel), wLines (by decide +kernel), (by decide +kernel), (by decide +kernel), (by decide +kernel)⟩
  · dsimp only; decide +kernel
  · dsimp only; decide +kernel

/-- Clauses of ReduceWritesApplyWaitAndDrain. -/
theorem witness_ReduceWritesApplyWaitAndDrain :
    (let r : HomeReq := wReq .reduce 0x1000 4 [9, 0, 0, 0x80] 2
    let l : L2Line := wLine
    let e : Word := F.l2RedTable_VALID.set (F.l2RedTable_OP.set 0 1) 1
    let s : State := (wL2 [r] (fun x => { x with lines := [wLine] })).wr (A.l2RedTable 0 1 1) e
    let k : Nat := 0
    let sl : Nat := wKey % 32
    let n : Nat := 4
    k < 4 ∧ sl < 32 ∧ s.l2.flying = [r] ∧ r.kind = .reduce ∧ s.homeKey r.pa = some (32 * k + sl) ∧ (s.slice (32 * k + sl)).waiting = [] ∧ (s.slice (32 * k + sl)).dir = [] ∧ (s.slice (32 * k + sl)).slots = [] ∧ (s.slice (32 * k + sl)).lines = [l] ∧ l.line = r.pa / 128 ∧ isPinnedLine l.line = false ∧ e = s.redEntry k r.owner.ctx r.red ∧ F.l2RedTable_VALID.get e = 1 ∧ F.l2RedTable_OP.get e < 8 ∧ n = redBytes (F.l2RedTable_FMT.get e) ∧ r.pa % n = 0 ∧ r.bytes.length = n ∧ s.undef = [] ∧ s.board.towerRst = [] ∧ s.crosses r.who r.pa = true ∧ s.l2.weak = [])
    ∧ (let r : HomeReq := wReq .reduce 0x1000 2 [9, 0] 2
    let l : L2Line := wLine
    let e : Word := F.l2RedTable_FMT.set (F.l2RedTable_VALID.set (F.l2RedTable_OP.set 0 8) 1) 2
    let s : State := (wL2 [r] (fun x => { x with lines := [wLine] })).wr (A.l2RedTable 0 1 1) e
    let k : Nat := 0
    let sl : Nat := wKey % 32
    let n : Nat := redBytes 2
    k < 4 ∧ sl < 32 ∧ s.l2.flying = [r] ∧ r.kind = .reduce ∧ s.homeKey r.pa = some (32 * k + sl) ∧ (s.slice (32 * k + sl)).waiting = [] ∧ (s.slice (32 * k + sl)).dir = [] ∧ (s.slice (32 * k + sl)).slots = [] ∧ (s.slice (32 * k + sl)).lines = [l] ∧ l.line = r.pa / 128 ∧ isPinnedLine l.line = false ∧ e = s.redEntry k r.owner.ctx r.red ∧ F.l2RedTable_VALID.get e = 1 ∧ F.l2RedTable_OP.get e = 8 ∧ n = redBytes (F.l2RedTable_FMT.get e) ∧ 2 ≤ F.l2RedTable_FMT.get e ∧ r.pa % n = 0 ∧ r.bytes.length = n ∧ s.board.towerRst = [] ∧ s.crosses r.who r.pa = true ∧ s.l2.weak = [])
    ∧ (let e : RedElem := { i := 3, acc := Acc.zero, count := 1, poison := false }
    let r : RedSlot := { line := 0x20, ctx := 1, fmt := 2, rnd := 0, anchor := 40, elems := [e] }
    let s : State := wL2 [] (fun x => { x with slots := [r], lines := [wLine] })
    let key : Nat := wKey
    let line : Nat := 0x20
    (s.slice key).slots = [r] ∧ r.line = line ∧ r.elems = [e] ∧ e.poison = false ∧ s.undef = [] ∧ key < 128 ∧ 2 ≤ r.fmt ∧ r.fmt ≤ 5 ∧ e.i * redBytes r.fmt + redBytes r.fmt ≤ 128)
    ∧ (let r : HomeReq := wReq .reduce 0x1000 4 [9, 0, 0, 0x80] 2
    let v : Group := wGroup 1 2 1
    let s : State := wL2 [] (fun x => { x with waiting := [r] })
    let k : Nat := 0
    let sl : Nat := wKey % 32
    let cycles : Nat := 8
    let k' : Nat := 0
    let c : Nat := 0
    let g : Nat := 0
    let lane : Nat := 0
    k < 4 ∧ sl < 32 ∧ (s.slice (32 * k + sl)).waiting = [r] ∧ r.who = .thread k' c g lane ∧ s.group k' c g = some v ∧ s.debugOpen v.owner.ctx = false ∧ v.owner.entry = none ∧ s.err.recov = [] ∧ k' < 4 ∧ c < 64 ∧ g < 8 ∧ s.comp.launches = [] ∧ s.slotState k' c g = 1 ∧ 2 ^ r.limit ≤ cycles) := by
  refine ⟨?_, ?_, ?_, ?_⟩
  · dsimp only; decide +kernel
  · dsimp only; decide +kernel
  · dsimp only; decide +kernel
  · dsimp only; decide +kernel

/-- Clauses of ReduceWritesApplyWaitAndDrain. -/
theorem witness_ReduceWritesApplyWaitAndDrain_2 :
    (let r : HomeReq := { wReq .reduce 0x1000 4 [9, 0, 0, 0x80] 2 with limit := 24 }
    let s : State := wL2 [] (fun x => { x with waiting := [{ r with limit := 24 }] })
    let k : Nat := 0
    let sl : Nat := wKey % 32
    let cycles : Nat := 8
    let idx : Nat := 0
    k < 4 ∧ sl < 32 ∧ (s.slice (32 * k + sl)).waiting[idx]? = some r ∧ cycles < 2 ^ r.limit) := by
  dsimp only; decide +kernel

/-- Clauses of RangeAndPinCommands. -/
theorem witness_RangeAndPinCommands :
    (let ch : Nat := 60
    let s : State := wUp
    let p : Packet := wPkt [0x1000, 2 ^ 20, 0]
    s.accepts ch 0x400 p ∧ p.length = 40 ∧ s.absentTier (pword p 0) = false ∧ pword p 0 % 128 = 0 ∧ pword p 1 % 128 = 0 ∧ 0 < pword p 1 ∧ pword p 1 ≤ 2 ^ 42 ∧ s.tierRange (pword p 0) (pword p 1) = true ∧ pword p 2 &&& (2 ^ 64 - 1 - rangeOpts 0) = 0 ∧ bit (pword p 2) 0 = false ∧ s.eclipse = false)
    ∧ (let ch : Nat := 60
    let s : State := wUp
    let p : Packet := wPkt [0x1000, 2 ^ 20, 0]
    s.accepts ch 0x401 p ∧ p.length = 40 ∧ s.absentTier (pword p 0) = false ∧ pword p 0 % 128 = 0 ∧ pword p 1 % 128 = 0 ∧ 0 < pword p 1 ∧ pword p 1 ≤ 2 ^ 42 ∧ s.tierRange (pword p 0) (pword p 1) = true ∧ pword p 2 &&& (2 ^ 64 - 1 - rangeOpts 1) = 0 ∧ bit (pword p 2) 0 = false ∧ (bit (pword p 2) 3 && bit (pword p 2) 5) = false ∧ s.eclipse = false)
    ∧ (let ch : Nat := 60
    let s : State := wUp
    let p : Packet := wPkt [0x1000, 2 ^ 20, 16]
    s.accepts ch 0x402 p ∧ p.length = 40 ∧ s.absentTier (pword p 0) = false ∧ pword p 0 % 128 = 0 ∧ pword p 1 % 128 = 0 ∧ 0 < pword p 1 ∧ pword p 1 ≤ 2 ^ 42 ∧ s.tierRange (pword p 0) (pword p 1) = true ∧ pword p 2 &&& (2 ^ 64 - 1 - rangeOpts 2) = 0 ∧ bit (pword p 2) 0 = false ∧ s.eclipse = false)
    ∧ (let r : RangeCmd := { kind := 1, addr := 0x1000, len := 128, opts := 0, chan := 60 }
    let key : Nat := wKey
    let l : L2Line := wLine
    let s : State := let t := (wL2 [] (fun x => { x with lines := [wLine] })).modChan 60 (fun c => { c with current := some (0x401, wPkt []), busy := true }); { t with l2 := { t.l2 with ranges := [r] } }
    s.l2.ranges = [r] ∧ r.len = 128 ∧ r.addr % 128 = 0 ∧ r.kind = 1 ∧ r.opts = 0 ∧ key < 128 ∧ (∀ a, a / 128 = r.addr / 128 → s.homeKey a = some key) ∧ (s.slice key).lines = [l] ∧ l.line = r.addr / 128 ∧ (s.slice key).slots = [] ∧ (s.slice key).dir = [] ∧ (s.slice key).misses = []) := by
  refine ⟨?_, ?_, ?_, ?_⟩
  · dsimp only; unfold State.accepts; decide +kernel
  · dsimp only; unfold State.accepts; decide +kernel
  · dsimp only; unfold State.accepts; decide +kernel
  · dsimp only; exact ⟨(by decide +kernel), (by decide +kernel), (by decide +kernel), (by decide +kernel), (by decide +kernel), (by decide +kernel), wLines (by decide +kernel), (by decide +kernel), (by decide +kernel), (by decide +kernel), (by decide +kernel), (by decide +kernel)⟩

/-- Clauses of RangeAndPinCommands. -/
theorem witness_RangeAndPinCommands_2 :
    (let r : RangeCmd := { kind := 2, addr := 0x1000, len := 128, opts := 16, chan := 60 }
    let key : Nat := wKey
    let l : L2Line := wLine
    let s : State := let t := (wL2 [] (fun x => { x with lines := [wLine] })).modChan 60 (fun c => { c with current := some (0x402, wPkt []), busy := true }); { t with l2 := { t.l2 with ranges := [r] } }
    s.l2.ranges = [r] ∧ r.len = 128 ∧ r.addr % 128 = 0 ∧ r.kind = 2 ∧ (r.opts = 0 ∨ r.opts = 16) ∧ key < 128 ∧ (∀ a, a / 128 = r.addr / 128 → s.homeKey a = some key) ∧ (s.slice key).lines = [l] ∧ l.line = r.addr / 128 ∧ (s.slice key).slots = [] ∧ (s.slice key).dir = [] ∧ (s.slice key).misses = [] ∧ s.undef = [])
    ∧ (let r : RangeCmd := { kind := 0, addr := 0x1000, len := 128, opts := 0, chan := 60 }
    let key : Nat := wKey
    let s : State := let t := wUp.modChan 60 (fun c => { c with current := some (0x400, wPkt []), busy := true }); { t with l2 := { t.l2 with ranges := [r] } }
    s.l2.ranges = [r] ∧ r.len = 128 ∧ r.addr % 128 = 0 ∧ r.kind = 0 ∧ r.opts = 0 ∧ key < 128 ∧ (∀ a, a / 128 = r.addr / 128 → s.homeKey a = some key) ∧ s.slice key = Slice.empty ∧ isPinnedLine (r.addr / 128) = false ∧ s.pinWays (key / 32) (key % 32) ≤ 12 ∧ s.err.downCh = [])
    ∧ (let ch : Nat := 60
    let s : State := wUp
    let k : Nat := 3
    let n : Nat := 12
    let sl : Nat := 2 ^ 32 - 1
    let p : Packet := wPkt [3 + 256 * 12, 2 ^ 32 - 1]
    s.accepts ch 0x403 p ∧ p.length = 32 ∧ pword p 0 = k + 256 * n ∧ k < 4 ∧ n ≤ 12 ∧ pword p 1 = sl ∧ 0 < sl ∧ sl < 2 ^ 32 ∧ (∀ i, i < 32 → sl.testBit i = true → s.pinWays k i ≤ n) ∧ s.eclipse = false ∧ (∀ x ∈ s.l2.pins, x.tower ≠ k))
    ∧ (let ch : Nat := 60
    let s : State := wUp
    let k : Nat := 3
    let n : Nat := 0
    let sl : Nat := 2 ^ 32 - 1
    let p : Packet := wPkt [3, 2 ^ 32 - 1]
    s.accepts ch 0x404 p ∧ p.length = 32 ∧ pword p 0 = k + 256 * n ∧ k < 4 ∧ n < 16 ∧ pword p 1 = sl ∧ 0 < sl ∧ sl < 2 ^ 32 ∧ (∀ i, i < 32 → sl.testBit i = true → n ≤ s.pinWays k i) ∧ s.eclipse = false ∧ (∀ x ∈ s.l2.pins, x.tower ≠ k)) := by
  refine ⟨?_, ?_, ?_, ?_⟩
  · dsimp only; exact ⟨(by decide +kernel), (by decide +kernel), (by decide +kernel), (by decide +kernel), (by decide +kernel), (by decide +kernel), wLines (by decide +kernel), (by decide +kernel), (by decide +kernel), (by decide +kernel), (by decide +kernel), (by decide +kernel), (by decide +kernel)⟩
  · dsimp only; exact ⟨(by decide +kernel), (by decide +kernel), (by decide +kernel), (by decide +kernel), (by decide +kernel), (by decide +kernel), wLines (by decide +kernel), (by decide +kernel), (by decide +kernel), (by decide +kernel), (by decide +kernel)⟩
  · dsimp only; unfold State.accepts; decide +kernel
  · dsimp only; unfold State.accepts; decide +kernel

/-- Clauses of RangeAndPinCommands. -/
theorem witness_RangeAndPinCommands_3 :
    (let x : PinCmd := { tower := 2, ways := 12, slices := 2 ^ 31, unpin := false, chan := 60 }
    let k : Nat := 2
    let sl : Nat := 31
    let s : State := let t := wUp.modChan 60 (fun c => { c with current := some (0x403, wPkt []), busy := true }); { t with l2 := { t.l2 with pins := [x] } }
    s.l2.pins = [x] ∧ x.tower = k ∧ x.unpin = false ∧ x.slices = 2 ^ sl ∧ k < 4 ∧ sl < 32 ∧ s.pinWays k sl ≤ x.ways ∧ x.ways ≤ 12 ∧ s.slice (32 * k + sl) = Slice.empty)
    ∧ (let x : PinCmd := { tower := 2, ways := 0, slices := 2 ^ 31, unpin := true, chan := 60 }
    let k : Nat := 2
    let sl : Nat := 31
    let s : State := let t := wUp.modChan 60 (fun c => { c with current := some (0x404, wPkt []), busy := true }); { t with l2 := { t.l2 with pins := [x] } }
    s.l2.pins = [x] ∧ x.tower = k ∧ x.unpin = true ∧ x.slices = 2 ^ sl ∧ k < 4 ∧ sl < 32 ∧ x.ways ≤ s.pinWays k sl ∧ s.slice (32 * k + sl) = Slice.empty ∧ s.requests = []) := by
  refine ⟨?_, ?_⟩
  · dsimp only; decide +kernel
  · dsimp only; decide +kernel

/-- Clauses of ControllersDecodeWriteAndScrub. -/
theorem witness_ControllersDecodeWriteAndScrub :
    (let e : Pattern := [(3, 5), (9, 7), (11, 1)]
    let marked : List Nat := [3, 9, 20, 21, 22, 23]
    e ≠ [] ∧ (Pattern.xor e poisonForm).isCodeword = false ∧ e.isCodeword = false ∧ 2 * (e.filter (fun x => !marked.contains x.1)).length + marked.length ≤ 8)
    ∧ (let s : State := wUp
    let pa : Nat := 0x1000
    let pl : Place := (wUp.place 0x1000).getD (.stack 0 0 0 0)
    s.place pa = some pl ∧ pa % 64 = 0 ∧ s.populated pa = true ∧ s.err.downCh = [] ∧ s.err.armed = [])
    ∧ (let s : State := wUp.setFld (A.memCfg (((wUp.place 0x1000).getD (.stack 0 0 0 0)).ctl / 4)) F.memCfg_AUTO_MARK 0
    let pa : Nat := 0x1000
    let pl : Place := (wUp.place 0x1000).getD (.stack 0 0 0 0)
    let e : Pattern := [(3, 5), (9, 7), (11, 255), (71, 1)]
    s.place pa = some pl ∧ pa % 64 = 0 ∧ s.populated pa = true ∧ s.err.downCh = [] ∧ s.err.armed = [] ∧ s.behindPoison pa = false ∧ e.Pairwise (fun a b => a.1 < b.1) ∧ (∀ x ∈ e, x.1 < 72 ∧ 0 < x.2 ∧ x.2 < 256) ∧ e ≠ [] ∧ (Pattern.xor e poisonForm).isCodeword = false ∧ e.isCodeword = false ∧ 2 * (e.filter (fun x => !(s.markedAt pl).contains x.1)).length + (s.markedAt pl).length ≤ 8 ∧ s.flag (A.memCfg (pl.ctl / 4)) F.memCfg_AUTO_MARK = false)
    ∧ (let pa : Nat := 0x40000000000
    let pl : Place := (wUp.place pa).getD (.stack 0 0 0 0)
    let s : State := wUp.putMarks (pl.ctl / 4) (pl.ctl % 4) [1, 1 + 17 * 2 ^ 24]
    let e : Pattern := [(5, 1), (71, 255)]
    s.place pa = some pl ∧ pa % 64 = 0 ∧ s.populated pa = true ∧ s.err.downCh = [] ∧ s.err.armed = [] ∧ s.behindPoison pa = false ∧ e.Pairwise (fun a b => a.1 < b.1) ∧ (∀ x ∈ e, x.1 < 72 ∧ 0 < x.2 ∧ x.2 < 256) ∧ decodeWord e (s.markedAt pl) = .bad) := by
  refine ⟨?_, ?_, ?_, ?_⟩
  · dsimp only; decide +kernel
  · dsimp only; decide +kernel
  · dsimp only; decide +kernel
  · dsimp only; decide +kernel

/-- Clauses of ControllersDecodeWriteAndScrub. -/
theorem witness_ControllersDecodeWriteAndScrub_2 :
    (let s : State := wUp
    let k : Nat := 0
    let u : Nat := 0
    let a : Nat := s.sectorAddr k u (Assoc.getD s.memc.patrol (4 * k + u) 0)
    s.hasCtl k u = true ∧ s.fld (A.memCfg k) F.memCfg_SCRUB_HOURS ≠ 0 ∧ s.flag (A.memCtlStatus k u) F.memCtlStatus_SELF_REFRESH = false ∧ a = s.sectorAddr k u (Assoc.getD s.memc.patrol (4 * k + u) 0) ∧ s.err.downCh = [] ∧ s.err.armed = [])
    ∧ (let ch : Nat := 60
    let s : State := wObj wUp 2
    let p : Packet := wPkt [0x1000, 128, 1 + 70 * 2 ^ 16]
    s.accepts ch 0x502 p ∧ p.length = 40 ∧ s.absentTier (pword p 0) = false ∧ pword p 0 % 64 = 0 ∧ pword p 1 % 64 = 0 ∧ 0 < pword p 1 ∧ pword p 1 ≤ 2 ^ 42 ∧ s.tierRange (pword p 0) (pword p 1) = true ∧ (pword p 2 = 0 ∨ pword p 2 % 2 ^ 16 = 1 ∧ pword p 2 < 2 ^ 32 ∧ s.objType (bitsOf (pword p 2) 16 16) ≠ 0) ∧ s.eclipse = false)
    ∧ (let r : ScrubCmd := { addr := 0x1000, len := 64, done := some 70, chan := 60 }
    let s : State := let t := (wObj wUp 2).modChan 60 (fun c => { c with current := some (0x502, wPkt []), busy := true }); { t with memc := { t.memc with scrubs := [r] } }
    let pl : Place := (wUp.place 0x1000).getD (.stack 0 0 0 0)
    s.memc.scrubs = [r] ∧ r.len = 64 ∧ r.addr % 64 = 0 ∧ s.place r.addr = some pl ∧ s.err.downCh = [] ∧ s.err.armed = [])
    ∧ (let k : Nat := 3
    let u : Nat := 3
    let s : State := { wUp with memc := { wUp.memc with counts := [(2 ^ 30 * 15 + 3, 4), (2 ^ 30 * 3 + 3, 4)] } }
    s.hasCtl k u = true) := by
  refine ⟨?_, ?_, ?_, ?_⟩
  · dsimp only; decide +kernel
  · dsimp only; unfold State.accepts; decide +kernel
  · dsimp only; decide +kernel
  · dsimp only; decide +kernel

/-- Clauses of MarksTemperatureAndChannels. -/
theorem witness_MarksTemperatureAndChannels :
    (let ch : Nat := 60
    let s : State := wUp
    let w : Nat := 7 * 16 + 35 * 2 ^ 16 + 31 * 2 ^ 8
    let p : Packet := wPkt [w]
    s.accepts ch 0x500 p ∧ p.length = 24 ∧ w = pword p 0 ∧ posBad w = false ∧ (w % 4 = 1 → s.part.hasCapacity = true) ∧ s.isMarked w = false ∧ s.markLimit w = none ∧ s.eclipse = false ∧ s.supplyEvent = false ∧ s.markWorn w = false)
    ∧ (let ch : Nat := 60
    let s : State := wUp.putMarks 3 1 [7 * 16 + 35 * 2 ^ 16 + 31 * 2 ^ 8]
    let w : Nat := 7 * 16 + 35 * 2 ^ 16 + 31 * 2 ^ 8
    let p : Packet := wPkt [w]
    s.accepts ch 0x501 p ∧ p.length = 24 ∧ w = pword p 0 ∧ posBad w = false ∧ (w % 4 = 1 → s.part.hasCapacity = true) ∧ s.isMarked w = true ∧ s.eclipse = false ∧ s.supplyEvent = false ∧ s.markWorn w = false)
    ∧ (let ch : Nat := 60
    let s : State := wUp
    let w : Nat := 7 * 16 + 35 * 2 ^ 16 + 31 * 2 ^ 8
    let p : Packet := wPkt [w]
    s.accepts ch 0x501 p ∧ p.length = 24 ∧ w = pword p 0 ∧ posBad w = false ∧ (w % 4 = 1 → s.part.hasCapacity = true) ∧ s.isMarked w = false)
    ∧ (let ch : Nat := 60
    let s : State := wUp.putMarks 3 1 [7 * 16 + 35 * 2 ^ 16 + 31 * 2 ^ 8]
    let w : Nat := 7 * 16 + 35 * 2 ^ 16 + 31 * 2 ^ 8
    let p : Packet := wPkt [w]
    s.accepts ch 0x500 p ∧ p.length = 24 ∧ w = pword p 0 ∧ posBad w = false ∧ (w % 4 = 1 → s.part.hasCapacity = true) ∧ s.isMarked w = true) := by
  refine ⟨?_, ?_, ?_, ?_⟩
  · dsimp only; unfold State.accepts; decide +kernel
  · dsimp only; unfold State.accepts; decide +kernel
  · dsimp only; unfold State.accepts; decide +kernel
  · dsimp only; unfold State.accepts; decide +kernel

/-- Clauses of MarksTemperatureAndChannels. -/
theorem witness_MarksTemperatureAndChannels_2 :
    (let ch : Nat := 60
    let c : MarkChange := { pos := 1 + 35 * 2 ^ 24, set := true, chan := some 60 }
    let s : State := let t := wUp.modChan 60 (fun c => { c with current := some (0x500, wPkt []), busy := true }); { t with memc := { t.memc with marks := [c] } }
    s.memc.marks = [c] ∧ c.chan = some ch ∧ posBad c.pos = false ∧ s.isMarked c.pos = !c.set ∧ (c.pos % 4 = 1 → s.part.hasCapacity = true) ∧ (∀ x ∈ posCtls c.pos, s.fld (A.memEraseStat x.1 x.2) F.memEraseStat_CHANGES < 100000))
    ∧ (let s : State := wUp
    let k : Nat := 3
    let u : Nat := 3
    s.hasCtl k u = true)
    ∧ (let s : State := wUp
    let k : Nat := 3
    let u : Nat := 1
    let c : Nat := 105
    let lim : Nat := s.fld (A.memCfg 3) F.memCfg_THROTTLE_C
    k < 4 ∧ u < 2 ∧ c < 256 ∧ lim = s.fld (A.memCfg k) F.memCfg_THROTTLE_C ∧ s.flag (A.memCtlStatus k u) F.memCtlStatus_SELF_REFRESH = false)
    ∧ (let s : State := wUp
    let k : Nat := 3
    let u : Nat := 2
    s.hasCtl k u = true ∧ 2 ≤ u ∧ s.flag (A.memCtlStatus k u) F.memCtlStatus_SELF_REFRESH = false) := by
  refine ⟨?_, ?_, ?_, ?_⟩
  · dsimp only; decide +kernel
  · dsimp only; decide +kernel
  · dsimp only; decide +kernel
  · dsimp only; decide +kernel

/-- Clauses of MarksTemperatureAndChannels. -/
theorem witness_MarksTemperatureAndChannels_3 :
    (let s : State := wUp
    let k : Nat := 3
    let u : Nat := 2
    let ch : Nat := 0
    let n : Nat := 0
    s.hasChannel k u ch = true ∧ n = Assoc.getD s.err.repeats (channelKey k u ch) 0 ∧ n < s.fld A.errCfg F.errCfg_MEM_RETRIES ∧ (4 * k + u, ch) ∉ s.err.downCh)
    ∧ (let s : State := { wUp with err := { wUp.err with repeats := [(channelKey 3 1 31, 15)] } }
    let k : Nat := 3
    let u : Nat := 1
    let ch : Nat := 31
    s.hasChannel k u ch = true ∧ s.fld A.errCfg F.errCfg_MEM_RETRIES ≤ Assoc.getD s.err.repeats (channelKey k u ch) 0 ∧ (4 * k + u, ch) ∉ s.err.downCh) := by
  refine ⟨?_, ?_⟩
  · dsimp only; decide +kernel
  · dsimp only; decide +kernel

/-- Clauses of LanternUnitsScanMergeAndLoad. -/
theorem witness_LanternUnitsScanMergeAndLoad :
    (let ch : Nat := 60
    let s : State := wUp
    let n : Nat := 63
    let slot : Nat := 15
    let count : Nat := 64
    let p : Packet := wPkt [63 + 15 * 2 ^ 8 + 64 * 2 ^ 16, 0x1000]
    s.accepts ch 0x800 p ∧ p.length = 32 ∧ n < 64 ∧ s.lntFenced n = false ∧ 8 ≤ slot ∧ slot < 16 ∧ 1 ≤ count ∧ count ≤ 64 ∧ pword p 0 = n + slot * 2 ^ 8 + count * 2 ^ 16 ∧ pword p 1 % 8 = 0 ∧ s.rangeIn (pword p 1) (8 * count) = true ∧ s.eclipse = false ∧ (∀ e ∈ s.lnt.units, e.1 = n → ∀ r ∈ e.2.queue, r.kind ≠ 1 ∨ r.prog ≠ slot) ∧ (∀ l ∈ s.lnt.loads, l.unit ≠ n ∨ l.slot ≠ slot) ∧ (∀ d ∈ s.lnt.disp, n ∈ d.left → bitsOf (d.w.getD 0 0) 0 4 ≠ 1 ∨ bitsOf (d.w.getD 0 0) 4 4 ≠ slot))
    ∧ (let l : LntLoad := { unit := 63, slot := 15, addr := 0x1000, count := 1, chan := 60 }
    let s : State := let t := (wUp.wrBytes 0x1000 (leBytes 8 0x3F)).modChan 60 (fun c => { c with current := some (0x800, wPkt []), busy := true }); { t with lnt := { t.lnt with loads := [l] } }
    let n : Nat := 63
    let slot : Nat := 15
    let z : State := (s.ccRead 0x1000 8).1
    n < 64 ∧ 8 ≤ slot ∧ slot < 16 ∧ s.lnt.loads = [l] ∧ l.unit = n ∧ l.slot = slot ∧ l.count ≤ 64 ∧ s.ccRead l.addr (8 * l.count) = (z, true) ∧ z.lnt = s.lnt ∧ z.firstPoison l.addr (8 * l.count) = none ∧ lopsFail [] (z.rdWords l.addr l.count) 0 = none ∧ z.undef = []) := by
  refine ⟨?_, ?_⟩
  · dsimp only; unfold State.accepts; decide +kernel
  · dsimp only; decide +kernel

/-- Clauses of LanternUnitsScanMergeAndLoad. -/
theorem witness_LanternUnitsScanMergeAndLoad_2 :
    (let l : LntLoad := { unit := 63, slot := 15, addr := 0x1000, count := 1, chan := 60 }
    let s : State := let t := (wUp.wrBytes 0x1000 (leBytes 8 0xFF)).modChan 60 (fun c => { c with current := some (0x800, wPkt []), busy := true }); { t with lnt := { t.lnt with loads := [l] } }
    let n : Nat := 63
    let slot : Nat := 15
    let z : State := (s.ccRead 0x1000 8).1
    let i : Nat := 0
    n < 64 ∧ s.lnt.loads = [l] ∧ l.unit = n ∧ l.slot = slot ∧ s.ccRead l.addr (8 * l.count) = (z, true) ∧ z.lnt = s.lnt ∧ z.firstPoison l.addr (8 * l.count) = none ∧ lopsFail [] (z.rdWords l.addr l.count) 0 = some i)
    ∧ (let r : LntReq := wLr 1 4 0 0 0 0 1 0 4 0 0
    let d : LntDisp := { q := 5, n := 9, w := r.w.set 7 5, owner := { ctx := 1, entry := none }, left := [0, 2], checked := true }
    let r : LntReq := LntReq.fresh d.w d.owner 0
    let s : State := let t := wLnt []; { t with lnt := { t.lnt with disp := [d] } }
    let q : Nat := 5
    let i : Nat := 9
    let n : Nat := 0
    let m : Nat := 2
    s.lnt.disp = [d] ∧ d.q = q ∧ d.n = i ∧ d.left = [n, m] ∧ n < m ∧ m < 64 ∧ r = LntReq.fresh d.w d.owner 0 ∧ r.units = [n, m] ∧ (d.checked = true ∨ s.lntAccepted d.owner.ctx r = true) ∧ (r.kind = 1 → s.scanWaits d.owner.ctx r = false) ∧ s.board.unitRst = [] ∧ s.xlt.migrates = [] ∧ s.board.towerRst = [] ∧ (s.lunit n).queue.length < 8) := by
  refine ⟨?_, ?_⟩
  · dsimp only; decide +kernel
  · dsimp only; decide +kernel

/-- Clauses of LanternUnitsScanMergeAndLoad. -/
theorem witness_LanternUnitsScanMergeAndLoad_3 :
    (let r : LntReq := wLr 1 1 1 4 4 4 1 1 1 0 32
    let rest : List LntReq := []
    let s : State := wLnt [r]
    let n : Nat := wUnit
    n < 64 ∧ (s.lunit n).queue = r :: rest ∧ r.started = false ∧ s.lntRuns n = true ∧ r.kind = 1 ∧ s.undef = [] ∧ s.err.armed = [] ∧ s.poisoned (lntBase n + r.qoff) (r.nq * r.d * 2) = false ∧ progKinds (s.progOf n r) = 1 ∧ s.comp.badWords = [])
    ∧ (let r : LntReq := wLr 2 0 0 0 0 0 1 0 4 0 0
    let rest : List LntReq := []
    let s : State := wLnt [r]
    let n : Nat := wUnit
    n < 64 ∧ (s.lunit n).queue = r :: rest ∧ r.started = false ∧ s.lntRuns n = true ∧ r.kind = 2) := by
  refine ⟨?_, ?_⟩
  · dsimp only; decide +kernel
  · dsimp only; decide +kernel

/-- Clauses of LanternUnitsScanMergeAndLoad. -/
theorem witness_LanternUnitsScanMergeAndLoad_4 :
    (let r : LntReq := { wLr 1 4 0 0 0 0 1 0 4 0 0 with started := true }
    let n : Nat := (wUnit + 1) % 16
    let rest : List LntReq := []
    let e : XEntry := { ctx := 1, va := 0, span := 21, pa := 0, leaf := 0x1C, kept := false, evict := false }
    let s : State := ((wObj wUp 2).setXcache (.base (lntTower n)) [e]).setLunit n { queue := [r], loaded := [], hot := false }
    let z : State := (s.translate (.base (lntTower n)) 1 0 .lantern).1
    let pa : Nat := 0
    let p : Place := (wUp.place 0).getD (.stack 0 0 0 0)
    n < 64 ∧ (s.lunit n).queue = r :: rest ∧ r.started = true ∧ s.lntRuns n = true ∧ r.kind = 1 ∧ r.stop = none ∧ r.next + 1 = r.nrec ∧ s.translate (.base (lntTower n)) r.owner.ctx ((r.base + r.next * r.rb) % 2 ^ 57) .lantern = (z, .ok e) ∧ z.lnt = s.lnt ∧ pa = e.target ((r.base + r.next * r.rb) % 2 ^ 57) ∧ (windowOf pa).1.isTier = true ∧ z.rangeIn pa r.rb = true ∧ r.rb ≤ 128 ∧ z.place pa = some p ∧ p.unit ≠ n)
    ∧ (let r : LntReq := { wLr 1 4 0 0 0 0 1 0 4 0 0 with started := true }
    let n : Nat := wUnit
    let rest : List LntReq := []
    let e : XEntry := { ctx := 1, va := 0, span := 21, pa := 0, leaf := 0x1C, kept := false, evict := false }
    let s : State := wLnt [r]
    let z : State := (s.translate (.base (lntTower n)) 1 0 .lantern).1
    let pa : Nat := 0
    let p : Place := (wUp.place 0).getD (.stack 0 0 0 0)
    let x : Nat := ldxValue (z.behindBytes pa r.rb) { op := 2, off := bitsOf (r.p 2) 0 9, mod := bitsOf (r.p 2) 16 3 }
    let v : Int := (xInt x - sext 32 (r.p 0)) / (2 : Int) ^ bitsOf (r.p 2) 24 3
    n < 64 ∧ (s.lunit n).queue = r :: rest ∧ r.started = true ∧ s.lntRuns n = true ∧ r.kind = 1 ∧ r.stop = none ∧ r.next < r.nrec ∧ r.prog = 4 ∧ s.translate (.base (lntTower n)) r.owner.ctx ((r.base + r.next * r.rb) % 2 ^ 57) .lantern = (z, .ok e) ∧ z.lnt = s.lnt ∧ pa = e.target ((r.base + r.next * r.rb) % 2 ^ 57) ∧ (windowOf pa).1.isTier = true ∧ z.rangeIn pa r.rb = true ∧ r.rb ≤ 128 ∧ z.place pa = some p ∧ p.unit = n ∧ (sectorsOf pa r.rb).any z.behindPoison = false ∧ z.undef = [] ∧ z.comp.badWords = [] ∧ z.err.armed = [] ∧ v = (xInt x - sext 32 (r.p 0)) / (2 : Int) ^ bitsOf (r.p 2) 24 3 ∧ x = ldxValue (z.behindBytes pa r.rb) { op := 2, off := bitsOf (r.p 2) 0 9, mod := bitsOf (r.p 2) 16 3 }) := by
  refine ⟨?_, ?_⟩
  · dsimp only; decide +kernel
  · dsimp only; decide +kernel

/-- Clauses of LanternUnitsScanMergeAndLoad. -/
theorem witness_LanternUnitsScanMergeAndLoad_5 :
    (let r : LntReq := { wLr 1 4 0 0 0 0 1 0 4 0 0 with started := true, next := 1 }
    let n : Nat := wUnit
    let rest : List LntReq := []
    let s : State := wLnt [r]
    let xx := s.writeVa (.base (lntTower n)) 1 0x10000 ((partialHeader r.prog r.nq (progKinds (s.progOf n r)) (r.flags &&& 2) r.d r.dv r.k r.num n 0 r.scanned r.emitted 0 r.dropped 1 ++ s.rdBytes (lntBase n + r.soff) (r.layout (s.progOf n r)).2.2.2).map (fun b => (b, false))) (.lantern n) r.owner
    let z : State := xx.1
    let bs : List (Byte × Bool) := match xx.2 with | .ok bs => bs | _ => []
    n < 64 ∧ (s.lunit n).queue = r :: rest ∧ r.started = true ∧ s.lntRuns n = true ∧ r.kind = 1 ∧ r.stop = none ∧ r.nrec ≤ r.next ∧ r.owner.entry = none ∧ r.spoilt = false ∧ bit r.flags 3 = false ∧ r.poisoned = 0 ∧ s.comp.badWords = [] ∧ s.err.armed = [] ∧ s.poisoned (lntBase n + r.soff) (r.layout (s.progOf n r)).2.2.2 = false ∧ z.lnt = s.lnt ∧ s.writeVa (.base (lntTower n)) r.owner.ctx ((r.result + r.member * r.rstride) % 2 ^ 57) ((partialHeader r.prog r.nq (progKinds (s.progOf n r)) (r.flags &&& 2) r.d r.dv r.k r.num n 0 r.scanned r.emitted 0 r.dropped 1 ++ s.rdBytes (lntBase n + r.soff) (r.layout (s.progOf n r)).2.2.2).map (fun b => (b, false))) (.lantern n) r.owner = (z, .ok bs))
    ∧ (let r : LntReq := { wLr 2 0 0 0 0 0 1 0 4 0 0 with started := true }
    let n : Nat := wUnit
    let rest : List LntReq := []
    let s : State := ((wLnt [r]).wrBytes 0x20000 wPartial).wrBytes 0x21000 wPartial
    let xx := match s.readPartials n r (List.range (bitsOf (r.word 0) 56 8)) with | .got y l => (y, l) | _ => (s, [])
    let y : State := xx.1
    let l : List (Marked × Marked) := xx.2
    let m : Marked := ((l.drop 1).foldl (fun (a : Option Marked) e => a.bind (fun x => mergeImages (shapeOf (l.headD ([], [])).1) x e.2)) (some (l.headD ([], [])).2)).getD []
    let xy := y.writeVa (.base (lntTower n)) r.owner.ctx r.result (mergedHeader (l.map (·.1)) false 0 ++ m) (.lantern n) r.owner
    let z : State := xy.1
    let bs : List (Byte × Bool) := match xy.2 with | .ok bs => bs | _ => []
    n < 64 ∧ (s.lunit n).queue = r :: rest ∧ r.started = true ∧ s.lntRuns n = true ∧ r.kind = 2 ∧ r.owner.entry = none ∧ bit (r.p 0) 7 = false ∧ s.readPartials n r (List.range (bitsOf (r.word 0) 56 8)) = .got y l ∧ y.lnt = s.lnt ∧ z.lnt = s.lnt ∧ (l.map (·.1)).all (headerFits (l.headD ([], [])).1) = true ∧ 64 + (shapeOf (l.headD ([], [])).1).size ≤ r.rstride ∧ (l.drop 1).foldl (fun (a : Option Marked) e => a.bind (fun x => mergeImages (shapeOf (l.headD ([], [])).1) x e.2)) (some (l.headD ([], [])).2) = some m ∧ y.writeVa (.base (lntTower n)) r.owner.ctx r.result (mergedHeader (l.map (·.1)) false 0 ++ m) (.lantern n) r.owner = (z, .ok bs)) := by
  refine ⟨?_, ?_⟩
  · dsimp only; decide +kernel
  · dsimp only; decide +kernel

/-- Clauses of LanternUnitsScanMergeAndLoad. -/
theorem witness_LanternUnitsScanMergeAndLoad_6 :
    (let r : LntReq := { wLr 2 0 0 0 0 0 1 0 4 0 0 with started := true }
    let n : Nat := wUnit
    let rest : List LntReq := []
    let s : State := ((wLnt [r]).wrBytes 0x20000 wPartial).wrBytes 0x21000 (wPartial.set 0 0#8)
    let xx := match s.readPartials n r (List.range (bitsOf (r.word 0) 56 8)) with | .got y l => (y, l) | _ => (s, [])
    let y : State := xx.1
    let l : List (Marked × Marked) := xx.2
    let out : Marked := mergedSoFar (l.takeWhile (fun e => headerFits (l.headD ([], [])).1 e.1))
    let z : State := (y.writeVa (.base (lntTower n)) r.owner.ctx r.result out (.lantern n) r.owner).1
    let bs : List (Byte × Bool) := match (y.writeVa (.base (lntTower n)) r.owner.ctx r.result out (.lantern n) r.owner).2 with | .ok bs => bs | _ => []
    n < 64 ∧ (s.lunit n).queue = r :: rest ∧ r.started = true ∧ s.lntRuns n = true ∧ r.kind = 2 ∧ r.owner.entry = none ∧ s.readPartials n r (List.range (bitsOf (r.word 0) 56 8)) = .got y l ∧ y.lnt = s.lnt ∧ 64 + (shapeOf (l.headD ([], [])).1).size ≤ r.rstride ∧ (if (l.map (·.1)).all (headerFits (l.headD ([], [])).1) then (l.drop 1).foldl (fun (a : Option Marked) e => a.bind (fun x => mergeImages (shapeOf (l.headD ([], [])).1) x e.2)) (some (l.headD ([], [])).2) = none ∧ out = mergedSoFar l else out = mergedSoFar (l.takeWhile (fun e => headerFits (l.headD ([], [])).1 e.1))) ∧ out ≠ [] ∧ y.writeVa (.base (lntTower n)) r.owner.ctx r.result out (.lantern n) r.owner = (z, .ok bs) ∧ z.lnt = s.lnt ∧ z.err.recov = [])
    ∧ (let r0 := wLr 2 0 0 0 0 0 1 0 4 0 0
    let r : LntReq := { r0 with started := true, w := r0.w.set 4 (64 + 16 * 2 ^ 32 + 32 * 2 ^ 44) }
    let n : Nat := wUnit
    let rest : List LntReq := []
    let s : State := ((wLnt [r]).wrBytes 0x20000 wPartial).wrBytes 0x20040 wPartial
    let xx := match s.readPartials n r (List.range (bitsOf (r.word 0) 56 8)) with | .got y l => (y, l) | _ => (s, [])
    let y : State := xx.1
    let l : List (Marked × Marked) := xx.2
    n < 64 ∧ (s.lunit n).queue = r :: rest ∧ r.started = true ∧ s.lntRuns n = true ∧ r.kind = 2 ∧ r.owner.entry = none ∧ y.lnt = s.lnt ∧ y.err.recov = [] ∧ s.readPartials n r (List.range (bitsOf (r.word 0) 56 8)) = .got y l ∧ r.rstride < 64 + (shapeOf (l.headD ([], [])).1).size) := by
  refine ⟨?_, ?_⟩
  · dsimp only; decide +kernel
  · dsimp only; decide +kernel

/-- Clauses of LanternUnitsScanMergeAndLoad. -/
theorem witness_LanternUnitsScanMergeAndLoad_7 :
    (let ch : Nat := 60
    let s : State := wLnt [wLr 1 4 0 0 0 0 1 0 4 0 0]
    let n : Nat := wUnit
    let p : Packet := wPkt [1, 2 ^ wUnit, 0]
    s.accepts ch 0x801 p ∧ p.length = 40 ∧ n < 64 ∧ pword p 0 < 256 ∧ pword p 1 = 2 ^ n ∧ pword p 2 = 0 ∧ (∀ r ∈ (s.lunit n).queue, r.owner.entry = none) ∧ s.lnt.disp = []) := by
  dsimp only; unfold State.accepts; decide +kernel

/-- Clauses of WalksInstallRunsAndContextsOpen. -/
theorem witness_WalksInstallRunsAndContextsOpen :
    (let ch : Nat := 60
    let s : State := wUp
    let c : Nat := 255
    let n : Nat := 18
    let root : Nat := 2 ^ 21
    let p : Packet := wPkt [255 + 18 * 2 ^ 8, 2 ^ 21]
    s.accepts ch 0x200 p ∧ p.length = 32 ∧ c < 256 ∧ 9 ≤ n ∧ n ≤ 18 ∧ pword p 0 = c + n * 2 ^ 8 ∧ pword p 1 = root ∧ root < 2 ^ 52 ∧ root % (8 * 2 ^ n) = 0 ∧ s.tierRange root (8 * 2 ^ n) = true ∧ s.ctxOpen c = false ∧ s.eclipse = false)
    ∧ (let ch : Nat := 60
    let s : State := wTab
    let c : Nat := 1
    let p : Packet := wPkt [1]
    s.accepts ch 0x201 p ∧ p.length = 24 ∧ c < 256 ∧ pword p 0 = c ∧ s.ctxOpen c = true ∧ s.ctxInUse c = false)
    ∧ (let w : Walk := { wWalk 1 0x102000 with tower := 1 }
    let s : State := wXlt [w]
    let k : Nat := 1
    let key : Nat := (s.homeKey w.addr).getD 0
    let v : Nat := s.rd64 w.addr
    let l : Nat := 0
    k < 4 ∧ s.xlt.walks = [w] ∧ w.tower = k ∧ s.homeKey w.addr = some key ∧ w.addr % 8 = 0 ∧ (s.slice key).dir = [] ∧ (s.slice key).recalls = [] ∧ (s.slice key).slots = [] ∧ s.err.armed = [] ∧ s.err.downCh = [] ∧ s.poisoned w.addr 8 = false ∧ s.l2.weak = [] ∧ s.missRoom key w.addr 8 = true ∧ s.pathOpen (.tower k) (s.owningDie w.addr) w.addr = true ∧ v = s.rd64 w.addr ∧ bit v 0 = true ∧ bit v 1 = false ∧ bitsOf v 2 10 = 0 ∧ bitsOf v 52 12 = 0 ∧ w.level = l + 1 ∧ l < 3 ∧ s.tierRange (bitsOf v 12 40 * 4096) 4096 = true)
    ∧ (let w : Walk := { wWalk 0 0x103028 with tower := 1, cache := .cluster 4 }
    let s : State := wXlt [w]
    let k : Nat := 1
    let key : Nat := (s.homeKey w.addr).getD 0
    let v : Nat := s.rd64 w.addr
    let sh : Nat := 12
    let span : Nat := 12
    k < 4 ∧ s.xlt.walks = [w] ∧ w.tower = k ∧ w.cache.tower = k ∧ s.homeKey w.addr = some key ∧ w.addr % 8 = 0 ∧ (s.slice key).dir = [] ∧ (s.slice key).recalls = [] ∧ (s.slice key).slots = [] ∧ s.err.armed = [] ∧ s.err.downCh = [] ∧ s.poisoned w.addr 8 = false ∧ s.l2.weak = [] ∧ s.missRoom key w.addr 8 = true ∧ s.pathOpen (.tower k) (s.owningDie w.addr) w.addr = true ∧ w.joined = [] ∧ v = s.rd64 w.addr ∧ bit v 0 = true ∧ bit v 1 = true ∧ bitsOf v 56 8 = 0 ∧ w.level < 3 ∧ bitsOf v 52 4 ≤ 9 ∧ sh = 12 + 9 * w.level ∧ span = sh + bitsOf v 52 4 ∧ bitsOf v 12 40 * 4096 % 2 ^ sh = 0 ∧ bitsOf v 12 40 * 4096 % 2 ^ span = w.va / 2 ^ sh * 2 ^ sh % 2 ^ span ∧ permits v w.acc = true) := by
  refine ⟨?_, ?_, ?_, ?_⟩
  · dsimp only; unfold State.accepts; decide +kernel
  · dsimp only; unfold State.accepts; decide +kernel
  · dsimp only; decide +kernel
  · dsimp only; decide +kernel

/-- Clauses of WalksInstallRunsAndContextsOpen. -/
theorem witness_WalksInstallRunsAndContextsOpen_2 :
    (let w : Walk := { wWalk 0 0x103030 with tower := 1 }
    let s : State := wXlt [w]
    let k : Nat := 1
    let key : Nat := (s.homeKey w.addr).getD 0
    let v : Nat := s.rd64 w.addr
    k < 4 ∧ s.xlt.walks = [w] ∧ w.tower = k ∧ s.homeKey w.addr = some key ∧ w.addr % 8 = 0 ∧ (s.slice key).dir = [] ∧ (s.slice key).recalls = [] ∧ (s.slice key).slots = [] ∧ s.err.armed = [] ∧ s.err.downCh = [] ∧ s.poisoned w.addr 8 = false ∧ s.l2.weak = [] ∧ s.missRoom key w.addr 8 = true ∧ s.pathOpen (.tower k) (s.owningDie w.addr) w.addr = true ∧ w.joined = [] ∧ v = s.rd64 w.addr ∧ bit v 0 = false)
    ∧ (let e : XEntry := wEnt
    let s : State := wThr 0x13 (wGroup 1 2 1)
    let c : XCache := .cluster 0
    let ctx : Nat := 1
    let va : Nat := 2 ^ 22 - 1
    let acc : AccessKind := .write
    (s.xcache c).find? (·.covers ctx va) = some e ∧ permits e.leaf acc = true ∧ (acc.writes = true → s.migrating ctx va 1 = false)) := by
  refine ⟨?_, ?_⟩
  · dsimp only; decide +kernel
  · dsimp only; decide +kernel

/-- Clauses of EpochsMigrationsAndAdvice. -/
theorem witness_EpochsMigrationsAndAdvice :
    (let ch : Nat := 60
    let s : State := wTab
    let all : Bool := false
    let c : Nat := 1
    let va : Nat := 2 ^ 57 - 4096
    let len : Nat := 4096
    let e : Nat := 1
    let p : Packet := wPkt [1, 2 ^ 57 - 4096, 4096]
    s.accepts ch 0x300 p ∧ p.length = 40 ∧ c < 256 ∧ pword p 0 = c + 256 * b2n all ∧ pword p 1 = va ∧ pword p 2 = len ∧ (if all then va = 0 ∧ len = 0 else va % 4096 = 0 ∧ len % 4096 = 0 ∧ 4096 ≤ len ∧ va + len ≤ 2 ^ 57) ∧ s.ctxOpen c = true ∧ s.epochsOpen c < 16 ∧ e = (s.fld (A.xltEpoch c) F.xltEpoch_ISSUED + 1) % 2 ^ 32)
    ∧ (let ch : Nat := 60
    let s : State := { wTab with xlt := { wTab.xlt with epochs := (List.range 16).map (fun i => { wEpoch with e := i + 1 }) } }
    let c : Nat := 1
    let p : Packet := wPkt [1 + 256, 0, 0]
    s.accepts ch 0x300 p ∧ p.length = 40 ∧ c < 256 ∧ pword p 0 = c + 256 ∧ pword p 1 = 0 ∧ pword p 2 = 0 ∧ s.ctxOpen c = true ∧ 16 ≤ s.epochsOpen c)
    ∧ (let x : Epoch := wEpoch
    let s : State := { wTab with xlt := { wTab.xlt with epochs := [x] } }
    x.ctx < 256 ∧ s.xlt.epochs = [x] ∧ s.epochReady x = true ∧ x.towers = 0 ∧ x.done = none ∧ x.chan = none)
    ∧ (let ch : Nat := 60
    let x : Epoch := { wEpoch with chan := some 60, tail := [4096] }
    let s : State := ({ wTab with xlt := { wTab.xlt with epochs := [x] } }).modChan 60 (fun c => { c with current := some (0x302, wPkt []), busy := true })
    x.ctx < 256 ∧ s.xlt.epochs = [x] ∧ s.epochReady x = true ∧ x.towers = 0 ∧ x.done = none ∧ x.chan = some ch) := by
  refine ⟨?_, ?_, ?_, ?_⟩
  · dsimp only; unfold State.accepts; decide +kernel
  · dsimp only; unfold State.accepts; decide +kernel
  · dsimp only; decide +kernel
  · dsimp only; decide +kernel

/-- Clauses of EpochsMigrationsAndAdvice. -/
theorem witness_EpochsMigrationsAndAdvice_2 :
    (let ch : Nat := 60
    let s : State := wTab
    let c : Nat := 1
    let va : Nat := 0x5000
    let len : Nat := 4096
    let dest : Nat := 0x300000
    let p : Packet := wPkt [1 + 2 ^ 8, 0x5000, 4096, 0x300000]
    let pages : List (Nat × Nat × Nat × Nat) := (wTab.rangePages 1 0x5000 0x6000 0x5000 1).1
    s.accepts ch 0x302 p ∧ p.length = 48 ∧ c < 256 ∧ pword p 0 = c + 2 ^ 8 ∧ pword p 1 = va ∧ pword p 2 = len ∧ pword p 3 = dest ∧ va < 2 ^ 57 ∧ len < 2 ^ 58 ∧ va % 4096 = 0 ∧ len % 4096 = 0 ∧ dest < 2 ^ 52 ∧ s.ctxOpen c = true ∧ va + len ≤ 2 ^ (39 + F.xltRoot_ROOT_LOG2.get (s.rd (A.xltRoot c))) ∧ s.rangePages c va (va + len) va (len / 4096) = (pages, none) ∧ s.destCheck va len dest pages = none ∧ s.xlt.advice = [] ∧ s.moveBusy c va len = false ∧ s.xlt.migrates.length < 4 ∧ s.l2.slices = [] ∧ s.err.downCh = [])
    ∧ (let m : Migrate := { mode := 1, ctx := 1, va := 0x5000, len := 4096, dest := 0x300000, remote := 0, prio := 0, moved := 0, doneObj := none, chan := 60, advise := none }
    let s : State := ({ wTab with xlt := { wTab.xlt with migrates := [m] } }.wrBytes 0x200ff8 [1, 2, 3, 4, 5, 6, 7, 8]).modChan 60 (fun c => { c with current := some (0x302, wPkt []), busy := true })
    let src : Nat := 0x200000
    let addr : Nat := 0x103028
    let ent : Nat := 0x1F + 0x200000
    let e : Nat := 1
    s.xlt.migrates = [m] ∧ m.mode = 1 ∧ m.len = 4096 ∧ m.va % 4096 = 0 ∧ m.dest % 4096 = 0 ∧ m.dest < 2 ^ 52 ∧ m.doneObj = none ∧ m.advise = none ∧ s.eclipse = false ∧ s.xlt.epochs = [] ∧ s.inFlight { (default : Epoch) with ctx := m.ctx, va := m.va, len := m.len } = false ∧ (∀ w ∈ s.xlt.walks, w.ctx ≠ m.ctx) ∧ s.l2.weak = [] ∧ s.rangePages m.ctx m.va (m.va + 4096) m.va 1 = ([(m.va, 0, addr, ent)], none) ∧ ent < 2 ^ 64 ∧ src = bitsOf ent 12 40 * 4096 ∧ s.tierRange src 4096 = true ∧ s.tierRange m.dest 4096 = true ∧ s.tierRange addr 8 = true ∧ addr % 8 = 0 ∧ (addr + 8 ≤ m.dest ∨ m.dest + 4096 ≤ addr) ∧ (addr + 8 ≤ src ∨ src + 4096 ≤ addr) ∧ (src + 4096 ≤ m.dest ∨ m.dest + 4096 ≤ src) ∧ s.l2.slices = [] ∧ s.err.armed = [] ∧ s.err.downCh = [] ∧ s.undef = [] ∧ m.ctx < 256 ∧ e = (s.fld (A.xltEpoch m.ctx) F.xltEpoch_ISSUED + 1) % 2 ^ 32)
    ∧ (let ch : Nat := 60
    let s : State := wTab
    let c : Nat := 1
    let win : Nat := 4
    let va : Nat := 0x5000
    let len : Nat := 4096
    let towers : Nat := 15
    let p : Packet := wPkt [1 + 0 * 2 ^ 8 + 15 * 2 ^ 12 + 4 * 2 ^ 16, 0x5000, 4096, 0]
    s.mayAdvise ch c 0 win va len towers p)
    ∧ (let ch : Nat := 60
    let s : State := wTab
    let c : Nat := 1
    let win : Nat := 4
    let va : Nat := 0x5000
    let len : Nat := 4096
    let towers : Nat := 15
    let p : Packet := wPkt [1 + 1 * 2 ^ 8 + 15 * 2 ^ 12 + 4 * 2 ^ 16, 0x5000, 4096, 0]
    s.mayAdvise ch c 1 win va len towers p) := by
  refine ⟨?_, ?_, ?_, ?_⟩
  · dsimp only; unfold State.accepts; decide +kernel
  · dsimp only; decide +kernel
  · dsimp only; exact (by unfold State.mayAdvise State.accepts; decide +kernel)
  · dsimp only; exact (by unfold State.mayAdvise State.accepts; decide +kernel)

/-- Clauses of EpochsMigrationsAndAdvice. -/
theorem witness_EpochsMigrationsAndAdvice_3 :
    (let ch : Nat := 60
    let s : State := wTab
    let c : Nat := 1
    let win : Nat := 4
    let va : Nat := 0x5000
    let len : Nat := 4096
    let towers : Nat := 15
    let p : Packet := wPkt [1 + 2 * 2 ^ 8 + 15 * 2 ^ 12 + 4 * 2 ^ 16, 0x5000, 4096, 0]
    s.mayAdvise ch c 2 win va len towers p)
    ∧ (let ch : Nat := 60
    let s : State := wTab
    let c : Nat := 1
    let win : Nat := 4
    let va : Nat := 0x5000
    let len : Nat := 4096
    let towers : Nat := 15
    let p : Packet := wPkt [1 + 3 * 2 ^ 8 + 15 * 2 ^ 12 + 4 * 2 ^ 16, 0x5000, 4096, 0]
    s.mayAdvise ch c 3 win va len towers p)
    ∧ (let ch : Nat := 60
    let s : State := wTab
    let c : Nat := 1
    let win : Nat := 4
    let va : Nat := 0x5000
    let len : Nat := 4096
    let towers : Nat := 15
    let p : Packet := wPkt [1 + 4 * 2 ^ 8 + 15 * 2 ^ 12 + 4 * 2 ^ 16, 0x5000, 4096, 0]
    s.mayAdvise ch c 4 win va len towers p) := by
  refine ⟨?_, ?_, ?_⟩
  · dsimp only; exact (by unfold State.mayAdvise State.accepts; decide +kernel)
  · dsimp only; exact (by unfold State.mayAdvise State.accepts; decide +kernel)
  · dsimp only; exact (by unfold State.mayAdvise State.accepts; decide +kernel)

/-- Clauses of EpochStatusAnswersByItsPlace. -/
theorem witness_EpochStatusAnswersByItsPlace :
    (let ch : Nat := 60
    let s : State := wTab.setFlds (A.xltEpoch 1) [(F.xltEpoch_ISSUED, 3), (F.xltEpoch_DONE, 2 ^ 32 - 1)]
    let c : Nat := 1
    let e : Nat := 4
    let issued : Nat := 3
    let done : Nat := 2 ^ 32 - 1
    let p : Packet := wPkt [1, 4]
    s.accepts ch 0x301 p ∧ p.length = 32 ∧ c < 256 ∧ e < 2 ^ 32 ∧ pword p 0 = c ∧ pword p 1 = e ∧ s.ctxOpen c = true ∧ issued = s.fld (A.xltEpoch c) F.xltEpoch_ISSUED ∧ done = s.fld (A.xltEpoch c) F.xltEpoch_DONE)
    ∧ (let ch : Nat := 60
    let s : State := wTab
    let p : Packet := wPkt [1]
    s.accepts ch 0x301 p ∧ p.length ≠ 32)
    ∧ (let ch : Nat := 60
    let s : State := wTab
    let c : Nat := 2
    let e : Nat := 4
    let p : Packet := wPkt [2, 4]
    s.accepts ch 0x301 p ∧ p.length = 32 ∧ c < 256 ∧ e < 2 ^ 32 ∧ pword p 0 = c ∧ pword p 1 = e ∧ s.ctxOpen c = false) := by
  refine ⟨?_, ?_, ?_⟩
  · dsimp only; unfold State.accepts; decide +kernel
  · dsimp only; unfold State.accepts; decide +kernel
  · dsimp only; unfold State.accepts; decide +kernel

/-- Clauses of ObjectsTakeOperationsAndAnswerWaits. -/
theorem witness_ObjectsTakeOperationsAndAnswerWaits :
    (let i : Nat := 70
    let c : Nat := 1
    let k : Nat := 0
    let o : SynOp := wOp 1 (2 ^ 32 - 1)
    let w : Wait := wWait (.beam 0) 0 6
    let s : State := (wSyn 2 [o] [w]).setFld (objReg1 70) F.synObj1_VALUE 7
    i < 65536 ∧ k = i / 16384 ∧ s.syn.flying = [o] ∧ o.op = 1 ∧ o.obj = i ∧ o.ctx = some c ∧ o.owner ≠ none ∧ s.reachesObj o.who i = true ∧ s.objBoundTo i c = true ∧ (s.objType i = 1 ∨ s.objType i = 2) ∧ s.board.towerRst = [] ∧ s.syn.notifies = [] ∧ s.syn.waits = [w])
    ∧ (let i : Nat := 70
    let c : Nat := 1
    let k : Nat := 0
    let o : SynOp := wOp 2 0
    let s : State := wSyn 2 [o] []
    i < 65536 ∧ k = i / 16384 ∧ s.syn.flying = [o] ∧ o.op = 2 ∧ o.obj = i ∧ o.ctx = some c ∧ o.owner ≠ none ∧ s.reachesObj o.who i = true ∧ s.objBoundTo i c = true ∧ s.objType i = 2 ∧ o.value = 0 ∧ s.board.towerRst = [] ∧ s.syn.notifies = [] ∧ s.syn.waits = [])
    ∧ (let i : Nat := 70
    let c : Nat := 1
    let k : Nat := 0
    let o : SynOp := wOp 3 4
    let s : State := (wSyn 3 [o] []).setFld (objReg0 70) F.synObj0_COUNT 5 |>.setFld (objReg1 70) F.synObj1_ARRIVED 3
    i < 65536 ∧ k = i / 16384 ∧ s.syn.flying = [o] ∧ o.op = 3 ∧ o.obj = i ∧ o.ctx = some c ∧ o.owner ≠ none ∧ s.reachesObj o.who i = true ∧ s.objBoundTo i c = true ∧ s.objType i = 3 ∧ 1 ≤ o.value ∧ o.value ≤ s.fld (objReg0 i) F.synObj0_COUNT ∧ s.fld (objReg1 i) F.synObj1_ARRIVED < s.fld (objReg0 i) F.synObj0_COUNT ∧ s.board.towerRst = [] ∧ s.syn.notifies = [] ∧ s.syn.waits = [])
    ∧ (let i : Nat := 70
    let o : SynOp := { wOp 1 4 with who := .cc }
    let s : State := wSyn 3 [o] []
    let r : Res := exec (.synObjAdd 0) s
    i < 65536 ∧ s.syn.flying = [o] ∧ o.obj = i ∧ o.who = .cc ∧ s.board.towerRst = [] ∧ s.reachesObj .cc i = true ∧ ((∃ c, o.ctx = some c ∧ s.objBoundTo i c = false) ∨ s.opAccepted i o.op o.value = false) ∧ (o.op = 1 ∧ r = exec (.synObjAdd 0) s ∨ o.op = 2 ∧ r = exec (.synObjSet 0) s ∨ o.op = 3 ∧ r = exec (.synObjArrive 0) s)) := by
  refine ⟨?_, ?_, ?_, ?_⟩
  · dsimp only; decide +kernel
  · dsimp only; decide +kernel
  · dsimp only; decide +kernel
  · dsimp only; exact ⟨(by decide +kernel), (by decide +kernel), (by decide +kernel), (by decide +kernel), (by decide +kernel), (by decide +kernel), Or.inr (by decide +kernel), Or.inl ⟨rfl, rfl⟩⟩

/-- Clauses of ObjectsTakeOperationsAndAnswerWaits. -/
theorem witness_ObjectsTakeOperationsAndAnswerWaits_2 :
    (let o : SynOp := wOp 1 4
    let s : State := let t := wSyn 2 [o] []; { t with board := { t.board with towerRst := [(0, none)] } }
    let r : Res := exec (.synObjAdd 0) s
    s.syn.flying = [o] ∧ s.board.towerRst.any (fun e => e.1 = objTower o.obj) = true ∧ s.reachesObj o.who o.obj = true ∧ (o.op = 1 ∧ r = exec (.synObjAdd 0) s ∨ o.op = 2 ∧ r = exec (.synObjSet 0) s ∨ o.op = 3 ∧ r = exec (.synObjArrive 0) s))
    ∧ (let w : Wait := wWait (.beam 0) 1 0
    let s : State := wSyn 2 [] [w]
    let k : Nat := 0
    s.syn.waits = [w] ∧ k = objTower w.obj ∧ s.reachesObj w.who w.obj = true ∧ s.waitAccepted w.ctx w.obj w.cond = true)
    ∧ (let w : Wait := wWait (.beam 0) 3 0
    let s : State := wSyn 2 [] [w]
    let k : Nat := 0
    let b : Nat := 0
    s.syn.waits = [w] ∧ k = objTower w.obj ∧ w.who = .beam b ∧ s.reachesObj w.who w.obj = true ∧ s.waitAccepted w.ctx w.obj w.cond = false)
    ∧ (let s : State := wObj wUp 2
    let i : Nat := 70
    let off : Nat := 56
    let peer : Bool := false
    i < 65536 ∧ off < 64 ∧ off % 8 = 0 ∧ s.reachesObj .host i = true ∧ s.windowShut i peer = false) := by
  refine ⟨?_, ?_, ?_, ?_⟩
  · dsimp only; exact ⟨(by decide +kernel), (by decide +kernel), (by decide +kernel), Or.inl ⟨rfl, rfl⟩⟩
  · dsimp only; decide +kernel
  · dsimp only; decide +kernel
  · dsimp only; decide +kernel

/-- Clauses of ObjectsTakeOperationsAndAnswerWaits. -/
theorem witness_ObjectsTakeOperationsAndAnswerWaits_3 :
    (let s : State := wObj wUp 2
    let i : Nat := 70
    let off : Nat := 56
    let peer : Bool := true
    i < 65536 ∧ off < 64 ∧ off % 8 = 0 ∧ s.reachesObj .host i = true ∧ s.windowShut i peer = true)
    ∧ (let s : State := (wObj wUp 2).setFld (objReg1 70) F.synObj1_VALUE 7
    let i : Nat := 70
    let peer : Bool := false
    i < 65536 ∧ s.reachesObj .host i = true ∧ s.windowShut i peer = false ∧ s.board.towerRst = [] ∧ s.syn.notifies = [] ∧ s.syn.waits = [] ∧ s.liveTrace = none ∧ s.objType i < 3)
    ∧ (let s : State := wObj wUp 2
    let i : Nat := 70
    let v : Word := 0
    let peer : Bool := false
    i < 65536 ∧ s.reachesObj .host i = true ∧ s.windowShut i peer = false ∧ s.board.towerRst = [] ∧ s.syn.notifies = [] ∧ s.syn.waits = [] ∧ s.liveTrace = none ∧ s.objType i = 2 ∧ v = 0)
    ∧ (let s : State := (wObj wUp 3).setFld (objReg0 70) F.synObj0_COUNT 5
    let i : Nat := 70
    let v : Word := 4
    let peer : Bool := false
    i < 65536 ∧ s.reachesObj .host i = true ∧ s.windowShut i peer = false ∧ s.board.towerRst = [] ∧ s.syn.notifies = [] ∧ s.syn.waits = [] ∧ s.liveTrace = none ∧ s.objType i = 3 ∧ 1 ≤ v.toNat % 2 ^ 32 ∧ s.fld (objReg1 i) F.synObj1_ARRIVED + v.toNat % 2 ^ 32 < s.fld (objReg0 i) F.synObj0_COUNT) := by
  refine ⟨?_, ?_, ?_, ?_⟩
  · dsimp only; decide +kernel
  · dsimp only; decide +kernel
  · dsimp only; decide +kernel
  · dsimp only; decide +kernel

/-- Clauses of ObjectsTakeOperationsAndAnswerWaits. -/
theorem witness_ObjectsTakeOperationsAndAnswerWaits_4 :
    (let s : State := wObj wUp 2
    let i : Nat := 70
    let v : Word := 3
    let peer : Bool := false
    i < 65536 ∧ s.reachesObj .host i = true ∧ s.windowShut i peer = false ∧ s.board.towerRst = [] ∧ s.syn.notifies = [] ∧ s.syn.waits = [] ∧ s.liveTrace = none ∧ s.objType i = 2 ∧ v ≠ 0)
    ∧ (let s : State := wObj wUp 2
    let i : Nat := 70
    let c : Nat := 3
    let cond : Nat := 0
    let peer : Bool := false
    i < 65536 ∧ s.reachesObj .host i = true ∧ s.windowShut i peer = false ∧ condAccepted (s.objType i) cond = true ∧ c < 2 ^ 32 ∧ condHolds cond (s.objValue i) c = false)
    ∧ (let s : State := (wObj wUp 2).setFld (objReg0 70) F.synObj0_VECTOR 9
    let i : Nat := 70
    let c : Nat := 0
    let cond : Nat := 0
    let peer : Bool := false
    i < 65536 ∧ s.reachesObj .host i = true ∧ s.windowShut i peer = false ∧ condAccepted (s.objType i) cond = true ∧ c < 2 ^ 32 ∧ condHolds cond (s.objValue i) c = true ∧ s.fld (objReg0 i) F.synObj0_VECTOR % 1024 ≠ 0) := by
  refine ⟨?_, ?_, ?_⟩
  · dsimp only; decide +kernel
  · dsimp only; decide +kernel
  · dsimp only; decide +kernel

/-- Clauses of BindingAndQueueCommands. -/
theorem witness_BindingAndQueueCommands :
    (let ch : Nat := 60
    let s : State := wTab
    let c : Nat := 1
    let typ : Nat := 3
    let peer : Nat := 1
    let first : Nat := 65534
    let count : Nat := 2
    let init : Nat := 2 ^ 32 - 1
    let n : Nat := 65535
    let vec : Nat := 65535
    let p : Packet := wPkt [1 + 3 * 2 ^ 8 + 2 ^ 10 + 65534 * 2 ^ 16 + 2 * 2 ^ 32, 2 ^ 64 - 1]
    s.accepts ch 0x900 p ∧ p.length = 32 ∧ c < 256 ∧ 1 ≤ typ ∧ typ < 4 ∧ peer < 2 ∧ 1 ≤ count ∧ count ≤ 16384 ∧ first + count ≤ 65536 ∧ init < 2 ^ 32 ∧ n < 2 ^ 16 ∧ vec < 2 ^ 16 ∧ (typ = 3 → n ≠ 0) ∧ pword p 0 = c + typ * 2 ^ 8 + peer * 2 ^ 10 + first * 2 ^ 16 + count * 2 ^ 32 ∧ pword p 1 = init + n * 2 ^ 32 + vec * 2 ^ 48 ∧ s.ctxOpen c = true ∧ (∀ i, first ≤ i → i < first + count → s.objType i = 0) ∧ s.eclipse = false)
    ∧ (let ch : Nat := 60
    let s : State := wObj wUp 2
    let c : Nat := 1
    let first : Nat := 70
    let count : Nat := 1
    let p : Packet := wPkt [1 + 70 * 2 ^ 16 + 2 ^ 32]
    s.accepts ch 0x901 p ∧ p.length = 24 ∧ c < 256 ∧ 1 ≤ count ∧ count ≤ 16384 ∧ first + count ≤ 65536 ∧ pword p 0 = c + first * 2 ^ 16 + count * 2 ^ 32 ∧ (∀ i, first ≤ i → i < first + count → s.objBoundTo i c = true ∧ s.flag (objReg0 i) F.synObj0_DOORBELL = false ∧ s.flag (objReg0 i) F.synObj0_NOTIFY_ARMED = false) ∧ s.syn.waits = [])
    ∧ (let ch : Nat := 60
    let s : State := wObj wTab 1
    let q : Nat := 4095
    let c : Nat := 1
    let size : Nat := 16
    let ec : Nat := 3
    let bell : Nat := 70
    let p : Packet := wPkt [4095 + 1 * 2 ^ 16 + 16 * 2 ^ 24 + 3 * 2 ^ 30 + 70 * 2 ^ 32, 0x800000, 0]
    s.accepts ch 0x202 p ∧ p.length = 40 ∧ q < 4096 ∧ c < 256 ∧ 4 ≤ size ∧ size ≤ 16 ∧ ec < 4 ∧ bell < 65536 ∧ pword p 0 = q + c * 2 ^ 16 + size * 2 ^ 24 + ec * 2 ^ 30 + bell * 2 ^ 32 ∧ pword p 1 % 4096 = 0 ∧ pword p 2 = 0 ∧ s.tierRange (pword p 1) (128 * 2 ^ size) = true ∧ s.ctxOpen c = true ∧ s.isCounter bell c = true ∧ s.queue? q = none ∧ s.eclipse = false)
    ∧ (let ch : Nat := 60
    let v : Queue := wQueue 3 []
    let s : State := wQ 1 v
    let q : Nat := 9
    let p : Packet := wPkt [9]
    s.accepts ch 0x204 p ∧ p.length = 24 ∧ q < 4096 ∧ pword p 0 = q ∧ s.queue? q = some v ∧ s.qState q = 1 ∧ v.entries = []) := by
  refine ⟨?_, ?_, ?_, ?_⟩
  · dsimp only; exact ⟨(by unfold State.accepts; decide +kernel), (by decide +kernel), (by decide +kernel), (by decide +kernel), (by decide +kernel), (by decide +kernel), (by decide +kernel), (by decide +kernel), (by decide +kernel), (by decide +kernel), (by decide +kernel), (by decide +kernel), (by decide +kernel), (by decide +kernel), (by decide +kernel), (by decide +kernel), wSpan (by decide +kernel), (by decide +kernel)⟩
  · dsimp only; exact ⟨(by unfold State.accepts; decide +kernel), (by decide +kernel), (by decide +kernel), (by decide +kernel), (by decide +kernel), (by decide +kernel), (by decide +kernel), wSpan (by decide +kernel), (by decide +kernel)⟩
  · dsimp only; unfold State.accepts; decide +kernel
  · dsimp only; unfold State.accepts; decide +kernel

/-- Clauses of BindingAndQueueCommands. -/
theorem witness_BindingAndQueueCommands_2 :
    (let ch : Nat := 60
    let e : QEntry := { QEntry.fresh 2 [] false with started := true }
    let v : Queue := wQueue 3 [e]
    let s : State := wQ 1 v
    let q : Nat := 9
    let p : Packet := wPkt [9]
    s.accepts ch 0x204 p ∧ p.length = 24 ∧ q < 4096 ∧ pword p 0 = q ∧ s.queue? q = some v ∧ s.qState q = 1 ∧ v.entries = [e] ∧ e.started = true ∧ e.n < v.taken)
    ∧ (let ch : Nat := 60
    let st : QStop := { entry := 3, cause := 1, chans := [60] }
    let v : Queue := { wQueue 3 [] with stop := some st }
    let s : State := (wQ 2 v).modChan 60 (fun c => { c with current := some (0x204, wPkt [9]), busy := true })
    let q : Nat := 9
    q < 4096 ∧ s.queue? q = some v ∧ s.qState q = 2 ∧ v.stop = some st ∧ st.chans = [ch] ∧ v.entries = [] ∧ st.entry ≤ v.taken)
    ∧ (let ch : Nat := 60
    let st : QStop := { entry := 3, cause := 2, chans := [] }
    let v : Queue := { wQueue 5 [QEntry.fresh 3 [] false, QEntry.fresh 4 [] false] with stop := some st }
    let s : State := wQ 3 v
    let q : Nat := 9
    let skip : Nat := 0
    let p : Packet := wPkt [9]
    s.accepts ch 0x205 p ∧ p.length = 24 ∧ q < 4096 ∧ skip < 2 ∧ pword p 0 = q + skip * 2 ^ 16 ∧ s.queue? q = some v ∧ s.qState q = 3 ∧ v.stop = some st ∧ s.eclipse = false ∧ 2 ≤ st.cause ∧ (∀ e ∈ v.entries, st.entry ≤ e.n ∧ bit (e.word 0) 5 = false) ∧ s.syn.waits = [])
    ∧ (let ch : Nat := 60
    let tag : Nat := 5
    let v : Queue := { wQueue 5 [] with tag := some 5 }
    let s : State := wQ 3 v
    let q : Nat := 9
    let p : Packet := wPkt [9]
    s.accepts ch 0x206 p ∧ p.length = 24 ∧ q < 4096 ∧ pword p 0 = q ∧ s.queue? q = some v ∧ v.tag = some tag) := by
  refine ⟨?_, ?_, ?_, ?_⟩
  · dsimp only; unfold State.accepts; decide +kernel
  · dsimp only; decide +kernel
  · dsimp only; unfold State.accepts; decide +kernel
  · dsimp only; unfold State.accepts; decide +kernel

/-- Clauses of BindingAndQueueCommands. -/
theorem witness_BindingAndQueueCommands_3 :
    (let ch : Nat := 60
    let v : Queue := wQueue 5 []
    let s : State := wQ 3 v
    let q : Nat := 9
    let bell : Nat := 71
    let p : Packet := wPkt [9]
    s.accepts ch 0x203 p ∧ p.length = 24 ∧ q < 4096 ∧ pword p 0 = q ∧ s.queue? q = some v ∧ s.qState q = 3 ∧ bell = s.fld (qCfg q) F.synQCfg_DOORBELL ∧ s.flag (qCfg q) F.synQCfg_SLOT_EN = false ∧ s.syn.queues = [(q, v)])
    ∧ (let ch : Nat := 60
    let v := wQueue 5 []
    let s : State := wQ 1 v
    let q : Nat := 9
    let p : Packet := wPkt [9]
    s.accepts ch 0x203 p ∧ p.length = 24 ∧ q < 4096 ∧ pword p 0 = q ∧ (s.queue? q).isSome = true ∧ s.qState q ≠ 3) := by
  refine ⟨?_, ?_⟩
  · dsimp only; unfold State.accepts; decide +kernel
  · dsimp only; unfold State.accepts; decide +kernel

/-- Clauses of QueueEntriesAreTakenStartAndComplete. -/
theorem witness_QueueEntriesAreTakenStartAndComplete :
    (let v : Queue := wQueue 15 []
    let s : State := (wQ 1 v).setFld (objReg1 71) F.synObj1_VALUE 16
    let q : Nat := 9
    let n : Nat := 15
    let a : Nat := 0x40780
    let z : State := (s.ccRead 0x40780 128 (.entry 9 15)).1
    q < 4096 ∧ s.queue? q = some v ∧ s.qState q = 1 ∧ v.entries = [] ∧ v.skipTo = 0 ∧ v.skipping = false ∧ n = v.taken ∧ n < (s.objValue (s.fld (qCfg q) F.synQCfg_DOORBELL) + 2 ^ 32 - v.base) % 2 ^ 32 ∧ (s.objValue (s.fld (qCfg q) F.synQCfg_DOORBELL) + 2 ^ 32 - v.base) % 2 ^ 32 ≤ n + 2 ^ s.fld (qCfg q) F.synQCfg_SIZE_LOG2 ∧ a = v.ring + n % 2 ^ s.fld (qCfg q) F.synQCfg_SIZE_LOG2 * 128 ∧ s.board.ctxRst = [] ∧ s.ccRead a 128 (.entry q n) = (z, true) ∧ z.syn = s.syn ∧ z.qState q = 1 ∧ z.flag (qCfg q) F.synQCfg_SLOT_EN = false ∧ bit ((z.rdWords a 16).getD 0 0) 5 = false)
    ∧ (let v : Queue := wQueue 15 []
    let s : State := (wQ 1 v).setFld (objReg1 71) F.synObj1_VALUE 32
    let q : Nat := 9
    let n : Nat := 15
    q < 4096 ∧ s.queue? q = some v ∧ s.qState q = 1 ∧ v.entries = [] ∧ v.stop = none ∧ n = v.taken ∧ n + 2 ^ s.fld (qCfg q) F.synQCfg_SIZE_LOG2 < (s.objValue (s.fld (qCfg q) F.synQCfg_DOORBELL) + 2 ^ 32 - v.base) % 2 ^ 32 ∧ s.err.recov = [] ∧ s.board.ctxRst = [])
    ∧ (let w := { wWait (.entry 9 4) 0 0 with met := true }
    let e : QEntry := QEntry.fresh 4 [5 + 2 ^ 5, 0, 0, 0] false
    let v : Queue := wQueue 5 [e]
    let s : State := let t := wQ 1 v; { t with syn := { t.syn with waits := [w] } }
    let q : Nat := 9
    q < 4096 ∧ s.queue? q = some v ∧ s.qState q = 1 ∧ v.entries = [e] ∧ e.started = false ∧ s.phase = 0 ∧ e.headerOk = true ∧ e.kind = 5 ∧ e.zeroFrom 8 = true ∧ s.board.ctxRst = [] ∧ s.pwr.held = [] ∧ (bit (e.word 0) 5 = true → ∃ w, s.syn.waits = [w] ∧ w.who = .entry q e.n ∧ w.met = true ∧ w.refused = false) ∧ (bit (e.word 0) 5 = false → s.syn.waits = []))
    ∧ (let w : Wait := wWait (.entry 9 4) 0 0
    let e : QEntry := QEntry.fresh 4 [5 + 2 ^ 5, 0, 0, 0] false
    let v : Queue := wQueue 5 [e]
    let s : State := let t := wQ 1 v; { t with syn := { t.syn with waits := [w] } }
    let q : Nat := 9
    q < 4096 ∧ s.queue? q = some v ∧ s.qState q = 1 ∧ v.entries = [e] ∧ e.started = false ∧ s.phase = 0 ∧ e.headerOk = true ∧ bit (e.word 0) 5 = true ∧ s.syn.waits = [w] ∧ w.who = .entry q e.n ∧ w.met = false) := by
  refine ⟨?_, ?_, ?_, ?_⟩
  · dsimp only; decide +kernel
  · dsimp only; decide +kernel
  · dsimp only; exact ⟨(by decide +kernel), (by decide +kernel), (by decide +kernel), (by decide +kernel), (by decide +kernel), (by decide +kernel), (by decide +kernel), (by decide +kernel), (by decide +kernel), (by decide +kernel), (by decide +kernel), (fun _ => ⟨_, rfl, by decide +kernel⟩), (by decide +kernel)⟩
  · dsimp only; decide +kernel

/-- Clauses of QueueEntriesAreTakenStartAndComplete. -/
theorem witness_QueueEntriesAreTakenStartAndComplete_2 :
    (let e : QEntry := QEntry.fresh 4 wKernel false
    let v : Queue := wQueue 5 [e]
    let s : State := wQ 1 v
    let q : Nat := 9
    q < 4096 ∧ s.queue? q = some v ∧ s.qState q = 1 ∧ v.entries = [e] ∧ e.started = false ∧ s.phase = 0 ∧ e.headerOk = true ∧ e.kind = 2 ∧ bit (e.word 0) 5 = false ∧ s.acceptKernel (s.qCtx q) e = .ok ∧ s.board.ctxRst = [] ∧ s.syn.waits = [] ∧ s.pwr.held = [] ∧ s.fld (qCfg q) F.synQCfg_EC = 0)
    ∧ (let e : QEntry := QEntry.fresh 4 [4, 0, 0, 0, 0, 0, 0, 0, 1, 2, 3, 4, 5, 6, 7, 8] false
    let v : Queue := wQueue 5 [e]
    let s : State := wQ 1 v
    let q : Nat := 9
    q < 4096 ∧ s.queue? q = some v ∧ s.qState q = 1 ∧ v.entries = [e] ∧ e.started = false ∧ s.phase = 0 ∧ e.headerOk = true ∧ e.kind = 4 ∧ bit (e.word 0) 5 = false ∧ s.board.ctxRst = [] ∧ s.syn.waits = [] ∧ s.pwr.held = [] ∧ s.fld (qCfg q) F.synQCfg_EC = 0)
    ∧ (let e : QEntry := QEntry.fresh 4 [6] false
    let v : Queue := wQueue 5 [e]
    let s : State := wQ 1 v
    let q : Nat := 9
    q < 4096 ∧ s.queue? q = some v ∧ s.qState q = 1 ∧ v.entries = [e] ∧ v.stop = none ∧ e.started = false ∧ s.phase = 0 ∧ e.headerOk = false ∧ s.err.recov = [] ∧ s.syn.waits = [])
    ∧ (let h : HeldEntry := { (default : HeldEntry) with q := 9, n := 4 }
    let ec : Nat := 2
    let e : QEntry := QEntry.fresh 4 wKernel false
    let v : Queue := wQueue 5 [e]
    let s : State := let t := (wQ 1 v).setFld (qCfg 9) F.synQCfg_EC 2; { t with pwr := { t.pwr with held := [h] } }
    let q : Nat := 9
    q < 4096 ∧ s.queue? q = some v ∧ s.qState q = 1 ∧ v.entries = [e] ∧ e.started = false ∧ s.phase = 0 ∧ e.headerOk = true ∧ e.kind = 2 ∧ bit (e.word 0) 5 = false ∧ s.acceptKernel (s.qCtx q) e = .ok ∧ s.board.ctxRst = [] ∧ s.syn.waits = [] ∧ s.pwr.held = [h] ∧ h.q = q ∧ h.n = e.n ∧ ec = s.fld (qCfg q) F.synQCfg_EC ∧ ec ≠ 0) := by
  refine ⟨?_, ?_, ?_, ?_⟩
  · dsimp only; decide +kernel
  · dsimp only; decide +kernel
  · dsimp only; decide +kernel
  · dsimp only; decide +kernel

/-- Clauses of QueueEntriesAreTakenStartAndComplete. -/
theorem witness_QueueEntriesAreTakenStartAndComplete_3 :
    (let w : Wait := wWait (.entry 9 4) 0 0
    let e : QEntry := QEntry.fresh 4 [5 + 2 ^ 5, 0, 0, 0] false
    let v : Queue := wQueue 5 [e]
    let s : State := let t := wQ 1 v; { t with syn := { t.syn with waits := [w] } }
    let q : Nat := 9
    q < 4096 ∧ s.queue? q = some v ∧ s.qState q = 1 ∧ v.entries = [e] ∧ v.stop = none ∧ e.started = false ∧ s.phase = 0 ∧ s.syn.waits = [w] ∧ w.who = .entry q e.n ∧ w.met = false ∧ s.err.recov = [])
    ∧ (let e : QEntry := { QEntry.fresh 4 [5 + 2 ^ 6 + 2 ^ 16, 0, 70, 0] false with started := true, ended := true }
    let v : Queue := wQueue 5 [e]
    let s : State := wQ 1 v
    let q : Nat := 9
    q < 4096 ∧ s.queue? q = some v ∧ s.qState q = 1 ∧ v.entries = [e] ∧ v.stop = none ∧ e.started = true ∧ e.ended = true ∧ e.completed = false ∧ e.signalled = false ∧ e.marked = none ∧ s.entryRecovering q e.n = false)
    ∧ (let e : QEntry := { QEntry.fresh 4 [5 + 2 ^ 6 + 2 ^ 16, 0, 70, 0] false with started := true, ended := true }
    let d : QEntry := { QEntry.fresh 3 [5, 0, 70, 0] false with started := true, ended := false }
    let v : Queue := wQueue 5 [d, e]
    let s : State := wQ 1 v
    let q : Nat := 9
    q < 4096 ∧ s.queue? q = some v ∧ s.qState q = 1 ∧ v.entries = [d, e] ∧ v.stop = none ∧ d.n < e.n ∧ d.started = true ∧ d.completed = false ∧ e.started = true ∧ e.ended = true ∧ e.completed = false ∧ e.marked = none ∧ s.entryRecovering q e.n = false)
    ∧ (let cause : Nat := 2
    let e : QEntry := { QEntry.fresh 4 [5 + 2 ^ 6 + 2 ^ 16, 0, 70, 0] false with started := true, ended := true, marked := some 2 }
    let v : Queue := wQueue 5 [e]
    let s : State := wQ 1 v
    let q : Nat := 9
    q < 4096 ∧ s.queue? q = some v ∧ s.qState q = 1 ∧ v.entries = [e] ∧ v.stop = none ∧ e.started = true ∧ e.ended = true ∧ e.completed = false ∧ e.marked = some cause ∧ cause < 16 ∧ s.entryRecovering q e.n = false ∧ s.comp = State.reset.comp ∧ s.lnt = State.reset.lnt ∧ s.syn.waits = []) := by
  refine ⟨?_, ?_, ?_, ?_⟩
  · dsimp only; decide +kernel
  · dsimp only; decide +kernel
  · dsimp only; decide +kernel
  · dsimp only; decide +kernel

/-- Clauses of LinksReplayRetrainAndGoDown. -/
theorem witness_LinksReplayRetrainAndGoDown :
    (let s : State := wLnk [] [] 2
    let k : Nat := 3
    let c : Nat := 31
    k < 4 ∧ c < 32 ∧ s.bondUp k c = true)
    ∧ (let s : State := wLnk [bondKey 3 31] [] 2
    let k : Nat := 3
    let c : Nat := 31
    k < 4 ∧ c < 32 ∧ s.bondUp k c = true ∧ s.err.armed = [] ∧ bondKey k c ∈ s.lnk.due)
    ∧ (let s : State := wLnk [] [bondKey 3 31] 2
    let k : Nat := 3
    let c : Nat := 31
    let failing : Nat := 16
    let pads : Nat := 512
    k < 4 ∧ c < 32 ∧ bondKey k c ∈ s.lnk.training ∧ failing ≤ 16 ∧ pads ≤ 512)
    ∧ (let s : State := wLnk [] [bondKey 3 31] 2
    let k : Nat := 3
    let c : Nat := 31
    let failing : Nat := 17
    k < 4 ∧ c < 32 ∧ bondKey k c ∈ s.lnk.training ∧ 16 < failing ∧ s.bondUp k c = true) := by
  refine ⟨?_, ?_, ?_, ?_⟩
  · dsimp only; decide +kernel
  · dsimp only; decide +kernel
  · dsimp only; decide +kernel
  · dsimp only; decide +kernel

/-- Clauses of LinksReplayRetrainAndGoDown. -/
theorem witness_LinksReplayRetrainAndGoDown_2 :
    (let s : State := wLnk [] [] 2
    let l : Nat := 5
    let a : Nat := A.linkStatus 1 2
    let b : Nat := A.d2dStatus 1
    l < 6 ∧ linkEnds l = [a, b] ∧ s.linkState l = 2)
    ∧ (let s : State := wLnk [linkKey 3] [] 2
    let l : Nat := 3
    let a : Nat := A.linkStatus 3 0
    let b : Nat := A.linkStatus 0 1
    l < 6 ∧ linkEnds l = [a, b] ∧ s.linkState l = 2 ∧ linkKey l ∈ s.lnk.due)
    ∧ (let s : State := wLnk [] [] 3
    let l : Nat := 3
    let a : Nat := A.linkStatus 3 0
    let b : Nat := A.linkStatus 0 1
    let up : Nat := 0x8001
    let half : Nat := 0x8000
    let spares : Nat := 255
    l < 6 ∧ linkEnds l = [a, b] ∧ s.linkState l = 3 ∧ up < 2 ^ linkModules l ∧ half < 2 ^ linkModules l ∧ half &&& up = half ∧ spares < 256 ∧ up ≠ 0)
    ∧ (let s : State := wLnk [] [] 3
    let l : Nat := 4
    let a : Nat := A.linkStatus 0 2
    let b : Nat := A.d2dStatus 0
    let up : Nat := 0
    let half : Nat := 0
    let spares : Nat := 0
    l < 6 ∧ linkEnds l = [a, b] ∧ s.linkState l = 3 ∧ up < 2 ^ linkModules l ∧ half < 2 ^ linkModules l ∧ half &&& up = half ∧ spares < 256 ∧ up = 0 ∧ s.err.recov = [] ∧ s.deviceStopped = false ∧ s.eclipse = false ∧ s.syn.queues = [] ∧ s.comp.cores = [] ∧ (∀ k, k < 4 → s.beamState k = 0)) := by
  refine ⟨?_, ?_, ?_, ?_⟩
  · dsimp only; decide +kernel
  · dsimp only; decide +kernel
  · dsimp only; decide +kernel
  · dsimp only; decide +kernel

/-- Clauses of LinksReplayRetrainAndGoDown. -/
theorem witness_LinksReplayRetrainAndGoDown_3 :
    (let s : State := { wUp with ctl := { wUp.ctl with raised := [70, 65535], ids := [3] } }
    let idx : Nat := 1
    let v : Nat := 65535
    s.ctl.raised[idx]? = some v ∧ v < 65536)
    ∧ (let s : State := { wUp with ctl := { wUp.ctl with ids := [3, 64513, 65535] } }
    let hart : Nat := 63
    let n : Nat := 1
    hart < 64 ∧ n < 1024 ∧ s.ctl.ids.Pairwise (· < ·) ∧ 1024 * hart + n ∈ s.ctl.ids ∧ (∀ m, m < n → 1024 * hart + m ∉ s.ctl.ids))
    ∧ (let s : State := { wUp with ctl := { wUp.ctl with ids := [3, 64513, 65535] } }
    let hart : Nat := 62
    hart < 64 ∧ (∀ n, n < 1024 → 1024 * hart + n ∉ s.ctl.ids)) := by
  refine ⟨?_, ?_, ?_⟩
  · dsimp only; decide +kernel
  · dsimp only; decide +kernel
  · dsimp only; decide +kernel

/-- Clauses of PciePortsTrainAndCarryRequests. -/
theorem witness_PciePortsTrainAndCarryRequests :
    (let s : State := wPcie
    let q : Nat := 1
    let speed : Nat := 6
    let width : Nat := 16
    q < 2 ∧ s.board.perst = false ∧ speed ≤ 6 ∧ width ∈ [1, 2, 4, 8, 16] ∧ speed ≠ 0 ∧ s.fld (A.peCfg q) F.peCfg_MAX_SPEED ≤ 6 ∧ 1 ≤ s.fld (A.peCfg q) F.peCfg_MAX_SPEED)
    ∧ (let s : State := wPcie.setFlds (A.peInwin 1 1) [(F.peInwin_EN, 1), (F.peInwin_WR_EN, 1), (F.peInwin_SIZE_LOG2, 40), (F.peInwin_BASE, 0xC0000000)]
    let q : Nat := 1
    let addr : Nat := lntBase 63 + 8
    let off : Nat := 8
    let u : Nat := 63
    let bs : List Byte := [1, 2, 3]
    q < 2 ∧ s.flag (A.peStatus q) F.peStatus_UP = true ∧ bs ≠ [] ∧ windowOf addr = (.lntBuf u, off) ∧ s.inWindow q addr bs.length true = true ∧ s.physFaults addr bs.length true = false ∧ s.undef = [] ∧ (¬ (bs.length = 4 ∧ (s.portSet q).msi ≠ 0 ∧ (s.portSet q).msi ≤ addr)))
    ∧ (let s : State := wPcie.setFlds (A.peInwin 1 1) [(F.peInwin_EN, 1), (F.peInwin_RD_EN, 1), (F.peInwin_SIZE_LOG2, 40), (F.peInwin_BASE, 0xC0000000)]
    let q : Nat := 1
    let addr : Nat := lntBase 63 + 8
    let off : Nat := 8
    let u : Nat := 63
    let n : Nat := 3
    q < 2 ∧ s.flag (A.peStatus q) F.peStatus_UP = true ∧ 0 < n ∧ windowOf addr = (.lntBuf u, off) ∧ s.inWindow q addr n false = true ∧ s.physFaults addr n false = false ∧ s.err.armed = [] ∧ s.poison = [])
    ∧ (let s : State := wPcie.wrBytes 0x1000 [1, 2, 3]
    let q : Nat := 1
    let addr : Nat := 0x1000
    let n : Nat := 3
    let bs : List Byte := [1, 2, 3]
    let z : State := (s.physRead 0x1000 3 (.peer 1) none).1
    q < 2 ∧ s.flag (A.peStatus q) F.peStatus_UP = true ∧ 0 < n ∧ bs.length = n ∧ (windowOf addr).1.isTier = true ∧ s.inWindow q addr n false = true ∧ s.physFaults addr n false = false ∧ s.eclipse = false ∧ s.physRead addr n (.peer q) none = (z, .ok bs false)) := by
  refine ⟨?_, ?_, ?_, ?_⟩
  · dsimp only; decide +kernel
  · dsimp only; decide +kernel
  · dsimp only; decide +kernel
  · dsimp only; decide +kernel

/-- Clauses of PciePortsTrainAndCarryRequests. -/
theorem witness_PciePortsTrainAndCarryRequests_2 :
    (let s : State := wPcie
    let q : Nat := 1
    let addr : Nat := 2 ^ 32 - 1
    let n : Nat := 2
    q < 2 ∧ s.flag (A.peStatus q) F.peStatus_UP = true ∧ 0 < n ∧ (2 ^ 52 ≤ addr ∨ (windowOf addr).1 = .reserved ∨ ((windowOf addr).1.isTier = true ∧ s.inWindow q addr n false = false)))
    ∧ (let s : State := let t := wPcie; { t with lnk := { t.lnk with ports := [(1, { p2p := false, out := 0, msi := 0x7FFF0000 })] } }
    let q : Nat := 1
    let msi : Nat := 0x7FFF0000
    let hart : Nat := 63
    let addr : Nat := 0x7FFF0000 + 4096 * 63
    let bs : List Byte := [1, 4, 0, 0]
    q < 2 ∧ s.flag (A.peStatus q) F.peStatus_UP = true ∧ bs.length = 4 ∧ msi = (s.portSet q).msi ∧ msi ≠ 0 ∧ hart < 64 ∧ msi + 4096 * hart ≤ addr ∧ addr < msi + 4096 * (hart + 1) ∧ addr < 2 ^ 52 ∧ leNat bs % 1024 ≠ 0)
    ∧ (let s : State := wPcie
    let q : Nat := 1
    let addr : Nat := 0xC0300000000 + 64 * 70 + 16
    let off : Nat := 64 * 70 + 16
    let obj : Nat := 70
    let bs : List Byte := [1, 0, 0, 0, 9, 9, 9, 9]
    q < 2 ∧ s.flag (A.peStatus q) F.peStatus_UP = true ∧ windowOf addr = (.objects, off) ∧ (s.portSet q).msi = 0 ∧ obj < 65536 ∧ bs.length = 8 ∧ off = 64 * obj + 16)
    ∧ (let s : State := wPcie
    let q : Nat := 1
    let addr : Nat := 0xC0300000000 + 64 * 70
    let off : Nat := 64 * 70
    let obj : Nat := 70
    q < 2 ∧ s.flag (A.peStatus q) F.peStatus_UP = true ∧ windowOf addr = (.objects, off) ∧ (s.portSet q).msi = 0 ∧ obj < 65536 ∧ off = 64 * obj ∧ s.reachesObj .host obj = true ∧ s.windowShut obj true = false) := by
  refine ⟨?_, ?_, ?_, ?_⟩
  · dsimp only; decide +kernel
  · dsimp only; decide +kernel
  · dsimp only; decide +kernel
  · dsimp only; decide +kernel

/-- Clauses of PciePortsTrainAndCarryRequests. -/
theorem witness_PciePortsTrainAndCarryRequests_3 :
    (let s : State := wPcie
    let q : Nat := 1
    let addr : Nat := 0xE0000000008
    let off : Nat := 8
    let bs : List Byte := [1]
    q < 2 ∧ s.flag (A.peStatus q) F.peStatus_UP = true ∧ windowOf addr = (.control, off) ∧ (s.portSet q).msi = 0 ∧ bs ≠ [] ∧ bs.length ≠ 8)
    ∧ (let s : State := wPcie
    let q : Nat := 1
    let off : Nat := 2 ^ 28
    let len : Nat := 8
    let bs : List Byte := [1, 2, 3, 4, 5, 6, 7, 8]
    q < 2 ∧ off < 256 * gib ∧ 2 ^ 28 ≤ off ∧ s.flag (A.peStatus q) F.peStatus_UP = true ∧ bs.length = len ∧ 0 < len ∧ len ≤ 8)
    ∧ (let s : State := wPcie
    let q : Nat := 1
    let off : Nat := 256 * gib - 8
    q < 2 ∧ off < 256 * gib ∧ 2 ^ 28 ≤ off ∧ s.flag (A.peStatus q) F.peStatus_UP = true)
    ∧ (let s : State := wPcie
    let q : Nat := 0
    let off : Nat := 256 * gib - 8
    let len : Nat := 8
    q < 2 ∧ off < 256 * gib ∧ 2 ^ 28 ≤ off ∧ s.flag (A.peStatus q) F.peStatus_UP = false ∧ 0 < len ∧ len ≤ 8) := by
  refine ⟨?_, ?_, ?_, ?_⟩
  · dsimp only; decide +kernel
  · dsimp only; decide +kernel
  · dsimp only; decide +kernel
  · dsimp only; decide +kernel

/-- Clauses of PciePortsTrainAndCarryRequests. -/
theorem witness_PciePortsTrainAndCarryRequests_4 :
    (let s : State := let t := wPcie; { t with lnk := { t.lnk with waiting := [{ who := 4, port := 1, len := 8 }] } }
    let idx : Nat := 0
    let q : Nat := 1
    let who : Nat := 4
    let len : Nat := 8
    s.lnk.waiting[idx]? = some { who := who, port := q, len := len } ∧ q < 2 ∧ 0 < len ∧ len ≤ 8)
    ∧ (let s : State := wPcie
    let q : Nat := 1
    q < 2 ∧ s.board.powered = true ∧ s.board.modReset = none) := by
  refine ⟨?_, ?_⟩
  · dsimp only; decide +kernel
  · dsimp only; decide +kernel

/-- Clauses of PortsTrainCarryAndDropPackets. -/
theorem witness_PortsTrainCarryAndDropPackets :
    (let s : State := wUp.setFld (portStatusOf 15) F.portStatus_STATE 1 |>.enter 2
    let n : Nat := 15
    let lanes : Nat := 255
    n < 16 ∧ s.part.portPresent n = true ∧ (s.portState n = 1 ∨ s.portState n = 3) ∧ 2 ≤ s.readiness ∧ s.readiness ≤ 4 ∧ s.eclipse = false ∧ lanes < 256)
    ∧ (let s : State := wUp.setFld (portStatusOf 15) F.portStatus_STATE 3 |>.enter 2
    let n : Nat := 15
    n < 16 ∧ s.part.portPresent n = true ∧ s.eclipse = false)
    ∧ (let s : State := wFab.setFport 1 { FabPort.idle with txSeq := 3, replay := [(0, wFp 8 5 1 []), (1, wFp 8 5 1 []), (2, wFp 8 5 1 [])], credits := [0, 0, 0, 0] }
    let n : Nat := 1
    let ack : Nat := 1
    let peer : Nat := 7
    n < 16 ∧ s.part.portPresent n = true ∧ s.portState n = 2 ∧ (s.fport n).waiting = [] ∧ ack < 65536 ∧ peer < 2 ^ 22)
    ∧ (let s : State := wFab.setFport 1 { FabPort.idle with txSeq := 2, replay := [(0, wFp 8 5 1 []), (1, wFp 8 5 1 [])] }
    let n : Nat := 1
    let lseq : Nat := 0
    let p : FabPkt := wFp 8 5 1 []
    let rest : List (Nat × FabPkt) := [(1, wFp 8 5 1 [])]
    n < 16 ∧ s.part.portPresent n = true ∧ s.portState n = 2 ∧ (s.fport n).replay = (lseq, p) :: rest ∧ (s.fport n).resends < 32) := by
  refine ⟨?_, ?_, ?_, ?_⟩
  · dsimp only; decide +kernel
  · dsimp only; decide +kernel
  · dsimp only; decide +kernel
  · dsimp only; decide +kernel

/-- Clauses of PortsTrainCarryAndDropPackets. -/
theorem witness_PortsTrainCarryAndDropPackets_2 :
    (let s : State := wFab
    let n : Nat := 1
    let p : FabPkt := wFp 5 8 5 []
    n < 16 ∧ s.part.portPresent n = true ∧ s.portState n = 2 ∧ s.portEth n = false ∧ pktValid p = false)
    ∧ (let s : State := wFab
    let n : Nat := 1
    let lseq : Nat := 1
    let p : FabPkt := wFp 5 8 1 []
    n < 16 ∧ s.part.portPresent n = true ∧ s.portState n = 2 ∧ s.portEth n = false ∧ pktValid p = true ∧ lseq ≠ (s.fport n).rxSeq)
    ∧ (let s : State := wFab
    let n : Nat := 1
    let lseq : Nat := 0
    let p : FabPkt := wFp 5 8 1 []
    n < 16 ∧ s.part.portPresent n = true ∧ s.portState n = 2 ∧ s.portEth n = false ∧ pktValid p = true ∧ lseq = (s.fport n).rxSeq ∧ p.dst = s.ownId ∧ s.ownId ≠ idUnset ∧ s.eclipse = false ∧ (p.tag = 0 ∧ (p.typ = 9 ∨ p.typ = 10) ∨ p.tag ≠ 0 ∧ p.typ ≠ 9 ∧ p.typ ≠ 10 ∧ ∃ i, s.slotOf p.tag = some i ∧ s.fld (A.fabTag i) F.fabTag_ROLE = 3))
    ∧ (let s : State := wTran 257
    let n : Nat := 0
    let lseq : Nat := 0
    let units : Nat := 60
    let p : FabPkt := wFp 8 7 1 []
    n < 16 ∧ s.part.portPresent n = true ∧ s.portState n = 2 ∧ s.portEth n = false ∧ pktValid p = true ∧ lseq = (s.fport n).rxSeq ∧ p.dst ≠ s.ownId ∧ p.life ≤ max 1 units) := by
  refine ⟨?_, ?_, ?_, ?_⟩
  · dsimp only; decide +kernel
  · dsimp only; decide +kernel
  · dsimp only; decide +kernel
  · dsimp only; decide +kernel

/-- Clauses of PortsTrainCarryAndDropPackets. -/
theorem witness_PortsTrainCarryAndDropPackets_3 :
    (let s : State := wTran (1 + 2 ^ 8 + 2 ^ 10)
    let n : Nat := 0
    let out : Nat := 1
    let i : Nat := 1
    let e : Nat := 1 + 2 ^ 8 + 2 ^ 10
    let lseq : Nat := 0
    let units : Nat := 59
    let p : FabPkt := wFp 8 7 1 []
    n < 16 ∧ s.part.portPresent n = true ∧ s.portState n = 2 ∧ s.portEth n = false ∧ pktValid p = true ∧ lseq = (s.fport n).rxSeq ∧ p.dst ≠ s.ownId ∧ s.ownId ≠ idUnset ∧ s.eclipse = false ∧ max 1 units < p.life ∧ p.tag ≠ 0 ∧ p.typ ≠ 9 ∧ p.typ ≠ 10 ∧ out < 16 ∧ out ≠ n ∧ s.slotOf p.tag = some i ∧ i < 64 ∧ Assoc.getD s.fab.table p.dst 0 = e ∧ e = out + 2 ^ 8 + i * 2 ^ 10 ∧ s.portState out = 2 ∧ (s.fport out).waiting = [] ∧ s.portEth out = false ∧ pktNeed p ≤ (s.fport out).credits.getD (pktVc p) 0 ∧ (s.fport out).replay = [])
    ∧ (let s : State := wTran (2 + 2 ^ 8 + 2 ^ 10)
    let n : Nat := 0
    let out : Nat := 2
    let i : Nat := 1
    let e : Nat := 2 + 2 ^ 8 + 2 ^ 10
    let lseq : Nat := 0
    let units : Nat := 59
    let p : FabPkt := wFp 8 7 1 []
    n < 16 ∧ s.part.portPresent n = true ∧ s.portState n = 2 ∧ s.portEth n = false ∧ pktValid p = true ∧ lseq = (s.fport n).rxSeq ∧ p.dst ≠ s.ownId ∧ s.ownId ≠ idUnset ∧ s.eclipse = false ∧ max 1 units < p.life ∧ p.tag ≠ 0 ∧ p.typ ≠ 9 ∧ p.typ ≠ 10 ∧ out < 16 ∧ out ≠ n ∧ s.slotOf p.tag = some i ∧ i < 64 ∧ Assoc.getD s.fab.table p.dst 0 = e ∧ (bitsOf e 8 2 = 0 ∨ (bitsOf e 10 6 = i ∧ bitsOf e 8 2 = 1 ∧ s.portState (bitsOf e 0 4) ≠ 2)))
    ∧ (let s : State := wTran (1 + 2 ^ 8 + 2 * 2 ^ 10)
    let n : Nat := 0
    let out : Nat := 1
    let i : Nat := 1
    let e : Nat := 1 + 2 ^ 8 + 2 * 2 ^ 10
    let lseq : Nat := 0
    let units : Nat := 59
    let p : FabPkt := wFp 8 7 1 []
    n < 16 ∧ s.part.portPresent n = true ∧ s.portState n = 2 ∧ s.portEth n = false ∧ pktValid p = true ∧ lseq = (s.fport n).rxSeq ∧ p.dst ≠ s.ownId ∧ s.ownId ≠ idUnset ∧ s.eclipse = false ∧ max 1 units < p.life ∧ p.tag ≠ 0 ∧ p.typ ≠ 9 ∧ p.typ ≠ 10 ∧ out < 16 ∧ out ≠ n ∧ s.slotOf p.tag = some i ∧ i < 64 ∧ Assoc.getD s.fab.table p.dst 0 = e ∧ bitsOf e 8 2 ≠ 0 ∧ bitsOf e 10 6 ≠ i)
    ∧ (let s : State := wFab.setFld (portCfgOf 1) F.portCfg_MODE 1
    let n : Nat := 1
    let dest : Nat := 0x02494D000005
    let typ : Nat := 0x88B5
    let len : Nat := 63
    let fcs : Bool := true
    n < 16 ∧ s.part.portPresent n = true ∧ s.portState n = 2 ∧ s.portEth n = true ∧ (fcs = false ∨ dest ≠ 0x02494D000000 + s.ownId ∨ typ ≠ 0x88B5 ∨ len < 64 ∨ 9216 < len)) := by
  refine ⟨?_, ?_, ?_, ?_⟩
  · dsimp only; decide +kernel
  · dsimp only; decide +kernel
  · dsimp only; decide +kernel
  · dsimp only; decide +kernel

/-- Clauses of PortsTrainCarryAndDropPackets. -/
theorem witness_PortsTrainCarryAndDropPackets_4 :
    (let s : State := wFab.setFld (portCfgOf 1) F.portCfg_MODE 1
    let n : Nat := 1
    let dest : Nat := 0x02494D000005
    let typ : Nat := 0x88B5
    let len : Nat := 64
    let fcs : Bool := true
    let p : FabPkt := wNp 5 8 10 []
    n < 16 ∧ s.part.portPresent n = true ∧ s.portState n = 2 ∧ s.portEth n = true ∧ fcs = true ∧ dest = 0x02494D000000 + s.ownId ∧ typ = 0x88B5 ∧ 64 ≤ len ∧ len ≤ 9216 ∧ pktValid p = true ∧ p.dst = s.ownId ∧ s.ownId ≠ idUnset ∧ s.eclipse = false ∧ p.tag = 0 ∧ (p.typ = 9 ∨ p.typ = 10))
    ∧ (let s : State := wFab.setFld (portCfgOf 1) F.portCfg_MODE 1
    let n : Nat := 1
    n < 16 ∧ s.part.portPresent n = true ∧ s.portState n = 2 ∧ s.portEth n = true ∧ (s.fport n).waiting = [])
    ∧ (let s : State := wFab.setFport 1 { FabPort.idle with waiting := [(wFp 8 5 1 [], none), (wFp 8 5 1 [], some 15)] }
    let n : Nat := 1
    let i : Nat := 1
    let a : Nat := 15
    let p : FabPkt := wFp 8 5 1 []
    n < 16 ∧ s.part.portPresent n = true ∧ (s.fport n).waiting[i]? = some (p, some a) ∧ a < 16) := by
  refine ⟨?_, ?_, ?_⟩
  · dsimp only; decide +kernel
  · dsimp only; decide +kernel
  · dsimp only; decide +kernel

/-- Clauses of RoutesTagsAndTeardown. -/
theorem witness_RoutesTagsAndTeardown :
    (let ch : Nat := 60
    let s : State := wUp
    let id : Nat := 0x3FFFFE
    let transit : Bool := false
    let p : Packet := wPkt [0x3FFFFE]
    s.accepts ch 0xA00 p ∧ p.length = 24 ∧ pword p 0 = id ∧ id < 2 ^ 22 ∧ transit = (List.range 63).any (fun i => decide (s.fld (A.fabTag (i + 1)) F.fabTag_ROLE = 1)))
    ∧ (let ch : Nat := 60
    let s : State := wFab
    let first : Nat := 2 ^ 22 - 5
    let count : Nat := 5
    let tag : Nat := 9
    let slot : Nat := 1
    let p : Packet := wPkt [2 ^ 22 - 5 + 5 * 2 ^ 32, 9, 0x0101010001000100, 1]
    s.accepts ch 0xA01 p ∧ 1 ≤ count ∧ count ≤ 2016 ∧ p.length = 32 + 8 * ceilDiv count 4 ∧ first + count ≤ 2 ^ 22 ∧ pword p 0 = first + count * 2 ^ 32 ∧ pword p 1 = tag ∧ tag < 2 ^ 20 ∧ (tag = 0 ∧ slot = 0 ∨ tag ≠ 0 ∧ s.slotOf tag = some slot))
    ∧ (let ch : Nat := 60
    let s : State := let t := wBusy wFab 0xA01; { t with fab := { t.fab with writes := [(60, 2 ^ 22 - 2, [0x501, 0])], table := [(2 ^ 22 - 1, 5)] } }
    let first : Nat := 2 ^ 22 - 2
    let es : List Nat := [0x501, 0]
    s.fab.writes = [(ch, first, es)])
    ∧ (let ch : Nat := 60
    let s : State := wUp.setFlds A.fabDevStatus [(F.fabDevStatus_ID, 5)] |>.setFld (A.xltRoot 1) F.xltRoot_OPEN 1
    let tag : Nat := 2 ^ 20 - 1
    let role : Nat := 3
    let ctx : Nat := 1
    let i : Nat := 1
    let p : Packet := wPkt [2 ^ 20 - 1 + 3 * 2 ^ 20 + 2 ^ 24]
    s.accepts ch 0xA02 p ∧ p.length = 24 ∧ 0 < tag ∧ tag < 2 ^ 20 ∧ (role = 1 ∨ role = 3) ∧ ctx < 256 ∧ pword p 0 = tag + role * 2 ^ 20 + ctx * 2 ^ 24 ∧ s.ownId ≠ idUnset ∧ s.slotOf tag = none ∧ s.freeTagSlot = some i ∧ (role = 3 → s.partState = 0 ∧ s.ctxOpen ctx = true)) := by
  refine ⟨?_, ?_, ?_, ?_⟩
  · dsimp only; unfold State.accepts; decide +kernel
  · dsimp only; unfold State.accepts; decide +kernel
  · rfl
  · dsimp only; unfold State.accepts; decide +kernel

/-- Clauses of RoutesTagsAndTeardown. -/
theorem witness_RoutesTagsAndTeardown_2 :
    (let ch : Nat := 60
    let s : State := wTran 257
    let tag : Nat := 9
    let i : Nat := 1
    let p : Packet := wPkt [9]
    s.accepts ch 0xA03 p ∧ p.length = 24 ∧ 0 < tag ∧ tag < 2 ^ 20 ∧ pword p 0 = tag ∧ s.slotOf tag = some i ∧ s.fld (A.fabTag i) F.fabTag_ROLE = 1 ∧ s.fab.msgs = [] ∧ (∀ j, 1 ≤ j → j < 64 → j ≠ i → s.fld (A.fabTag j) F.fabTag_ROLE = 0 ∨ s.fld (A.fabTag j) F.fabTag_TAG ≠ tag))
    ∧ (let ch : Nat := 60
    let s : State := let t := wBusy (wTran (1 + 2 ^ 8 + 2 ^ 10)) 0xA03; { t with fab := { t.fab with walks := [(1, some 60)] } }
    let i : Nat := 1
    1 ≤ i ∧ i < 64 ∧ s.fab.walks = [(i, some ch)] ∧ s.fab.teardown = none ∧ (∀ f ∈ s.fab.flares, f.held = false))
    ∧ (let ch : Nat := 60
    let s : State := wFab
    let tag : Nat := 9
    let ctx : Nat := 1
    let slot : Nat := 1
    let p : Packet := wPkt [9]
    s.accepts ch 0xA04 p ∧ p.length = 24 ∧ 0 < tag ∧ tag < 2 ^ 20 ∧ pword p 0 = tag ∧ s.partState = 3 ∧ s.fld A.fabDevStatus F.fabDevStatus_MEMBER_TAG = tag ∧ s.fld A.fabDevStatus F.fabDevStatus_MEMBER_SLOT = slot ∧ s.fld A.fabDevStatus F.fabDevStatus_CONTEXT = ctx ∧ s.fab.flares = [] ∧ (∀ q ∈ s.syn.queues, s.qCtx q.1 ≠ ctx ∨ s.qState q.1 ≠ 1))
    ∧ (let d : Teardown := wTear
    let i : Nat := 1
    let s : State := let t := wBusy wFab 0xA04; { t with fab := { t.fab with teardown := some wTear } }
    s.fab.teardown = some d ∧ d.fence = none ∧ s.drained d = true ∧ s.slotOf d.tag = some i ∧ 0 < d.tag ∧ s.fab.msgs = [] ∧ (∀ j, 1 ≤ j → j < 64 → j ≠ i → s.fld (A.fabTag j) F.fabTag_ROLE = 0 ∨ s.fld (A.fabTag j) F.fabTag_TAG ≠ d.tag)) := by
  refine ⟨?_, ?_, ?_, ?_⟩
  · dsimp only; exact ⟨(by unfold State.accepts; decide +kernel), (by decide +kernel), (by decide +kernel), (by decide +kernel), (by decide +kernel), (by decide +kernel), (by decide +kernel), (by decide +kernel), wSpan (by decide +kernel)⟩
  · dsimp only; decide +kernel
  · dsimp only; unfold State.accepts; decide +kernel
  · dsimp only; exact ⟨(by decide +kernel), (by decide +kernel), (by decide +kernel), (by decide +kernel), (by decide +kernel), (by decide +kernel), wSpan (by decide +kernel)⟩

/-- Clauses of RoutesTagsAndTeardown. -/
theorem witness_RoutesTagsAndTeardown_3 :
    (let d : Teardown := { wTear with fence := some 1 }
    let i : Nat := 1
    let s : State := let t := wBusy wFab 0xA04; { t with fab := { t.fab with teardown := some { wTear with fence := some 1 }, walks := [(1, none)] }, now := 400 }
    1 ≤ i ∧ i < 64 ∧ s.fab.teardown = some d ∧ d.fence = some i ∧ s.fab.walks = [(i, none)] ∧ (∀ f ∈ s.fab.flares, f.held = false))
    ∧ (let d : Teardown := wTear
    let s : State := let t := wBusy wFab 0xA04; { t with fab := { t.fab with teardown := some wTear }, board := { t.board with ctxRst := [(1, default)] } }
    s.fab.teardown = some d ∧ d.fence = none ∧ d.forced = false ∧ s.board.ctxRst.any (fun e => e.1 = d.ctx) = true)
    ∧ (let d : Teardown := wTear
    let s : State := let t := wBusy wFab 0xA04; { t with fab := { t.fab with teardown := some wTear } }
    s.fab.teardown = some d ∧ d.fence = none ∧ d.forced = false ∧ s.board.ctxRst.any (fun e => e.1 = d.ctx) = false) := by
  refine ⟨?_, ?_, ?_⟩
  · dsimp only; decide +kernel
  · dsimp only; decide +kernel
  · dsimp only; decide +kernel

/-- Clauses of DeliveryEndToEnd. -/
theorem witness_DeliveryEndToEnd :
    (let d : Delivered := { port := 1, pkt := { wFp 5 7 1 [1, 2, 3, 4, 5, 6, 7, 8] with opa := 0x1000 } }
    let s : State := wIn [d.pkt]
    let ctx : Nat := 1
    let k : Nat := 0
    let bs : List (Byte × Bool) := (List.range 8).map (fun j => (d.pkt.payload.getD j 0, false))
    let r0 := s.resolve (.base 0) 1 .write (pagePieces 0x1000 8)
    let z : State := r0.1
    let ps : List Piece := r0.2.1
    let u : State := (z.clearPieces true ps 1 .fabric).1
    let v : State := (u.writePieces 1 .fabric { ctx := 1, entry := none } 0 ps bs).1
    s.fab.inbox = [d] ∧ d.pkt.typ = 1 ∧ s.tagCtx d.pkt.tag = some ctx ∧ k = d.port / 4 ∧ bs = (List.range d.pkt.payload.length).map (fun j => (d.pkt.payload.getD j 0, d.pkt.opb.testBit (j / 64))) ∧ s.resolve (.base k) ctx .write (pagePieces d.pkt.opa bs.length) = (z, ps, .ok []) ∧ (∀ p ∈ ps, leafRed p.2.2.leaf = 0) ∧ z.fab.applied = [] ∧ (∀ p ∈ ps, z.physFaults p.1 p.2.1 true = false) ∧ z.homeUnderReset ps = false ∧ z.arrivalReaches k ps = true ∧ z.piecesHeld ps = false ∧ z.clearPieces true ps ctx .fabric = (u, true) ∧ u.writePieces ctx .fabric { ctx := ctx, entry := none } 0 ps bs = (v, .ok []))
    ∧ (let d : Delivered := { port := 1, pkt := { wFp 5 7 2 [] with opa := 0x1000, opb := 8 } }
    let s : State := wIn [d.pkt]
    let ctx : Nat := 1
    let k : Nat := 0
    let r0 := s.resolve (.base 0) 1 .read (pagePieces 0x1000 8)
    let z : State := r0.1
    let ps : List Piece := r0.2.1
    let r1 := z.readPieces .fabric (some { ctx := 1, entry := none }) ps
    let u : State := r1.1
    let bs : List (Byte × Bool) := match r1.2 with | .ok bs => bs | _ => []
    s.fab.inbox = [d] ∧ d.pkt.typ = 2 ∧ s.tagCtx d.pkt.tag = some ctx ∧ k = d.port / 4 ∧ s.resolve (.base k) ctx .read (pagePieces d.pkt.opa (d.pkt.opb % 2 ^ 13)) = (z, ps, .ok []) ∧ z.homeUnderReset ps = false ∧ z.arrivalReaches k ps = true ∧ (s.clearPieces false ps ctx .fabric).2 = true ∧ z.readPieces .fabric (some { ctx := ctx, entry := none }) ps = (u, .ok bs))
    ∧ (let d : Delivered := { port := 1, pkt := { wFp 5 7 1 [1] with opa := 2 ^ 39 } }
    let s : State := wIn [d.pkt]
    let ctx : Nat := 1
    let k : Nat := 0
    let r0 := s.resolve (.base 0) 1 .write (pagePieces (2 ^ 39) 1)
    let z : State := r0.1
    let ps : List Piece := r0.2.1
    let kind : Nat := match r0.2.2 with | .xlt a b c d => a | _ => 0
    let level : Nat := match r0.2.2 with | .xlt a b c d => b | _ => 0
    let ent : Nat := match r0.2.2 with | .xlt a b c d => c | _ => 0
    let va : Nat := match r0.2.2 with | .xlt a b c d => d | _ => 0
    s.fab.inbox = [d] ∧ s.tagCtx d.pkt.tag = some ctx ∧ k = d.port / 4 ∧ d.pkt.typ = 1 ∧ s.resolve (.base k) ctx .write (pagePieces d.pkt.opa d.pkt.payload.length) = (z, ps, .xlt kind level ent va))
    ∧ (let d : Delivered := { port := 1, pkt := { wFp 5 7 2 [] with opa := 2 ^ 39, opb := 1 } }
    let s : State := wIn [d.pkt]
    let ctx : Nat := 1
    let k : Nat := 0
    let r0 := s.resolve (.base 0) 1 .read (pagePieces (2 ^ 39) 1)
    let z : State := r0.1
    let ps : List Piece := r0.2.1
    let kind : Nat := match r0.2.2 with | .xlt a b c d => a | _ => 0
    let level : Nat := match r0.2.2 with | .xlt a b c d => b | _ => 0
    let ent : Nat := match r0.2.2 with | .xlt a b c d => c | _ => 0
    let va : Nat := match r0.2.2 with | .xlt a b c d => d | _ => 0
    s.fab.inbox = [d] ∧ s.tagCtx d.pkt.tag = some ctx ∧ k = d.port / 4 ∧ d.pkt.typ = 2 ∧ s.resolve (.base k) ctx .read (pagePieces d.pkt.opa (d.pkt.opb % 2 ^ 13)) = (z, ps, .xlt kind level ent va)) := by
  refine ⟨?_, ?_, ?_, ?_⟩
  · dsimp only; decide +kernel
  · dsimp only; decide +kernel
  · dsimp only; decide +kernel
  · dsimp only; decide +kernel

/-- Clauses of DeliveryEndToEnd. -/
theorem witness_DeliveryEndToEnd_2 :
    (let d : Delivered := { port := 1, pkt := { wFp 5 7 6 [] with opa := 70 + 2 ^ 16, opb := 2 ^ 32 - 1, seq := 2 ^ 32 - 1 } }
    let r : RxStream := { src := 7, tag := 9, next := 2 ^ 32 - 1, last := 0 }
    let s : State := let t := wObj (wIn [d.pkt]) 2; { t with fab := { t.fab with rx := [r] } }
    let obj : Nat := 70
    let op : Nat := 1
    let rr := ({ s with fab := { s.fab with inbox := [], rx := [{ r with next := (r.next + 1) % 2 ^ 32, last := s.now }] } }).objOp (s.tagCtx d.pkt.tag) obj op (d.pkt.opb % 2 ^ 32)
    let v : State := rr.1
    let ok : Bool := rr.2
    s.fab.inbox = [d] ∧ d.pkt.typ = 6 ∧ s.board.towerRst = [] ∧ obj < 65536 ∧ op < 4 ∧ s.pathOpen (.tower (d.port / 4)) (.tower (objTower obj)) (64 * obj) = true ∧ d.pkt.opa = obj + op * 2 ^ 16 ∧ s.fab.rx = [r] ∧ r.src = d.pkt.src ∧ r.tag = d.pkt.tag ∧ d.pkt.seq < 2 ^ 32 ∧ r.next < 2 ^ 32 ∧ d.pkt.seq = r.next ∧ ({ s with fab := { s.fab with inbox := [], rx := [{ r with next := (r.next + 1) % 2 ^ 32, last := s.now }] } }).objOp (s.tagCtx d.pkt.tag) obj op (d.pkt.opb % 2 ^ 32) = (v, ok))
    ∧ (let d : Delivered := { port := 1, pkt := { wFp 5 7 6 [] with opa := 70 + 2 ^ 16, opb := 2 ^ 32 - 1, seq := 0 } }
    let r : RxStream := { src := 7, tag := 9, next := 2 ^ 32 - 1, last := 0 }
    let s : State := let t := wObj (wIn [d.pkt]) 2; { t with fab := { t.fab with rx := [r] } }
    let obj : Nat := 70
    let op : Nat := 1
    s.fab.inbox = [d] ∧ d.pkt.typ = 6 ∧ s.board.towerRst = [] ∧ obj < 65536 ∧ op < 4 ∧ s.pathOpen (.tower (d.port / 4)) (.tower (objTower obj)) (64 * obj) = true ∧ d.pkt.opa = obj + op * 2 ^ 16 ∧ s.fab.rx = [r] ∧ r.src = d.pkt.src ∧ r.tag = d.pkt.tag ∧ d.pkt.seq < 2 ^ 32 ∧ r.next < 2 ^ 32 ∧ d.pkt.seq = (r.next + 1) % 2 ^ 32)
    ∧ (let d : Delivered := { port := 1, pkt := { wFp 5 7 6 [] with opa := 70 + 2 ^ 16, opb := 2 ^ 32 - 1, seq := 2 ^ 32 - 1 } }
    let r : RxStream := { src := 7, tag := 9, next := 0, last := 0 }
    let s : State := let t := wObj (wIn [d.pkt]) 2; { t with fab := { t.fab with rx := [r] } }
    let obj : Nat := 70
    let op : Nat := 1
    s.fab.inbox = [d] ∧ d.pkt.typ = 6 ∧ s.board.towerRst = [] ∧ obj < 65536 ∧ op < 4 ∧ s.pathOpen (.tower (d.port / 4)) (.tower (objTower obj)) (64 * obj) = true ∧ d.pkt.opa = obj + op * 2 ^ 16 ∧ s.fab.rx = [r] ∧ r.src = d.pkt.src ∧ r.tag = d.pkt.tag ∧ d.pkt.seq < 2 ^ 32 ∧ r.next < 2 ^ 32 ∧ r.next = (d.pkt.seq + 1) % 2 ^ 32)
    ∧ (let d : Delivered := { port := 1, pkt := { wFp 5 7 6 [] with opa := 70 + 2 ^ 16, opb := 2 ^ 32 - 1, seq := 2 ^ 32 - 1 } }
    let s : State := wObj (wIn [d.pkt]) 2
    let obj : Nat := 70
    s.fab.inbox = [d] ∧ d.pkt.typ = 6 ∧ s.board.towerRst = [] ∧ d.pkt.first = false ∧ s.fab.rx = [] ∧ obj = d.pkt.opa % 65536 ∧ s.pathOpen (.tower (d.port / 4)) (.tower (objTower obj)) (64 * obj) = true ∧ d.pkt.seq < 2 ^ 32) := by
  refine ⟨?_, ?_, ?_, ?_⟩
  · dsimp only; decide +kernel
  · dsimp only; decide +kernel
  · dsimp only; decide +kernel
  · dsimp only; decide +kernel

/-- Clauses of DeliveryEndToEnd. -/
theorem witness_DeliveryEndToEnd_3 :
    (let d : Delivered := { port := 1, pkt := { wFp 5 7 4 [] with opa := 3 } }
    let m : FabMsg := { pkt := wFp 7 5 1 [], die := 0, use := .move 0 0 3, owner := { ctx := 1, entry := none }, sent := 0, last := 0, acked := false }
    let s : State := let t := wIn [d.pkt]; { t with fab := { t.fab with msgs := [m] } }
    let k : Nat := 0
    let mv : Nat := 0
    let id : Nat := 3
    s.fab.inbox = [d] ∧ d.pkt.typ = 4 ∧ s.fab.msgs = [m] ∧ m.acked = false ∧ m.use = .move k mv id ∧ m.pkt.seq = d.pkt.opa % 2 ^ 32 ∧ m.pkt.dst = d.pkt.src ∧ m.pkt.tag = d.pkt.tag ∧ d.pkt.opa / 2 ^ 32 % 16 = 0)
    ∧ (let d : Delivered := { port := 1, pkt := { wFp 5 7 4 [] with opa := 3 + 2 ^ 32 } }
    let m : FabMsg := { pkt := wFp 7 5 1 [], die := 0, use := .move 0 0 3, owner := { ctx := 1, entry := none }, sent := 0, last := 0, acked := false }
    let s : State := let t := wIn [d.pkt]; { t with fab := { t.fab with msgs := [m] } }
    let k : Nat := 0
    let mv : Nat := 0
    let id : Nat := 3
    s.fab.inbox = [d] ∧ d.pkt.typ = 4 ∧ s.fab.msgs = [m] ∧ m.acked = false ∧ m.use = .move k mv id ∧ m.pkt.seq = d.pkt.opa % 2 ^ 32 ∧ m.pkt.dst = d.pkt.src ∧ m.pkt.tag = d.pkt.tag ∧ d.pkt.opa / 2 ^ 32 % 16 = 1)
    ∧ (let d : Delivered := { port := 1, pkt := { wFp 5 7 4 [] with opa := 3 + 2 * 2 ^ 32 } }
    let m : FabMsg := { pkt := wFp 7 5 1 [], die := 0, use := .move 0 0 3, owner := { ctx := 1, entry := none }, sent := 0, last := 0, acked := false }
    let s : State := let t := wIn [d.pkt]; { t with fab := { t.fab with msgs := [m] } }
    let k : Nat := 0
    let mv : Nat := 0
    let id : Nat := 3
    s.fab.inbox = [d] ∧ d.pkt.typ = 4 ∧ s.fab.msgs = [m] ∧ m.acked = false ∧ m.use = .move k mv id ∧ m.pkt.seq = d.pkt.opa % 2 ^ 32 ∧ m.pkt.dst = d.pkt.src ∧ m.pkt.tag = d.pkt.tag ∧ d.pkt.opa / 2 ^ 32 % 16 = 2)
    ∧ (let ch : Nat := 60
    let d : Delivered := { port := 1, pkt := { wFp 5 7 4 [] with opa := 3 } }
    let m : FabMsg := { pkt := { wFp 7 5 1 [] with seq := 3 }, die := 0, use := .copy 60 0, owner := { ctx := 1, entry := none }, sent := 0, last := 0, acked := false }
    let c : FabCopy := { pull := false, ctx := 1, chan := 60, bytes := 64, dst := 7, tag := 9, rva := 64, va := 0x3000, left := [], doneObj := none }
    let s : State := let t := wBusy (wIn [d.pkt]) 0x302; { t with fab := { t.fab with msgs := [m], copies := [c] } }
    let va : Nat := 0
    s.fab.inbox = [d] ∧ d.pkt.typ = 4 ∧ s.fab.msgs = [m] ∧ m.acked = false ∧ m.use = .copy ch va ∧ m.pkt.seq = d.pkt.opa % 2 ^ 32 ∧ m.pkt.dst = d.pkt.src ∧ m.pkt.tag = d.pkt.tag ∧ d.pkt.opa / 2 ^ 32 % 16 = 0 ∧ m.sent = 0 ∧ s.fab.copies = [c] ∧ c.chan = ch ∧ c.left = [] ∧ c.doneObj = none) := by
  refine ⟨?_, ?_, ?_, ?_⟩
  · dsimp only; decide +kernel
  · dsimp only; decide +kernel
  · dsimp only; decide +kernel
  · dsimp only; decide +kernel

/-- Clauses of DeliveryEndToEnd. -/
theorem witness_DeliveryEndToEnd_4 :
    (let a : FabPkt := { wFp 7 5 6 [] with seq := 2 ^ 31 - 1 }
    let b : FabPkt := { wFp 7 5 6 [] with seq := 2 ^ 31 }
    let d : Delivered := { port := 1, pkt := { wFp 5 7 4 [] with opa := 2 ^ 31 - 1 } }
    let x : TxStream := { dst := 7, tag := 9, next := 5, unacked := [a, b], die := 0, sent := 3, last := 0 }
    let s : State := let t := wIn [d.pkt]; { t with fab := { t.fab with tx := [x] } }
    s.fab.inbox = [d] ∧ d.pkt.typ = 4 ∧ s.fab.msgs = [] ∧ s.fab.tx = [x] ∧ x.dst = d.pkt.src ∧ x.tag = d.pkt.tag ∧ x.unacked = [a, b] ∧ d.pkt.opa = a.seq ∧ a.seq < 2 ^ 31 ∧ b.seq = a.seq + 1)
    ∧ (let ch : Nat := 60
    let d : Delivered := { port := 1, pkt := { wFp 5 7 3 [1, 2, 3] with opa := 0 } }
    let m : FabMsg := { pkt := wFp 7 5 2 [], die := 0, use := .copy 60 0x3000, owner := { ctx := 1, entry := none }, sent := 0, last := 0, acked := false }
    let s : State := let t := wBusy (wIn [d.pkt]) 0x302; { t with fab := { t.fab with msgs := [m], copies := [{ pull := true, ctx := 1, chan := 60, bytes := 64, dst := 7, tag := 9, rva := 64, va := 0x3000, left := [], doneObj := none }] } }
    let va : Nat := 0x3000
    let rr := s.writeVa (.base m.die) m.owner.ctx va ((List.range d.pkt.payload.length).map (fun j => (d.pkt.payload.getD j 0, d.pkt.opb.testBit (j / 64)))) .fabric m.owner
    let z : State := rr.1
    let c : FabCopy := { pull := true, ctx := 1, chan := 60, bytes := 64, dst := 7, tag := 9, rva := 64, va := 0x3000, left := [], doneObj := none }
    s.fab.inbox = [d] ∧ d.pkt.typ = 3 ∧ s.fab.msgs = [m] ∧ m.acked = false ∧ m.use = .copy ch va ∧ m.pkt.seq = d.pkt.seq ∧ m.pkt.dst = d.pkt.src ∧ m.pkt.typ = 2 ∧ m.sent = 0 ∧ s.fab.copies = [c] ∧ c.chan = ch ∧ c.left = [] ∧ c.doneObj = none ∧ z.fab = s.fab ∧ s.writeVa (.base m.die) m.owner.ctx va ((List.range d.pkt.payload.length).map (fun j => (d.pkt.payload.getD j 0, d.pkt.opb.testBit (j / 64)))) .fabric m.owner = (z, .ok []))
    ∧ (let m : FabMsg := { pkt := wFp 7 5 2 [], die := 0, use := .copy 60 0x3000, owner := { ctx := 1, entry := none }, sent := 0, last := 0, acked := false }
    let s : State := let t := wIn []; { t with fab := { t.fab with msgs := [m] } }
    let u : State := { s with now := max s.now (m.last + s.fld A.fabCfg F.fabCfg_E2E_US * 200) }
    s.fab.msgs = [m] ∧ m.acked = false ∧ m.die < 4 ∧ u = { s with now := max s.now (m.last + s.fld A.fabCfg F.fabCfg_E2E_US * 200) } ∧ m.sent < s.fld A.fabCfg F.fabCfg_E2E_RETRIES)
    ∧ (let m : FabMsg := { pkt := wFp 7 5 2 [], die := 0, use := .copy 60 0x3000, owner := { ctx := 1, entry := none }, sent := 99, last := 0, acked := false }
    let s : State := let t := wBusy (wIn []) 0x302; { t with fab := { t.fab with msgs := [m] } }
    let u : State := { s with now := max s.now (m.last + s.fld A.fabCfg F.fabCfg_E2E_US * 200) }
    s.fab.msgs = [m] ∧ m.acked = false ∧ m.die < 4 ∧ u = { s with now := max s.now (m.last + s.fld A.fabCfg F.fabCfg_E2E_US * 200) } ∧ s.fld A.fabCfg F.fabCfg_E2E_RETRIES ≤ m.sent) := by
  refine ⟨?_, ?_, ?_, ?_⟩
  · dsimp only; decide +kernel
  · dsimp only; decide +kernel
  · dsimp only; decide +kernel
  · dsimp only; decide +kernel

/-- Clauses of DeliveryEndToEnd. -/
theorem witness_DeliveryEndToEnd_5 :
    (let a : FabPkt := { wFp 7 5 6 [] with seq := 4 }
    let x : TxStream := { dst := 7, tag := 9, next := 5, unacked := [a], die := 3, sent := 0, last := 0 }
    let s : State := let t := wIn []; { t with fab := { t.fab with tx := [x] } }
    let u : State := { s with now := max s.now (x.since + s.fld A.fabCfg F.fabCfg_E2E_US * 200) }
    s.fab.tx = [x] ∧ x.unacked = [a] ∧ x.die < 4 ∧ u = { s with now := max s.now (x.since + s.fld A.fabCfg F.fabCfg_E2E_US * 200) } ∧ x.sent < s.fld A.fabCfg F.fabCfg_E2E_RETRIES)
    ∧ (let a : FabPkt := { wFp 7 5 6 [] with seq := 4 }
    let x : TxStream := { dst := 7, tag := 9, next := 5, unacked := [a], die := 3, sent := 99, last := 0 }
    let s : State := let t := wIn []; { t with fab := { t.fab with tx := [x] } }
    let u : State := { s with now := max s.now (x.since + s.fld A.fabCfg F.fabCfg_E2E_US * 200) }
    s.fab.tx = [x] ∧ x.unacked = [a] ∧ x.die < 4 ∧ u = { s with now := max s.now (x.since + s.fld A.fabCfg F.fabCfg_E2E_US * 200) } ∧ s.fld A.fabCfg F.fabCfg_E2E_RETRIES ≤ x.sent ∧ s.fab.colls = [])
    ∧ (let x : TxStream := { dst := 7, tag := 9, next := 5, unacked := [], die := 3, sent := 0, last := 0 }
    let r : RxStream := { src := 7, tag := 9, next := 0, last := 0 }
    let s : State := let t := wIn []; { t with fab := { t.fab with tx := [x], rx := [r] } }
    s.fab.tx = [x] ∧ s.fab.rx = [r] ∧ x.unacked = [])
    ∧ (let ch : Nat := 60
    let s : State := wIn []
    let ctx : Nat := 1
    let dst : Nat := 7
    let tag : Nat := 9
    let va : Nat := 0x4000
    let rva : Nat := 2 ^ 57 - 4096
    let n : Nat := 4096
    let p : Packet := wPkt [1 + 3 * 2 ^ 8 + 7 * 2 ^ 32, 0x4000, 4096, 2 ^ 57 - 4096]
    s.accepts ch 0x302 p ∧ p.length = 48 ∧ ctx < 256 ∧ dst < 2 ^ 22 ∧ pword p 1 = va ∧ pword p 2 = n ∧ pword p 3 = rva ∧ va % 64 = 0 ∧ rva % 64 = 0 ∧ n % 64 = 0 ∧ va + n ≤ 2 ^ 57 ∧ rva + n ≤ 2 ^ 57 ∧ 0 < n ∧ s.ctxOpen ctx = true ∧ s.jobTag ctx = some tag ∧ s.prefetches < 4 ∧ s.eclipse = false ∧ s.err.armed = [] ∧ pword p 0 = ctx + 3 * 2 ^ 8 + dst * 2 ^ 32 ∧ n ≤ 4096) := by
  refine ⟨?_, ?_, ?_, ?_⟩
  · dsimp only; decide +kernel
  · dsimp only; decide +kernel
  · dsimp only; decide +kernel
  · dsimp only; unfold State.accepts; decide +kernel

/-- Clauses of DeliveryEndToEnd. -/
theorem witness_DeliveryEndToEnd_6 :
    (let ch : Nat := 60
    let s : State := wIn []
    let ctx : Nat := 1
    let dst : Nat := 7
    let tag : Nat := 9
    let va : Nat := 0x4000
    let rva : Nat := 2 ^ 57 - 64
    let n : Nat := 64
    let p : Packet := wPkt [1 + 2 * 2 ^ 8 + 7 * 2 ^ 32, 0x4000, 64, 2 ^ 57 - 64]
    let c : FabCopy := { pull := false, ctx := 1, chan := 60, bytes := 64, dst := 7, tag := 9, rva := rva, va := va, left := [], doneObj := none }
    let rr := ({ s.taken 60 0x302 p with fab := { s.fab with copies := [c] } }).readVa (.base 0) ctx va n .read .fabric (some { ctx := ctx, entry := none })
    let z : State := rr.1
    let bs : List (Byte × Bool) := match rr.2 with | .ok bs => bs | _ => []
    s.accepts ch 0x302 p ∧ p.length = 48 ∧ ctx < 256 ∧ dst < 2 ^ 22 ∧ pword p 1 = va ∧ pword p 2 = n ∧ pword p 3 = rva ∧ va % 64 = 0 ∧ rva % 64 = 0 ∧ n % 64 = 0 ∧ va + n ≤ 2 ^ 57 ∧ rva + n ≤ 2 ^ 57 ∧ 0 < n ∧ s.ctxOpen ctx = true ∧ s.jobTag ctx = some tag ∧ s.prefetches < 4 ∧ s.eclipse = false ∧ s.err.armed = [] ∧ pword p 0 = ctx + 2 * 2 ^ 8 + dst * 2 ^ 32 ∧ va % 4096 + n ≤ 4096 ∧ s.fab.copies = [] ∧ c = { pull := false, ctx := ctx, chan := ch, bytes := n, dst := dst, tag := tag, rva := rva, va := va, left := [], doneObj := none } ∧ ({ s.taken ch 0x302 p with fab := { s.fab with copies := [c] } }).readVa (.base 0) ctx va n .read .fabric (some { ctx := ctx, entry := none }) = (z, .ok bs) ∧ bs.length = n ∧ z.fab.copies = [c]) := by
  dsimp only; unfold State.accepts; decide +kernel

/-- Clauses of FlaresPrepareCommitAndAbort. -/
theorem witness_FlaresPrepareCommitAndAbort :
    (let ch : Nat := 60
    let s : State := wFree [] []
    let id : Nat := 77
    let slot : Nat := 1
    let d : List Nat := wDesc 5
    let p : Packet := wPkt (1 :: wDesc 5)
    s.accepts ch 0xA05 p ∧ p.length = 56 + 8 * descRanges d ∧ p.params.map (·.toNat) = 1 :: d ∧ descValid d = true ∧ id = descId d ∧ memberId d 0 = some s.ownId ∧ s.ownId ≠ idUnset ∧ s.fab.flares = [] ∧ s.mayJoin d = true ∧ (s.slotOf (descTag d)).orElse (fun _ => s.freeTagSlot) = some slot ∧ childrenOf d 0 ≠ [])
    ∧ (let e : Delivered := { port := 1, pkt := wFlp 1 1 (descBytes (wDesc 4)) }
    let s : State := wFree [e.pkt] []
    let id : Nat := 77
    let i : Nat := 1
    let slot : Nat := 1
    let d : List Nat := wDesc 4
    s.fab.inbox = [e] ∧ e.pkt.typ = 9 ∧ e.pkt.opa = 1 + id * 2 ^ 32 ∧ id < 2 ^ 32 ∧ e.pkt.opb = i ∧ i < 2 ^ 24 ∧ e.pkt.payload = descBytes d ∧ (∀ w ∈ d, w < 2 ^ 64) ∧ s.turnOf e = .apply ∧ s.fab.flares = [] ∧ descValid d = true ∧ memberId d i = some s.ownId ∧ s.mayJoin d = true ∧ (s.slotOf (descTag d)).orElse (fun _ => s.freeTagSlot) = some slot ∧ childrenOf d i = [])
    ∧ (let e : Delivered := { port := 1, pkt := wFlp 1 1 (descBytes (wDesc 4)) }
    let s : State := (wFree [e.pkt] []).setFld A.fabDevStatus F.fabDevStatus_PART 1
    let id : Nat := 77
    let i : Nat := 1
    let d : List Nat := wDesc 4
    s.fab.inbox = [e] ∧ e.pkt.typ = 9 ∧ e.pkt.opa = 1 + id * 2 ^ 32 ∧ id < 2 ^ 32 ∧ e.pkt.opb = i ∧ i < 2 ^ 24 ∧ e.pkt.payload = descBytes d ∧ (∀ w ∈ d, w < 2 ^ 64) ∧ s.turnOf e = .apply ∧ s.fab.flares = [] ∧ descValid d = true ∧ memberId d i = some s.ownId ∧ s.partState = 1 ∧ s.eclipse = false)
    ∧ (let e : Delivered := { port := 1, pkt := wFlp 1 1 (descBytes (wDesc 4)) }
    let s : State := wIn [e.pkt]
    let id : Nat := 77
    let i : Nat := 1
    let d : List Nat := wDesc 4
    s.fab.inbox = [e] ∧ e.pkt.typ = 9 ∧ e.pkt.opa = 1 + id * 2 ^ 32 ∧ id < 2 ^ 32 ∧ e.pkt.opb = i ∧ i < 2 ^ 24 ∧ e.pkt.payload = descBytes d ∧ (∀ w ∈ d, w < 2 ^ 64) ∧ s.turnOf e = .apply ∧ s.fab.flares = [] ∧ descValid d = true ∧ memberId d i = some s.ownId ∧ s.partState = 3) := by
  refine ⟨?_, ?_, ?_, ?_⟩
  · dsimp only; unfold State.accepts; decide +kernel
  · dsimp only; decide +kernel
  · dsimp only; decide +kernel
  · dsimp only; decide +kernel

/-- Clauses of FlaresPrepareCommitAndAbort. -/
theorem witness_FlaresPrepareCommitAndAbort_2 :
    (let ch : Nat := 60
    let e : Delivered := { port := 1, pkt := wFlp 2 1 (summaryBytes (1, [], false)) }
    let f : Flare := { wFlare 5 0 2 none [{ index := 1, deadline := 9, answer := none }] with chan := some 60 }
    let s : State := wBusy (wJoin [e.pkt] [f]) 0xA05
    let c : Nat := 1
    let dl : Nat := 9
    let n : Nat := 1
    s.fab.inbox = [e] ∧ e.pkt.typ = 9 ∧ f.id < 2 ^ 32 ∧ e.pkt.opb = c ∧ c < 2 ^ 24 ∧ s.turnOf e = .apply ∧ s.fab.flares = [f] ∧ f.parent = none ∧ f.kids = [{ index := c, deadline := dl, answer := none }] ∧ f.held = false ∧ f.chan = some ch ∧ f.doneObj = none ∧ e.pkt.payload = summaryBytes (n, [], false) ∧ 0 < n ∧ 1 + n = descMembers f.desc ∧ n < 2 ^ 24 - 1 ∧ e.pkt.opa = 2 + f.id * 2 ^ 32 ∧ 1 ≤ f.phase ∧ f.phase ≤ 2 ∧ s.now ≤ dl)
    ∧ (let ch : Nat := 60
    let e : Delivered := { port := 1, pkt := wFlp 5 1 (summaryBytes (1, [], false)) }
    let f : Flare := { wFlare 5 0 4 none [{ index := 1, deadline := 9, answer := none }] with chan := some 60 }
    let s : State := wBusy (wJoin [e.pkt] [f]) 0xA05
    let c : Nat := 1
    let dl : Nat := 9
    let n : Nat := 1
    s.fab.inbox = [e] ∧ e.pkt.typ = 9 ∧ f.id < 2 ^ 32 ∧ e.pkt.opb = c ∧ c < 2 ^ 24 ∧ s.turnOf e = .apply ∧ s.fab.flares = [f] ∧ f.parent = none ∧ f.kids = [{ index := c, deadline := dl, answer := none }] ∧ f.held = false ∧ f.chan = some ch ∧ f.doneObj = none ∧ e.pkt.payload = summaryBytes (n, [], false) ∧ 0 < n ∧ 1 + n = descMembers f.desc ∧ n < 2 ^ 24 - 1 ∧ e.pkt.opa = 5 + f.id * 2 ^ 32 ∧ f.phase = 4 ∧ s.now ≤ dl)
    ∧ (let ch : Nat := 60
    let e : Delivered := { port := 1, pkt := wFlp 2 1 (summaryBytes (1, [], false)) }
    let f : Flare := { wFlare 5 0 6 none [{ index := 1, deadline := 9, answer := none }] with chan := some 60 }
    let s : State := wBusy (wJoin [e.pkt] [f]) 0xA05
    let c : Nat := 1
    let dl : Nat := 9
    let n : Nat := 1
    s.fab.inbox = [e] ∧ e.pkt.typ = 9 ∧ f.id < 2 ^ 32 ∧ e.pkt.opb = c ∧ c < 2 ^ 24 ∧ s.turnOf e = .apply ∧ s.fab.flares = [f] ∧ f.parent = none ∧ f.kids = [{ index := c, deadline := dl, answer := none }] ∧ f.held = false ∧ f.chan = some ch ∧ f.doneObj = none ∧ e.pkt.payload = summaryBytes (n, [], false) ∧ 0 < n ∧ 1 + n = descMembers f.desc ∧ n < 2 ^ 24 - 1 ∧ e.pkt.opa = 2 + f.id * 2 ^ 32 ∧ 3 ≤ f.phase ∧ f.phase ≤ 6)
    ∧ (let e : Delivered := { port := 1, pkt := wFlp 3 1 (leBytes 8 500) }
    let f : Flare := { wFlare 5 0 1 none [{ index := 1, deadline := 9, answer := none }] with chan := some 60 }
    let s : State := wBusy (wJoin [e.pkt] [f]) 0xA05
    let c : Nat := 1
    let dl : Nat := 9
    let b : Nat := 500
    s.fab.inbox = [e] ∧ e.pkt.typ = 9 ∧ e.pkt.opa = 3 + f.id * 2 ^ 32 ∧ f.id < 2 ^ 32 ∧ e.pkt.opb = c ∧ c < 2 ^ 24 ∧ s.turnOf e = .apply ∧ s.fab.flares = [f] ∧ f.parent = none ∧ f.kids = [{ index := c, deadline := dl, answer := none }] ∧ f.held = false ∧ 1 ≤ f.phase ∧ f.phase ≤ 2 ∧ e.pkt.payload = leBytes 8 b ∧ b < 2 ^ 64) := by
  refine ⟨?_, ?_, ?_, ?_⟩
  · dsimp only; decide +kernel
  · dsimp only; decide +kernel
  · dsimp only; decide +kernel
  · dsimp only; decide +kernel

/-- Clauses of FlaresPrepareCommitAndAbort. -/
theorem witness_FlaresPrepareCommitAndAbort_3 :
    (let f : Flare := { wFlare 5 0 1 (some 7) [{ index := 1, deadline := 9, answer := none }] with chan := none }
    let s : State := wJoin [] [f]
    let c : Nat := 1
    let dl : Nat := 9
    let g : Nat := 6
    let up : Nat := 7
    s.fab.flares = [f] ∧ f.parent = some up ∧ f.kids = [{ index := c, deadline := dl, answer := none }] ∧ f.held = false ∧ 1 ≤ f.phase ∧ f.phase ≤ 2 ∧ memberId f.desc c = some g ∧ g < 2 ^ 22 ∧ c < 2 ^ 24)
    ∧ (let ch : Nat := 60
    let f : Flare := wFlare 5 0 3 none [{ index := 1, deadline := 9, answer := some (1, [], false) }]
    let s : State := wJoin [] [f]
    let c : Nat := 1
    let n : Nat := 1
    let dl : Nat := 9
    let slot : Nat := 1
    let p : Packet := wPkt [77]
    s.accepts ch 0xA06 p ∧ p.length = 24 ∧ pword p 0 = f.id ∧ f.id < 2 ^ 32 ∧ s.fab.flares = [f] ∧ f.parent = none ∧ f.phase = 3 ∧ f.held = false ∧ f.kids = [{ index := c, deadline := dl, answer := some (n, [], false) }] ∧ 0 < n ∧ s.fld A.fabDevStatus F.fabDevStatus_MEMBER_SLOT = slot ∧ 1 ≤ slot ∧ slot < 64)
    ∧ (let e : Delivered := { port := 1, pkt := wFlp 4 1 (descBytes (wDesc 4)) }
    let f : Flare := wFlare 4 1 3 (some 7) []
    let s : State := wJoin [e.pkt] [f]
    let slot : Nat := 1
    s.fab.inbox = [e] ∧ e.pkt.typ = 9 ∧ e.pkt.opa = 4 + f.id * 2 ^ 32 ∧ f.id < 2 ^ 32 ∧ s.turnOf e = .apply ∧ s.fab.flares = [f] ∧ f.parent = some e.pkt.src ∧ f.phase = 3 ∧ f.kids = [] ∧ s.joiningFor f = true ∧ s.fld A.fabDevStatus F.fabDevStatus_MEMBER_SLOT = slot ∧ 1 ≤ slot ∧ slot < 64)
    ∧ (let ch : Nat := 60
    let e : Delivered := { port := 1, pkt := wFlp 6 1 [] }
    let f : Flare := wFlare 5 0 3 none []
    let s : State := wJoin [e.pkt] [f]
    let slot : Nat := 1
    let p : Packet := wPkt [77]
    s.fab.flares = [f] ∧ 1 ≤ f.phase ∧ f.phase ≤ 3 ∧ f.kids = [] ∧ s.joiningFor f = true ∧ s.fld A.fabDevStatus F.fabDevStatus_MEMBER_SLOT = slot ∧ 1 ≤ slot ∧ slot < 64 ∧ f.id < 2 ^ 32 ∧ f.doneObj = none ∧ (∀ x ∈ s.fab.table, bitsOf x.2 10 6 ≠ slot) ∧ s.accepts ch 0xA07 p ∧ p.length = 24 ∧ pword p 0 = f.id ∧ f.parent = none ∧ f.chan = none) := by
  refine ⟨?_, ?_, ?_, ?_⟩
  · dsimp only; decide +kernel
  · dsimp only; unfold State.accepts; decide +kernel
  · dsimp only; decide +kernel
  · dsimp only; unfold State.accepts; decide +kernel

/-- Clauses of FlaresPrepareCommitAndAbort. -/
theorem witness_FlaresPrepareCommitAndAbort_4 :
    (let e : Delivered := { port := 1, pkt := wFlp 6 1 [] }
    let f : Flare := wFlare 4 1 3 (some 7) []
    let s : State := wJoin [e.pkt] [f]
    let slot : Nat := 1
    s.fab.flares = [f] ∧ 1 ≤ f.phase ∧ f.phase ≤ 3 ∧ f.kids = [] ∧ s.joiningFor f = true ∧ s.fld A.fabDevStatus F.fabDevStatus_MEMBER_SLOT = slot ∧ 1 ≤ slot ∧ slot < 64 ∧ f.id < 2 ^ 32 ∧ f.doneObj = none ∧ (∀ x ∈ s.fab.table, bitsOf x.2 10 6 ≠ slot) ∧ s.fab.inbox = [e] ∧ e.pkt.typ = 9 ∧ e.pkt.opa = 6 + f.id * 2 ^ 32 ∧ s.turnOf e = .apply ∧ f.parent = some e.pkt.src ∧ f.chan = none)
    ∧ (let f : Flare := wFlare 4 1 3 (some 7) []
    let s : State := wJoin [] [f]
    let slot : Nat := 1
    let up := 7
    s.fab.flares = [f] ∧ 1 ≤ f.phase ∧ f.phase ≤ 3 ∧ f.kids = [] ∧ s.joiningFor f = true ∧ s.fld A.fabDevStatus F.fabDevStatus_MEMBER_SLOT = slot ∧ 1 ≤ slot ∧ slot < 64 ∧ f.id < 2 ^ 32 ∧ f.doneObj = none ∧ (∀ x ∈ s.fab.table, bitsOf x.2 10 6 ≠ slot) ∧ f.parent = some up ∧ f.chan = none) := by
  refine ⟨?_, ?_⟩
  · dsimp only; decide +kernel
  · dsimp only; decide +kernel

/-- Clauses of CollectivesStepAndReportLag. -/
theorem witness_CollectivesStepAndReportLag :
    (let ch : Nat := 60
    let s : State := wObj wFab 1
    let n : Nat := 255
    let ctx : Nat := 1
    let mode : Nat := 1
    let op : Nat := 5
    let fmt : Nat := 0x10
    let rnd : Nat := 3
    let trig : Nat := 70
    let done : Nat := 70
    let ms : Nat := 65535
    let elems : Nat := 2 ^ 32 - 1
    let parent : Nat := 2 ^ 22 - 1
    let root : Nat := 0
    let nch : Nat := 16
    let p : Packet := wPkt ([255 + 2 ^ 8 + 2 ^ 16 + 5 * 2 ^ 18 + 0x10 * 2 ^ 22 + 3 * 2 ^ 27, 70 * 2 ^ 16 + 70 * 2 ^ 32 + 65535 * 2 ^ 48, 0x1000, 0x2000, 2 ^ 32 - 1, 2 ^ 22 - 1 + 16 * 2 ^ 24] ++ List.replicate 8 0x003FFFFF003FFFFF)
    s.accepts ch 0xA08 p ∧ p.length = 128 ∧ n < 256 ∧ ctx < 256 ∧ (mode = 1 ∨ mode = 2 ∧ op = 0 ∧ fmt ≠ 0x10) ∧ op < 6 ∧ fmt ∈ [0x04, 0x05, 0x10, 0x11, 0x12] ∧ (3 ≤ op → fmt = 0x10) ∧ rnd < 4 ∧ trig < 65536 ∧ done < 65536 ∧ ms < 65536 ∧ 1 ≤ elems ∧ elems < 2 ^ 32 ∧ parent < 2 ^ 22 ∧ root < 2 ∧ (root = 1 → parent = 0) ∧ nch ≤ 16 ∧ pword p 0 = n + ctx * 2 ^ 8 + mode * 2 ^ 16 + op * 2 ^ 18 + fmt * 2 ^ 22 + rnd * 2 ^ 27 ∧ pword p 1 = trig * 2 ^ 16 + done * 2 ^ 32 + ms * 2 ^ 48 ∧ pword p 2 < 2 ^ 57 ∧ pword p 3 < 2 ^ 57 ∧ pword p 4 = elems ∧ pword p 5 = parent + root * 2 ^ 22 + nch * 2 ^ 24 ∧ (∀ i, i < 8 → pword p (6 + i) &&& 0xFFC00000FFC00000 = 0) ∧ s.partState = 3 ∧ s.fld A.fabDevStatus F.fabDevStatus_CONTEXT = ctx ∧ (∀ c, s.coll? n = some c → c.running = false) ∧ s.objBoundTo trig ctx = true ∧ s.objBoundTo done ctx = true ∧ s.syn.waits = [])
    ∧ (let ch : Nat := 60
    let s : State := wCol [] (wColl false [])
    let n : Nat := 200
    let p : Packet := wPkt (200 :: List.replicate 13 0)
    s.accepts ch 0xA08 p ∧ p.length = 128 ∧ n < 256 ∧ pword p 0 = n ∧ (∀ i, 1 ≤ i → i < 14 → pword p i = 0) ∧ (∀ c, s.coll? n = some c → c.running = false) ∧ s.syn.waits = [])
    ∧ (let c : Coll := wColl false []
    let w : Wait := { wWait (collWaiter 200) 1 4 with met := true }
    let s : State := let t := (wCol [] c).wrBytes 0x1000 [1, 0, 0, 0]; { t with syn := { t.syn with waits := [w] } }
    let n : Nat := 200
    let tag : Nat := 9
    let rr := (((s.endWait (collWaiter n)).setColl n { c with running := true, start := s.now, inject := 0, written := 0 }).setFld (collStatusOf n) F.collStatus_STATE 1).readVa (.base (n % 4)) c.ctx (c.src % 2 ^ 57) (c.elems * c.esize) .read .fabric (some { ctx := c.ctx, entry := none })
    let z : State := rr.1
    let bs : List (Byte × Bool) := match rr.2 with | .ok bs => bs | _ => []
    n < 256 ∧ s.coll? n = some c ∧ c.running = false ∧ s.syn.waits = [w] ∧ w.who = collWaiter n ∧ w.met = true ∧ s.collsHeld c.ctx = false ∧ c.mode = 1 ∧ c.root = false ∧ c.kids = [] ∧ c.segs = [] ∧ c.segCount = 1 ∧ 0 < c.elems ∧ c.lag = [{ last := 0, total := 0, max := 0 }] ∧ s.jobTag c.ctx = some tag ∧ (((s.endWait (collWaiter n)).setColl n { c with running := true, start := s.now, inject := 0, written := 0 }).setFld (collStatusOf n) F.collStatus_STATE 1).readVa (.base (n % 4)) c.ctx (c.src % 2 ^ 57) (c.elems * c.esize) .read .fabric (some { ctx := c.ctx, entry := none }) = (z, .ok bs) ∧ z.coll? n = some { c with running := true, start := s.now, inject := 0, written := 0 } ∧ z.jobTag c.ctx = some tag ∧ z.fld (collStatusOf n) F.collStatus_STATE = 1)
    ∧ (let c : Coll := wColl true [7, 8]
    let d : Delivered := { port := 1, pkt := { wFp 5 8 7 (List.replicate 16 1) with ord := true, first := true, opa := 200 + 3 * 2 ^ 40 } }
    let s : State := wCol [d.pkt] c
    let n : Nat := 200
    let seg : Nat := 0
    let j : Nat := 1
    let step : Nat := 3
    s.fab.inbox = [d] ∧ d.pkt.typ = 7 ∧ n < 256 ∧ seg < 2 ^ 32 ∧ c.kids.Nodup ∧ d.pkt.opa = n + seg * 2 ^ 8 + c.step % 2 ^ 24 * 2 ^ 40 ∧ s.coll? n = some c ∧ c.kids[j]? = some d.pkt.src ∧ 2 ≤ c.kids.length ∧ c.step = step ∧ c.step < 2 ^ 32 ∧ s.fld (collStatusOf n) F.collStatus_STATE ≠ 2 ∧ seg < c.segCount ∧ c.segs = [] ∧ s.turnOf d = .apply) := by
  refine ⟨?_, ?_, ?_, ?_⟩
  · dsimp only; unfold State.accepts; decide +kernel
  · dsimp only; exact ⟨(by unfold State.accepts; decide +kernel), (by decide +kernel), (by decide +kernel), (by decide +kernel), wSpan (by decide +kernel), (by decide +kernel), (by decide +kernel)⟩
  · dsimp only; decide +kernel
  · dsimp only; decide +kernel

/-- Clauses of CollectivesStepAndReportLag. -/
theorem witness_CollectivesStepAndReportLag_2 :
    (let c : Coll := { wColl true [] with segs := [{ step := 3, seg := 0, first := 0, parts := [], up := true }] }
    let g : CollSeg := { step := 3, seg := 0, first := 0, parts := [], up := true }
    let d : Delivered := { port := 1, pkt := { wFp 5 4 8 (List.replicate 16 1) with ord := true, first := true, opa := 200 + 3 * 2 ^ 40 } }
    let s : State := wCol [d.pkt] c
    let n : Nat := 200
    let seg : Nat := 0
    let z : State := (s.writeResult n seg c d.pkt.payload false).1
    s.fab.inbox = [d] ∧ d.pkt.typ = 8 ∧ n < 256 ∧ seg < 2 ^ 32 ∧ d.pkt.opa = n + seg * 2 ^ 8 + c.step % 2 ^ 24 * 2 ^ 40 ∧ s.coll? n = some c ∧ c.running = true ∧ c.root = false ∧ c.step < 2 ^ 32 ∧ d.pkt.src = c.parent ∧ c.segs = [g] ∧ g.step = c.step ∧ g.seg = seg ∧ g.up = true ∧ s.turnOf d = .apply ∧ s.writeResult n seg c d.pkt.payload (d.pkt.opb ≠ 0) = (z, true) ∧ z.fab = s.fab)
    ∧ (let c : Coll := { wColl true [] with written := 1 }
    let s : State := wCol [] c
    let n : Nat := 200
    n < 256 ∧ s.coll? n = some c ∧ c.running = true ∧ c.written = c.segCount ∧ c.done < 65536 ∧ c.step < 2 ^ 32 ∧ s.syn.waits = [])
    ∧ (let c : Coll := wColl true [7]
    let s : State := wCol [] c
    let n : Nat := 200
    let k : Nat := 7
    n < 256 ∧ s.coll? n = some c ∧ c.running = true ∧ c.kids = [k] ∧ s.err.recov = [] ∧ c.segs = [])
    ∧ (let ch : Nat := 60
    let c : Coll := wColl true []
    let l : CollLag := { last := 0, total := 0, max := 0 }
    let s : State := wCol [] c
    let n : Nat := 200
    let clear : Nat := 1
    let p : Packet := wPkt [200 + 2 ^ 8]
    let r : State := (s.taken 60 0xA09 p).reply 60 St.ok [s.fld (collStatusOf n) F.collStatus_STEPS, s.ownId + l.last * 2 ^ 32, l.total + l.max * 2 ^ 32]
    s.accepts ch 0xA09 p ∧ p.length = 24 ∧ n < 256 ∧ clear < 2 ∧ pword p 0 = n + clear * 2 ^ 8 ∧ s.coll? n = some c ∧ c.kids = [] ∧ c.lag = [l] ∧ r = (s.taken ch 0xA09 p).reply ch St.ok [s.fld (collStatusOf n) F.collStatus_STEPS, s.ownId + l.last * 2 ^ 32, l.total + l.max * 2 ^ 32]) := by
  refine ⟨?_, ?_, ?_, ?_⟩
  · dsimp only; decide +kernel
  · dsimp only; decide +kernel
  · dsimp only; decide +kernel
  · dsimp only; unfold State.accepts; decide +kernel

/-- Clauses of CollectivesStepAndReportLag. -/
theorem witness_CollectivesStepAndReportLag_3 :
    (let ch : Nat := 60
    let s : State := wIn []
    let n : Nat := 200
    let p : Packet := wPkt [200]
    s.accepts ch 0xA09 p ∧ p.length = 24 ∧ n < 256 ∧ pword p 0 = n ∧ s.coll? n = none) := by
  dsimp only; unfold State.accepts; decide +kernel

/-- Clauses of ManagementPacketsAndAggregators. -/
theorem witness_ManagementPacketsAndAggregators :
    (let d : Delivered := { port := 1, pkt := wMg 1 wNop }
    let s : State := (wFree [d.pkt] []).setFld A.fabMgmtCfg F.fabMgmtCfg_SRC62 7
    let c : Nat := 62
    s.fab.inbox = [d] ∧ d.pkt.typ = 10 ∧ d.pkt.opa = 1 ∧ s.turnOf d = .apply ∧ s.mgmtChan d.pkt.src = some c ∧ (s.chan c).arrived.length < 8)
    ∧ (let d : Delivered := { port := 1, pkt := wMg 1 wNop }
    let s : State := ((wFree [d.pkt] []).setFld A.fabMgmtCfg F.fabMgmtCfg_SRC62 7).modChan 62 (fun x => { x with arrived := List.replicate 8 wNop })
    let c : Nat := 62
    s.fab.inbox = [d] ∧ d.pkt.typ = 10 ∧ d.pkt.opa = 1 ∧ s.turnOf d = .apply ∧ s.mgmtChan d.pkt.src = some c ∧ 8 ≤ (s.chan c).arrived.length)
    ∧ (let d : Delivered := { port := 1, pkt := wMg 1 wNop }
    let s : State := (wFree [d.pkt] []).setFlds A.fabMgmtCfg [(F.fabMgmtCfg_SRC62, 8), (F.fabMgmtCfg_SRC63, 9)]
    s.fab.inbox = [d] ∧ d.pkt.typ = 10 ∧ d.pkt.opa = 1 ∧ s.mgmtChan d.pkt.src = none ∧ d.port < 16)
    ∧ (let d : Delivered := { port := 1, pkt := wMg 2 wNop }
    let s : State := wFree [d.pkt] []
    s.fab.inbox = [d] ∧ d.pkt.typ = 10 ∧ s.turnOf d = .apply ∧ d.pkt.opa = 2) := by
  refine ⟨?_, ?_, ?_, ?_⟩
  · dsimp only; decide +kernel
  · dsimp only; decide +kernel
  · dsimp only; decide +kernel
  · dsimp only; decide +kernel

/-- Clauses of ManagementPacketsAndAggregators. -/
theorem witness_ManagementPacketsAndAggregators_2 :
    (let d : Delivered := { port := 1, pkt := wMg 6 wNop }
    let s : State := wFree [d.pkt] []
    s.fab.inbox = [d] ∧ d.pkt.typ = 10 ∧ s.turnOf d = .apply ∧ d.pkt.opa = 6)
    ∧ (let d : Delivered := { port := 1, pkt := wMg 4 (leBytes 8 10) }
    let s : State := wFree [d.pkt] []
    let per := 10
    s.fab.inbox = [d] ∧ d.pkt.typ = 10 ∧ s.turnOf d = .apply ∧ d.pkt.opa = 4 ∧ d.pkt.src < 2 ^ 22 ∧ per < 2 ^ 64 ∧ d.pkt.payload = leBytes 8 per)
    ∧ (let d : Delivered := { port := 1, pkt := wMg 5 [] }
    let s : State := (wFree [d.pkt] []).setFld A.fabMgmtStatus F.fabMgmtStatus_AGG_ID 7
    s.fab.inbox = [d] ∧ d.pkt.typ = 10 ∧ s.turnOf d = .apply ∧ d.pkt.opa = 5 ∧ s.fld A.fabMgmtStatus F.fabMgmtStatus_AGG_ID = d.pkt.src)
    ∧ (let a : Aggregator := { period := 10, upstream := 4, pa := 0, kids := [(7, [], 0)], answered := [], lost := [], alerting := [], since := 0, chan := none }
    let d : Delivered := { port := 1, pkt := wMg 3 (List.replicate 64 1) }
    let s : State := let t := wFree [d.pkt] []; { t with fab := { t.fab with agg := some a } }
    let t0 : Nat := 0
    let old : List Byte := []
    s.fab.inbox = [d] ∧ d.pkt.typ = 10 ∧ s.turnOf d = .apply ∧ d.pkt.opa = 3 ∧ s.fab.agg = some a ∧ a.kids = [(d.pkt.src, old, t0)] ∧ a.lost = []) := by
  refine ⟨?_, ?_, ?_, ?_⟩
  · dsimp only; decide +kernel
  · dsimp only; decide +kernel
  · dsimp only; decide +kernel
  · dsimp only; decide +kernel

/-- Clauses of ManagementPacketsAndAggregators. -/
theorem witness_ManagementPacketsAndAggregators_3 :
    (let s : State := let t := (wFree [] []).setFld A.fabMgmtStatus F.fabMgmtStatus_AGG_ID 7; { t with fab := { t.fab with period := 10 } }
    let up : Nat := 7
    s.fld A.fabMgmtStatus F.fabMgmtStatus_AGG_ID = up ∧ up ≠ idUnset ∧ 0 < s.fab.period)
    ∧ (let ch : Nat := 60
    let s : State := wFree [] []
    let per : Nat := 10000
    let up : Nat := 2 ^ 22 - 1
    let pa : Nat := 0x1000
    let g : Nat := 2 ^ 22 - 1
    let p : Packet := wPkt [10000 + 2 ^ 16 + (2 ^ 22 - 1) * 2 ^ 32, 0x1000, 2 ^ 22 - 1]
    s.accepts ch 0xA0A p ∧ p.length = 40 ∧ 10 ≤ per ∧ per ≤ 10000 ∧ up < 2 ^ 22 ∧ pa % 64 = 0 ∧ g < 2 ^ 22 ∧ pword p 0 = per + 2 ^ 16 + up * 2 ^ 32 ∧ pword p 1 = pa ∧ pword p 2 = g ∧ s.rangeIn pa 64 = true ∧ s.fab.agg = none)
    ∧ (let ch : Nat := 60
    let a : Aggregator := { period := 10, upstream := 4, pa := 0, kids := [(7, [], 0)], answered := [], lost := [], alerting := [], since := 0, chan := none }
    let s : State := let t := wFree [] []; { t with fab := { t.fab with agg := some a } }
    let g : Nat := 7
    let t0 : Nat := 0
    let old : List Byte := []
    let p : Packet := wPkt []
    s.accepts ch 0xA0B p ∧ p.length = 16 ∧ s.fab.agg = some a ∧ a.kids = [(g, old, t0)] ∧ a.chan = none)
    ∧ (let ch : Nat := 60
    let rep : List Byte := List.replicate 64 1
    let a : Aggregator := { period := 10, upstream := 4, pa := 0x1000, kids := [(7, rep, 0)], answered := [7], lost := [], alerting := [], since := 0, chan := some 60 }
    let s : State := let t := wBusy (wFree [] []) 0xA0A; { t with fab := { t.fab with agg := some a }, now := 2000000 }
    let g : Nat := 7
    let t0 : Nat := 0
    let z : State := (s.physWrite a.pa rep false .cc { ctx := 0, entry := none }).1
    s.fab.agg = some a ∧ a.kids = [(g, rep, t0)] ∧ a.answered = [g] ∧ a.lost = [] ∧ a.alerting = [] ∧ a.chan = some ch ∧ rep ≠ [] ∧ a.since + a.period * 200000 ≤ s.now ∧ s.now < t0 + 3 * a.period * 200000 ∧ s.physWrite a.pa rep false .cc { ctx := 0, entry := none } = (z, .ok [] false) ∧ z.now = s.now ∧ z.fab = s.fab) := by
  refine ⟨?_, ?_, ?_, ?_⟩
  · dsimp only; decide +kernel
  · dsimp only; unfold State.accepts; decide +kernel
  · dsimp only; unfold State.accepts; decide +kernel
  · dsimp only; decide +kernel

/-- Clauses of ManagementPacketsAndAggregators. -/
theorem witness_ManagementPacketsAndAggregators_4 :
    (let a : Aggregator := { period := 10, upstream := 4, pa := 0x1000, kids := [(7, [], 0)], answered := [], lost := [], alerting := [], since := 0, chan := none }
    let s : State := let t := wFree [] []; { t with fab := { t.fab with agg := some a }, now := 6000000 }
    let g : Nat := 7
    let t0 : Nat := 0
    s.fab.agg = some a ∧ a.kids = [(g, [], t0)] ∧ a.answered = [] ∧ a.lost = [] ∧ a.alerting = [] ∧ a.chan = none ∧ t0 + 3 * a.period * 200000 ≤ s.now) := by
  dsimp only; decide +kernel

/-- Clauses of RecordReadsAnswerHeldRecordsInOrder. -/
theorem witness_RecordReadsAnswerHeldRecordsInOrder :
    (let ch : Nat := 60
    let q : Nat := 4
    let n : Nat := 63
    let first : Nat := 2 ^ 32 - 1
    let s : State := (wUp.wr (errRecord 4 0 0) 5).wr (errRecord 4 255 0) 6
    let p : Packet := wPkt [4 + 63 * 2 ^ 8 + (2 ^ 32 - 1) * 2 ^ 32]
    s.accepts ch 0xB00 p ∧ p.length = 24 ∧ q < 5 ∧ 1 ≤ n ∧ n < 64 ∧ first < 2 ^ 32 ∧ pword p 0 = q + n * 2 ^ 8 + first * 2 ^ 32)
    ∧ (let ch : Nat := 60
    let s : State := wUp
    let p : Packet := wPkt [5 + 63 * 2 ^ 8]
    s.accepts ch 0xB00 p ∧ p.length = 24 ∧ (4 < pword p 0 % 8 ∨ pword p 0 / 2 ^ 8 % 64 = 0 ∨ pword p 0 &&& 0xFFFFC0F8 ≠ 0)) := by
  refine ⟨?_, ?_⟩
  · dsimp only; unfold State.accepts; decide +kernel
  · dsimp only; unfold State.accepts; decide +kernel

/-- Clauses of RecordAcksFreeUpToANumber. -/
theorem witness_RecordAcksFreeUpToANumber :
    (let ch : Nat := 60
    let q : Nat := 4
    let clear : Nat := 1
    let upto : Nat := 256
    let s : State := ((wUp.wr (errRecord 4 0 0) 256).wr (errRecord 4 1 0) 257).setFld (A.errQStatusD) F.errQStatusD_HELD 2
    let p : Packet := wPkt [4 + 8 + 256 * 2 ^ 32]
    s.accepts ch 0xB01 p ∧ p.length = 24 ∧ q < 5 ∧ clear < 2 ∧ upto < 2 ^ 32 ∧ pword p 0 = q + clear * 2 ^ 3 + upto * 2 ^ 32)
    ∧ (let ch : Nat := 60
    let s : State := wUp
    let p : Packet := wPkt [7]
    s.accepts ch 0xB01 p ∧ p.length = 24 ∧ 4 < pword p 0 % 8) := by
  refine ⟨?_, ?_⟩
  · dsimp only; unfold State.accepts; decide +kernel
  · dsimp only; unfold State.accepts; decide +kernel

/-- Clauses of RecordsInjectionsAndRecoveryBounds. -/
theorem witness_RecordsInjectionsAndRecoveryBounds :
    (let q : Nat := 1
    let s : State := wUp.setFld A.errQSeqD F.errQSeqD_NEXT_SEQ (2 ^ 32 - 1)
    let seq : Nat := 2 ^ 32 - 1
    let slot : Nat := 255
    q < 2 ∧ s.board.powered = true ∧ s.board.modReset = none ∧ seq = s.fld A.errQSeqD F.errQSeqD_NEXT_SEQ ∧ slot = seq % 256 ∧ s.rd (A.errRecordD slot 0) = 0 ∧ s.fld A.errQStatusD F.errQStatusD_HELD < 256)
    ∧ (let q : Nat := 0
    let s : State := (wUp.setFld A.errQSeqD F.errQSeqD_NEXT_SEQ 256).wr (A.errRecordD 0 0) 9
    let seq : Nat := 256
    let slot : Nat := 0
    q < 2 ∧ s.board.powered = true ∧ s.board.modReset = none ∧ seq = s.fld A.errQSeqD F.errQSeqD_NEXT_SEQ ∧ slot = seq % 256 ∧ s.rd (A.errRecordD slot 0) ≠ 0)
    ∧ (let ch : Nat := 60
    let s : State := wDbg wUp
    let cls : Nat := 1
    let k : Nat := 3
    let ctx : Nat := 255
    let u : Nat := unitMxe 3 16
    let addr : Nat := 5
    let p : Packet := wPkt [1 + 3 * 2 ^ 8 + 255 * 2 ^ 16, unitMxe 3 16, 5]
    s.accepts ch 0xB02 p ∧ p.length = 40 ∧ cls < 256 ∧ k < 4 ∧ ctx < 256 ∧ u < 2 ^ 24 ∧ pword p 1 = u ∧ pword p 2 = addr ∧ s.unitNamed u = true ∧ u / 16 % 4 = k ∧ s.debugOpen ctx = true ∧ pword p 0 = cls + k * 2 ^ 8 + ctx * 2 ^ 16 ∧ canRaise cls (u % 16) = true ∧ (s.err.armed.filter (fun i => i.tower = k)).length < 16)
    ∧ (let ch : Nat := 60
    let s : State := let t := wDbg wUp; { t with err := { t.err with armed := [{ tower := 3, cls := 1, unit := unitMxe 3 16, ctx := 1, addr := 0 }] } }
    let cls : Nat := 1
    let k : Nat := 3
    let ctx : Nat := 255
    let u : Nat := unitMxe 3 16
    let addr : Nat := 5
    let p : Packet := wPkt [1 + 3 * 2 ^ 8 + 2 ^ 10 + 255 * 2 ^ 16, unitMxe 3 16, 5]
    s.accepts ch 0xB02 p ∧ p.length = 40 ∧ cls < 256 ∧ k < 4 ∧ ctx < 256 ∧ u < 2 ^ 24 ∧ pword p 1 = u ∧ pword p 2 = addr ∧ s.unitNamed u = true ∧ u / 16 % 4 = k ∧ s.debugOpen ctx = true ∧ pword p 0 = cls + k * 2 ^ 8 + 2 ^ 10 + ctx * 2 ^ 16) := by
  refine ⟨?_, ?_, ?_, ?_⟩
  · dsimp only; decide +kernel
  · dsimp only; decide +kernel
  · dsimp only; unfold State.accepts; decide +kernel
  · dsimp only; unfold State.accepts; decide +kernel

/-- Clauses of RecordsInjectionsAndRecoveryBounds. -/
theorem witness_RecordsInjectionsAndRecoveryBounds_2 :
    (let ch : Nat := 60
    let s : State := let t := wDbg wUp; { t with err := { t.err with armed := List.replicate 16 { tower := 3, cls := 1, unit := unitMxe 3 16, ctx := 1, addr := 0 } } }
    let cls : Nat := 1
    let k : Nat := 3
    let ctx : Nat := 255
    let u : Nat := unitMxe 3 16
    let addr : Nat := 5
    let p : Packet := wPkt [1 + 3 * 2 ^ 8 + 255 * 2 ^ 16, unitMxe 3 16, 5]
    s.accepts ch 0xB02 p ∧ p.length = 40 ∧ cls < 256 ∧ k < 4 ∧ ctx < 256 ∧ u < 2 ^ 24 ∧ pword p 1 = u ∧ pword p 2 = addr ∧ s.unitNamed u = true ∧ u / 16 % 4 = k ∧ s.debugOpen ctx = true ∧ pword p 0 = cls + k * 2 ^ 8 + ctx * 2 ^ 16 ∧ canRaise cls (u % 16) = true ∧ 16 ≤ (s.err.armed.filter (fun i => i.tower = k)).length)
    ∧ (let v : Recovery := wRec 0 none none
    let s : State := wRecov v
    let o : Owner := { ctx := 1, entry := none }
    s.err.recov = [v] ∧ v.level = 0 ∧ v.bounded = true ∧ v.own = none ∧ v.tower < 4 ∧ v.owner = some o ∧ o.entry = none ∧ s.eclipse = false)
    ∧ (let v : Recovery := wRec 0 (some (9, 4)) none
    let s : State := wRecov v
    let o : Owner := { ctx := 1, entry := some (9, 4) }
    let q : Nat := 9
    let n : Nat := 4
    s.err.recov = [v] ∧ v.level = 0 ∧ v.bounded = true ∧ v.own = none ∧ v.tower < 4 ∧ v.owner = some o ∧ o.entry = some (q, n))
    ∧ (let v : Recovery := wRec 2 none none
    let s : State := wRecov v
    let c : Nat := 1
    let k : Nat := 3
    s.err.recov = [v] ∧ v.level = 2 ∧ v.unit = c ∧ c < 256 ∧ v.deferred = false ∧ k < 4) := by
  refine ⟨?_, ?_, ?_, ?_⟩
  · dsimp only; unfold State.accepts; decide +kernel
  · dsimp only; decide +kernel
  · dsimp only; decide +kernel
  · dsimp only; decide +kernel

/-- Clauses of RecordsInjectionsAndRecoveryBounds. -/
theorem witness_RecordsInjectionsAndRecoveryBounds_3 :
    (let r : RecordReq := { queue := 4, cls := 0x29, domain := 4, action := 9 }
    let v : Recovery := wRec 4 none (some r)
    let s : State := wRecov v
    s.err.recov = [v] ∧ v.level = 4 ∧ v.deferred = false ∧ s.eclipse = false ∧ v.own = some r ∧ s.board.refLost = false ∧ r.queue = 4 ∧ s.storeQuiet ∧ s.err.quiesced = none)
    ∧ (let r : RecordReq := { queue := 4, cls := 0x29, domain := 4, action := 9 }
    let v : Recovery := wRec 4 none (some r)
    let s : State := (wRecov v).setFld A.errCfg F.errCfg_DEV_RESET_EN 1
    s.err.recov = [v] ∧ v.level = 4 ∧ v.deferred = false ∧ s.eclipse = false ∧ v.own = some r ∧ s.board.refLost = false ∧ r.queue = 4 ∧ s.storeQuiet ∧ s.err.quiesced = none ∧ s.flag A.errCfg F.errCfg_DEV_RESET_EN = true)
    ∧ (let r : RecordReq := { queue := 4, cls := 0x29, domain := 4, action := 9 }
    let v : Recovery := wRec 4 none (some r)
    let s : State := (wRecov v).setFld A.errCfg F.errCfg_DEV_RESET_EN 0
    s.err.recov = [v] ∧ v.level = 4 ∧ v.deferred = false ∧ s.eclipse = false ∧ v.own = some r ∧ s.board.refLost = false ∧ r.queue = 4 ∧ s.storeQuiet ∧ s.err.quiesced = none ∧ s.flag A.errCfg F.errCfg_DEV_RESET_EN = false)
    ∧ (let ch : Nat := 60
    let s : State := wChan (fun c => { c with arrived := [wNop] })
    s.ccRuns = true ∧ ch < 64 ∧ s.packetWaits ch = true ∧ s.storeQuiet) := by
  refine ⟨?_, ?_, ?_, ?_⟩
  · dsimp only; exact ⟨(by decide +kernel), (by decide +kernel), (by decide +kernel), (by decide +kernel), (by decide +kernel), (by decide +kernel), (by decide +kernel), (by unfold State.storeQuiet; decide +kernel), (by decide +kernel)⟩
  · dsimp only; exact ⟨(by decide +kernel), (by decide +kernel), (by decide +kernel), (by decide +kernel), (by decide +kernel), (by decide +kernel), (by decide +kernel), (by unfold State.storeQuiet; decide +kernel), (by decide +kernel), (by decide +kernel)⟩
  · dsimp only; exact ⟨(by decide +kernel), (by decide +kernel), (by decide +kernel), (by decide +kernel), (by decide +kernel), (by decide +kernel), (by decide +kernel), (by unfold State.storeQuiet; decide +kernel), (by decide +kernel), (by decide +kernel)⟩
  · dsimp only; exact ⟨(by decide +kernel), (by decide +kernel), (by decide +kernel), (by unfold State.storeQuiet; decide +kernel)⟩

/-- Clauses of WindowsShareOutTheMeasuredEnergy. -/
theorem witness_WindowsShareOutTheMeasuredEnergy :
    (let s : State := wUp
    let m : Nat := 1000000
    let b : Nat := 999
    s.board.powered = true ∧ s.board.modReset = none ∧ s.pwr.reports = [] ∧ s.pwr.asks = [] ∧ (s.pwr.eMain + m) / 1000 < 2 ^ 64 ∧ (s.pwr.eBkp + b) / 1000 < 2 ^ 64 ∧ (s.pwr.eUnattr + m + b) / 1000 < 2 ^ 64 ∧ 0 < s.pwr.gainD)
    ∧ (let s : State := (wPwr (fun p => { p with reports := [(1, wReport false)] })).setFld (A.xltRoot 1) F.xltRoot_OPEN 1
    let c : Nat := 1
    let r : EnergyReport := wReport false
    s.board.powered = true ∧ s.board.modReset = none ∧ s.pwr.reports = [(c, r)] ∧ r.closed = false ∧ s.ctxOpen c = true ∧ r.kinds.length = 8 ∧ s.pwr.asks = [] ∧ 0 < s.pwr.gainD)
    ∧ (let ch : Nat := 60
    let a : EnergyAsk := { chan := 60, ctx := 1, new := false }
    let s : State := wBusy (wPwr (fun p => { p with asks := [{ chan := 60, ctx := 1, new := false }] })) 0xC00
    s.board.powered = true ∧ s.board.modReset = none ∧ s.pwr.asks = [a] ∧ s.pwr.reports = [] ∧ a.chan = ch)
    ∧ (let ch : Nat := 60
    let s : State := wUp
    let c : Nat := 255
    let new : Nat := 1
    let p : Packet := wPkt [255 + 256]
    s.accepts ch 0xC00 p ∧ p.length = 24 ∧ c < 256 ∧ new < 2 ∧ pword p 0 = c + new * 2 ^ 8 ∧ Assoc.get? s.pwr.reports c = none) := by
  refine ⟨?_, ?_, ?_, ?_⟩
  · dsimp only; decide +kernel
  · dsimp only; decide +kernel
  · dsimp only; decide +kernel
  · dsimp only; unfold State.accepts; decide +kernel

/-- Clauses of WindowsShareOutTheMeasuredEnergy. -/
theorem witness_WindowsShareOutTheMeasuredEnergy_2 :
    (let ch : Nat := 60
    let r := wReport true
    let s : State := wPwr (fun p => { p with reports := [(255, wReport true)] })
    let c : Nat := 255
    let new : Nat := 1
    let p : Packet := wPkt [255 + 256]
    s.accepts ch 0xC00 p ∧ p.length = 24 ∧ c < 256 ∧ new < 2 ∧ pword p 0 = c + new * 2 ^ 8 ∧ Assoc.get? s.pwr.reports c = some r ∧ r.closed = true)
    ∧ (let ch : Nat := 60
    let r := wReport false
    let s : State := wPwr (fun p => { p with reports := [(255, wReport false)] })
    let c : Nat := 255
    let new : Nat := 1
    let p : Packet := wPkt [255 + 256]
    s.accepts ch 0xC00 p ∧ p.length = 24 ∧ c < 256 ∧ new < 2 ∧ pword p 0 = c + new * 2 ^ 8 ∧ Assoc.get? s.pwr.reports c = some r ∧ r.closed = false)
    ∧ (let ch : Nat := 60
    let s : State := wUp
    let p : Packet := wPkt []
    s.accepts ch 0xC01 p ∧ p.length = 16) := by
  refine ⟨?_, ?_, ?_⟩
  · dsimp only; unfold State.accepts; decide +kernel
  · dsimp only; unfold State.accepts; decide +kernel
  · dsimp only; unfold State.accepts; decide +kernel

/-- Clauses of LevelsFollowTheirLimitsAndEclipseKeepsWork. -/
theorem witness_LevelsFollowTheirLimitsAndEclipseKeepsWork :
    (let s : State := wUp.setFld A.pwrStatus F.pwrStatus_BRAKING 1
    let m : PowerSample := wSample 400000
    s.board.mgmtUp = true ∧ s.board.powered = true ∧ s.board.modReset = none ∧ m.idle = [] ∧ s.braking = true)
    ∧ (let s : State := wUp
    let m : PowerSample := wSample 400000
    s.board.mgmtUp = true ∧ s.board.powered = true ∧ s.board.modReset = none ∧ m.idle = [] ∧ s.braking = false)
    ∧ (let s : State := wPwr (fun p => { p with therm := [15, 15, 15, 15] })
    let k : Nat := 3
    k < 4 ∧ s.board.powered = true ∧ s.board.modReset = none ∧ s.pwr.therm.length = 4)
    ∧ (let s : State := wPhase 0
    let mv : Nat := 37999
    s.ready = true ∧ s.board.tripped = false ∧ s.phase = 0 ∧ mv < 38000 ∧ s.braking = false ∧ s.board.lossBrake = false) := by
  refine ⟨?_, ?_, ?_, ?_⟩
  · dsimp only; decide +kernel
  · dsimp only; decide +kernel
  · dsimp only; decide +kernel
  · dsimp only; decide +kernel

/-- Clauses of LevelsFollowTheirLimitsAndEclipseKeepsWork. -/
theorem witness_LevelsFollowTheirLimitsAndEclipseKeepsWork_2 :
    (let s : State := wPhase 2
    (s.phase = 1 ∨ s.phase = 2) ∧ s.flag A.sbStatus F.sbStatus_ON_BACKUP = false ∧ s.board.backup.good = true)
    ∧ (let s : State := wPhase 1
    let a : Nat := 65535
    let b : Nat := 65535
    s.phase = 1 ∧ s.pwr.stopped = none ∧ (∀ k, k < 4 → s.beamState k = 0) ∧ s.comp.cores = [] ∧ s.lnt.units = [] ∧ b ≤ a ∧ a < 65536)
    ∧ (let s : State := wPhase 2
    s.phase = 2 ∧ s.pwr.safe = false ∧ s.atSafePoints = true ∧ s.l2.slices = [])
    ∧ (let s : State := let t := wPhase 2; { t with pwr := { t.pwr with safe := true } }
    s.phase = 2 ∧ s.pwr.safe = true) := by
  refine ⟨?_, ?_, ?_, ?_⟩
  · dsimp only; decide +kernel
  · dsimp only; decide +kernel
  · dsimp only; decide +kernel
  · dsimp only; decide +kernel

/-- Clauses of LevelsFollowTheirLimitsAndEclipseKeepsWork. -/
theorem witness_LevelsFollowTheirLimitsAndEclipseKeepsWork_3 :
    (let s : State := wPhase 3
    s.phase = 3 ∧ s.board.main.good = true)
    ∧ (let z : SafePoints := { beams := [], groups := [] }
    let s : State := let t := (wPhase 4).setFld A.pwrStatus F.pwrStatus_BRAKING 1; { t with pwr := { t.pwr with stopped := some { beams := [], groups := [] } } }
    s.phase = 4 ∧ s.err.recov = [] ∧ s.err.quiesced = none ∧ s.pwr.stopped = some z ∧ z.beams = [] ∧ z.groups = [] ∧ s.lnt.units = [] ∧ s.flag A.sbStatus F.sbStatus_BRAKED = false ∧ s.braking = true) := by
  refine ⟨?_, ?_⟩
  · dsimp only; decide +kernel
  · dsimp only; decide +kernel

/-- Clauses of AgeingReplansTablesAndFencesUnits. -/
theorem witness_AgeingReplansTablesAndFencesUnits :
    (let s : State := wUp
    let n : Nat := 1023
    let ps : Nat := 65534
    n < 1024 ∧ ps < 65535 ∧ s.board.powered = true ∧ s.board.modReset = none)
    ∧ (let s : State := wUp.setFld A.ageStatus0 F.ageStatus0_POWERED_H (2 ^ 24 - 2)
    (s.readiness = 3 ∨ s.ready = true) ∧ s.fld A.ageStatus0 F.ageStatus0_POWERED_H + 1 < 2 ^ 24 ∧ s.flag A.ageStatus1 F.ageStatus1_VF_WORN = false)
    ∧ (let s : State := (wUp.setFld A.ageStatus0 F.ageStatus0_POWERED_H 720).setFld A.ageCfg F.ageCfg_PERIOD_D 30
    s.ready = true ∧ s.eclipse = false ∧ s.age.replan = none ∧ s.fld A.ageStatus0 F.ageStatus0_LAST_H + 24 * s.fld A.ageCfg F.ageCfg_PERIOD_D ≤ s.fld A.ageStatus0 F.ageStatus0_POWERED_H)
    ∧ (let ch : Nat := 60
    let s : State := wUp
    let d : Nat := 0
    let p : Packet := wPkt [0]
    s.accepts ch 0xD00 p ∧ p.length = 24 ∧ pword p 0 = d ∧ d < 2 ^ 9 ∧ d = 0) := by
  refine ⟨?_, ?_, ?_, ?_⟩
  · dsimp only; decide +kernel
  · dsimp only; decide +kernel
  · dsimp only; decide +kernel
  · dsimp only; unfold State.accepts; decide +kernel

/-- Clauses of AgeingReplansTablesAndFencesUnits. -/
theorem witness_AgeingReplansTablesAndFencesUnits_2 :
    (let ch : Nat := 60
    let s : State := wAge (fun a => { a with replan := some { dies := 1, due := true, chan := none, regs := [], pend := [], atOnce := [], changed := 0, fixed := true } })
    let d : Nat := 511
    let p : Packet := wPkt [511]
    s.accepts ch 0xD00 p ∧ p.length = 24 ∧ pword p 0 = d ∧ d < 2 ^ 9 ∧ d ≠ 0 ∧ (s.age.replan ≠ none ∨ s.eclipse = true ∨ s.mainGone = true))
    ∧ (let ch : Nat := 60
    let s : State := wUp.setFld A.ageStatus1 F.ageStatus1_VF_WORN 1
    let d : Nat := 511
    let p : Packet := wPkt [511]
    s.accepts ch 0xD00 p ∧ p.length = 24 ∧ pword p 0 = d ∧ d < 2 ^ 9 ∧ d ≠ 0 ∧ s.age.replan = none ∧ s.eclipse = false ∧ s.mainGone = false ∧ s.flag A.ageStatus1 F.ageStatus1_VF_WORN = true)
    ∧ (let ch : Nat := 60
    let s : State := wUp
    let d : Nat := 511
    let p : Packet := wPkt [511]
    s.accepts ch 0xD00 p ∧ p.length = 24 ∧ pword p 0 = d ∧ d < 2 ^ 9 ∧ d ≠ 0 ∧ s.age.replan = none ∧ s.eclipse = false ∧ s.mainGone = false ∧ s.flag A.ageStatus1 F.ageStatus1_VF_WORN = false)
    ∧ (let ch : Nat := 60
    let d : Nat := 8
    let n : Nat := 5
    let due : Bool := false
    let fixed : Bool := true
    let w0 : Word := 1
    let w1 : Word := 2
    let w2 : Word := 3
    let s : State := wBusy (wAge (fun a => { a with replan := some { dies := 2 ^ 8, due := false, chan := some 60, regs := [(A.vf0 8, 1), (A.vf1 8, 2), (A.vf2 8, 3)], pend := [], atOnce := [], changed := 5, fixed := true } })) 0xD00
    d < 9 ∧ s.age.replan = some { dies := 2 ^ d, due := due, chan := some ch, regs := [(A.vf0 d, w0), (A.vf1 d, w1), (A.vf2 d, w2)], pend := [], atOnce := [], changed := n, fixed := fixed }) := by
  refine ⟨?_, ?_, ?_, ?_⟩
  · dsimp only; unfold State.accepts; decide +kernel
  · dsimp only; unfold State.accepts; decide +kernel
  · dsimp only; unfold State.accepts; decide +kernel
  · dsimp only; decide +kernel

/-- Clauses of AgeingReplansTablesAndFencesUnits. -/
theorem witness_AgeingReplansTablesAndFencesUnits_3 :
    (let ch : Nat := 60
    let first : Nat := 1023
    let n : Nat := 1
    let s : State := wAge (fun a => { a with delays := [(1023, 500)], cur := (List.range 16).map (fun l => (16 * 1023 + l, 501)) })
    let now : Nat → Nat := fun _ => 500
    let at' : Nat → Nat := fun _ => 501
    let p : Packet := wPkt [1023 + 2 ^ 16]
    s.accepts ch 0xD03 p ∧ p.length = 24 ∧ 1 ≤ n ∧ n ≤ 64 ∧ first + n ≤ 1024 ∧ pword p 0 = first + n * 2 ^ 16 ∧ (∀ i, i < n → Assoc.get? s.age.delays (first + i) = some (now i) ∧ s.delayAt (first + i) (s.monitorLevel (first + i)) = some (at' i)))
    ∧ (let ch : Nat := 60
    let s : State := wUp.setFlds (A.mxeRemap 3 15) [(F.mxeRemap_VALID, 1), (F.mxeRemap_PHYS, 15)] |>.setFld (fencedAt 3 0).1 (fencedAt 3 0).2 (2 ^ 17 - 1)
    let k : Nat := 3
    let kind : Nat := 0
    let i : Nat := 15
    let p : Packet := wPkt [3 + 15 * 2 ^ 16]
    p.length = 24 ∧ k < 4 ∧ kind < 5 ∧ i < fenceCount kind ∧ pword p 0 = k + kind * 2 ^ 8 + i * 2 ^ 16 ∧ s.unitPresent kind i = true ∧ s.accepts ch 0xD01 p ∧ s.isPending k kind i = false ∧ kind = 0 ∧ s.positionOf k i ≠ none ∧ s.usableSpares k [] = 0)
    ∧ (let ch : Nat := 60
    let s : State := wUp.setFld (fencedAt 3 4).1 (fencedAt 3 4).2 (2 ^ 15)
    let k : Nat := 3
    let kind : Nat := 4
    let i : Nat := 15
    let p : Packet := wPkt [3 + 4 * 2 ^ 8 + 15 * 2 ^ 16]
    p.length = 24 ∧ k < 4 ∧ kind < 5 ∧ i < fenceCount kind ∧ pword p 0 = k + kind * 2 ^ 8 + i * 2 ^ 16 ∧ s.unitPresent kind i = true ∧ s.accepts ch 0xD01 p ∧ (kind = 0 → s.positionOf k i = none ∨ s.usableSpares k [] ≠ 0) ∧ s.eclipse = false ∧ s.age.replan = none ∧ s.flag A.ageStatus1 F.ageStatus1_FENCE_WORN = false ∧ (s.isFenced k kind i = true ∨ s.isPending k kind i = true))
    ∧ (let ch : Nat := 60
    let s : State := wUp
    let k : Nat := 3
    let kind : Nat := 4
    let i : Nat := 15
    let p : Packet := wPkt [3 + 4 * 2 ^ 8 + 15 * 2 ^ 16]
    p.length = 24 ∧ k < 4 ∧ kind < 5 ∧ i < fenceCount kind ∧ pword p 0 = k + kind * 2 ^ 8 + i * 2 ^ 16 ∧ s.unitPresent kind i = true ∧ s.accepts ch 0xD01 p ∧ (kind = 0 → s.positionOf k i = none ∨ s.usableSpares k [] ≠ 0) ∧ s.eclipse = false ∧ s.age.replan = none ∧ s.flag A.ageStatus1 F.ageStatus1_FENCE_WORN = false ∧ s.isFenced k kind i = false ∧ s.isPending k kind i = false) := by
  refine ⟨?_, ?_, ?_, ?_⟩
  · dsimp only; unfold State.accepts; decide +kernel
  · dsimp only; unfold State.accepts; decide +kernel
  · dsimp only; unfold State.accepts; decide +kernel
  · dsimp only; unfold State.accepts; decide +kernel

/-- Clauses of AgeingReplansTablesAndFencesUnits. -/
theorem witness_AgeingReplansTablesAndFencesUnits_4 :
    (let ch : Nat := 60
    let s : State := wUp
    let k : Nat := 3
    let kind : Nat := 4
    let i : Nat := 15
    let p : Packet := wPkt [3 + 4 * 2 ^ 8 + 15 * 2 ^ 16]
    p.length = 24 ∧ k < 4 ∧ kind < 5 ∧ i < fenceCount kind ∧ pword p 0 = k + kind * 2 ^ 8 + i * 2 ^ 16 ∧ s.unitPresent kind i = true ∧ s.accepts ch 0xD02 p ∧ s.isFenced k kind i = false ∧ s.isPending k kind i = false)
    ∧ (let ch : Nat := 60
    let s : State := wUp.setFld (fencedAt 3 4).1 (fencedAt 3 4).2 (2 ^ 15)
    let k : Nat := 3
    let kind : Nat := 4
    let i : Nat := 15
    let p : Packet := wPkt [3 + 4 * 2 ^ 8 + 15 * 2 ^ 16]
    p.length = 24 ∧ k < 4 ∧ kind < 5 ∧ i < fenceCount kind ∧ pword p 0 = k + kind * 2 ^ 8 + i * 2 ^ 16 ∧ s.unitPresent kind i = true ∧ s.accepts ch 0xD02 p ∧ (s.isFenced k kind i = true ∨ s.isPending k kind i = true) ∧ s.eclipse = false ∧ s.age.replan = none ∧ s.flag A.ageStatus1 F.ageStatus1_FENCE_WORN = false)
    ∧ (let ch : Nat := 60
    let k : Nat := 3
    let kind : Nat := 0
    let i : Nat := 15
    let s : State := wBusy (wAge (fun a => { a with changes := [{ tower := 3, kind := 0, index := 15, fence := true, chan := 60 }] })) 0xD01
    k < 4 ∧ kind < 5 ∧ i < fenceCount kind ∧ s.age.leaving = [] ∧ s.age.changes = [{ tower := k, kind := kind, index := i, fence := true, chan := ch }] ∧ s.isFenced k kind i = false)
    ∧ (let ch : Nat := 60
    let k : Nat := 3
    let kind : Nat := 0
    let i : Nat := 15
    let s : State := wBusy ((wAge (fun a => { a with changes := [{ tower := 3, kind := 0, index := 15, fence := false, chan := 60 }] })).setFld (fencedAt 3 0).1 (fencedAt 3 0).2 (2 ^ 15)) 0xD02
    k < 4 ∧ kind < 5 ∧ i < fenceCount kind ∧ s.age.leaving = [] ∧ s.age.changes = [{ tower := k, kind := kind, index := i, fence := false, chan := ch }] ∧ s.isFenced k kind i = true ∧ s.isPending k kind i = false) := by
  refine ⟨?_, ?_, ?_, ?_⟩
  · dsimp only; unfold State.accepts; decide +kernel
  · dsimp only; unfold State.accepts; decide +kernel
  · dsimp only; decide +kernel
  · dsimp only; decide +kernel

/-- Clauses of AgeingReplansTablesAndFencesUnits. -/
theorem witness_AgeingReplansTablesAndFencesUnits_5 :
    (let k : Nat := 3
    let kind : Nat := 0
    let i : Nat := 15
    let s : State := wUp.setFld (pendAt 3 0).1 (pendAt 3 0).2 (2 ^ 15)
    k < 4 ∧ kind < 5 ∧ i < fenceCount kind ∧ s.age.leaving = [] ∧ s.isPending k kind i = true ∧ s.atBoundary k kind i = true) := by
  dsimp only; decide +kernel

/-- Clauses of KeysDebugAccessAndTrace. -/
theorem witness_KeysDebugAccessAndTrace :
    (let ch : Nat := 60
    let s : State := wMan (fun m => { m with keys := [3] })
    let c : Nat := 255
    let p : Packet := wPkt [255 + 2 ^ 8]
    s.accepts ch 0xE00 p ∧ p.length = 24 ∧ c < 256 ∧ pword p 0 = c + 2 ^ 8 ∧ s.eclipse = false)
    ∧ (let ch : Nat := 60
    let s : State := wMan (fun m => { m with keys := [3, 255] })
    let c : Nat := 255
    let p : Packet := wPkt [255 + 2 * 2 ^ 8]
    s.accepts ch 0xE00 p ∧ p.length = 24 ∧ c < 256 ∧ pword p 0 = c + 2 * 2 ^ 8 ∧ s.eclipse = false ∧ s.keyGranules c = [])
    ∧ (let ch : Nat := 60
    let s : State := wUp.wr (A.keyMap 3071) (BitVec.ofNat 64 (256 + 255))
    let c : Nat := 255
    let p : Packet := wPkt [255 + 2 * 2 ^ 8]
    s.accepts ch 0xE00 p ∧ p.length = 24 ∧ c < 256 ∧ pword p 0 = c + 2 * 2 ^ 8 ∧ s.keyGranules c ≠ [])
    ∧ (let ch : Nat := 60
    let s : State := wUp.setFld (A.xltRoot 255) F.xltRoot_OPEN 1
    let c : Nat := 255
    let p : Packet := wPkt [255 * 2 ^ 8]
    s.accepts ch 0xE01 p ∧ p.length = 24 ∧ c < 256 ∧ pword p 0 = c * 2 ^ 8 ∧ s.ctxOpen c = true) := by
  refine ⟨?_, ?_, ?_, ?_⟩
  · dsimp only; unfold State.accepts; decide +kernel
  · dsimp only; unfold State.accepts; decide +kernel
  · dsimp only; unfold State.accepts; decide +kernel
  · dsimp only; unfold State.accepts; decide +kernel

/-- Clauses of KeysDebugAccessAndTrace. -/
theorem witness_KeysDebugAccessAndTrace_2 :
    (let ch : Nat := 60
    let s : State := wUp
    let c : Nat := 255
    let p : Packet := wPkt [255 * 2 ^ 8]
    s.accepts ch 0xE01 p ∧ p.length = 24 ∧ c < 256 ∧ pword p 0 = c * 2 ^ 8 ∧ s.ctxOpen c = false)
    ∧ (let ch : Nat := 60
    let s : State := wMan (fun m => { m with ctxDebug := [3, 255] })
    let c : Nat := 255
    let p : Packet := wPkt [255 * 2 ^ 8 + 1]
    s.accepts ch 0xE01 p ∧ p.length = 24 ∧ c < 256 ∧ pword p 0 = c * 2 ^ 8 + 1)
    ∧ (let ch : Nat := 60
    let s : State := wUp
    let c : Nat := 255
    let p : Packet := wPkt [255 * 2 ^ 8 + 2]
    s.accepts ch 0xE01 p ∧ p.length = 24 ∧ c < 256 ∧ pword p 0 = c * 2 ^ 8 + 2)
    ∧ (let ch : Nat := 60
    let s : State := wUp
    let ok : Bool := false
    let p : Packet := wPkt (3 :: List.replicate 13 0)
    s.accepts ch 0xE01 p ∧ p.length = 128 ∧ pword p 0 = 3 ∧ pword p 1 = 0 ∧ (ok = true ↔ ∃ n, s.mg.nonce = some n ∧ s.tokenOk n p = true)) := by
  refine ⟨?_, ?_, ?_, ?_⟩
  · dsimp only; unfold State.accepts; decide +kernel
  · dsimp only; unfold State.accepts; decide +kernel
  · dsimp only; unfold State.accepts; decide +kernel
  · dsimp only; unfold State.accepts; decide +kernel

/-- Clauses of KeysDebugAccessAndTrace. -/
theorem witness_KeysDebugAccessAndTrace_3 :
    (let ch : Nat := 60
    let s : State := wUp
    let c : Nat := 255
    let all : Nat := 0
    let en : Nat := 1
    let wrap : Nat := 1
    let src : Nat := 0x3F
    let base : Nat := 0x100000
    let bytes : Nat := 4096
    let first : Nat := 65535
    let n : Nat := 65535
    let us : Nat := 10
    let p : Packet := wPkt ([255 + 2 ^ 9 + 2 ^ 10 + 0x3F * 2 ^ 16, 0x100000, 4096, 65535 + 65535 * 2 ^ 16 + 10 * 2 ^ 32] ++ List.replicate 8 0)
    s.accepts ch 0xE02 p ∧ p.length = 112 ∧ c < 256 ∧ all < 2 ∧ en < 2 ∧ wrap < 2 ∧ src < 64 ∧ first < 2 ^ 16 ∧ n < 2 ^ 16 ∧ 10 ≤ us ∧ us < 2 ^ 16 ∧ pword p 0 = c + all * 2 ^ 8 + en * 2 ^ 9 + wrap * 2 ^ 10 + src * 2 ^ 16 ∧ pword p 1 = base ∧ pword p 2 = bytes ∧ pword p 3 = first + n * 2 ^ 16 + us * 2 ^ 32 ∧ base % 4096 = 0 ∧ bytes % 4096 = 0 ∧ 0 < bytes ∧ bytes ≤ 2 ^ 30 ∧ s.tierRange base bytes = true ∧ (∀ i, i < 8 → pword p (4 + i) = 0 ∨ regAt (pword p (4 + i)) ≠ none) ∧ s.flag A.debugStatus F.debugStatus_DEVICE = false ∧ (all = 1 ∨ src.testBit 4 = true ∨ s.mg.ctxDebug.contains c = false))
    ∧ (let ch : Nat := 60
    let s : State := wDbg wUp
    let c : Nat := 255
    let all : Nat := 1
    let en : Nat := 1
    let wrap : Nat := 1
    let src : Nat := 0x3F
    let base : Nat := 0x100000
    let bytes : Nat := 2 ^ 30
    let first : Nat := 65535
    let n : Nat := 65535
    let us : Nat := 65535
    let p : Packet := wPkt ([255 + 2 ^ 8 + 2 ^ 9 + 2 ^ 10 + 0x3F * 2 ^ 16, 0x100000, 2 ^ 30, 65535 + 65535 * 2 ^ 16 + 65535 * 2 ^ 32] ++ [A.pwrStatus] ++ List.replicate 7 0)
    s.accepts ch 0xE02 p ∧ p.length = 112 ∧ c < 256 ∧ all < 2 ∧ en < 2 ∧ wrap < 2 ∧ src < 64 ∧ first < 2 ^ 16 ∧ n < 2 ^ 16 ∧ 10 ≤ us ∧ us < 2 ^ 16 ∧ pword p 0 = c + all * 2 ^ 8 + en * 2 ^ 9 + wrap * 2 ^ 10 + src * 2 ^ 16 ∧ pword p 1 = base ∧ pword p 2 = bytes ∧ pword p 3 = first + n * 2 ^ 16 + us * 2 ^ 32 ∧ base % 4096 = 0 ∧ bytes % 4096 = 0 ∧ 0 < bytes ∧ bytes ≤ 2 ^ 30 ∧ s.tierRange base bytes = true ∧ (∀ i, i < 8 → pword p (4 + i) = 0 ∨ regAt (pword p (4 + i)) ≠ none) ∧ (s.flag A.debugStatus F.debugStatus_DEVICE = true ∨ (all = 0 ∧ src.testBit 4 = false ∧ s.mg.ctxDebug.contains c = true)) ∧ s.eclipse = false)
    ∧ (let ch : Nat := 60
    let s : State := wUp
    let first : Nat := 0
    let n : Nat := 127
    let p : Packet := wPkt [127 * 2 ^ 32]
    s.accepts ch 0xE03 p ∧ p.length = 24 ∧ first < 2 ^ 32 ∧ 1 ≤ n ∧ n < 128 ∧ pword p 0 = first + n * 2 ^ 32 ∧ s.mg.trace = none)
    ∧ (let ch : Nat := 60
    let tr := wTrace 3 []
    let s : State := (wMan (fun m => { m with trace := some (wTrace 3 []) })).setFld A.traceStatus F.traceStatus_INDEX 3
    let first : Nat := 1
    let n : Nat := 127
    let p : Packet := wPkt [1 + 127 * 2 ^ 32]
    s.accepts ch 0xE03 p ∧ p.length = 24 ∧ first < 2 ^ 32 ∧ 1 ≤ n ∧ n < 128 ∧ pword p 0 = first + n * 2 ^ 32 ∧ s.mg.trace = some tr ∧ s.flag A.traceStatus F.traceStatus_WRAPPED = false) := by
  refine ⟨?_, ?_, ?_, ?_⟩
  · dsimp only; unfold State.accepts; decide +kernel
  · dsimp only; unfold State.accepts; decide +kernel
  · dsimp only; unfold State.accepts; decide +kernel
  · dsimp only; unfold State.accepts; decide +kernel

/-- Clauses of KeysDebugAccessAndTrace. -/
theorem witness_KeysDebugAccessAndTrace_4 :
    (let tr : Trace := { wTrace 3 [] with wrap := true }
    let d : TraceDue := { source := 1, ctx := some 1, die := 0, time := 12, words := none }
    let pre : List TraceDue := [{ source := 0, ctx := some 1, die := 1, time := 9, words := none }]
    let rest : List TraceDue := [{ source := 1, ctx := some 1, die := 1, time := 14, words := none }]
    let s : State := (wMan (fun m => { m with trace := some { wTrace 3 [] with wrap := true }, due := [{ source := 0, ctx := some 1, die := 1, time := 9, words := none }, { source := 1, ctx := some 1, die := 0, time := 12, words := none }, { source := 1, ctx := some 1, die := 1, time := 14, words := none }] })).setFld A.traceStatus F.traceStatus_INDEX 128
    let source : Nat := 1
    let ctx : Nat := 1
    let w1 : Nat := 4
    let w2 : Nat := 5
    let w3 : Nat := 6
    let n : Nat := 128
    let i := 128
    let w0 := (d.time - s.board.resetEnd) / 2 % 2 ^ 48 + 2 ^ 48 * source + 2 ^ 56 * (ctx % 256)
    let v := { s with mg := { s.mg with due := pre ++ rest } }
    let u := (v.physWrite (tr.base + 32 * (i % n)) ([w0, w1, w2, w3].flatMap (fun w => leBytes 8 w)) false .cc { ctx := ctx, entry := none } 2).1
    let a := ([] : List Byte)
    let b := false
    let i := s.fld A.traceStatus F.traceStatus_INDEX
    let w0 := (d.time - s.board.resetEnd) / 2 % 2 ^ 48 + 2 ^ 48 * source + 2 ^ 56 * (ctx % 256)
    s.mg.trace = some tr ∧ tr.enable = true ∧ s.eclipse = false ∧ s.mg.due = pre ++ d :: rest ∧ (∀ x ∈ pre, x.die ≠ d.die ∧ x.source ≠ source) ∧ d.source = source ∧ source < 6 ∧ (d.ctx = none ∨ d.ctx = some ctx) ∧ (d.words = none ∨ d.words = some [w1, w2, w3]) ∧ n = tr.bytes / 32 ∧ v = { s with mg := { s.mg with due := pre ++ rest } } ∧ (tr.wrap = true ∨ i < n) ∧ 0 < n ∧ n ≤ 2 ^ 25 ∧ v.physWrite (tr.base + 32 * (i % n)) ([w0, w1, w2, w3].flatMap (fun w => leBytes 8 w)) false .cc { ctx := ctx, entry := none } 2 = (u, .ok a b))
    ∧ (let tr : Trace := wTrace 3 []
    let d : TraceDue := { source := 1, ctx := none, die := 0, time := 12, words := some [4, 5, 6] }
    let pre : List TraceDue := []
    let rest : List TraceDue := []
    let s : State := (wMan (fun m => { m with trace := some (wTrace 3 []), due := [{ source := 1, ctx := none, die := 0, time := 12, words := some [4, 5, 6] }] })).setFld A.traceStatus F.traceStatus_INDEX 128
    let source : Nat := 1
    let ctx : Nat := 1
    let w1 : Nat := 4
    let w2 : Nat := 5
    let w3 : Nat := 6
    let n : Nat := 128
    let ok := true
    let i := s.fld A.traceStatus F.traceStatus_INDEX
    s.mg.trace = some tr ∧ tr.enable = true ∧ s.eclipse = false ∧ s.mg.due = pre ++ d :: rest ∧ (∀ x ∈ pre, x.die ≠ d.die ∧ x.source ≠ source) ∧ d.source = source ∧ source < 6 ∧ (d.ctx = none ∨ d.ctx = some ctx) ∧ (d.words = none ∨ d.words = some [w1, w2, w3]) ∧ n = tr.bytes / 32 ∧ (ok = false ∨ (tr.wrap = false ∧ n ≤ i)))
    ∧ (let s : State := wMan (fun m => { m with trace := some (wTrace 3 []) })
    let source : Nat := 1
    (s.liveTrace = none ∨ ∀ x ∈ s.mg.due, x.source ≠ source))
    ∧ (let tr : Trace := wTrace 0x20 [A.pwrStatus]
    let s : State := (wMan (fun m => { m with trace := some (wTrace 0x20 [A.pwrStatus]) })).setFld A.traceStatus F.traceStatus_INDEX 127
    let now : Nat := max s.now (tr.sampled + tr.sampleUs * 200)
    let v : State := { s with now := now, mg := { s.mg with trace := some { tr with sampled := now } } }
    let a := A.pwrStatus
    let ok : Nat := 1
    let u := (v.physWrite (tr.base + 32 * 127) ([(now - s.board.resetEnd) / 2 % 2 ^ 48 + 2 ^ 48 * 5 + 2 ^ 56 * (tr.ctx % 256), a, (s.rd a).toNat, 0].flatMap (fun w => leBytes 8 w)) false .cc { ctx := tr.ctx, entry := none } 2).1
    let x := ([] : List Byte)
    let y := false
    let i := s.fld A.traceStatus F.traceStatus_INDEX
    let w0 := (now - s.board.resetEnd) / 2 % 2 ^ 48 + 2 ^ 48 * 5 + 2 ^ 56 * (tr.ctx % 256)
    s.mg.trace = some tr ∧ tr.enable = true ∧ s.eclipse = false ∧ tr.sources.testBit 5 = true ∧ now = max s.now (tr.sampled + tr.sampleUs * 200) ∧ v = { s with now := now, mg := { s.mg with trace := some { tr with sampled := now } } } ∧ tr.counters = [a] ∧ a ≠ 0 ∧ tr.wrap = false ∧ ok.testBit 0 = true ∧ i < tr.bytes / 32 ∧ i + 1 < 2 ^ 30 ∧ v.physWrite (tr.base + 32 * i) ([w0, a, (s.rd a).toNat, 0].flatMap (fun w => leBytes 8 w)) false .cc { ctx := tr.ctx, entry := none } 2 = (u, .ok x y)) := by
  refine ⟨?_, ?_, ?_, ?_⟩
  · dsimp only; decide +kernel
  · dsimp only; decide +kernel
  · dsimp only; decide +kernel
  · dsimp only; decide +kernel

/-- Clauses of KeysDebugAccessAndTrace. -/
theorem witness_KeysDebugAccessAndTrace_5 :
    (let tr : Trace := wTrace 0x20 [A.pwrStatus, 0, A.alert]
    let s : State := (wMan (fun m => { m with trace := some (wTrace 0x20 [A.pwrStatus, 0, A.alert]) })).setFld A.traceStatus F.traceStatus_INDEX 127
    let now : Nat := max s.now (tr.sampled + tr.sampleUs * 200)
    let v : State := { s with now := now, mg := { s.mg with trace := some { tr with sampled := now } } }
    let ok : Nat := 2
    s.mg.trace = some tr ∧ tr.enable = true ∧ s.eclipse = false ∧ tr.sources.testBit 5 = true ∧ now = max s.now (tr.sampled + tr.sampleUs * 200) ∧ v = { s with now := now, mg := { s.mg with trace := some { tr with sampled := now } } } ∧ (∀ j, j < 8 → tr.counters.getD j 0 ≠ 0 → ok.testBit j = false))
    ∧ (let s : State := wMan (fun m => { m with trace := some (wTrace 0x1F [A.pwrStatus]) })
    (s.liveTrace = none ∨ ∀ tr, s.mg.trace = some tr → tr.sources.testBit 5 = false)) := by
  refine ⟨?_, ?_⟩
  · dsimp only; decide +kernel
  · dsimp only; decide +kernel

/-- Clauses of TheEndpointServesMctpAndPldm. -/
theorem witness_TheEndpointServesMctpAndPldm :
    (let s : State := wUp
    let x : Nat := 127
    s.board.mgmtUp = true ∧ x < 128)
    ∧ (let s : State := wUp
    let x : Nat := 255
    s.board.mgmtUp = true ∧ x < 256)
    ∧ (let s : State := wUp
    let channel : Nat := 1
    s.board.mgmtUp = true ∧ channel < 2 ∧ s.outstanding3c < 8)
    ∧ (let s : State := wChan (fun c => { c with arrived := List.replicate 8 wNop })
    let channel : Nat := 1
    s.board.mgmtUp = true ∧ channel < 2 ∧ 8 ≤ s.outstanding3c) := by
  refine ⟨?_, ?_, ?_, ?_⟩
  · dsimp only; decide +kernel
  · dsimp only; decide +kernel
  · dsimp only; decide +kernel
  · dsimp only; decide +kernel

/-- Clauses of TheEndpointServesMctpAndPldm. -/
theorem witness_TheEndpointServesMctpAndPldm_2 :
    (let s : State := wUp
    let channel : Nat := 2
    s.board.mgmtUp = true ∧ 2 ≤ channel)
    ∧ (let s : State := wUp
    s.board.mgmtUp = true ∧ (s.readiness = 2 ∨ s.readiness = 3 ∨ s.readiness = 4))
    ∧ (let s : State := wUp
    let n : Nat := 7
    s.board.mgmtUp = true ∧ 1 ≤ n ∧ n ≤ 7)
    ∧ (let s : State := wUp.setFlds A.bootStatus [(F.bootStatus_STATE, 1)]
    s.board.mgmtUp = true ∧ (s.readiness = 0 ∨ s.readiness = 1)) := by
  refine ⟨?_, ?_, ?_, ?_⟩
  · dsimp only; decide +kernel
  · dsimp only; decide +kernel
  · dsimp only; decide +kernel
  · dsimp only; decide +kernel

/-- Clauses of TheEndpointServesMctpAndPldm. -/
theorem witness_TheEndpointServesMctpAndPldm_3 :
    (let s : State := wUp
    let b : Bool := true
    s.board.mgmtUp = true ∧ (s.readiness = 3 ∨ s.readiness = 4 ∨ (s.readiness = 15 ∧ s.mgmtAlone = false)) ∧ s.mainGone = false ∧ b = (if s.readiness = 15 then !s.flag A.bootCfg F.bootCfg_SLOT_PREF else !s.flag A.bootStatus F.bootStatus_SLOT_USED) ∧ s.mg.update = none)
    ∧ (let s : State := wMan (fun m => { m with update := some { target := true, written := [], verified := [] } })
    let b : Bool := true
    s.board.mgmtUp = true ∧ (s.readiness = 3 ∨ s.readiness = 4 ∨ (s.readiness = 15 ∧ s.mgmtAlone = false)) ∧ s.mainGone = false ∧ b = (if s.readiness = 15 then !s.flag A.bootCfg F.bootCfg_SLOT_PREF else !s.flag A.bootStatus F.bootStatus_SLOT_USED) ∧ s.mg.update ≠ none)
    ∧ (let v : Update := { target := true, written := [], verified := [] }
    let s : State := wMan (fun m => { m with update := some { target := true, written := [], verified := [] } })
    let typ : Nat := 4
    s.board.mgmtUp = true ∧ (s.readiness = 3 ∨ s.readiness = 4 ∨ (s.readiness = 15 ∧ s.mgmtAlone = false)) ∧ s.mg.update = some v ∧ 1 ≤ typ ∧ typ ≤ 4) := by
  refine ⟨?_, ?_, ?_⟩
  · dsimp only; decide +kernel
  · dsimp only; decide +kernel
  · dsimp only; decide +kernel

/-- Clauses of AttestationAndBoundaryScan. -/
theorem witness_AttestationAndBoundaryScan :
    (let s : State := wUp
    s.board.mgmtUp = true ∧ (s.readiness = 2 ∨ s.readiness = 3 ∨ s.readiness = 4 ∨ (s.readiness = 15 ∧ s.mgmtAlone = false)))
    ∧ (let s : State := wUp.setFlds A.bootStatus [(F.bootStatus_STATE, 1)]
    s.board.mgmtUp = true ∧ (s.readiness = 0 ∨ s.readiness = 1))
    ∧ (let s : State := wUp
    (s.board.main.good = true ∨ s.board.backup.good = true) ∧ s.flag A.debugStatus F.debugStatus_DEVICE = false)
    ∧ (let s : State := wDbg wUp
    let addr : Nat := A.pwrStatus
    (s.board.main.good = true ∨ s.board.backup.good = true) ∧ s.flag A.debugStatus F.debugStatus_DEVICE = true ∧ s.mgmtAlone = false ∧ regAt addr ≠ none) := by
  refine ⟨?_, ?_, ?_, ?_⟩
  · dsimp only; decide +kernel
  · dsimp only; decide +kernel
  · dsimp only; decide +kernel
  · dsimp only; decide +kernel

/-- Clauses of AttestationAndBoundaryScan. -/
theorem witness_AttestationAndBoundaryScan_2 :
    (let s : State := wDbg wUp
    let addr : Nat := A.chCmdPtr 0
    let v : Word := 5
    let r := (wRow (A.chCmdPtr 0)).1
    let is := (wRow (A.chCmdPtr 0)).2
    let u := match s.writeNow r is addr v (BitVec.allOnes 64) with | .ok u => u | _ => s
    (s.board.main.good = true ∨ s.board.backup.good = true) ∧ s.flag A.debugStatus F.debugStatus_DEVICE = true ∧ s.mgmtAlone = false ∧ regAt addr = some (r, is) ∧ r.cls = .immediate ∧ s.regUnitGone r is = false ∧ s.writeNow r is addr v (BitVec.allOnes 64) = .ok u)
    ∧ (let s : State := wDbg wUp
    let addr : Nat := A.pwrCfg
    let r := (wRow A.pwrCfg).1
    let is := (wRow A.pwrCfg).2
    (s.board.main.good = true ∨ s.board.backup.good = true) ∧ s.flag A.debugStatus F.debugStatus_DEVICE = true ∧ s.mgmtAlone = false ∧ regAt addr = some (r, is) ∧ r.cls ≠ .immediate) := by
  refine ⟨?_, ?_⟩
  · dsimp only; exact ⟨(by decide +kernel), (by decide +kernel), (by decide +kernel), wRow_eq (by decide +kernel), (by decide +kernel), (by decide +kernel), wExc (by decide +kernel)⟩
  · dsimp only; exact ⟨(by decide +kernel), (by decide +kernel), (by decide +kernel), wRow_eq (by decide +kernel), (by decide +kernel)⟩

/-- Clauses of StepRunsTheCommandAtTheFront. -/
theorem witness_StepRunsTheCommandAtTheFront :
    (let c : Instr := .mgmtStart
    let rest : List Instr := [.mgmtStart]
    let s : State := { wUp with pending := [.mgmtStart, .mgmtStart] }
    s.pending = c :: rest)
    ∧ (let s : State := wUp
    s.pending = []) := by
  refine ⟨?_, ?_⟩
  · rfl
  · dsimp only; decide +kernel

/-- Clauses of EveryStepKeepsTheStateSafe. -/
theorem witness_EveryStepKeepsTheStateSafe :
    (let s : State := State.reset
    s.safe = true) := by
  dsimp only; decide +kernel

end Sys2Proof.Tests
end

section
/-! SUPPORT. The idle step (log entry 3): a tick reads and sends what copies are owed (R568), and none of that touches the part, MGMT time
or the queue of commands. One lemma a function, in the order in which the tick's own functions use one another. -/

namespace Sys2Proof.Machine

/-! The three fields, as one value. -/

/-- What the work of an idle step leaves alone: the part, MGMT time (R65) and the queue of commands. -/
structure ClockFrame where
  part : Part
  now : Nat
  pending : List Instr

/-- The part, MGMT time and the queue of a state. -/
def State.clockFrame (s : State) : ClockFrame := { part := s.part, now := s.now, pending := s.pending }

/-- Folds the fields of a base state back. Like clockFrame_mk it is proved by unfolding, not as `:= rfl`: simp then leaves rewriting steps
in its proofs, where the kernel would otherwise compare whole states by evaluating them. -/
@[simp] theorem State.clockFrame_of_fields (s : State) :
    ({ part := s.part, now := s.now, pending := s.pending } : ClockFrame) = s.clockFrame := by unfold State.clockFrame; rfl

/-- A record update of any other field is seen through. -/
@[simp] theorem State.clockFrame_mk (p rg me po un bo ct er mg co sy xl l2 mc ln fa lk pw ag rs n fc pe) :
    State.clockFrame (State.mk p rg me po un bo ct er mg co sy xl l2 mc ln fa lk pw ag rs n fc pe)
      = { part := p, now := n, pending := pe } := by unfold State.clockFrame; rfl

@[simp] theorem State.clockFrame_ite (c : Prop) [Decidable c] (s t : State) :
    (if c then s else t).clockFrame = if c then s.clockFrame else t.clockFrame := apply_ite State.clockFrame c s t

/-- A fold keeps what each of its steps keeps. -/
theorem foldl_keeps {σ α β : Type} (g : σ → β) (f : σ → α → σ) (h : ∀ x a, g (f x a) = g x) (l : List α) :
    ∀ x, g (l.foldl f x) = g x := by
  induction l with
  | nil => exact fun _ => rfl
  | cons a l ih => exact fun x => (ih (f x a)).trans (h x a)

/-- The state of an outcome in hand keeps what the outcome's first component does. -/
theorem State.clockFrame_of_fst {α : Type} {s t : State} {p : State × α} {a : α} (e : p = (t, a))
    (h : p.1.clockFrame = s.clockFrame) : t.clockFrame = s.clockFrame := by
  rwa [e] at h

/-- A choice between outcomes keeps what both of them keep. -/
theorem State.clockFrame_ite_fst {α : Type} {s : State} {c : Prop} [Decidable c] {p q : State × α}
    (hp : p.1.clockFrame = s.clockFrame) (hq : q.1.clockFrame = s.clockFrame) :
    (if c then p else q).1.clockFrame = s.clockFrame := by
  split
  · exact hp
  · exact hq

variable (s : State)

/-! Registers, interrupts and records. -/

@[simp] theorem State.wr_clockFrame (a : Nat) (v : Word) : (s.wr a v).clockFrame = s.clockFrame := by simp [State.wr]

@[simp] theorem State.setFld_clockFrame (a : Nat) (f : Fld) (n : Nat) : (s.setFld a f n).clockFrame = s.clockFrame := by
  simp [State.setFld]

@[simp] theorem State.setFlds_clockFrame (a : Nat) (l : List (Fld × Nat)) : (s.setFlds a l).clockFrame = s.clockFrame := by
  simp [State.setFlds]

@[simp] theorem State.setFlag_clockFrame (a : Nat) (f : Fld) (b : Bool) : (s.setFlag a f b).clockFrame = s.clockFrame := by
  simp [State.setFlag]

@[simp] theorem State.bump_clockFrame (a n : Nat) : (s.bump a n).clockFrame = s.clockFrame := by simp [State.bump]

@[simp] theorem State.bumpFld_clockFrame (a : Nat) (f : Fld) (n : Nat) : (s.bumpFld a f n).clockFrame = s.clockFrame := by
  simp [State.bumpFld]

@[simp] theorem State.interrupt_clockFrame (v : Nat) : (s.interrupt v).clockFrame = s.clockFrame := by
  simp [State.interrupt]

@[simp] theorem State.alertBit_clockFrame (b : Nat) : (s.alertBit b).clockFrame = s.clockFrame := by
  simp [State.alertBit]

@[simp] theorem putRecord_clockFrame (q slot : Nat) (vs : List Nat) :
    ∀ (s : State) (w : Nat), (putRecord s q slot w vs).clockFrame = s.clockFrame := by
  induction vs with
  | nil => simp [putRecord]
  | cons v vs ih => simp [putRecord, ih]

@[simp] theorem State.traced_clockFrame (a : Nat) (c : Option Nat) (d : Nat) (ws : Option (List Nat)) :
    (s.traced a c d ws).clockFrame = s.clockFrame := by
  rw [State.traced_frame]
  simp

@[simp] theorem State.record_clockFrame (r : RecordReq) : (s.record r).clockFrame = s.clockFrame := by
  simp [State.record]

@[simp] theorem State.disarm_clockFrame (i : Injection) : (s.disarm i).clockFrame = s.clockFrame := by simp [State.disarm]

@[simp] theorem State.note_clockFrame (d a : Nat) (r : RecordReq) : (s.note d a r).clockFrame = s.clockFrame := by
  simp [State.note]

/-! Free values and memory. -/

@[simp] theorem State.free_clockFrame : s.free.2.clockFrame = s.clockFrame := by simp [State.free]

@[simp] theorem State.wrByte_clockFrame (pa : Nat) (b : Byte) : (s.wrByte pa b).clockFrame = s.clockFrame := by simp [State.wrByte]

@[simp] theorem State.setPoison_clockFrame (a : Nat) (p : Bool) : (s.setPoison a p).clockFrame = s.clockFrame := by simp [State.setPoison]

@[simp] theorem State.poisonAll_clockFrame (l : List Nat) : (l.foldl (fun s a => s.setPoison a true) s).clockFrame = s.clockFrame :=
  foldl_keeps State.clockFrame _ (fun t a => State.setPoison_clockFrame t a true) l s

@[simp] theorem State.putBytes_clockFrame (bs : List Byte) : ∀ (s : State) (pa : Nat), (s.putBytes pa bs).clockFrame = s.clockFrame := by
  induction bs with
  | nil => simp [State.putBytes]
  | cons b bs ih => simp [State.putBytes, ih]

@[simp] theorem State.wrBytes_clockFrame (pa : Nat) (bs : List Byte) : (s.wrBytes pa bs).clockFrame = s.clockFrame := by
  simp [State.wrBytes]

/-! Objects and their notifies (R510 to R515). -/

@[simp] theorem State.latchWaits_clockFrame (i : Nat) : (s.latchWaits i).clockFrame = s.clockFrame := by simp [State.latchWaits]

@[simp] theorem State.disarmNotify_clockFrame (i : Nat) : (s.disarmNotify i).clockFrame = s.clockFrame := by simp [State.disarmNotify]

@[simp] theorem State.checkNotify_clockFrame (i : Nat) : (s.checkNotify i).clockFrame = s.clockFrame := by
  simp [State.checkNotify]

@[simp] theorem State.opEffect_clockFrame (i op v : Nat) : (s.opEffect i op v).clockFrame = s.clockFrame := by
  unfold State.opEffect
  split <;> simp

@[simp] theorem State.objOp_clockFrame (ctx : Option Nat) (i op v : Nat) : (s.objOp ctx i op v).1.clockFrame = s.clockFrame := by
  simp [State.objOp, State.opRefused, apply_ite Prod.fst]

@[simp] theorem State.signalDone_clockFrame (ctx : Option Nat) (obj : Nat) : (s.signalDone ctx obj).clockFrame = s.clockFrame := by
  simp [State.signalDone]

/-! L2 slices and accesses at a home (R367 to R401). -/

@[simp] theorem State.setSlice_clockFrame (key : Nat) (c : Slice) : (s.setSlice key c).clockFrame = s.clockFrame := by
  simp [State.setSlice, State.showSlice]

@[simp] theorem State.modSlice_clockFrame (key : Nat) (f : Slice → Slice) : (s.modSlice key f).clockFrame = s.clockFrame := by
  simp [State.modSlice]

@[simp] theorem State.l2Poison_clockFrame (key a : Nat) : (s.l2Poison key a).clockFrame = s.clockFrame := by simp [State.l2Poison]

@[simp] theorem State.l2Heal_clockFrame (l : List Nat) : (s.l2Heal l).clockFrame = s.clockFrame := by
  simp [State.l2Heal]

@[simp] theorem State.writeback_clockFrame (key line : Nat) : (s.writeback key line).clockFrame = s.clockFrame := by
  unfold State.writeback
  split
  · rfl
  · simpa using foldl_keeps State.clockFrame _ (fun s a => State.l2Poison_clockFrame s key a) _ s

@[simp] theorem State.dropLine_clockFrame (key line : Nat) : (s.dropLine key line).clockFrame = s.clockFrame := by
  unfold State.dropLine
  split
  · rfl
  · rw [foldl_keeps State.clockFrame _ (fun s h => by simp), foldl_keeps State.clockFrame _ (fun s e => by simp)]
    simp

@[simp] theorem State.evictLine_clockFrame (key line : Nat) : (s.evictLine key line).clockFrame = s.clockFrame := by
  simp [State.evictLine]

theorem State.allocate_clockFrame (key line : Nat) (e : Bool) (t : State) (h : s.allocate key line e = some t) :
    t.clockFrame = s.clockFrame := by
  cases hw : s.freeWays key line with
  | cons way ws =>
    simp only [State.allocate, hw, Option.some.injEq] at h
    simp [← h]
  | nil =>
    cases hv : (s.slice key).victim line with
    | none => simp [State.allocate, hw, hv] at h
    | some v =>
      simp only [State.allocate, hw, hv, Option.some.injEq] at h
      simp [← h]

@[simp] theorem State.drainSlot_clockFrame (key line : Nat) (d : Bool) : (s.drainSlot key line d).clockFrame = s.clockFrame := by
  unfold State.drainSlot
  split
  · rfl
  · simp only [State.clockFrame_ite]
    rw [foldl_keeps State.clockFrame]
    · simp
    · intro t e
      simp only [State.clockFrame_ite, State.setPoison_clockFrame, State.wrBytes_clockFrame, ite_self]
      split <;> simp

@[simp] theorem State.sendRecall_clockFrame (key : Nat) (r : Recall) : (s.sendRecall key r).clockFrame = s.clockFrame := by
  simp [State.sendRecall]

@[simp] theorem State.meetDir_clockFrame (key line : Nat) (w : Bool) : (s.meetDir key line w).1.clockFrame = s.clockFrame := by
  unfold State.meetDir
  split
  · rfl
  · split <;> simp

@[simp] theorem State.markDown_clockFrame (key pa n : Nat) : (s.markDown key pa n).clockFrame = s.clockFrame := by
  unfold State.markDown
  split
  · rfl
  · exact foldl_keeps State.clockFrame _ (fun t a => by simp) _ s

@[simp] theorem State.fillLine_clockFrame (key pa n : Nat) : (s.fillLine key pa n).clockFrame = s.clockFrame := by
  unfold State.fillLine
  split <;> simp

@[simp] theorem State.readHit_clockFrame (key line p : Nat) : (s.readHit key line p).clockFrame = s.clockFrame := by
  simp only [State.readHit]
  split <;> simp

@[simp] theorem State.readLineNow_clockFrame (key pa n p : Nat) (e : Bool) : (s.readLineNow key pa n p e).clockFrame = s.clockFrame := by
  unfold State.readLineNow
  split
  · simp
  · dsimp only
    split
    · simp
    · split
      · simp
      · split
        next u h => simp [State.allocate_clockFrame _ _ _ _ u h]
        · simp

@[simp] theorem State.writeLine_clockFrame (key pa : Nat) (bs : List Byte) (m : Bool) (p : Nat) (e : Bool) :
    (s.writeLine key pa bs m p e).clockFrame = s.clockFrame := by
  unfold State.writeLine
  extract_lets policy line o n put hit
  have kput (t : State) : (put t).clockFrame = t.clockFrame := by simp [put]
  have khit (t : State) : (hit t).clockFrame = t.clockFrame := by simp [hit]
  clear_value put hit
  split
  · simp [kput, khit]
  · split
    · simp [kput, khit]
    · split
      · simp [kput, khit]
      · split
        · simp [kput, khit]
        next u h =>
          have hu : u.clockFrame = s.clockFrame := State.allocate_clockFrame _ _ _ _ u h
          split <;> simp [kput, khit, hu]

@[simp] theorem State.clearLines_clockFrame (pa n : Nat) (w : Bool) : (s.clearLines pa n w).1.clockFrame = s.clockFrame := by
  unfold State.clearLines
  refine foldl_keeps (fun r : State × Bool => r.1.clockFrame) _ (fun r p => ?_) _ (s, true)
  dsimp only
  split
  · rfl
  · simp

@[simp] theorem State.homeRead_clockFrame (pa n p : Nat) (e : Bool) : (s.homeRead pa n p e).clockFrame = s.clockFrame := by
  unfold State.homeRead
  refine foldl_keeps State.clockFrame _ (fun t p => ?_) _ s
  split <;> simp

@[simp] theorem State.homeWrite_clockFrame (pa : Nat) (bs : List Byte) (m : Bool) (p : Nat) (e : Bool) :
    (s.homeWrite pa bs m p e).clockFrame = s.clockFrame := by
  unfold State.homeWrite
  refine foldl_keeps State.clockFrame _ (fun t p => ?_) _ s
  dsimp only
  split <;> simp

@[simp] theorem State.storeHome_clockFrame (pa : Nat) (bs : List Byte) : (s.storeHome pa bs).clockFrame = s.clockFrame := by
  simp [State.storeHome]

@[simp] theorem State.redMeets_clockFrame (key pa ctx red n : Nat) : (s.redMeets key pa ctx red n).1.clockFrame = s.clockFrame := by
  unfold State.redMeets
  split <;> simp

@[simp] theorem State.l2Hit_clockFrame (key a : Nat) (o : Option Owner) (i : Bool) : (s.l2Hit key a o i).clockFrame = s.clockFrame := by
  simp [State.l2Hit]

@[simp] theorem State.l2Find_clockFrame (pa n : Nat) (o : Option Owner) : (s.l2Find pa n o).clockFrame = s.clockFrame := by
  unfold State.l2Find
  split
  · rfl
  refine foldl_keeps State.clockFrame _ (fun t a => ?_) _ s
  split
  · split <;> simp
  · rfl

/-! Scratchpads and lantern buffers (R345, R443). -/

@[simp] theorem State.spDetect_clockFrame (line : Nat) (who : Issuer) (o : Option Owner) (i : Bool) :
    (s.spDetect line who o i).clockFrame = s.clockFrame := by
  unfold State.spDetect
  split
  · rfl
  · split <;> simp

@[simp] theorem State.spCorrect_clockFrame (w : Nat) : (s.spCorrect w).clockFrame = s.clockFrame := by
  simp only [State.spCorrect]
  split <;> simp

@[simp] theorem State.spMeet_clockFrame (who : Issuer) (o : Option Owner) (e : Nat × Bool) :
    (s.spMeet who o e).clockFrame = s.clockFrame := by
  simp [State.spMeet]

@[simp] theorem State.spFind_clockFrame (pa n : Nat) (who : Issuer) (o : Option Owner) :
    (s.spFind pa n who o).clockFrame = s.clockFrame := by
  unfold State.spFind
  split
  · rfl
  refine foldl_keeps State.clockFrame _ (fun t a => ?_) _ s
  dsimp only
  rw [foldl_keeps State.clockFrame _ (fun u e => State.spMeet_clockFrame u who o e)]
  split <;> simp

/-! Movers, ports and packets (R566 to R570). -/

@[simp] theorem State.setMover_clockFrame (k m : Nat) (v : Mover) : (s.setMover k m v).clockFrame = s.clockFrame := by
  simp only [State.setMover]
  split <;> simp

@[simp] theorem State.moveFail_clockFrame (k m : Nat) (d : Move) (c a x e : Nat) :
    (s.moveFail k m d c a x e).clockFrame = s.clockFrame := by
  simp [State.moveFail, State.setMove]

@[simp] theorem State.setFport_clockFrame (n : Nat) (p : FabPort) : (s.setFport n p).clockFrame = s.clockFrame := by simp [State.setFport]

@[simp] theorem State.tracePkt_clockFrame (n : Nat) (p : FabPkt) : (s.tracePkt n p).clockFrame = s.clockFrame := by simp [State.tracePkt]

@[simp] theorem State.transmit_clockFrame (n : Nat) (p : FabPkt) : (s.transmit n p).clockFrame = s.clockFrame := by simp [State.transmit]

@[simp] theorem State.emit_clockFrame (n : Nat) (p : FabPkt) (a : Option Nat) : (s.emit n p a).clockFrame = s.clockFrame := by
  simp [State.emit]

@[simp] theorem State.dropPkt_clockFrame (a : Option Nat) (d i : Nat) : (s.dropPkt a d i).clockFrame = s.clockFrame := by
  cases a <;> simp [State.dropPkt]

@[simp] theorem State.route_clockFrame (p : FabPkt) (a : Option Nat) (d : Nat) : (s.route p a d).clockFrame = s.clockFrame := by
  simp only [State.route]
  generalize (if p.tag = 0 then some 0 else s.slotOf p.tag) = slot
  cases slot <;> simp

@[simp] theorem State.sendMsg_clockFrame (die dst tag typ opa opb : Nat) (payload : List Byte) (use : FabUse) (o : Owner) :
    (s.sendMsg die dst tag typ opa opb payload use o).clockFrame = s.clockFrame := by simp [State.sendMsg]

@[simp] theorem State.sendOrdered_clockFrame (die dst tag typ opa opb : Nat) (payload : List Byte) :
    (s.sendOrdered die dst tag typ opa opb payload).clockFrame = s.clockFrame := by simp [State.sendOrdered]

@[simp] theorem State.dropUses_clockFrame (p : FabUse → Bool) : (s.dropUses p).clockFrame = s.clockFrame := by simp [State.dropUses]

@[simp] theorem State.remoteWrite_clockFrame (die dst tag va : Nat) (use : FabUse) (o : Owner) (bs : List (Byte × Bool)) :
    (s.remoteWrite die dst tag va use o bs).clockFrame = s.clockFrame :=
  foldl_keeps State.clockFrame _ (fun t i => by simp) _ s

/-! Replies and the records of failed commands (R96, R97, R123). -/

@[simp] theorem State.setChan_clockFrame (n : Nat) (c : Channel) : (s.setChan n c).clockFrame = s.clockFrame := by simp [State.setChan]

@[simp] theorem State.modChan_clockFrame (n : Nat) (f : Channel → Channel) : (s.modChan n f).clockFrame = s.clockFrame := by
  simp [State.modChan]

@[simp] theorem State.showTxn_clockFrame (n : Nat) : (s.showTxn n).clockFrame = s.clockFrame := by
  simp only [State.showTxn, State.setFlds_clockFrame]
  split <;> simp

@[simp] theorem State.ringFault_clockFrame (n a : Nat) : (s.ringFault n a).clockFrame = s.clockFrame := by
  simp [State.ringFault, State.dropTxn]

@[simp] theorem putSlots_clockFrame (as : List Nat) : ∀ (s : State) (bs : List Byte), (putSlots s as bs).clockFrame = s.clockFrame := by
  induction as with
  | nil => simp [putSlots]
  | cons a as ih => simp [putSlots, ih]

@[simp] theorem State.deliver_clockFrame (n : Nat) (r : Reply) (i : Bool) : (s.deliver n r i).clockFrame = s.clockFrame := by
  simp only [State.deliver]
  split
  · split
    · simp
    · split <;> simp
  · simp only [State.clockFrame_ite, State.interrupt_clockFrame, ite_self]
    split <;> simp

@[simp] theorem State.leaveStore_clockFrame (n : Nat) : (s.leaveStore n).clockFrame = s.clockFrame := by simp [State.leaveStore]

@[simp] theorem State.replyWith_clockFrame (n st : Nat) (ds : List Word) (q : Bool) :
    (s.replyWith n st ds q).clockFrame = s.clockFrame := by
  unfold State.replyWith
  split <;> simp

@[simp] theorem State.reply_clockFrame (n st : Nat) (ds : List Nat) : (s.reply n st ds).clockFrame = s.clockFrame := by
  simp [State.reply]

@[simp] theorem State.commandFail_clockFrame (n : Nat) (r : RecordReq) : (s.commandFail n r).clockFrame = s.clockFrame := by
  simp [State.commandFail]

/-! Translation (R471 to R482). -/

@[simp] theorem State.setXcache_clockFrame (c : XCache) (l : List XEntry) : (s.setXcache c l).clockFrame = s.clockFrame := by
  cases c <;> simp [State.setXcache]

@[simp] theorem State.setXtower_clockFrame (k : Nat) (l : List XEntry) : (s.setXtower k l).clockFrame = s.clockFrame := by
  simp [State.setXtower]

@[simp] theorem State.installRun_clockFrame (c : XCache) (e : XEntry) : (s.installRun c e).clockFrame = s.clockFrame := by
  simp [State.installRun]

@[simp] theorem State.dropRun_clockFrame (c : XCache) (ctx va : Nat) : (s.dropRun c ctx va).clockFrame = s.clockFrame := by
  simp [State.dropRun]

@[simp] theorem State.xlookup_clockFrame (c : XCache) (ctx va : Nat) : (s.xlookup c ctx va).1.clockFrame = s.clockFrame := by
  simp only [State.xlookup]
  split
  · simp
  · split <;> simp

@[simp] theorem State.walkStep_clockFrame (k ctx va level addr : Nat) : (s.walkStep k ctx va level addr).1.clockFrame = s.clockFrame := by
  simp only [State.walkStep]
  split
  · simp
  · split
    · simp
    · split <;> simp

@[simp] theorem State.walkOn_clockFrame (k ctx va n : Nat) :
    ∀ (s : State) (o : WalkOut), (s.walkOn k ctx va n o).1.clockFrame = s.clockFrame := by
  induction n with
  | zero => intro s o; simp [State.walkOn]
  | succ n ih => intro s o; cases o <;> simp [State.walkOn, ih]

@[simp] theorem State.walkAll_clockFrame (k ctx va : Nat) : (s.walkAll k ctx va).1.clockFrame = s.clockFrame := by simp [State.walkAll]

@[simp] theorem State.showXltFault_clockFrame (k ctx va : Nat) (acc : AccessKind) (ag ki l e : Nat) :
    (s.showXltFault k ctx va acc ag ki l e).clockFrame = s.clockFrame := by simp [State.showXltFault]

@[simp] theorem State.endWalk_clockFrame (c : XCache) (acc : AccessKind) (o : WalkOut) :
    (s.endWalk c acc o).1.clockFrame = s.clockFrame := by
  cases o <;> simp [State.endWalk, apply_ite Prod.fst]

@[simp] theorem State.translate_clockFrame (c : XCache) (ctx va : Nat) (acc : AccessKind) :
    (s.translate c ctx va acc).1.clockFrame = s.clockFrame := by
  unfold State.translate
  split
  · rfl
  rcases h : s.xlookup c ctx va with ⟨u, hit⟩
  have hu : u.clockFrame = s.clockFrame := State.clockFrame_of_fst h (s.xlookup_clockFrame c ctx va)
  extract_lets walk
  have hwalk (t : State) (ht : t.clockFrame = s.clockFrame) : (walk t).1.clockFrame = s.clockFrame := by
    rcases hv : t.walkAll c.tower ctx va with ⟨v, o⟩
    have hvs : v.clockFrame = s.clockFrame := State.clockFrame_of_fst hv ((t.walkAll_clockFrame c.tower ctx va).trans ht)
    cases o <;> simp [walk, hv, hvs]
  clear_value walk
  cases hit with
  | none => exact hwalk u hu
  | some e =>
    dsimp only
    split
    · exact hu
    · exact hwalk _ (by simpa using hu)

/-! Reads by physical and virtual address (R345, R353, R547). -/

@[simp] theorem State.freeBytes_clockFrame (n : Nat) : ∀ s : State, (s.freeBytes n).1.clockFrame = s.clockFrame := by
  induction n with
  | zero => simp [State.freeBytes]
  | succ n ih => simp [State.freeBytes, ih]

@[simp] theorem State.outbound_clockFrame (q o len : Nat) (w : Bool) (bs : List Byte) (p : Bool) :
    (s.outbound q o len w bs p).clockFrame = s.clockFrame := by
  simp [State.outbound, State.sendTlp]

@[simp] theorem State.countUr_clockFrame (q : Nat) : (s.countUr q).clockFrame = s.clockFrame := by simp [State.countUr]

@[simp] theorem State.physRead_clockFrame (pa n : Nat) (who : Issuer) (o : Option Owner) (p : Nat) (e : Bool) :
    (s.physRead pa n who o p e).1.clockFrame = s.clockFrame := by
  unfold State.physRead
  split
  · rfl
  · split
    · rfl
    · split
      · simp
      · simp
      · split <;> simp
      · simp [apply_ite Prod.fst]

@[simp] theorem State.resolve_clockFrame (c : XCache) (ctx : Nat) (acc : AccessKind) (l : List (Nat × Nat)) :
    ∀ s : State, (s.resolve c ctx acc l).1.clockFrame = s.clockFrame := by
  induction l with
  | nil => simp [State.resolve]
  | cons p l ih =>
    intro s
    obtain ⟨va, n⟩ := p
    rcases h : s.translate c ctx va acc with ⟨t, o⟩
    have ht : t.clockFrame = s.clockFrame := State.clockFrame_of_fst h (s.translate_clockFrame c ctx va acc)
    cases o <;> simp [State.resolve, h, ih, ht, apply_ite Prod.fst]

@[simp] theorem State.readPieces_clockFrame (who : Issuer) (o : Option Owner) (ps : List Piece) :
    ∀ s : State, (s.readPieces who o ps).1.clockFrame = s.clockFrame := by
  induction ps with
  | nil => simp [State.readPieces]
  | cons p l ih =>
    intro s
    obtain ⟨pa, n, e⟩ := p
    rcases h : s.physRead pa n who o (leafPolicy e.leaf) e.evict with ⟨t, r⟩
    have ht : t.clockFrame = s.clockFrame :=
      State.clockFrame_of_fst h (s.physRead_clockFrame pa n who o (leafPolicy e.leaf) e.evict)
    cases r with
    | ok bs m =>
      rcases h' : t.readPieces who o l with ⟨u, x⟩
      have hu : u.clockFrame = s.clockFrame := State.clockFrame_of_fst h' ((ih t).trans ht)
      cases x <;> simp [State.readPieces, h, h', hu]
    | fault => simp [State.readPieces, h, ht]
    | wait => simp [State.readPieces, h, ht]

@[simp] theorem State.keepWalk_clockFrame (c : XCache) (ctx : Nat) (acc : AccessKind) (l : List (Nat × Nat)) :
    (s.keepWalk c ctx acc l).clockFrame = s.clockFrame := by
  unfold State.keepWalk
  split
  next r h =>
    obtain ⟨p, _, rfl⟩ := List.mem_map.mp (List.mem_of_find?_eq_some h)
    exact s.translate_clockFrame c ctx p.1 acc
  · rfl

@[simp] theorem State.clearPieces_clockFrame (w : Bool) (ps : List Piece) (ctx : Nat) (who : Issuer) :
    (s.clearPieces w ps ctx who).1.clockFrame = s.clockFrame := by
  unfold State.clearPieces
  split
  · rfl
  refine foldl_keeps (fun r : State × Bool => r.1.clockFrame) _ (fun r p => ?_) _ (s, true)
  dsimp only
  refine State.clockFrame_ite_fst ?_ rfl
  dsimp only
  refine State.clockFrame_ite_fst (State.clearLines_clockFrame ..) ?_
  exact foldl_keeps (fun r : State × Bool => r.1.clockFrame) _ (fun r l => by split <;> simp) _ (r.1, true)

@[simp] theorem State.readVa_clockFrame (c : XCache) (ctx va n : Nat) (acc : AccessKind) (who : Issuer) (o : Option Owner) :
    (s.readVa c ctx va n acc who o).1.clockFrame = s.clockFrame := by
  unfold State.readVa
  split
  next u ps _ h =>
    have hu : u.clockFrame = s.clockFrame := State.clockFrame_of_fst h (State.resolve_clockFrame c ctx acc _ s)
    split
    next h' => exact State.clockFrame_of_fst h' (s.clearPieces_clockFrame false ps ctx who)
    · simpa using hu
  · simp
  next h => exact State.clockFrame_of_fst h (State.resolve_clockFrame c ctx acc _ s)

/-! Copies (R487, R491), and the tick. -/

@[simp] theorem State.useFail_clockFrame (m : FabMsg) (cls : Nat) : (s.useFail m cls).clockFrame = s.clockFrame := by
  simp only [State.useFail]
  split
  · split <;> simp
  · simp

@[simp] theorem State.copyDone_clockFrame (ch : Nat) : (s.copyDone ch).clockFrame = s.clockFrame := by
  simp only [State.copyDone]
  split
  · simp only [State.clockFrame_ite, State.reply_clockFrame]
    split
    · split <;> simp
    · rfl
  · rfl

@[simp] theorem State.setLeft_clockFrame (ch : Nat) (ps : List (Nat × Nat)) : (s.setLeft ch ps).clockFrame = s.clockFrame := by
  simp [State.setLeft]

@[simp] theorem State.pushPages_clockFrame (c : FabCopy) (l : List (Nat × Nat)) :
    ∀ s : State, (s.pushPages c l).clockFrame = s.clockFrame := by
  induction l with
  | nil => simp [State.pushPages]
  | cons p l ih =>
    intro s
    obtain ⟨va, n⟩ := p
    rcases h : s.readVa (.base 0) c.ctx va n .read .fabric (some { ctx := c.ctx, entry := none }) with ⟨t, o⟩
    have ht : t.clockFrame = s.clockFrame := State.clockFrame_of_fst h (s.readVa_clockFrame ..)
    cases o <;> simp [State.pushPages, h, ih, ht]

/-- A tick is one cycle of MGMT time, whatever its copies do. -/
theorem State.tick_clockFrame : s.tick.clockFrame = { part := s.part, now := s.now + 1, pending := s.pending } := by
  unfold State.tick
  rw [foldl_keeps State.clockFrame]
  · exact State.clockFrame_mk ..
  · intro t c
    simp

theorem State.tick_fields : s.tick.part = s.part ∧ s.tick.now = s.now + 1 ∧ s.tick.pending = s.pending := by
  have h := s.tick_clockFrame
  simpa only [State.clockFrame, ClockFrame.mk.injEq] using h

/-- Without a copy nothing goes on with time alone. -/
theorem State.tick_of_no_copies (h : s.fab.copies = []) : s.tick = { s with now := s.now + 1 } := by
  rw [State.tick, h, List.foldl_nil]

/-! The step. -/

theorem step_of_pending_cons {c : Instr} {rest : List Instr} (h : s.pending = c :: rest) : step s = exec c { s with pending := rest } := by
  rw [step, State.popped, h]

theorem step_of_pending_nil (h : s.pending = []) : step s = .next s.tick := by
  rw [step, State.popped, h]

/-- Settles O58: the front command by the definition of a step; idle time by what a tick keeps. -/
theorem stepRunsTheCommandAtTheFront : Obligations.StepRunsTheCommandAtTheFront := by
  refine ⟨fun s c rest h => step_of_pending_cons s h, fun s h => ?_⟩
  obtain ⟨hpart, hnow, hpending⟩ := s.tick_fields
  rw [step_of_pending_nil s h, completes_next]
  exact ⟨s.tick_of_no_copies, Nat.le_of_eq hnow.symm, hpending.trans h, hpart⟩

end Sys2Proof.Machine
end

section
/-! SUPPORT. The zero outputs of an accumulator (R198): the encodings of a zero in each kind of format, and what an accumulator with no flag
set puts out when its word is zero and when its value rounds into the format's range. -/

namespace Sys2Proof.Machine

/-! The encodings of a zero. -/

@[simp] theorem Fmt.zeroBits_int (w : Nat) (neg : Bool) : (Fmt.int w).zeroBits neg = 0 := rfl

/-- A floating-point zero is its sign bit alone. -/
@[simp] theorem Fmt.zeroBits_flt (eb mb : Nat) (bias : Int) (sp : Specials) (neg : Bool) :
    (Fmt.flt eb mb bias sp).zeroBits neg = if neg then 2 ^ (eb + mb) else 0 := by
  cases neg <;> simp [Fmt.zeroBits, b2n]

/-! The output of an accumulator with no flag set (R197, R198). -/

@[simp] theorem Acc.value_neg (a : Acc) (e x : Int) : (a.value e x).neg = decide (a.w < 0) := rfl

section
variable {a : Acc} (hnan : a.nan = false) (hpinf : a.pinf = false) (hninf : a.ninf = false) (hovf : a.ovf = false)
include hnan hpinf hninf hovf

theorem Acc.output_of_w_zero (e x : Int) (f : Fmt) (rnd : Rnd) (ieee : Bool) (hw : a.w = 0) :
    a.output e x f rnd ieee = (f.zeroBits (rnd = .down), false) := by
  simp [Acc.output, hnan, hpinf, hninf, hovf, hw]

/-- Within the format's range the rounded magnitude alone chooses between a zero and an encoding; both take the sign of W. -/
theorem Acc.output_of_inRange {e x : Int} {f : Fmt} {rnd : Rnd} {n : Nat} {u : Int} (ieee : Bool) (hw : a.w ≠ 0)
    (hround : roundTo (a.value e x) f rnd = (n, u)) (hrange : beyond f (a.value e x).neg n u = false) :
    a.output e x f rnd ieee = (if n = 0 then f.zeroBits (decide (a.w < 0)) else f.encode (decide (a.w < 0)) n u, false) := by
  rw [Acc.value_neg] at hrange
  simp only [Acc.output, hnan, hpinf, hninf, hovf, hw, hround, Acc.value_neg, hrange, Bool.and_self, Bool.or_self, Bool.false_eq_true,
    if_false]
  split <;> rfl

end

/-- Settles O16: an output of word zero by its own branch; one that rounds to zero, within range, by the sign of W; the zeros of the
formats by their sign bit. -/
theorem zeroSumsKeepTheirSign : Obligations.ZeroSumsKeepTheirSign := by
  refine ⟨?_, ?_, fun neg => ⟨rfl, rfl, rfl, ?_, ?_, ?_, ?_, ?_, ?_⟩⟩
  · intro a e x f rnd ieee hnan hpinf hninf hovf hw
    rw [Acc.output_of_w_zero hnan hpinf hninf hovf e x f rnd ieee hw]
  · intro a e x f rnd ieee hnan hpinf hninf hovf hw hzero hrange
    have hround : roundTo (a.value e x) f rnd = (0, (roundTo (a.value e x) f rnd).2) := Prod.ext hzero rfl
    rw [Acc.output_of_inRange hnan hpinf hninf hovf ieee hw hround hrange, if_pos rfl]
  all_goals exact Fmt.zeroBits_flt _ _ _ _ neg

end Sys2Proof.Machine
end
